-- ==== Sys2Proof/Word.lean ====
section
/-!
DEFINITION. The word types of the HX6464: register words, 64-bit registers and bytes (R3, R4).
-/

namespace Sys2Proof

/-- A 32-bit word of REGWIN, of a packet or of a Transit DSP memory. -/
abbrev Word := BitVec 32

/-- The value of a 64-bit register. -/
abbrev Word64 := BitVec 64

/-- A byte of BULKWIN, of a CAN frame or of a transport. -/
abbrev Byte := BitVec 8

/-- A table of values numbered by a natural number, held sparsely: the pairs stand in rising order of their number,
and a number that is not listed has the table's default value. -/
abbrev Tab (α : Type) := List (Nat × α)

end Sys2Proof
end

