-- ==== Sys2Proof/Types.lean ====
section
/-!
DEFINITION. The operand types that commands carry: command packets (R42), fields of registers, and the sources of a
fetched packet.  The operand types of single units stand in the files named for them.
-/

namespace Sys2Proof

/-- A field of a register: its lowest bit and its width in bits.  In a 64-bit register bits count over both words. -/
structure Fld where
  lo : Nat
  w  : Nat
  deriving DecidableEq, Repr, Inhabited

/-- One row of the register table (R7, R31, R566): the first offset, stride and count of the first and second
subscript, 64 bits or 32, the fields' bits by access code (an RO bit is in none of the masks), and the reset word. -/
structure RegRow where
  base : Nat
  s1   : Nat
  n1   : Nat
  s2   : Nat
  n2   : Nat
  w64  : Bool
  cp   : Nat
  rw   : Nat
  w1c  : Nat
  w1s  : Nat
  wo   : Nat
  rst  : Nat
  deriving DecidableEq, Repr, Inhabited

/-- The transports that carry command packets (R58): PCIe rings, Traverse command slots, the service SPI port. -/
inductive Xport where
  | pcie | traverse | spi
  deriving DecidableEq, Repr, Inhabited

/-- A command packet as it was received (R42): the transport and queue that carried it, and its fields. -/
structure Packet where
  xport  : Xport := .pcie
  q      : Nat := 0
  opcode : BitVec 16 := 0
  resv   : Bool := false
  barrier : Bool := false
  chain  : Bool := false
  ack    : Bool := false
  csn    : Word := 0
  epoch  : BitVec 16 := 0
  tclass : Byte := 0
  tindex : Byte := 0
  params : List Word := []
  crc    : Word := 0
  deriving DecidableEq, Repr, Inhabited

/-- Where COMMAND_FETCH takes a packet from: the slot of a PCIe command ring, whose words are host memory, or the
one-packet buffer of a queue that a Traverse command slot or an SPI transfer has filled (R58–R65). -/
inductive FetchSrc where
  | ring (words : List Word)
  | traverse
  | spi
  deriving DecidableEq, Repr, Inhabited

/-- A host write of CMDQ_ATTACH_DOORBELL: the lower word, or the upper word or both at once with the packet that the device then fetches from
host memory. -/
inductive AttachWrite where
  | lower (w : Word)
  | upper (w : Word) (words : List Word)
  | whole (lo hi : Word) (words : List Word)
  deriving DecidableEq, Repr, Inhabited

/-- What the outside contributes to one evaluation of an axis (R139, R159, R168): the sample reference instant t_ref and the
predicted delay Dp, in 0.1 ns, the issue delay D, in ns, and the bit windows that the sample words of CUR_A, CUR_B, the force
and the DC-link input are filtered from, newest bit in bit 0; none where no sample word is delivered (R183). -/
structure EvalIn where
  tRef  : Nat := 0
  dp    : Nat := 0
  delay : Nat := 0
  curA  : Option Nat := none
  curB  : Option Nat := none
  force : Option Nat := none
  dc    : Option Nat := none
  deriving DecidableEq, Repr, Inhabited

/-- A Traverse frame as a channel receives it (R355): the frame start in ns of device time, the header, the payload words and
the CRC word. -/
structure TrvFrame where
  start   : Nat := 0
  hdr     : Word := 0
  payload : List Word := []
  crc     : Word := 0
  deriving DecidableEq, Repr, Inhabited

/-- A CAN frame on the bus (R386): FD format, bit rate switch, identifier extension, remote request, error state
indicator, DLC, identifier and data bytes. -/
structure CanFrame where
  fdf  : Bool := false
  brs  : Bool := false
  ide  : Bool := false
  rtr  : Bool := false
  esi  : Bool := false
  dlc  : Fin 16 := 0
  id   : BitVec 29 := 0
  data : List Byte := []
  deriving DecidableEq, Repr, Inhabited

/-- The errors that a CAN channel detects (CAN_ERR). -/
inductive CanErrKind where
  | bit | stuff | form | crc | ack
  deriving DecidableEq, Repr, Inhabited

/-- How a Tie link frame arrives (R456): whether its CRC and its characters are good, and its SEQ. -/
structure TieHead where
  ok  : Bool := true
  seq : Nat := 0
  deriving DecidableEq, Repr, Inhabited

/-- A HEARTBEAT of the partner (R457, R460): its state, health mask, device time in ns, the CRCs of its configuration and of its active
safety set, and the round-trip time that the link measures with it. -/
structure Heartbeat where
  state   : Fin 7 := 0
  health  : Word := 0
  time    : Nat := 0
  cfgCrc  : Word := 0
  safeCrc : Word := 0
  tick    : Nat := 0
  rtt     : Nat := 0
  deriving DecidableEq, Repr, Inhabited

/-- The content of an AXIS_MIRROR (R461): the tick count of the evaluation, the parts of word 2, the commands of words 3–8, the BFP24
words 9–22, and the hook values. -/
structure AxisMirror where
  tick       : Nat := 0
  state      : Fin 7 := 0
  lastState  : Fin 7 := 0
  negative   : Bool := false
  winner     : Nat := 0
  floored    : Bool := false
  hsg        : Bool := false
  stopClass  : Nat := 0
  brake      : Bool := false
  pCmd       : Int := 0
  vCmd       : Int := 0
  aCmd       : Int := 0
  bfp        : List Word := []
  hooks      : List Word := []
  deriving DecidableEq, Repr, Inhabited

/-- The record of a group in a LANE_MIRROR: its number, state, whether its head segment has started, progress, elapsed time,
time-scale factor and path speed. -/
structure GroupMirror where
  g       : Fin 16 := 0
  state   : Fin 6 := 0
  active  : Bool := false
  prog    : Nat := 0
  elapsed : Nat := 0
  scale   : Nat := 10000
  spd     : Int := 0
  deriving DecidableEq, Repr, Inhabited

/-- The record of a follower in a LANE_MIRROR: its axis, phase, engage positions, and what is left of its clutching. -/
structure FollowMirror where
  a     : Fin 64 := 0
  phase : Fin 4 := 0
  p0    : Int := 0
  m0    : Int := 0
  rem   : Int := 0
  mPrev : Int := 0
  deriving DecidableEq, Repr, Inhabited

/-- A LANE_MIRROR frame (R457, R459). -/
structure LaneMirror where
  groups  : List GroupMirror := []
  follows : List FollowMirror := []
  deriving DecidableEq, Repr, Inhabited

/-- A POST frame (R457): the ESN that a reply or event has taken, its KIND and CSN, and the ring producer indices. -/
structure PostMirror where
  esn       : Word := 0
  kind      : Fin 4 := 0
  csn       : Word := 0
  replyProd : Nat := 0
  eventProd : Nat := 0
  deriving DecidableEq, Repr, Inhabited

/-! ### Logbook store, island and background (18, 20) -/

/-- The part that a boot finds at the NAND interface (R477, R478, R482): whether the CRC of its parameter page is valid, log2 of the page bytes and
of the pages in a block, the blocks over both targets, the spare bytes of a page, the endurance of the parameter page, a second target,
the fastest SDR mode that the page lists, the fastest NV-DDR mode if any, and the factory-marked blocks. -/
structure NandPart where
  crcOk     : Bool := false
  pageLog   : Nat := 11
  ppbLog    : Nat := 6
  blocks    : Nat := 0
  spare     : Nat := 0
  endurance : Nat := 0
  ce1       : Bool := false
  sdr       : Fin 6 := 0
  ddr       : Option (Fin 6) := none
  marks     : List Nat := []
  deriving DecidableEq, Repr, Inhabited

/-- What a field die samples for an upstream frame: the states of the outputs that it has measured, and the levels at SIN15–SIN0 (R410, R430). -/
structure UpSample where
  act : BitVec 48 := 0
  sin : BitVec 16 := 0
  deriving DecidableEq, Repr, Inhabited

/-- How a NAND operation ends (R479–R483): a program with its physical bytes, an erase, a read with the corrected bits and the most in one
codeword, a failed program or erase, or an uncorrectable read; `last` says that the Logbook operation has no further NAND operation. -/
inductive NandEnd where
  | programmed (bytes : Nat) (last : Bool)
  | erased (block : Nat) (last : Bool)
  | read (block bits worst : Nat) (last : Bool)
  | failed (block : Nat)
  | uncorrectable (block : Nat)
  deriving DecidableEq, Repr, Inhabited

/-- What the scrub finds in a block (R484): corrected bits, the most in one codeword (above 40: uncorrectable), the physical bytes that a
refresh of the block programs, and whether its partition has a second copy. -/
structure ScrubBlock where
  block : Nat := 0
  bits  : Nat := 0
  worst : Nat := 0
  bytes : Nat := 0
  copy  : Bool := false
  deriving DecidableEq, Repr, Inhabited

/-- Where an ECC-protected word lies and who reads it (R524): the memory code is the place in this list.  A word of the CE memories names the
lane that reads it, one of the Transit DSP memories the core, one of the compare table its entry, one of the journal memories what it
holds, one of the trace memories its REGWIN or BULKWIN offset. -/
inductive EccWord where
  | supervisor
  | ce (lane : Fin 4)
  | dsp (core : Fin 4)
  | compare (entry : Nat)
  | journalEntry (esn : Word)
  | cacheEntry (q : Fin 4) (csn : Word)
  | heldReply
  | trace (off : Nat)
  | bank (off : Nat)
  | journalSram
  deriving DecidableEq, Repr, Inhabited

/-- One millisecond's telemetry (R489, R525): the six temperatures in 1/16 °C, VDD, VDDM, VDD18, VIO33, VAUX and VBAK in mV, whether VNAND is in
regulation, and the group supplies that the field dies have reported since the last sample. -/
structure Telemetry where
  t0    : BitVec 16 := 0
  t1    : BitVec 16 := 0
  t2    : BitVec 16 := 0
  t3    : BitVec 16 := 0
  t4    : BitVec 16 := 0
  t5    : BitVec 16 := 0
  vdd   : BitVec 16 := 0
  vddm  : BitVec 16 := 0
  vdd18 : BitVec 16 := 0
  vio33 : BitVec 16 := 0
  vaux  : BitVec 16 := 0
  vbak  : BitVec 16 := 0
  vnand : Bool := false
  lplus : List (Fin 6 × BitVec 16) := []
  deriving DecidableEq, Repr, Inhabited

/-- The causes for which the firmware is wedged (R529). -/
inductive WedgeCause where
  | sup0Late | sup1Late | ecc | trap
  deriving DecidableEq, Repr, Inhabited

/-- The straps (R34): BOOTSEL, PAIRROLE, NODEID. -/
structure Straps where
  bootsel : Fin 4 := 0
  role    : Bool := false
  node    : Fin 16 := 0
  deriving DecidableEq, Repr, Inhabited

/-- The clocks of SYS_CLOCK_STATUS whose PLL has a lock detector (R22). -/
inductive Pll where
  | ce | dsp | sup | can | tie | safA
  deriving DecidableEq, Repr, Inhabited

/-- A write by the host (R8, R10, R12, R30, R32): of 32 bits, of 32 bits in the clock in which the device sets the bits `held`, of 64 or
narrower to REGWIN, of bytes to BULKWIN, or of word `k` of an entry of the MSI-X table. -/
inductive HostWrite where
  | w32 (off : Nat) (w : Word)
  | clash (off : Nat) (w held : Word)
  | w64 (off : Nat) (lo hi : Word)
  | narrow (off : Nat)
  | bulk (off : Nat) (l : List Byte)
  | msix (v : Fin 64) (k : Fin 4) (w : Word)
  deriving DecidableEq, Repr, Inhabited

/-- A read by the host of `n` bytes at an offset of REGWIN, of BULKWIN, or of the MSI-X table and pending-bit array (R12, R30, R32). -/
inductive HostRead where
  | reg (off n : Nat)
  | bulk (off n : Nat)
  | msix (off n : Nat)
  deriving DecidableEq, Repr, Inhabited

/-! ### Transit DSP operations (R301–R309) -/

inductive MulKind where
  | mpy | mac | msu | mpyi | maci | msui
  deriving DecidableEq, Repr, Inhabited

inductive AccKind where
  | adda | suba | mova | nega | absa
  deriving DecidableEq, Repr, Inhabited

inductive AluKind where
  | add | sub | adds | subs | and | or | xor | min | max
  deriving DecidableEq, Repr, Inhabited

inductive ShiftKind where
  | asr | lsr | lsl
  deriving DecidableEq, Repr, Inhabited

/-- The operations of slot M (R301). -/
inductive MOp where
  | nop
  | mul (k : MulKind) (ad : Fin 4) (ra rb : Fin 16)
  | clr (ad : Fin 4)
  | acc (k : AccKind) (ad src : Fin 4)
  | sha (ad : Fin 4) (n : BitVec 6)
  | lda (ad : Fin 4) (ra : Fin 16)
  | alu (k : AluKind) (rd ra rb : Fin 16)
  | cmp (ra rb : Fin 16)
  | shift (k : ShiftKind) (rd ra : Fin 16) (n : Fin 32)
  | addi (rd ra : Fin 16) (imm : BitVec 16)
  | abs (rd ra : Fin 16)
  | neg (rd ra : Fin 16)
  deriving DecidableEq, Repr, Inhabited

/-- The operations of slot L (R303–R309); a register operand is a 7-bit register code (R298). -/
inductive LOp where
  | nop
  | ld (reg : BitVec 7) (path : Bool) (am pn : Fin 8) (off : BitVec 6)
  | st (reg : BitVec 7) (am pn : Fin 8) (off : BitVec 6)
  | ldd (dx dy : Fin 16) (amx : Fin 4) (px : Fin 8) (amy : Fin 4) (py : Fin 8)
  | mov (dst src : BitVec 7)
  | movi (dst : BitVec 7) (imm : BitVec 16)
  | movih (dst : BitVec 7) (imm : BitVec 16)
  | srset (mask : BitVec 6)
  | srclr (mask : BitVec 6)
  | br (cond : Fin 16) (target : BitVec 13)
  | call (target : BitVec 13)
  | ret
  | reti1
  | reti2
  | doI (ofs : BitVec 10) (count : BitVec 16)
  | dor (dn : Fin 16) (ofs : BitVec 10)
  | enddo (t : Bool) (target : BitVec 13)
  | wait
  | tapd (ad : Fin 4) (sub : Bool) (px : Fin 8) (amx : Fin 4) (py : Fin 8) (amy : Fin 4)
  deriving DecidableEq, Repr, Inhabited

end Sys2Proof
end

