-- ==== Sys2Proof/Syntax.lean ====
section
/-!
DEFINITION. The commands of the block: one constructor for each row of spec/opcode_table.json, in its order, with the
row's operands.  A row that is a command packet's opcode carries the packet; an event carries what the outside world
contributes to it (levels, words on a wire, instants); the device's own state supplies the rest.
-/

namespace Sys2Proof

/-- A command. -/
inductive Instr where
  /-- COLD_RESET: A cold reset (PORn low, VDD monitor, clock loss, thermal shutdown or release from BACKUP) resets all motion-die logic and the PCIe link, and the straps are latched again at its release. (R35) -/
  | coldReset (straps : Straps)
  /-- WARM_RESET: WARMRESETn held low for 1 µs or more starts a warm reset of all motion-die logic except the PCIe link and configuration space. (R35) -/
  | warmReset
  /-- SYS_RESET_DOORBELL: A host write of KEY 0xA5C3 to SYS_RESET_DOORBELL starts a warm reset, even while the firmware is wedged. (R35) -/
  | sysResetDoorbell (w : Word)
  /-- FUNCTION_LEVEL_RESET: A PCIe FLR resets the PCIe function state, detaches the host session and makes the host watchdog expire on every axis. (R37) -/
  | functionLevelReset
  /-- PERST_RELEASE: At the rising edge of PERSTn the device applies the effects of a function level reset and starts link training. (R543) -/
  | perstRelease
  /-- VDD_MONITOR_TRIP: The VDD monitor trips, which starts a cold reset and, when no power-fail sequence is active, an unwarned journal flush. (R493) -/
  | vddMonitorTrip
  /-- CLOCK_LOSS: The clock monitor finds the reference clock or the PWM PLL output missing for 0.5 µs, puts every leg into high impedance within 2 µs and starts a cold reset with cause 5. (R21) -/
  | clockLoss (pwm : Bool) (straps : Straps)
  /-- PLL_LOCK_LOSS: A PLL stays out of lock for 0.5 µs, and the device reacts as its row of the table states. (R22) -/
  | pllLockLoss (p : Pll) (straps : Straps)
  /-- BOOT_IMAGE_VERIFY: The boot ROM reads and verifies the firmware image, falls back to the other image, or enters RECOVERY or the strap-fault stop. (R39) -/
  | bootImageVerify (part : NandPart) (sramOk : Bool)
  /-- COMMAND_READY: The boot completes, SYS_BOOT_STATUS.READY is set and the READY event with ESN 0 is issued. (R38) -/
  | commandReady
  /-- SERVO_TICK: A lane's tick generator issues a servo tick, slews its phase by at most one count and increments SYS_TICK_COUNT_n. (R25) -/
  | servoTick (n : Fin 4)
  /-- PARAM_APPLY: A validated parameter write takes effect, at the owning lane's next tick boundary or at the global application point. (R73) -/
  | paramApply (lane : Option (Fin 4))
  /-- HOST_REGISTER_WRITE: A host write to a REGWIN register that has no row of its own is applied or discarded under the access codes, including W1C acknowledges. (R8) -/
  | hostRegisterWrite (x : HostWrite)
  /-- CMDQ_DOORBELL: A host write of a producer index to CMDQ_DOORBELL_q is recorded, or ignored with DB_BAD when it runs more than a ring ahead. (R59) -/
  | cmdqDoorbell (q : Fin 4) (w : Word)
  /-- CMDQ_ATTACH_DOORBELL: A host write of the upper word of CMDQ_ATTACH_DOORBELL makes the device fetch an ATTACH packet from host memory. (R67) -/
  | cmdqAttachDoorbell (x : AttachWrite)
  /-- CMDQ_REPLY_DOORBELL: The host returns reply ring slots, and the device posts held replies and journal copies into the freed room. (R61) -/
  | cmdqReplyDoorbell (w : Word)
  /-- CMDQ_EVENT_DOORBELL: The host returns event ring slots, and the device posts JOURNAL_GAP and then further events. (R62) -/
  | cmdqEventDoorbell (w : Word)
  /-- COMMAND_FETCH: The device fetches a command packet for a queue once the queue has room, and the Q0 fetch hardware inspects it for a device-wide STOP. (R49) -/
  | commandFetch (q : Fin 4) (src : FetchSrc)
  /-- PROGRESS_REPLY: A command that has run for 1 ms posts a progress reply with status 0x0001. (R57) -/
  | progressReply (p : Packet)
  /-- TRAVERSE_COMMAND_SEGMENT: A command segment delivered in a Traverse command slot is added to its open packet, or the open packet is discarded. (R64) -/
  | traverseCommandSegment
  /-- SPI_WRITE_PACKET: An SPI transfer 0xC0 + q writes a packet into queue q's one-packet buffer, or the packet is discarded when the buffer is not free. (R65) -/
  | spiWritePacket (q : Fin 4) (words : List Word)
  /-- SPI_READ_REPLY: An SPI transfer 0xA0 reads one waiting reply or event, or four zero bytes when none waits. (R65) -/
  | spiReadReply
  /-- SPI_READ_STATUS: An SPI transfer 0xA1 reads the status byte of waiting replies and free queue buffers. (R66) -/
  | spiReadStatus
  /-- ATTACH: ATTACH increments the epoch, moves the session to the sending transport, replaces the rings and posts SESSION_TAKEN to the previous transport. (R67) -/
  | attach (p : Packet)
  /-- RESYNC: RESYNC increments the epoch and replies with the CSN and ESN state of every queue. (R68) -/
  | resync (p : Packet)
  /-- PING: PING returns its parameter word. (R77) -/
  | ping (p : Packet)
  /-- GET_STATUS: GET_STATUS returns SYS_BOOT_STATUS, CMDQ_SESSION and SYS_TIME. (R77) -/
  | getStatus (p : Packet)
  /-- DETACH: DETACH ends the session without changing the epoch. (R69) -/
  | detach (p : Packet)
  /-- HOST_ALIVE: HOST_ALIVE is a life sign with no other effect. (R101) -/
  | hostAlive (p : Packet)
  /-- READ_JOURNAL: READ_JOURNAL posts the requested event journal entries as journal copies, or fails when the first ESN is not available. (R72) -/
  | readJournal (p : Packet)
  /-- RESET_DEVICE: RESET_DEVICE posts its reply and then starts the warm reset of the reset doorbell. (R77) -/
  | resetDevice (p : Packet)
  /-- SET_PARAM: SET_PARAM writes a masked value into one 32-bit register word. (R74) -/
  | setParam (p : Packet)
  /-- SET_PARAM64: SET_PARAM64 writes a whole 64-bit register. (R74) -/
  | setParam64 (p : Packet)
  /-- SET_PARAM_BLOCK: SET_PARAM_BLOCK writes up to 29 offset and value pairs at one application point. (R74) -/
  | setParamBlock (p : Packet)
  /-- GET_PARAM: GET_PARAM returns consecutive register words. (R569) -/
  | getParam (p : Packet)
  /-- SAVE_CONFIG_SET: SAVE_CONFIG_SET stores the configuration as the named configuration set in the Logbook store. (R77) -/
  | saveConfigSet (p : Packet)
  /-- LOAD_CONFIG_SET: LOAD_CONFIG_SET applies a stored configuration set. (R77) -/
  | loadConfigSet (p : Packet)
  /-- SELECT_BOOT_CONFIG: SELECT_BOOT_CONFIG selects the configuration set that is applied at boot. (R77) -/
  | selectBootConfig (p : Packet)
  /-- ENABLE: ENABLE checks the axis and the lane budget and starts the enabling sequence. (R88) -/
  | enable (p : Packet)
  /-- DISABLE: DISABLE runs a class 1 stop to DISABLED, or aborts an enabling sequence. (R98) -/
  | disable (p : Packet)
  /-- STOP: STOP runs a stop of class 0, 1 or 2 on an axis, on a group or on every axis. (R91) -/
  | stop (p : Packet)
  /-- HOME: HOME starts the search that AXIS_HOME_CFG.METHOD names. (R96) -/
  | home (p : Packet)
  /-- RESET_FAULT: RESET_FAULT clears AXIS_FAULT and makes the axis DISABLED when no cause is still present. (R95) -/
  | resetFault (p : Packet)
  /-- BIND_AXIS: BIND_AXIS binds an axis slot to its legs, inputs, port and trip, or unbinds it. (R82) -/
  | bindAxis (p : Packet)
  /-- ALIGNMENT_COMPLETE: ALIGN_T ends, and the device stores the measured commutation offset and sets ALIGNED. (R89) -/
  | alignmentComplete (a : Fin 64)
  /-- BRAKE_RELEASE_WAIT_END: BRAKE_T after the brake release ends, and the position loop takes the actual position and the axis enters READY. (R89) -/
  | brakeReleaseWaitEnd (a : Fin 64)
  /-- ENABLE_FAIL_TIMEOUT: The axis has not entered READY within ALIGN_T + BRAKE_T + 20 ms and takes the ENABLE_FAIL fault. (R90) -/
  | enableFailTimeout (a : Fin 64)
  /-- STOP_RAMP_COMPLETE: A stop ramp reaches zero velocity, and the axis holds or switches its brake output off. (R91) -/
  | stopRampComplete (a : Fin 64)
  /-- BRAKE_ENGAGE_WAIT_END: BRAKE_T after a class 1 stop reaches zero velocity, the legs go high-impedance and the axis enters its final state. (R91) -/
  | brakeEngageWaitEnd (a : Fin 64)
  /-- HOME_REFERENCE: The homing search reaches its reference point, and the device redefines the position and runs a class 2 stop. (R97) -/
  | homeReference (a : Fin 64)
  /-- HARD_STOP_DWELL_END: The current magnitude has exceeded HS_CURRENT for HS_TIME, which gives the hard-stop reference point. (R96) -/
  | hardStopDwellEnd (a : Fin 64)
  /-- HOME_TRAVEL_LIMIT: A search of method 1 or 2 travels 2^31 counts without its reference, and the axis takes HOME_FAIL. (R97) -/
  | homeTravelLimit (a : Fin 64)
  /-- HOST_WATCHDOG_EXPIRY: The time since the last life sign exceeds an axis's WD_TIMEOUT, and the CE sets WD_EXPIRED and starts the axis's watchdog stop. (R102) -/
  | hostWatchdogExpiry (a : Fin 64)
  /-- DECISION_INSTANT: 2.0 µs before a position-loop tick the interpolator advances the virtual masters, applies SYNC flags, evaluates start conditions and computes every set point. (R109) -/
  | decisionInstant (n : Fin 4)
  /-- START_CONDITION_TIMEOUT: TIMEOUT passes while a segment waits for its start condition, and the device sets WAIT_TIMEOUT. (R122) -/
  | startConditionTimeout (g : Fin 16)
  /-- SEGMENT: SEGMENT queues a path segment for a coordinate group. (R112) -/
  | segment (p : Packet)
  /-- GROUP_START: GROUP_START starts the path of an idle coordinate group. (R108) -/
  | groupStart (p : Packet)
  /-- GROUP_HOLD: GROUP_HOLD holds or releases a coordinate group's path. (R121) -/
  | groupHold (p : Packet)
  /-- OVERRIDE: OVERRIDE sets a group's override and its ramp time. (R119) -/
  | override (p : Packet)
  /-- FLUSH_GROUP: FLUSH_GROUP discards queued segments and brings the group to IDLE. (R120) -/
  | flushGroup (p : Packet)
  /-- MOVE_AXIS: MOVE_AXIS starts or replaces a single-axis profile. (R125) -/
  | moveAxis (p : Packet)
  /-- HOLD_COMPLETE: A HOLDING group's path comes to rest, and the group enters HELD. (R120) -/
  | holdComplete (g : Fin 16)
  /-- GROUP_STOP_COMPLETE: A group path decelerating under a stop reaches zero velocity, its queue is discarded and the group enters IDLE. (R99) -/
  | groupStopComplete (g : Fin 16)
  /-- FLUSH_COMPLETE: The path of a flushed group comes to rest, and the group enters IDLE. (R120) -/
  | flushComplete (g : Fin 16)
  /-- PROFILE_COMPLETE: A MOVE_AXIS profile reaches its target position or velocity and posts its reply. (R125) -/
  | profileComplete (a : Fin 64)
  /-- GEAR_ENGAGE: GEAR_ENGAGE engages an axis as a gear follower of a master. (R126) -/
  | gearEngage (p : Packet)
  /-- GEAR_DISENGAGE: GEAR_DISENGAGE ends a gear or cam and ramps the follower to rest. (R132) -/
  | gearDisengage (p : Packet)
  /-- FOLLOWER_RAMP_END: A disengaged follower comes to rest at DECEL_NORMAL and enters READY. (R132) -/
  | followerRampEnd (a : Fin 64)
  /-- CLUTCH_START: In mode 2 the master crosses the engage position, and the clutch starts. (R127) -/
  | clutchStart (a : Fin 64)
  /-- CLUTCH_COMPLETE: The master travel reaches L, and the follower switches to the exact ratio. (R127) -/
  | clutchComplete (a : Fin 64)
  /-- MASTER_LOST: A follower's master is lost, and the device disengages it with a class 2 stop. (R129) -/
  | masterLost (a : Fin 64)
  /-- CAM_LOAD: CAM_LOAD writes points into the cam point table. (R130) -/
  | camLoad (p : Packet)
  /-- CAM_ENGAGE: CAM_ENGAGE engages an axis as a cam follower or switches its profile. (R132) -/
  | camEngage (p : Packet)
  /-- CAM_WRAP_ENGAGE: At the next wrap of the cyclic master, a waiting cam engagement or profile switch takes effect. (R132) -/
  | camWrapEngage (a : Fin 64)
  /-- AXIS_EVALUATION: The lane runs one cascade evaluation of an active axis once its sample is ready and issues its compare values. (R139) -/
  | axisEvaluation (a : Fin 64) (x : EvalIn)
  /-- HOOK_ABSENT: A hook reaches STALE_LIMIT consecutive stale reads and becomes absent. (R162) -/
  | hookAbsent (a : Fin 64) (h : Fin 5)
  /-- FOLLOWING_ERROR_FAULT: |e_p| exceeds FE_LIMIT on FE_TIME consecutive position-loop ticks, and the axis takes the FOLLOW fault. (R147) -/
  | followingErrorFault (a : Fin 64)
  /-- LANE_OVERRUN: An evaluation has not started when the next sample is ready, so the lane skips it and the axis takes LANE_OVERRUN. (R172) -/
  | laneOverrun (a : Fin 64)
  /-- HSG_AXIS_AT_ZERO: An axis driven by the hardware stop generator reaches zero velocity, and its stop ends as its class states. (R175) -/
  | hsgAxisAtZero (a : Fin 64)
  /-- SYS_STOP_DOORBELL: A host write of KEY 0x3C5A to SYS_STOP_DOORBELL makes a device-wide start of the hardware stop generator. (R530) -/
  | sysStopDoorbell (w : Word)
  /-- FREE_RUN_WORD: A decimator delivers a free-run word, which is corrected and range-checked. (R183) -/
  | freeRunWord (inp : Fin 160) (bits : Nat)
  /-- DECIMATOR_REFILL_COMPLETE: The decimator has refilled over 3 × OSR captured bits, and FILLING clears. (R184) -/
  | decimatorRefillComplete (inp : Fin 160)
  /-- OVERCURRENT_DETECT: The sinc2 value lies beyond OC_HI or OC_LO on OC_N consecutive bits, and the CFE drives the axis's trip line or records the status. (R187) -/
  | overcurrentDetect (inp : Fin 160) (bits bitsB : Nat)
  /-- RANGE_FAULT: Free-run words lie outside the range on RANGE_N consecutive words, and the RANGE bit is set. (R193) -/
  | rangeFault (inp : Fin 160)
  /-- STUCK_DETECT: No bit transition occurs in STUCK_N captured bits, and the input takes the effects of an over-current. (R194) -/
  | stuckDetect (inp : Fin 160) (bits : Nat)
  /-- ALTERNATING_DETECT: The bits alternate strictly for STUCK_N captured bits, and the input takes the effects of an over-current. (R194) -/
  | alternatingDetect (inp : Fin 160) (bits : Nat)
  /-- SDCK_READBACK_FAULT: The level at an SDCK ball differs from its driven level at 4 consecutive edges, and the axes on that clock trip. (R194) -/
  | sdckReadbackFault (k : Fin 20)
  /-- EXT_CLOCK_LOST: SDCLK_IN is missing or off frequency, and every axis on it trips. (R194) -/
  | extClockLost
  /-- CAL_WINDOW_OPEN: An axis has been DISABLED, FAULTED or SAFE_OFF for 2 ms, and its PWM-off calibration window opens. (R189) -/
  | calWindowOpen (a : Fin 64)
  /-- OFFSET_CAL_UPDATE: An average of 4,096 free-run words completes, and the offset is updated or CAL_LIMIT is set. (R189) -/
  | offsetCalUpdate (inp : Fin 160)
  /-- BANK_GAIN_UPDATE: An average of 4,096 reference words completes, and the bank gain is set. (R191) -/
  | bankGainUpdate (n : Fin 4)
  /-- TB1_PERIOD_START: A TB1 timebase starts a period, and pending TB1 configuration and reloads take effect. (R200) -/
  | tb1PeriodStart (n : Fin 4)
  /-- COMPARE_VALUE_ARRIVAL: A new compare value arrives at a leg and is judged against the running slope. (R205) -/
  | compareValueArrival (l : Fin 192) (slope2 : Bool) (p r : Nat)
  /-- DEAD_TIME_TURN_ON: The dead time after an edge of S ends, and the pending output turns on. (R209) -/
  | deadTimeTurnOn (l : Fin 192)
  /-- MIN_PULSE_END: MINP after a turn-on ends, and a held-on output turns off. (R211) -/
  | minPulseEnd (l : Fin 192)
  /-- TRIP_FILTERED_ASSERT: A trip input's filtered trip asserts, every guarded leg goes HIGH-Z and the latch is set. (R217) -/
  | tripFilteredAssert (t : Fin 68)
  /-- TRIP_FILTERED_RELEASE: The trip filter counts FILT consecutive inactive samples, and the filtered trip releases. (R216) -/
  | tripFilteredRelease (t : Fin 68)
  /-- BLANKING_END: BLANK counts after the last edge of a guarded leg end, and the trip input is no longer blocked. (R216) -/
  | blankingEnd (t : Fin 68)
  /-- TRIP_REARM: A write of 1 to PWM_TRIP_CFG_t.REARM clears the trip latch while the input is inactive. (R219) -/
  | tripRearm (t : Fin 68)
  /-- MOTION_HALT: A motion-domain halt freezes the CE lanes, interpolator and PWM timebases, or is refused under HALT_GUARD. (R511) -/
  | motionHalt
  /-- MOTION_HALT_RELEASE: A motion-domain halt is released, and the counters resume. (R222) -/
  | motionHaltRelease
  /-- Z_EDGE: A qualified Z edge copies the quadrature counter into ENC_ZPOS and sets ZSEEN. (R229) -/
  | zEdge (e : Fin 64)
  /-- SERIAL_FRAME_START: START_OFS after the tick a serial port starts its frame with a falling edge of MA. (R230) -/
  | serialFrameStart (e : Fin 64) (slHigh : Bool)
  /-- SERIAL_FRAME_COMPLETE: A serial frame completes or times out, and its sample is judged good or bad. (R234) -/
  | serialFrameComplete (e : Fin 64) (bits : Option Nat) (late maFault : Bool)
  /-- ENCODER_FAILED: Consecutive bad samples exceed BAD_N, and the port sets FAILED. (R236) -/
  | encoderFailed (e : Fin 64)
  /-- ENCODER_FAILED_CLEAR: 16 consecutive good samples clear FAILED. (R236) -/
  | encoderFailedClear (e : Fin 64)
  /-- FIX_EVENT: A stamped edge on a fix input is a fix event and starts a record when the input is armed. (R239) -/
  | fixEvent (inp : Fin 16) (rising : Bool) (stamp : Nat)
  /-- FIX_RECORD_COMPLETE: The last sample that a fix record needs completes, and the record completes with an even SEQ. (R242) -/
  | fixRecordComplete (inp : Fin 16)
  /-- FIX_ARM: FIX_ARM arms a fix input once or continuously, or disarms it. (R240) -/
  | fixArm (p : Packet)
  /-- COMPARE_LOAD: COMPARE_LOAD writes entries into the compare table. (R251) -/
  | compareLoad (p : Packet)
  /-- COMPARE_ENABLE: COMPARE_ENABLE enables or disables a compare output and arms its first target. (R249) -/
  | compareEnable (p : Packet)
  /-- COMPARE_COUNTER_FIRE: With SRC 0 the counter reaches the armed target, and PCOo fires. (R246) -/
  | compareCounterFire (o : Fin 16)
  /-- COMPARE_PREDICT_FIRE: With SRC 1 the predicted instant t_fire arrives, and PCOo fires. (R247) -/
  | comparePredictFire (o : Fin 16)
  /-- PCO_PULSE_END: WIDTH after a firing, PCOo returns to its inactive level. (R248) -/
  | pcoPulseEnd (o : Fin 16)
  /-- TICK_TRIGGER: A Transit DSP tick trigger fires at its offset after a qualifying tick and raises a request. (R285) -/
  | tickTrigger (c : Fin 4) (k : Fin 8)
  /-- LEVEL1_ENTRY: The core takes a level-1 request, swaps to the shadow bank and fetches from vector 0x0030. (R279) -/
  | level1Entry (c : Fin 4)
  /-- LEVEL2_ENTRY: The core takes a level-2 request or the AOV trap, saves SR_FLAGS and fetches from its vector. (R280) -/
  | level2Entry (c : Fin 4)
  /-- WAIT_WAKE: A pending request wakes a WAITING core. (R288) -/
  | waitWake (c : Fin 4)
  /-- NOP: A NOP in either slot does nothing. (R301) -/
  | tdNop (c : Fin 4) (m l : Word)
  /-- MPY: MPY places the fractional product in an accumulator. (R301) -/
  | tdMpy (c : Fin 4) (ad : Fin 4) (ra rb : Fin 16) (l : Word)
  /-- MAC: MAC adds the fractional product to an accumulator. (R301) -/
  | tdMac (c : Fin 4) (ad : Fin 4) (ra rb : Fin 16) (l : Word)
  /-- MSU: MSU subtracts the fractional product from an accumulator. (R301) -/
  | tdMsu (c : Fin 4) (ad : Fin 4) (ra rb : Fin 16) (l : Word)
  /-- MPYI: MPYI places the integer product in an accumulator. (R301) -/
  | tdMpyi (c : Fin 4) (ad : Fin 4) (ra rb : Fin 16) (l : Word)
  /-- MACI: MACI adds the integer product to an accumulator. (R301) -/
  | tdMaci (c : Fin 4) (ad : Fin 4) (ra rb : Fin 16) (l : Word)
  /-- MSUI: MSUI subtracts the integer product from an accumulator. (R301) -/
  | tdMsui (c : Fin 4) (ad : Fin 4) (ra rb : Fin 16) (l : Word)
  /-- CLR: CLR clears an accumulator. (R301) -/
  | tdClr (c : Fin 4) (ad : Fin 4) (l : Word)
  /-- ADDA: ADDA adds one accumulator to another. (R301) -/
  | tdAdda (c : Fin 4) (ad src : Fin 4) (l : Word)
  /-- SUBA: SUBA subtracts one accumulator from another. (R301) -/
  | tdSuba (c : Fin 4) (ad src : Fin 4) (l : Word)
  /-- MOVA: MOVA copies an accumulator. (R301) -/
  | tdMova (c : Fin 4) (ad src : Fin 4) (l : Word)
  /-- NEGA: NEGA negates an accumulator. (R301) -/
  | tdNega (c : Fin 4) (ad src : Fin 4) (l : Word)
  /-- ABSA: ABSA takes the absolute value of an accumulator. (R301) -/
  | tdAbsa (c : Fin 4) (ad src : Fin 4) (l : Word)
  /-- SHA: SHA shifts an accumulator arithmetically. (R301) -/
  | tdSha (c : Fin 4) (ad : Fin 4) (n : BitVec 6) (l : Word)
  /-- LDA: LDA loads a Q1.31 D register into an accumulator. (R301) -/
  | tdLda (c : Fin 4) (ad : Fin 4) (ra : Fin 16) (l : Word)
  /-- ADD: ADD adds two D registers modulo 2^32. (R301) -/
  | tdAdd (c : Fin 4) (rd ra rb : Fin 16) (l : Word)
  /-- SUB: SUB subtracts two D registers modulo 2^32. (R301) -/
  | tdSub (c : Fin 4) (rd ra rb : Fin 16) (l : Word)
  /-- ADDS: ADDS adds two D registers with saturation. (R301) -/
  | tdAdds (c : Fin 4) (rd ra rb : Fin 16) (l : Word)
  /-- SUBS: SUBS subtracts two D registers with saturation. (R301) -/
  | tdSubs (c : Fin 4) (rd ra rb : Fin 16) (l : Word)
  /-- CMP: CMP sets the flags from RA − RB. (R301) -/
  | tdCmp (c : Fin 4) (ra rb : Fin 16) (l : Word)
  /-- AND: AND forms the bitwise AND of two D registers. (R301) -/
  | tdAnd (c : Fin 4) (rd ra rb : Fin 16) (l : Word)
  /-- OR: OR forms the bitwise OR of two D registers. (R301) -/
  | tdOr (c : Fin 4) (rd ra rb : Fin 16) (l : Word)
  /-- XOR: XOR forms the bitwise XOR of two D registers. (R301) -/
  | tdXor (c : Fin 4) (rd ra rb : Fin 16) (l : Word)
  /-- ASR: ASR shifts a D register right arithmetically. (R301) -/
  | tdAsr (c : Fin 4) (rd ra : Fin 16) (n : Fin 32) (l : Word)
  /-- LSR: LSR shifts a D register right logically. (R301) -/
  | tdLsr (c : Fin 4) (rd ra : Fin 16) (n : Fin 32) (l : Word)
  /-- LSL: LSL shifts a D register left. (R301) -/
  | tdLsl (c : Fin 4) (rd ra : Fin 16) (n : Fin 32) (l : Word)
  /-- ADDI: ADDI adds a sign-extended immediate to a D register. (R301) -/
  | tdAddi (c : Fin 4) (rd ra : Fin 16) (imm : BitVec 16) (l : Word)
  /-- MIN: MIN takes the signed minimum of two D registers. (R301) -/
  | tdMin (c : Fin 4) (rd ra rb : Fin 16) (l : Word)
  /-- MAX: MAX takes the signed maximum of two D registers. (R301) -/
  | tdMax (c : Fin 4) (rd ra rb : Fin 16) (l : Word)
  /-- ABS: ABS takes the saturated absolute value of a D register. (R301) -/
  | tdAbs (c : Fin 4) (rd ra : Fin 16) (l : Word)
  /-- NEG: NEG negates a D register with saturation. (R301) -/
  | tdNeg (c : Fin 4) (rd ra : Fin 16) (l : Word)
  /-- LD: LD loads one word over the X or Y load path into a register. (R303) -/
  | tdLd (c : Fin 4) (reg : BitVec 7) (path : Bool) (am pn : Fin 8) (off : BitVec 6) (m : Word)
  /-- ST: ST stores a register to the addressed word. (R303) -/
  | tdSt (c : Fin 4) (reg : BitVec 7) (am pn : Fin 8) (off : BitVec 6) (m : Word)
  /-- LDD: LDD loads one X word and one Y word in one bundle. (R304) -/
  | tdLdd (c : Fin 4) (dx dy : Fin 16) (amx : Fin 4) (px : Fin 8) (amy : Fin 4) (py : Fin 8) (m : Word)
  /-- MOV: MOV copies one register into another, converting ACCnR. (R305) -/
  | tdMov (c : Fin 4) (dst src : BitVec 7) (m : Word)
  /-- MOVI: MOVI writes an immediate to a register. (R305) -/
  | tdMovi (c : Fin 4) (dst : BitVec 7) (imm : BitVec 16) (m : Word)
  /-- MOVIH: MOVIH writes an immediate to the upper half of a D register. (R305) -/
  | tdMovih (c : Fin 4) (dst : BitVec 7) (imm : BitVec 16) (m : Word)
  /-- SRSET: SRSET sets the selected SR_FLAGS bits. (R306) -/
  | tdSrset (c : Fin 4) (mask : BitVec 6) (m : Word)
  /-- SRCLR: SRCLR clears the selected SR_FLAGS bits. (R306) -/
  | tdSrclr (c : Fin 4) (mask : BitVec 6) (m : Word)
  /-- BR: BR branches when its condition holds, after two delay slots. (R307) -/
  | tdBr (c : Fin 4) (cond : Fin 16) (target : BitVec 13) (m : Word)
  /-- CALL: CALL writes LNK and branches after two delay slots. (R307) -/
  | tdCall (c : Fin 4) (target : BitVec 13) (m : Word)
  /-- RET: RET fetches from LNK after two delay slots. (R307) -/
  | tdRet (c : Fin 4) (m : Word)
  /-- RETI1: RETI1 returns from level 1 to the main bank and fetches from IPC1. (R279) -/
  | tdReti1 (c : Fin 4) (m : Word)
  /-- RETI2: RETI2 restores SR_FLAGS from SSR2 and fetches from IPC2. (R280) -/
  | tdReti2 (c : Fin 4) (m : Word)
  /-- DO: DO starts a zero-overhead loop with an immediate count. (R308) -/
  | tdDo (c : Fin 4) (ofs : BitVec 10) (count : BitVec 16) (m : Word)
  /-- DOR: DOR starts a zero-overhead loop with its count taken from a D register. (R308) -/
  | tdDor (c : Fin 4) (dn : Fin 16) (ofs : BitVec 10) (m : Word)
  /-- ENDDO: ENDDO ends the innermost active loop level, with an optional branch. (R272) -/
  | tdEnddo (c : Fin 4) (t : Bool) (target : BitVec 13) (m : Word)
  /-- WAIT: WAIT stops issue, and the core enters WAITING. (R288) -/
  | tdWait (c : Fin 4) (m : Word)
  /-- TAPD: TAPD runs one filter tap and moves the sample along the delay line. (R309) -/
  | tdTapd (c : Fin 4) (ad : Fin 4) (sub : Bool) (px : Fin 8) (amx : Fin 4) (py : Fin 8) (amy : Fin 4) (m : Word)
  /-- SEV_WRITE: A store to core I/O word SEV raises Transit DSP source 272 + 16c + k. (R295) -/
  | sevWrite (c : Fin 4) (m l : Word)
  /-- EVR_CLAIM_LOAD: A load from EVR_CLAIM claims the next pending source of the core. (R342) -/
  | evrClaimLoad (c : Fin 4) (m l : Word)
  /-- EVR_COMPLETE_STORE: A store to EVR_COMPLETE completes a source that the core holds active. (R342) -/
  | evrCompleteStore (c : Fin 4) (m l : Word)
  /-- HOOK_PORT_STORE: A store to a hook port writes the hook value, or is discarded with HOOK_WERR when the hook is not bound to the core. (R289) -/
  | hookPortStore (c : Fin 4) (m l : Word)
  /-- TIME_L_READ: A load of TIME_L returns device time [31:0] and latches [63:32] for the core. (R255) -/
  | timeLRead (c : Fin 4) (m l : Word)
  /-- ENC_POS_LOWER_LOAD: A load of an encoder position lower word latches the upper word for the core. (R257) -/
  | encPosLowerLoad (c : Fin 4) (m l : Word)
  /-- DSP_LOAD_IMAGE: DSP_LOAD_IMAGE checks an image in staging and loads it into a core's memories. (R294) -/
  | dspLoadImage (p : Packet)
  /-- DSP_START: DSP_START starts a core from reset or resumes it from its halted PC. (R291) -/
  | dspStart (p : Packet)
  /-- DSP_HALT: DSP_HALT stops issue before the first eligible bundle. (R291) -/
  | dspHalt (p : Packet)
  /-- DSP_BIND_HOOK: DSP_BIND_HOOK binds or unbinds a hook of an axis to a core. (R289) -/
  | dspBindHook (p : Packet)
  /-- TRACE_CONFIG: TRACE_CONFIG enables or disables the Barograph, or loads the mask table from staging. (R334) -/
  | traceConfig (p : Packet)
  /-- TRACE_STREAM: TRACE_STREAM starts or stops streaming capture. (R334) -/
  | traceStream (p : Packet)
  /-- SNAPSHOT: SNAPSHOT issues a snapshot strobe. (R334) -/
  | snapshot (p : Packet)
  /-- TRACE_ARM: A write of TRACE_CTRL.ARM arms the capture from IDLE or DONE. (R315) -/
  | traceArm (w : Word)
  /-- TRACE_DISARM: A write of TRACE_CTRL.DISARM ends sampling at once and returns the Barograph to IDLE. (R328) -/
  | traceDisarm (w : Word)
  /-- TRACE_FORCE: A write of TRACE_CTRL.FORCE in ARMED forces the trigger at the next closed sample. (R323) -/
  | traceForce (w : Word)
  /-- TRACE_RELEASE: A write of TRACE_CTRL.RELEASE sets REL or re-arms a NORMAL or AUTO capture in DONE. (R323) -/
  | traceRelease (w : Word)
  /-- TRACE_RDPTR_WRITE: A host write of TRACE_RDPTR frees streamed frames, or is ignored with RDPTR_BAD. (R325) -/
  | traceRdptrWrite (w : Word)
  /-- TRACE_SAMPLE_CLOSE: A Barograph sample closes, and its channels, comparators, trigger, mask tests and frame write are processed. (R317) -/
  | traceSampleClose (busy : Bool)
  /-- TRACE_POST_COMPLETE: POST samples have been taken after the trigger, and the capture enters DONE. (R325) -/
  | tracePostComplete
  /-- TRACE_AUTO_TIMEOUT: In AUTO mode AUTO_TMO passes after the arm with no trigger, and the trigger is forced. (R323) -/
  | traceAutoTimeout
  /-- SNAPIN_EDGE: An enabled edge at SNAPIN issues a snapshot strobe. (R330) -/
  | snapinEdge (rising : Bool)
  /-- SNAPOUT_PULSE_END: 100 ns after a strobe, SNAPOUT falls. (R330) -/
  | snapoutPulseEnd
  /-- SNAPSHOT_TRANSFER_COMPLETE: A snapshot transfer completes, the bank is marked FULL and NEXT advances. (R332) -/
  | snapshotTransferComplete
  /-- SNAP_BANK_FREE: A host write of 1 to a FULL bit of SNAP_STATUS frees the snapshot bank. (R332) -/
  | snapBankFree (w : Word)
  /-- EVR_SOURCE_FIRING: A raised source reaches the Event Router after its crossing and moves between source states. (R339) -/
  | evrSourceFiring (n : Fin 640)
  /-- EVR_HOST_POST: The device posts an event packet for a pending host-targeted source, which claims it. (R343) -/
  | evrHostPost
  /-- SUPERVISOR_CLAIM: The firmware claims and completes a source pending on the supervisor. (R342) -/
  | supervisorClaim
  /-- EVR_HOST_COMPLETE: A host write of a source number to EVR_HOST_COMPLETE completes that active source. (R342) -/
  | evrHostComplete (w : Word)
  /-- EVR_HOST_IDLE: A host write of EVR_HOST_IDLE.IDLE declares the host idle or busy. (R347) -/
  | evrHostIdle (w : Word)
  /-- MODERATION_RELEASE: A moderation unit's count reaches COALESCE or its timer reaches HOLDOFF, and the unit sends its message or asserts its line. (R346) -/
  | moderationRelease (u : Fin 68)
  /-- REHOME_TIMEOUT: REHOME ms pass while a source waits on a sleeping target with WAKE at 0, and the delivery is redirected to FALLBACK. (R350) -/
  | rehomeTimeout (n : Fin 640)
  /-- WAKE_LATCH_EDGE: In DOZE a wake latch catches an edge and starts the DOZE exit. (R351) -/
  | wakeLatchEdge (b : Fin 48)
  /-- DOZE_EXIT_COMPLETE: The DOZE exit completes, latched sources fire and the previous power state resumes. (R516) -/
  | dozeExitComplete
  /-- TRAVERSE_FRAME_RECEIVE: A Traverse frame is received and checked, and a valid datum frame corrects device time or advances integration. (R357) -/
  | traverseFrameReceive (a b : Option TrvFrame)
  /-- TRAVERSE_FRAME_SEND: At its send instant the node sends its own frame, or the guardian or a busy channel blocks it. (R367) -/
  | traverseFrameSend (j : Fin 64) (busyA busyB seen : Bool)
  /-- DATA_FRAME_COMMIT: After a tick of its lane the device composes and commits the frame of an owned data slot. (R373) -/
  | dataFrameCommit (j : Fin 64)
  /-- SLOT_DELIVERY: At the start of the next slot a received frame is delivered, or RXAGE increases. (R374) -/
  | slotDelivery (j : Fin 64)
  /-- DATUM_MISS: A cycle passes with no valid datum frame, and a SYNC node enters HOLDOVER. (R362) -/
  | datumMiss
  /-- NLOSS_EXPIRY: NLOSS consecutive cycles pass with no datum frame, and the node returns to LISTEN. (R362) -/
  | nlossExpiry
  /-- COLDSTART_TIMEOUT: The silence timer of a coldstart node expires, and the node enters COLDSTART and sends a coldstart datum frame. (R370) -/
  | coldstartTimeout (busyA busyB : Bool)
  /-- READBACK_MISMATCH: A read-back mismatch in an own frame sets READBACK, and a sending datum or coldstart node stops driving and enters LISTEN. (R371) -/
  | readbackMismatch
  /-- GUARDIAN_CUTOFF: D + 40 ns after the frame start, the guardian ends any transmission of its node. (R369) -/
  | guardianCutoff
  /-- CHANNEL_FAIL: Eight cycles pass with no valid frame on one channel while the other delivers, and CH_A_FAIL or CH_B_FAIL is set. (R384) -/
  | channelFail (chB : Bool)
  /-- TRAVERSE_JOIN: TRAVERSE_JOIN checks the schedule and starts listening for the bus. (R382) -/
  | traverseJoin (p : Packet)
  /-- TRAVERSE_JOIN_TIMEOUT: The JOIN timeout passes before SYNC, and the reply carries 0x0801. (R382) -/
  | traverseJoinTimeout
  /-- TRAVERSE_LEAVE: TRAVERSE_LEAVE takes the node off the bus. (R382) -/
  | traverseLeave (p : Packet)
  /-- TRAVERSE_LEAVE_COMPLETE: The frame in progress ends, and a LEAVING node enters OFF. (R362) -/
  | traverseLeaveComplete
  /-- CAN_ENABLE: CAN_ENABLE disables, enables, enables listen-only or starts the recovery of a channel. (R400) -/
  | canEnable (p : Packet)
  /-- CAN_SEND: CAN_SEND fills a free transmit entry and makes it pending, or aborts an entry. (R391) -/
  | canSend (p : Packet)
  /-- CAN_INTEGRATION: 11 consecutive recessive bits bring a SYNCING channel to RUNNING or LISTENING. (R389) -/
  | canIntegration (c : Fin 2)
  /-- CAN_TX_COMPLETE: A transmit entry ends, its RESULT is written and DONE is set. (R391) -/
  | canTxComplete (c : Fin 2)
  /-- CAN_TX_ATTEMPT_FAIL: A lost arbitration or error counts an attempt, and may end the entry or bring the channel to BUS_OFF. (R393) -/
  | canTxAttemptFail (c : Fin 2) (e : Option CanErrKind) (exempt : Bool)
  /-- CAN_RECOVERY_COMPLETE: 128 recessive sequences complete the recovery, and the channel enters RUNNING. (R390) -/
  | canRecoveryComplete (c : Fin 2)
  /-- CAN_FRAME_RECEIVE: A valid received frame passes the filters and is stored in the receive ring or dropped. (R396) -/
  | canFrameReceive (c : Fin 2) (f : CanFrame) (stamp : Word)
  /-- CAN_DISABLE_COMPLETE: The frame in progress completes, every other pending entry ends ABORTED and the channel enters OFF. (R401) -/
  | canDisableComplete (c : Fin 2)
  /-- CAN_CORR_LATCH: Every CORR_PERIOD ms the timestamp counter and device time are latched as a correlation pair. (R399) -/
  | canCorrLatch (c : Fin 2)
  /-- CAN_RX_DOORBELL: A host write of CAN_RX_DOORBELL returns receive entries, or is ignored with DB_BAD. (R397) -/
  | canRxDoorbell (c : Fin 2) (w : Word)
  /-- CAN_TX_ENTRY_FREE: A host write of 1 to a CAN_TX_DONE bit frees the transmit entry. (R391) -/
  | canTxEntryFree (c : Fin 2) (x : Fin 64)
  /-- DOWNSTREAM_FRAME_SEND: Every 10 µs the motion die starts a downstream isolation-link frame with output commands, a configuration word and the safety exchange. (R420) -/
  | downstreamFrameSend
  /-- UPSTREAM_FRAME_RECEIVE: The motion die takes an upstream frame with input levels, change flags, output states and channel B data. (R410) -/
  | upstreamFrameReceive (k : Fin 2) (crcOk safeOk : Bool) (act : UpSample) (cur : Option (Fin 6 × BitVec 12))
  /-- FIELD_DIE_DOWNSTREAM_RECEIVE: A field die takes a downstream frame, applies its commands and configuration word and sends its upstream frame 5 µs after its start. (R422) -/
  | fieldDieDownstreamReceive (k : Fin 2) (crcOk safeOk : Bool)
  /-- LINK_FRAME_MISSING: A frame is not complete 8 µs after its expected start and counts as bad. (R421) -/
  | linkFrameMissing (k : Fin 2) (up : Bool)
  /-- LINK_STALE: After three consecutive bad upstream frames the die's inputs are stale and its FB 0 command bits are cleared. (R423) -/
  | linkStale (k : Fin 2)
  /-- FIELD_DIE_FALLBACK: After three consecutive bad downstream frames the field die puts its outputs to fallback. (R423) -/
  | fieldDieFallback (k : Fin 2)
  /-- LINK_RECOVER: Two consecutive good frames clear staleness and fallback. (R423) -/
  | linkRecover (k : Fin 2) (dieSide : Bool)
  /-- GROUP_UNDERVOLTAGE: A group supply falls below 17.0 V, and the group's outputs switch off. (R405) -/
  | groupUndervoltage (g : Fin 6)
  /-- GROUP_UV_RECOVER: A group supply rises above 18.0 V, and the outputs take their command bits again. (R405) -/
  | groupUvRecover (g : Fin 6)
  /-- FIELD_LOGIC_SUPPLY_LOSS: LPLUS0 or LPLUS2 falls below 15.0 V, and the field die stops. (R405) -/
  | fieldLogicSupplyLoss (k : Fin 2)
  /-- GROUP_OVERCURRENT: A group current exceeds its limit for its time, and the group is switched off and disabled with OC. (R406) -/
  | groupOvercurrent (g : Fin 6)
  /-- FIELD_INPUT_CHANGE: A field input level has held for its filter time and is taken as the new level. (R408) -/
  | fieldInputChange (inp : Fin 64) (level : Bool)
  /-- WIRE_BREAK: An input current stays below the break threshold for 10 ms, and a wire break is reported. (R409) -/
  | wireBreak (inp : Fin 64)
  /-- WIRE_BREAK_CLEAR: The input current stays above the threshold for 10 ms, and the break clears. (R409) -/
  | wireBreakClear (inp : Fin 64)
  /-- OUTPUT_OVERLOAD: An output's current limit acts for 2 ms, and OVERLOAD is set. (R413) -/
  | outputOverload (o : Fin 48)
  /-- OUTPUT_THERMAL_OFF: An output channel reaches 160 °C and switches off with THERMAL. (R413) -/
  | outputThermalOff (o : Fin 48)
  /-- OUTPUT_THERMAL_RESTART: With RESTART 0, a channel that has cooled below 145 °C switches on again. (R413) -/
  | outputThermalRestart (o : Fin 48)
  /-- OUTPUT_OFF_DIAGNOSIS: An off output's voltage condition has held for 1 ms, and OPEN, VOLT_OFF or stuck-high is reported. (R414) -/
  | outputOffDiagnosis (o : Fin 48) (v : Fin 3)
  /-- OUTPUT_WRITE: OUTPUT_WRITE sets the command bits of the masked outputs. (R424) -/
  | outputWrite (p : Packet)
  /-- OUTPUT_GROUP_ENABLE: OUTPUT_GROUP_ENABLE enables or disables output groups. (R425) -/
  | outputGroupEnable (p : Packet)
  /-- SAFETY_LATCH: At L_k each channel takes its filtered inputs, applies the previous decisions and compares the cycle messages. (R429) -/
  | safetyLatch (reads : BitVec 4)
  /-- SAFETY_DECISION: A channel completes its cycle computation and decides demands, STO and safe-output commands. (R440) -/
  | safetyDecision (chB : Bool)
  /-- SAFETY_COMPARE_FAULT: The set CRCs differ, or other message content has differed for 8 consecutive cycles, and COMPARE is set. (R432) -/
  | safetyCompareFault (chB : Bool)
  /-- SAFETY_MESSAGE_MISSING: A channel has no complete message from the other for 2 cycles, holds STO and sets MSG_A_MISSING or MSG_B_MISSING. (R433) -/
  | safetyMessageMissing (chB : Bool)
  /-- STOEN_B_FRAME_LOSS: After 3 bad or missing upstream frames the motion die drives every STOEN_Bn low. (R433) -/
  | stoenBFrameLoss
  /-- LOCKSTEP_FAULT: Channel A's cores disagree, LOCKSTEP is set and channel A stops. (R428) -/
  | lockstepFault
  /-- SAFETY_INPUT_FILTER: F / 10 µs consecutive samples of a new level change a safety input's filtered state. (R435) -/
  | safetyInputFilter (chB : Bool) (inp : Fin 16) (level : Bool)
  /-- PAIR_DISCREPANCY: One input of a pair has demanded alone for longer than DISC, and the pair takes a discrepancy. (R436) -/
  | pairDiscrepancy (chB : Bool) (p : Fin 8)
  /-- RESET_INPUT_PULSE: The falling edge of a reset pulse of 0.1–3.0 s restarts a manual-restart function. (R437) -/
  | resetInputPulse (chB : Bool) (inp : Fin 16)
  /-- TEST_PULSE: Channel B drives the 200 µs low pulse of a test-pulse output, and both channels check the inputs. (R438) -/
  | testPulse (k : Fin 4) (hiA loA hiB loB : BitVec 16) (readFails : Bool)
  /-- SO_TEST_PULSE: A channel turns its safe-output switch off for 50 µs in each test period and checks its readback. (R442) -/
  | soTestPulse (j : Fin 4) (readsOn : Bool)
  /-- SS1_DELAY_EXPIRY: SS1_TIME after the demand decision, both channels apply STO to the function's banks. (R441) -/
  | ss1DelayExpiry (f : Fin 8)
  /-- SAFETY_STARTUP: A starting channel holds STO, reads and checks the boot safety set and runs a test period. (R449) -/
  | safetyStartup (chB : Bool)
  /-- SAFETY_STARTUP_TEST_COMPLETE: The start-up test period of 20 ms ends, and functions release or set restart pending. (R449) -/
  | safetyStartupTestComplete (chB : Bool)
  /-- SAFETY_SET_LOAD: SAFETY_SET_LOAD checks a safety set in staging in both channels. (R448) -/
  | safetySetLoad (p : Packet)
  /-- SAFETY_SET_COMMIT: SAFETY_SET_COMMIT switches both channels to the loaded set, or acknowledges faults. (R448) -/
  | safetySetCommit (p : Packet)
  /-- HEARTBEAT_SEND: Every 5 µs each paired device sends a HEARTBEAT frame. (R467) -/
  | heartbeatSend
  /-- PAIR_HBO_TOGGLE: Every 2.5 µs each paired device toggles PAIR_HBO. (R467) -/
  | pairHboToggle
  /-- HEARTBEAT_RECEIVE: A HEARTBEAT frame from the partner is taken and may change the pair state. (R458) -/
  | heartbeatReceive (h : TieHead) (b : Heartbeat)
  /-- AXIS_MIRROR_RECEIVE: The STANDBY takes an AXIS_MIRROR record, checks divergence and replaces its own axis values, or drops a late record. (R459) -/
  | axisMirrorReceive (h : TieHead) (a : Fin 64) (m : AxisMirror)
  /-- LANE_MIRROR_RECEIVE: The STANDBY takes a LANE_MIRROR frame and applies it at the lane's next position-loop tick. (R459) -/
  | laneMirrorReceive (h : TieHead) (n : Fin 4) (m : LaneMirror)
  /-- COMMAND_MIRROR_RECEIVE: The STANDBY takes a COMMAND frame and executes the packet in shadow. (R462) -/
  | commandMirrorReceive (h : TieHead) (p : Packet)
  /-- POST_MIRROR_RECEIVE: The STANDBY takes a POST frame and records the ESN, CSN and ring indices. (R462) -/
  | postMirrorReceive (h : TieHead) (m : PostMirror)
  /-- SAFETY_FRAME_RECEIVE: A device compares the partner's SAFETY frame with its own STO banks. (R466) -/
  | safetyFrameReceive (h : TieHead) (sto : BitVec 4)
  /-- SAFETY_DIFF: The STO banks of the pair have differed for 8 consecutive safety cycles, and SAFETY_DIFF is set. (R466) -/
  | safetyDiff
  /-- STROBE_RECEIVE: A STROBE frame from the partner issues a snapshot strobe when TIE_IN is set. (R330) -/
  | strobeReceive (h : TieHead)
  /-- BULK_RECEIVE: The STANDBY takes a BULK state copy segment. (R463) -/
  | bulkReceive (h : TieHead) (ws : List (Nat × Word))
  /-- BULK_COPY_COMPLETE: The BULK state copy completes. (R463) -/
  | bulkCopyComplete
  /-- RESIGN_RECEIVE: A RESIGN frame arrives and either makes the partner lost or, with cause RELEASE, sends the device to RESIGNED. (R468) -/
  | resignReceive (h : TieHead) (cause : Fin 8)
  /-- TIE_LINK_UP: 8 consecutive good frames bring the Tie link up. (R456) -/
  | tieLinkUp
  /-- TIE_LINK_DOWN: 4 consecutive discarded frames or 1 µs without a valid character take the Tie link down. (R456) -/
  | tieLinkDown (silent : Bool)
  /-- PARTNER_LOST: Both heartbeat paths are silent for HB_MISS × 5 µs + 1 µs, and the partner is lost. (R468) -/
  | partnerLost
  /-- PAIR_WATCHDOG_EXPIRY: The supervisor has not served the pair watchdog for 2 ms, and the ACTIVE resigns. (R467) -/
  | pairWatchdogExpiry
  /-- PAIR_BOOT_WAIT_EXPIRY: BOOT_WAIT passes in SEEKING with no partner heartbeat, and the device enters ACTIVE_ALONE. (R458) -/
  | pairBootWaitExpiry
  /-- PAIR_DIVERGENCE: An axis diverges from its mirror on 8 consecutive ticks, and the STANDBY leaves STANDBY_READY. (R463) -/
  | pairDivergence (a : Fin 64)
  /-- SWITCHOVER_TICK: At the switch tick of a PAIR_SWITCHOVER the roles change and the legs move to the new ACTIVE. (R471) -/
  | switchoverTick
  /-- PAIR_EN_SET: An applied PAIR_CFG.EN of 1 starts pairing in SEEKING. (R458) -/
  | pairEnSet
  /-- PAIR_EN_CLEAR: An applied PAIR_CFG.EN of 0 ends pairing, sending RESIGN with cause RELEASE from ACTIVE_PAIRED. (R473) -/
  | pairEnClear
  /-- PAIR_STATUS: PAIR_STATUS returns the pair state and the last takeover. (R473) -/
  | pairStatus (p : Packet)
  /-- PAIR_SWITCHOVER: PAIR_SWITCHOVER schedules a planned change of roles. (R471) -/
  | pairSwitchover (p : Packet)
  /-- STORE_WRITE: STORE_WRITE writes an object from staging into a Logbook partition. (R479) -/
  | storeWrite (p : Packet)
  /-- STORE_READ: STORE_READ reads an object into staging. (R496) -/
  | storeRead (p : Packet)
  /-- STORE_ERASE: STORE_ERASE erases objects of a partition. (R496) -/
  | storeErase (p : Packet)
  /-- IMAGE_INSTALL: IMAGE_INSTALL appends to staging, installs a firmware image into a slot or boots it in RECOVERY. (R496) -/
  | imageInstall (p : Packet)
  /-- NAND_SCRUB: The scrub reads its hourly portion of written pages and refreshes or retires blocks. (R484) -/
  | nandScrub (l : List ScrubBlock) (ends unread : Bool)
  /-- WEAR_BUDGET_TICK: Each second the wear governor's budget gains R, up to its depth. (R485) -/
  | wearBudgetTick
  /-- POWER_FAIL: PFIn has been low for PF_FILT, and the island starts the power-fail sequence and the hardware stop generator. (R492) -/
  | powerFail
  /-- JOURNAL_FLUSH: FLUSH_DELAY after the filtered edge the flush engine writes the journal SRAM to its NAND slot. (R492) -/
  | journalFlush (slot : Fin 16) (dur : Nat) (ok : Bool)
  /-- BACKUP_ENTRY: The flush has ended and every stop has completed, or VDD falls, and the island enters BACKUP. (R492) -/
  | backupEntry (vddFell : Bool)
  /-- BACKUP_END: PFIn high and VDD good for 10 ms end BACKUP with a cold reset. (R494) -/
  | backupEnd (straps : Straps)
  /-- VAUX_LOSS: VAUX falls below 3.0 V, and the island switches to VBAK. (R488) -/
  | vauxLoss
  /-- VAUX_RETURN: VAUX has stayed above 3.1 V for 1 ms, and the island switches back to it. (R488) -/
  | vauxReturn
  /-- ISLAND_STOP: The island supply falls below 2.3 V, and the island stops, losing the RTC and the journal SRAM. (R488) -/
  | islandStop
  /-- VBAK_LOW: VBAK falls below BAK_MIN, BAK_OK clears and VBAK_LOW is set. (R497) -/
  | vbakLow
  /-- DEBUG_CHALLENGE: DEBUG_CHALLENGE returns a fresh nonce and SEC_UID. (R509) -/
  | debugChallenge (p : Packet)
  /-- NONCE_EXPIRY: 60 s after issue the nonce expires. (R509) -/
  | nonceExpiry
  /-- UNLOCK_LOCKOUT_END: 60 s after the 8th consecutive failure, DEBUG_CHALLENGE is accepted again. (R510) -/
  | unlockLockoutEnd
  /-- DEBUG_UNLOCK: DEBUG_UNLOCK sets the debug level and the CONFIG permission. (R508) -/
  | debugUnlock (p : Packet)
  /-- KEY_REVOKE: KEY_REVOKE revokes an owner key slot. (R518) -/
  | keyRevoke (p : Packet)
  /-- LIFECYCLE_ADVANCE: LIFECYCLE_ADVANCE moves the lifecycle from OPEN to SECURED or from SECURED to RETURNED. (R501) -/
  | lifecycleAdvance (p : Packet)
  /-- PWR_REQ_RUN: An applied PWR_CTRL.REQ of 0 returns the device from SERVO_OFF to RUN. (R513) -/
  | pwrReqRun
  /-- PWR_REQ_SERVO_OFF: An applied PWR_CTRL.REQ of 1 puts the device into SERVO_OFF. (R514) -/
  | pwrReqServoOff
  /-- PWR_REQ_DOZE: An applied PWR_CTRL.REQ of 2 puts the device into DOZE. (R514) -/
  | pwrReqDoze
  /-- JTAG_IDCODE: The IDCODE instruction selects the identification register. (R512) -/
  | jtagIdcode
  /-- JTAG_SAMPLE_PRELOAD: The SAMPLE/PRELOAD instruction samples or preloads the boundary-scan register. (R512) -/
  | jtagSamplePreload (bits : List Bool)
  /-- JTAG_EXTEST: EXTEST drives the boundary-scan register at FULL in SERVO_OFF, and otherwise acts as BYPASS with JTAG_REFUSED. (R512) -/
  | jtagExtest
  /-- JTAG_CLAMP: CLAMP holds the boundary outputs at FULL in SERVO_OFF, and otherwise acts as BYPASS. (R512) -/
  | jtagClamp
  /-- JTAG_HIGHZ: HIGHZ puts the boundary outputs into high impedance at FULL in SERVO_OFF, and otherwise acts as BYPASS. (R512) -/
  | jtagHighz
  /-- JTAG_DAP: The DAP instruction connects the debug access port at OBSERVE or above. (R512) -/
  | jtagDap
  /-- JTAG_BYPASS: BYPASS selects the bypass register. (R512) -/
  | jtagBypass
  /-- DAP_WRITE: At FULL, a DAP write reaches a REGWIN field or TDSP memory at once and without validation. (R507) -/
  | dapWrite (off : Nat) (w : Word)
  /-- DAP_TD_HALT: At HALT or above, the DAP halts a Transit DSP core. (R507) -/
  | dapTdHalt (c : Fin 4)
  /-- DAP_TD_STEP: At HALT or above, the DAP single-steps a halted Transit DSP core. (R507) -/
  | dapTdStep (c : Fin 4)
  /-- DAP_TD_RESUME: At HALT or above, the DAP resumes a halted Transit DSP core. (R507) -/
  | dapTdResume (c : Fin 4)
  /-- SRAM_ECC_SCRUB: The SRAM ECC scrub reads its next words in idle port cycles. (R520) -/
  | sramEccScrub (w : EccWord) (addr : BitVec 28) (two fg : Bool)
  /-- ECC_WRITE_BACK: In the next idle write cycle, the corrected word is written back unless a foreground write came first. (R523) -/
  | eccWriteBack
  /-- TELEMETRY_SAMPLE: Each millisecond telemetry reads the temperatures and rails and flags rails out of range. (R525) -/
  | telemetrySample (t : Telemetry)
  /-- WEAR_ACCOUNTING: Each second the wear accounting updates, and every 10 min it is written to the journal SRAM. (R520) -/
  | wearAccounting
  /-- ENCODER_LINE_HEALTH: Every 100 ms the rejected edges and the spread of d are written to BG_ENC_e. (R522) -/
  | encoderLineHealth (e : Fin 64) (glitch spread : Nat)
  /-- LOGBOOK_COMPACTION: The compaction task reclaims space in a partition that holds more than 25 % reclaimable space. (R520) -/
  | logbookCompaction (part : Fin 12) (bytes : Nat)
  /-- BACKGROUND_TASK_LATE: A background task has not completed its period, sets its LATE bit and raises source 599. (R521) -/
  | backgroundTaskLate (task : Fin 6)
  /-- THERMAL_WARN: TJ has exceeded 110 °C for 1 ms, and the governor enters WARN. (R526) -/
  | thermalWarn
  /-- THERMAL_THROTTLE: TJ has exceeded 118 °C for 1 ms, and the governor halves the DSP clock and pauses trace and tasks. (R526) -/
  | thermalThrottle
  /-- THERMAL_STOP: TJ has exceeded 125 °C for 1 ms, and the governor stops every axis with the hardware stop generator. (R527) -/
  | thermalStop
  /-- THERMAL_STOEN_HOLD: Once every thermal stop ramp has ended, the governor holds STOEN_A0–STOEN_A3 low. (R527) -/
  | thermalStoenHold
  /-- THERMAL_SHUTDOWN: TJ has exceeded 135 °C for 10 µs, and the device enters a cold reset with cause 4. (R526) -/
  | thermalShutdown (straps : Straps)
  /-- THERMAL_LEVEL_EXIT: TJ falls below a level's exit threshold for its time, and the governor leaves that level. (R526) -/
  | thermalLevelExit
  /-- SUPERVISOR_WATCHDOG_SERVICE: A supervisor core serves its hardware watchdog and increments its counter. (R528) -/
  | supervisorWatchdogService (sup1 : Bool)
  /-- WEDGE: The firmware is found wedged, the hardware records the cause, signals the host and applies ACTION. (R529) -/
  | wedge (c : WedgeCause)
  /-- WEDGE_WARM_RESET: With ACTION 2, once CE_HSG_STATUS.ACTIVE clears, the device starts a warm reset. (R529) -/
  | wedgeWarmReset
  /-- SQUALL_CONFIG: SQUALL_CONFIG configures one Squall injector rule. (R535) -/
  | squallConfig (p : Packet)
  /-- SQUALL_ARM: SQUALL_ARM arms the selected rules and disarms the others. (R535) -/
  | squallArm (p : Packet)
  /-- SQUALL_DURATION_EXPIRY: The arm duration ends, and every rule disarms. (R535) -/
  | squallDurationExpiry
  /-- SELF_TEST: SELF_TEST runs the selected items and reports the pass and fail masks. (R534) -/
  | selfTest (p : Packet)
  /-- PLL_RELOCK: A CAN, Tie or safety A PLL locks again, its LOCK bit sets, and channel A restarts under R449 or the CAN channels may be enabled again. (R22) -/
  | pllRelock (p : Pll)
  /-- FIELD_LOGIC_SUPPLY_RETURN: LPLUS0 or LPLUS2 returns above the logic threshold, and the field die starts with every output off, resumes its frames and channel B starts. (R423) -/
  | fieldLogicSupplyReturn (k : Fin 2)
  /-- MODULATOR_CLOCK_RETURN: A failed SDCK or SDCLK_IN clock returns, and every input on it starts its refill under R184. (R194) -/
  | modulatorClockReturn (k : Fin 21)
  /-- QUADRATURE_EDGE: An edge of A or B passes the glitch filter and the 4x decoder changes the counter, or a simultaneous change sets QERR. (R227) -/
  | quadratureEdge (e : Fin 64) (a b : Bool)
  /-- SWITCHING_SIGNAL_EDGE: The timebase reaches an edge position of S, the opposite output turns off at once and a dead-time turn-on is scheduled. (R202) -/
  | switchingSignalEdge (l : Fin 192) (slope2 : Bool)
  /-- RELOAD_POINT: At position H of an up-down timebase with RPEAK set, each RELOAD leg latches the last value that has arrived. (R207) -/
  | reloadPoint (n : Fin 4) (tb1 : Bool)
  /-- CAN_ARBITRATION: At the end of intermission or from an idle bus, the channel chooses the pending entry to send and starts its frame. (R392) -/
  | canArbitration (c : Fin 2) (stamp : Word)
  /-- CAN_RECEIVE_ERROR: The channel detects a bit, stuff, form, CRC or ACK error while receiving, sets its CAN_ERR bit and updates REC and ERR_STATE. (R389) -/
  | canReceiveError (c : Fin 2) (e : CanErrKind) (more : Bool)
  /-- NAND_OPERATION_COMPLETE: A NAND read, program or erase ends at NAND_RBn, and the Logbook operation commits, retires a failed block or continues. (R479) -/
  | nandOperationComplete (e : NandEnd)
  /-- HOST_LOWER_WORD_READ: A host read of the lower word of a 64-bit register latches the upper word for the next upper-word read by that requester. (R13) -/
  | hostLowerWordRead (x : HostRead)
  /-- MSIX_VECTOR_UNMASK: The host unmasks an MSI-X vector and the device sends the message held pending on it. (R346) -/
  | msixVectorUnmask (v : Fin 64)
  /-- PAIR_HBI_EDGE: An edge arrives at PAIR_HBI, keeping or restoring HB_PIN and restarting that path's loss timer. (R468) -/
  | pairHbiEdge
  /-- HEARTBEAT_PATH_LOST: One heartbeat path alone stays silent for HB_MISS × 5 µs + 1 µs, HB_TIE or HB_PIN clears and a standby leaves STANDBY_READY without takeover. (R468) -/
  | heartbeatPathLost (pin : Bool)
  deriving DecidableEq, Repr

end Sys2Proof
end

