-- ==== Sys2Proof/Decode.lean ====
section
/-!
DEFINITION. The command that a word spells.  No row of spec/opcode_table.json gives a word bits: the commands are packets, doorbell writes and
events, and none of them is spelt by a word of its own, so the answer is none.
-/

namespace Sys2Proof

/-- The command that a word of `nbits` bits spells by the bits of the table: none, since no row gives bits. -/
def decodeTableWord (_nbits _w : Nat) : Option Instr := none

end Sys2Proof
end

