-- ==== Sys2Proof/Config.lean ====
section
/-!
DEFINITION. What an implementation fixes and the values that the spec leaves open.  Every `opaque` constant is a FREE
VALUE: it has no body, so no proof can rest on a particular value of it (assumption log 1).
-/

namespace Sys2Proof.Config

/-- A fresh value where the spec states no value, applied to the counter `Dev.fresh`, which the step advances. -/
opaque freeNat : Nat → Nat

/-- A fresh value of a signed quantity, applied to the counter `Dev.fresh`. -/
opaque freeInt : Nat → Int

/-- A fresh 32-bit value, applied to the counter `Dev.fresh`. -/
opaque freeWord : Nat → Word

/-- A fresh choice between two effects, applied to the counter `Dev.fresh`. -/
opaque freeBool : Nat → Bool

/-- The generator of the Squall injector (R532): the number drawn, by seed and ordinal of the draw; the spec gives no recurrence. -/
opaque squallGen : Nat → Nat → Nat

/-- The SHA-256 hash of the vendor root key that OTP holds (R502); the spec gives no value. -/
opaque vendorHash : BitVec 256

/-- The unique ID of the device, two 64-bit registers (SEC_UID); the spec gives no value. -/
opaque uid : Nat → BitVec 64

/-- The JEDEC manufacturer code in IDCODE (R512); the spec gives no value. -/
opaque jedecId : BitVec 11

end Sys2Proof.Config
end

