-- ==== Sys2Proof/Machine/RegTable.lean ====
section
/-!
DEFINITION. The register table of REGWIN as data (R7, R31, R566): for each register its first offset, its two strides
and counts, whether it has 64 bits, the mask of its fields under each access code, and its reset word.
The rows follow the register tables of the chapters of spec/, in their order.
-/

namespace Sys2Proof.Machine

def regRows0 : List RegRow := [
  ⟨0x10, 0x0, 1, 0x0, 1, false, 0x0, 0x0, 0x0, 0x0, 0x0, 0x0⟩,  -- SYS_BOOT_STATUS
  ⟨0x18, 0x0, 1, 0x0, 1, false, 0x0, 0x0, 0x33F00, 0x0, 0x0, 0x0⟩,  -- SYS_CLOCK_STATUS
  ⟨0x40, 0x0, 1, 0x0, 1, true, 0x0, 0x0, 0x0, 0x0, 0x0, 0x0⟩,  -- SYS_TIME
  ⟨0x80, 0x10, 4, 0x0, 1, false, 0x8000FFFF, 0x0, 0x0, 0x0, 0x0, 0x80000000⟩,  -- SYS_TICK_CTRL_n
  ⟨0x88, 0x10, 4, 0x0, 1, false, 0x0, 0x0, 0x0, 0x0, 0x0, 0x0⟩,  -- SYS_TICK_STATUS_n
  ⟨0xC0, 0x8, 4, 0x0, 1, true, 0x0, 0x0, 0x0, 0x0, 0x0, 0x0⟩,  -- SYS_TICK_COUNT_n
  ⟨0x100, 0x0, 1, 0x0, 1, false, 0x0, 0x0, 0x0, 0x0, 0xFFFF, 0x0⟩,  -- SYS_RESET_DOORBELL
  ⟨0x1000, 0x0, 1, 0x0, 1, true, 0x0, 0x0, 0x0, 0x0, 0xFFFFFFFFFFFFFFC0, 0x0⟩,  -- CMDQ_ATTACH_DOORBELL
  ⟨0x1010, 0x4, 4, 0x0, 1, false, 0x0, 0x0, 0x0, 0x0, 0xFFFF, 0x0⟩,  -- CMDQ_DOORBELL_q
  ⟨0x1020, 0x0, 1, 0x0, 1, false, 0x0, 0x0, 0x0, 0x0, 0xFFFF, 0x0⟩,  -- CMDQ_REPLY_DOORBELL
  ⟨0x1024, 0x0, 1, 0x0, 1, false, 0x0, 0x0, 0x0, 0x0, 0xFFFF, 0x0⟩,  -- CMDQ_EVENT_DOORBELL
  ⟨0x1100, 0x0, 1, 0x0, 1, false, 0x0, 0x0, 0x0, 0x0, 0x0, 0x0⟩,  -- CMDQ_SESSION
  ⟨0x1110, 0x10, 4, 0x0, 1, false, 0x0, 0x0, 0x0, 0x0, 0x0, 0x0⟩,  -- CMDQ_ACCEPTED_q
  ⟨0x1114, 0x10, 4, 0x0, 1, false, 0x0, 0x0, 0x0, 0x0, 0x0, 0x0⟩,  -- CMDQ_COMPLETED_q
  ⟨0x1118, 0x10, 4, 0x0, 1, false, 0x0, 0x0, 0x0, 0x0, 0x0, 0x0⟩,  -- CMDQ_FETCH_q
  ⟨0x1200, 0x0, 1, 0x0, 1, false, 0x0, 0x0, 0x0, 0x0, 0x0, 0x0⟩,  -- CMDQ_ESN
  ⟨0x1204, 0x0, 1, 0x0, 1, false, 0x0, 0x0, 0x0, 0x0, 0x0, 0x0⟩,  -- CMDQ_ESN_OLDEST
  ⟨0x1210, 0x0, 1, 0x0, 1, false, 0x0, 0x0, 0x0, 0x0, 0x0, 0x0⟩,  -- CMDQ_ERRORS
  ⟨0x10000, 0x800, 64, 0x0, 1, false, 0x83FFFFFF, 0x0, 0x0, 0x0, 0x0, 0x0⟩,  -- AXIS_BIND
  ⟨0x10004, 0x800, 64, 0x0, 1, false, 0xFFFFFFFF, 0x0, 0x0, 0x0, 0x0, 0xFFFFFFFF⟩,  -- AXIS_BIND_IN
  ⟨0x10008, 0x800, 64, 0x0, 1, false, 0xFFFFFFFF, 0x0, 0x0, 0x0, 0x0, 0x0⟩,  -- AXIS_COMMUT
  ⟨0x1000C, 0x800, 64, 0x0, 1, false, 0xC0FFFFFF, 0x0, 0x0, 0x0, 0x0, 0x0⟩,  -- AXIS_COMM_CFG
  ⟨0x10010, 0x800, 64, 0x0, 1, true, 0xFFFFFFFFFFFFFFFF, 0x0, 0x0, 0x0, 0x0, 0x0⟩,  -- AXIS_COMM_OFFSET
  ⟨0x10020, 0x800, 64, 0x0, 1, true, 0xFFFFFFFFFFFFFFFF, 0x0, 0x0, 0x0, 0x0, 0x0⟩,  -- AXIS_DECEL_NORMAL
  ⟨0x10028, 0x800, 64, 0x0, 1, true, 0xFFFFFFFFFFFFFFFF, 0x0, 0x0, 0x0, 0x0, 0x0⟩,  -- AXIS_DECEL_QUICK
  ⟨0x10030, 0x800, 64, 0x0, 1, false, 0xFFFFBFFF, 0x0, 0x0, 0x0, 0x0, 0x0⟩,  -- AXIS_REACT
  ⟨0x10038, 0x800, 64, 0x0, 1, false, 0xFCFFFFFF, 0x0, 0x0, 0x0, 0x0, 0x0⟩,  -- AXIS_HOME_CFG
  ⟨0x10040, 0x800, 64, 0x0, 1, true, 0xFFFFFFFFFFFFFFFF, 0x0, 0x0, 0x0, 0x0, 0x0⟩,  -- AXIS_HOME_VEL
  ⟨0x10048, 0x800, 64, 0x0, 1, true, 0xFFFFFFFFFFFFFFFF, 0x0, 0x0, 0x0, 0x0, 0x0⟩,  -- AXIS_HOME_OFFSET
  ⟨0x10050, 0x800, 64, 0x0, 1, true, 0x0, 0x0, 0x0, 0x0, 0x0, 0x0⟩,  -- AXIS_COMM_MEAS
  ⟨0x10100, 0x800, 64, 0x0, 1, false, 0x0, 0x0, 0x0, 0x0, 0x0, 0x0⟩,  -- AXIS_STATUS
  ⟨0x10104, 0x800, 64, 0x0, 1, false, 0x0, 0x0, 0x0, 0x0, 0x0, 0x0⟩,  -- AXIS_FAULT
  ⟨0x30000, 0x0, 1, 0x0, 1, false, 0x0, 0x0, 0x0, 0x0, 0x0, 0x10000000⟩,  -- INTERP_POOL
  ⟨0x30008, 0x0, 1, 0x0, 1, true, 0x0, 0x0, 0x0, 0x0, 0x0, 0x0⟩,  -- INTERP_SYNC
  ⟨0x31000, 0x100, 16, 0x0, 1, true, 0xFFFFFFFFFFFFFFFF, 0x0, 0x0, 0x0, 0x0, 0xFFFFFFFFFFFFFFFF⟩  -- INTERP_GRP_MEMBERS
  ]

def regRows1 : List RegRow := [
  ⟨0x31008, 0x100, 16, 0x0, 1, false, 0x1FFFFFF, 0x0, 0x0, 0x0, 0x0, 0x1000000⟩,  -- INTERP_GRP_CFG
  ⟨0x31010, 0x100, 16, 0x4, 8, false, 0xFFFFFFFF, 0x0, 0x0, 0x0, 0x0, 0x0⟩,  -- INTERP_GRP_SCALE_i
  ⟨0x31030, 0x100, 16, 0x0, 1, false, 0xFFFFFFFF, 0x0, 0x0, 0x0, 0x0, 0x642710⟩,  -- INTERP_GRP_OVR
  ⟨0x31038, 0x100, 16, 0x0, 1, true, 0xFFFFFFFFFFFFFFFF, 0x0, 0x0, 0x0, 0x0, 0x0⟩,  -- INTERP_GRP_TOL
  ⟨0x31040, 0x100, 16, 0x0, 1, false, 0x0, 0x0, 0x0, 0x0, 0x0, 0x0⟩,  -- INTERP_GRP_STATUS
  ⟨0x31044, 0x100, 16, 0x0, 1, false, 0x0, 0x0, 0x0, 0x0, 0x0, 0x0⟩,  -- INTERP_GRP_FILL
  ⟨0x31048, 0x100, 16, 0x0, 1, false, 0x0, 0x0, 0x3F, 0x0, 0x0, 0x0⟩,  -- INTERP_GRP_EVENT
  ⟨0x32000, 0x20, 64, 0x0, 1, true, 0xFFFFFFFFFFFFFFFF, 0x0, 0x0, 0x0, 0x0, 0x0⟩,  -- INTERP_AXLIM_VMAX
  ⟨0x32008, 0x20, 64, 0x0, 1, true, 0xFFFFFFFFFFFFFFFF, 0x0, 0x0, 0x0, 0x0, 0x0⟩,  -- INTERP_AXLIM_AMAX
  ⟨0x32010, 0x20, 64, 0x0, 1, true, 0xFFFFFFFFFFFFFFFF, 0x0, 0x0, 0x0, 0x0, 0x0⟩,  -- INTERP_AXLIM_JMAX
  ⟨0x33000, 0x10, 64, 0x0, 1, false, 0x0, 0x0, 0x0, 0x0, 0x0, 0x0⟩,  -- INTERP_FOLLOW_STATUS
  ⟨0x34000, 0x20, 8, 0x0, 1, true, 0xFFFFFFFFFFFFFFFF, 0x0, 0x0, 0x0, 0x0, 0x0⟩,  -- INTERP_VM_VEL
  ⟨0x34008, 0x20, 8, 0x0, 1, true, 0xFFFFFFFFFFFFFFFF, 0x0, 0x0, 0x0, 0x0, 0x0⟩,  -- INTERP_VM_ACC
  ⟨0x34010, 0x20, 8, 0x0, 1, true, 0x0, 0x0, 0x0, 0x0, 0x0, 0x0⟩,  -- INTERP_VM_POS
  ⟨0x35000, 0x10, 64, 0x0, 1, false, 0xDFFF0FFF, 0x0, 0x0, 0x0, 0x0, 0x0⟩,  -- INTERP_CAM_PROF
  ⟨0x35008, 0x10, 64, 0x0, 1, true, 0xFFFFFFFFFFFFFFFF, 0x0, 0x0, 0x0, 0x0, 0x0⟩,  -- INTERP_CAM_LEN
  ⟨0x30010, 0x0, 1, 0x0, 1, true, 0xFFFFFFFFFFFFFFFF, 0x0, 0x0, 0x0, 0x0, 0x1000000⟩,  -- INTERP_ENGAGE_TOL
  ⟨0x36000, 0x20, 8, 0x0, 1, false, 0xFFFFFFFF, 0x0, 0x0, 0x0, 0x0, 0x0⟩,  -- INTERP_GANTRY_CFG
  ⟨0x36004, 0x20, 8, 0x0, 1, false, 0xFFFFFFFF, 0x0, 0x0, 0x0, 0x0, 0x0⟩,  -- INTERP_GANTRY_LIMIT
  ⟨0x36008, 0x20, 8, 0x0, 1, true, 0xFFFFFFFFFFFFFFFF, 0x0, 0x0, 0x0, 0x0, 0x0⟩,  -- INTERP_GANTRY_OFFSET
  ⟨0x36010, 0x20, 8, 0x0, 1, true, 0x0, 0x0, 0x0, 0x0, 0x0, 0x0⟩,  -- INTERP_GANTRY_YAW
  ⟨0x40000, 0x10, 4096, 0x0, 1, true, 0xFFFFFFFFFFFFFFFF, 0x0, 0x0, 0x0, 0x0, 0x0⟩,  -- CAM_Y_i
  ⟨0x40008, 0x10, 4096, 0x0, 1, true, 0xFFFFFFFFFFFFFFFF, 0x0, 0x0, 0x0, 0x0, 0x0⟩,  -- CAM_S_i
  ⟨0x50000, 0x100, 4, 0x0, 1, false, 0xF07, 0x0, 0x0, 0x0, 0x0, 0x3⟩,  -- CE_LANE_CFG_n
  ⟨0x50004, 0x100, 4, 0x0, 1, false, 0x0, 0x0, 0x0, 0x0, 0x0, 0x4⟩,  -- CE_LANE_STATUS_n
  ⟨0x50008, 0x100, 4, 0x0, 1, false, 0x0, 0x0, 0x0, 0x0, 0x0, 0x0⟩,  -- CE_LANE_LOAD_n
  ⟨0x5000C, 0x100, 4, 0x0, 1, false, 0x0, 0x0, 0x3, 0x0, 0x0, 0x0⟩,  -- CE_LANE_EVENT_n
  ⟨0x50010, 0x100, 4, 0x0, 1, false, 0x0, 0x0, 0x0, 0x0, 0x0, 0x0⟩,  -- CE_LANE_OVR_COUNT_n
  ⟨0x50800, 0x0, 1, 0x0, 1, false, 0x0, 0x0, 0x0, 0x0, 0x0, 0x0⟩,  -- CE_HSG_STATUS
  ⟨0x50808, 0x0, 1, 0x0, 1, true, 0x0, 0x0, 0x0, 0x0, 0x0, 0x0⟩,  -- CE_HSG_TIME
  ⟨0x58000, 0x200, 64, 0x0, 1, false, 0x6FB, 0x0, 0x0, 0x0, 0x0, 0x0⟩,  -- CE_AX_CFG
  ⟨0x58004, 0x200, 64, 0x0, 1, false, 0xFF1F, 0x0, 0x0, 0x0, 0x0, 0x200⟩,  -- CE_AX_HOOK
  ⟨0x58008, 0x200, 64, 0x0, 1, false, 0xFFFFFFFF, 0x0, 0x0, 0x0, 0x0, 0x1000000⟩,  -- CE_AX_FE
  ⟨0x5800C, 0x200, 64, 0x0, 1, false, 0xFFFF, 0x0, 0x0, 0x0, 0x0, 0x0⟩,  -- CE_AX_ADV
  ⟨0x58010, 0x200, 64, 0x0, 1, false, 0xF, 0x0, 0x0, 0x0, 0x0, 0x0⟩  -- CE_AX_NOTCH_CFG
  ]

def regRows2 : List RegRow := [
  ⟨0x58040, 0x200, 64, 0x4, 27, false, 0xFFFFFFFF, 0x0, 0x0, 0x0, 0x0, 0x0⟩,  -- CE_AX_PARAM_k
  ⟨0x580C0, 0x200, 64, 0x4, 10, false, 0xFFFFFFFF, 0x0, 0x0, 0x0, 0x0, 0x0⟩,  -- CE_AX_NOTCHP_j
  ⟨0x58100, 0x200, 64, 0x0, 1, false, 0x0, 0x0, 0x0, 0x0, 0x0, 0x0⟩,  -- CE_AX_STATUS
  ⟨0x58104, 0x200, 64, 0x0, 1, false, 0x0, 0x0, 0x0, 0x0, 0x0, 0x0⟩,  -- CE_AX_DELAY
  ⟨0x58180, 0x200, 64, 0x4, 16, false, 0x0, 0x0, 0x0, 0x0, 0x0, 0x0⟩,  -- CE_AX_SIG_k
  ⟨0x70000, 0x0, 1, 0x0, 1, false, 0x807F001F, 0x0, 0x0, 0x0, 0x0, 0x140000⟩,  -- CFE_CLK_CFG
  ⟨0x70004, 0x0, 1, 0x0, 1, false, 0x0, 0x0, 0x800FFFFF, 0x0, 0x0, 0x0⟩,  -- CFE_CLK_STATUS
  ⟨0x70040, 0x4, 20, 0x0, 1, false, 0x807F001F, 0x0, 0x0, 0x0, 0x0, 0x140000⟩,  -- CFE_SDCK_CFG_k
  ⟨0x70100, 0x10, 4, 0x0, 1, false, 0x800000FF, 0x0, 0x0, 0x0, 0x0, 0x0⟩,  -- CFE_BANK_CAL_n
  ⟨0x70104, 0x10, 4, 0x0, 1, false, 0xFFFFFF, 0x0, 0x0, 0x0, 0x0, 0x0⟩,  -- CFE_BANK_REF_n
  ⟨0x70108, 0x10, 4, 0x0, 1, false, 0x0, 0x0, 0x0, 0x0, 0x0, 0x3F800000⟩,  -- CFE_BANK_GAIN_n
  ⟨0x7010C, 0x10, 4, 0x0, 1, false, 0x0, 0x0, 0x0, 0x0, 0x0, 0x0⟩,  -- CFE_BANK_AGE_n
  ⟨0x71000, 0x20, 160, 0x0, 1, false, 0xFFFFE300, 0x0, 0x0, 0x0, 0x0, 0x2000200⟩,  -- CFE_SD_CFG
  ⟨0x71004, 0x20, 160, 0x0, 1, false, 0xFFFFFFFF, 0x0, 0x0, 0x0, 0x0, 0x7FFF8000⟩,  -- CFE_SD_OC
  ⟨0x71008, 0x20, 160, 0x0, 1, false, 0xFFFFFFFF, 0x0, 0x0, 0x0, 0x0, 0x7FFF8000⟩,  -- CFE_SD_RANGE
  ⟨0x7100C, 0x20, 160, 0x0, 1, false, 0xFFFFFFFF, 0x0, 0x0, 0x0, 0x0, 0x3F800000⟩,  -- CFE_SD_GAIN
  ⟨0x71010, 0x20, 160, 0x0, 1, false, 0x0, 0x0, 0x0, 0x0, 0x0, 0x0⟩,  -- CFE_SD_OFFSET
  ⟨0x71014, 0x20, 160, 0x0, 1, false, 0x0, 0x0, 0x0, 0x0, 0x0, 0x0⟩,  -- CFE_SD_VALUE
  ⟨0x71018, 0x20, 160, 0x0, 1, false, 0x0, 0x0, 0x7F, 0x0, 0x0, 0x0⟩,  -- CFE_SD_STATUS
  ⟨0x60000, 0x40, 4, 0x0, 1, false, 0xF807FFFF, 0x0, 0x0, 0x0, 0x0, 0x9C40⟩,  -- PWM_BANK_CFG_n
  ⟨0x60004, 0x40, 4, 0x0, 1, false, 0x0, 0x0, 0x0, 0x0, 0x0, 0x0⟩,  -- PWM_BANK_STATUS_n
  ⟨0x60008, 0x40, 4, 0x0, 1, false, 0x0, 0x0, 0x0, 0x0, 0x0, 0x0⟩,  -- PWM_BANK_POS_n
  ⟨0x60400, 0x8, 68, 0x0, 1, false, 0xE000FFFF, 0x0, 0x0, 0x0, 0x0, 0x0⟩,  -- PWM_TRIP_CFG_t
  ⟨0x60404, 0x8, 68, 0x0, 1, false, 0x0, 0x0, 0x10000, 0x0, 0x0, 0x0⟩,  -- PWM_TRIP_STATUS_t
  ⟨0x61000, 0x20, 192, 0x0, 1, false, 0x7FFFFFFF, 0x0, 0x0, 0x0, 0x0, 0xFF0000⟩,  -- PWM_LEG_CFG
  ⟨0x61004, 0x20, 192, 0x0, 1, false, 0x7FF07FF, 0x0, 0x0, 0x0, 0x0, 0xC800C8⟩,  -- PWM_LEG_DT
  ⟨0x61008, 0x20, 192, 0x0, 1, false, 0xFFFFFF, 0x0, 0x0, 0x0, 0x0, 0x0⟩,  -- PWM_LEG_CMP
  ⟨0x6100C, 0x20, 192, 0x0, 1, false, 0x0, 0x0, 0x0, 0x0, 0x0, 0x20000000⟩,  -- PWM_LEG_ACT
  ⟨0x61010, 0x20, 192, 0x0, 1, false, 0x0, 0x0, 0x0, 0x0, 0x0, 0x0⟩,  -- PWM_LEG_COUNT
  ⟨0x80000, 0x40, 64, 0x0, 1, false, 0xFFFFC0F0, 0x0, 0x0, 0x0, 0x0, 0x20000⟩,  -- ENC_CFG
  ⟨0x80004, 0x40, 64, 0x0, 1, false, 0xFFFFFFF0, 0x0, 0x0, 0x0, 0x0, 0x2800000⟩,  -- ENC_SER
  ⟨0x80008, 0x40, 64, 0x0, 1, false, 0xFFFFF800, 0x0, 0x0, 0x0, 0x0, 0x0⟩,  -- ENC_CRC
  ⟨0x8000C, 0x40, 64, 0x0, 1, false, 0xFFFFFFFF, 0x0, 0x0, 0x0, 0x0, 0x4000⟩,  -- ENC_TIMING
  ⟨0x80010, 0x40, 64, 0x0, 1, false, 0xFFFF03FF, 0x0, 0x0, 0x0, 0x0, 0x0⟩,  -- ENC_DLY
  ⟨0x80014, 0x40, 64, 0x0, 1, false, 0xFFFFFFFF, 0x0, 0x0, 0x0, 0x0, 0x0⟩  -- ENC_MAXDELTA
  ]

def regRows3 : List RegRow := [
  ⟨0x80018, 0x40, 64, 0x0, 1, true, 0x0, 0x0, 0x0, 0x0, 0x0, 0x0⟩,  -- ENC_POS
  ⟨0x80020, 0x40, 64, 0x0, 1, true, 0x0, 0x0, 0x0, 0x0, 0x0, 0x0⟩,  -- ENC_TIME
  ⟨0x80028, 0x40, 64, 0x0, 1, true, 0x0, 0x0, 0x0, 0x0, 0x0, 0x0⟩,  -- ENC_ZPOS
  ⟨0x80030, 0x40, 64, 0x0, 1, false, 0x0, 0x0, 0x3FF, 0x0, 0x0, 0x0⟩,  -- ENC_STATUS
  ⟨0x81000, 0x20, 16, 0x0, 1, false, 0xF0000007, 0x0, 0x0, 0x0, 0x0, 0x0⟩,  -- FIX_CFG
  ⟨0x81004, 0x20, 16, 0x0, 1, false, 0xFFFFFFFF, 0x0, 0x0, 0x0, 0x0, 0x0⟩,  -- FIX_OFS
  ⟨0x81008, 0x20, 16, 0x0, 1, false, 0x0, 0x0, 0x0, 0x0, 0x0, 0x0⟩,  -- FIX_STATUS
  ⟨0x88000, 0x400, 16, 0x0, 1, false, 0x0, 0x0, 0x0, 0x0, 0x0, 0x0⟩,  -- FIX_REC_HDR
  ⟨0x88008, 0x400, 16, 0x0, 1, true, 0x0, 0x0, 0x0, 0x0, 0x0, 0x0⟩,  -- FIX_REC_STAMP
  ⟨0x88010, 0x400, 16, 0x0, 1, true, 0x0, 0x0, 0x0, 0x0, 0x0, 0x0⟩,  -- FIX_REC_VALID
  ⟨0x88020, 0x400, 16, 0x8, 64, true, 0x0, 0x0, 0x0, 0x0, 0x0, 0x0⟩,  -- FIX_REC_POS_a
  ⟨0x82000, 0x20, 16, 0x0, 1, false, 0xF83FFFFF, 0x0, 0x0, 0x0, 0x0, 0x2⟩,  -- PCO_CFG
  ⟨0x82004, 0x20, 16, 0x0, 1, false, 0x3FF07FF, 0x0, 0x0, 0x0, 0x0, 0x1⟩,  -- PCO_LIST
  ⟨0x82008, 0x20, 16, 0x0, 1, false, 0x0, 0x0, 0x0, 0x0, 0x0, 0x0⟩,  -- PCO_STATUS
  ⟨0x84000, 0x8, 1024, 0x0, 1, true, 0xFFFFFFFFFFFFFFFF, 0x0, 0x0, 0x0, 0x0, 0x0⟩,  -- COMPARE_j
  ⟨0x27F000, 0x80000, 4, 0x0, 1, false, 0xC0000000, 0x0, 0x0, 0x0, 0x0, 0x0⟩,  -- TD_CTRL
  ⟨0x27F004, 0x80000, 4, 0x0, 1, false, 0x0, 0x0, 0x0, 0x0, 0x0, 0x80000000⟩,  -- TD_STATUS
  ⟨0x27F008, 0x80000, 4, 0x0, 1, false, 0x0, 0x0, 0x3E, 0x0, 0x0, 0x0⟩,  -- TD_FAULT
  ⟨0x27F00C, 0x80000, 4, 0x0, 1, false, 0x0, 0x0, 0x0, 0x0, 0x0, 0x0⟩,  -- TD_FAULT_PC
  ⟨0x27F040, 0x80000, 4, 0x4, 8, false, 0xFFFFFFFF, 0x0, 0x0, 0x0, 0x0, 0x0⟩,  -- TD_TRIG_k
  ⟨0x27F060, 0x80000, 4, 0x0, 1, false, 0x0, 0x0, 0x0, 0x0, 0x0, 0x0⟩,  -- TD_TRIG_STATUS
  ⟨0x27F064, 0x80000, 4, 0x0, 1, false, 0x0, 0x0, 0x0, 0x0, 0x0, 0x0⟩,  -- TD_RUNTIME
  ⟨0x27F068, 0x80000, 4, 0x0, 1, false, 0x0, 0x0, 0x0, 0x0, 0x0, 0x0⟩,  -- TD_STALLS
  ⟨0x27F06C, 0x80000, 4, 0x0, 1, false, 0x0, 0x0, 0x0, 0x0, 0x0, 0x0⟩,  -- TD_IMAGE
  ⟨0x27F080, 0x80000, 4, 0x4, 16, false, 0xFFFFFFFF, 0x0, 0x0, 0x0, 0x0, 0x3F800000⟩,  -- TD_SIGSCALE_k
  ⟨0x27F100, 0x80000, 4, 0x8, 5, true, 0x0, 0x0, 0x0, 0x0, 0x0, 0x0⟩,  -- TD_HOOK_MASK_h
  ⟨0x90000, 0x0, 1, 0x0, 1, false, 0x0, 0x0, 0x0, 0xF, 0x0, 0x0⟩,  -- TRACE_CTRL
  ⟨0x90004, 0x0, 1, 0x0, 1, false, 0x0, 0x0, 0x3, 0x0, 0x0, 0x0⟩,  -- TRACE_STATUS
  ⟨0x90008, 0x0, 1, 0x0, 1, false, 0xC007FFFF, 0x0, 0x0, 0x0, 0x0, 0x0⟩,  -- TRACE_CFG
  ⟨0x9000C, 0x0, 1, 0x0, 1, false, 0xE0FFFFFF, 0x0, 0x0, 0x0, 0x0, 0x0⟩,  -- TRACE_CLK
  ⟨0x90010, 0x0, 1, 0x0, 1, false, 0xFFFFFFFF, 0x0, 0x0, 0x0, 0x0, 0x0⟩,  -- TRACE_POST
  ⟨0x90014, 0x0, 1, 0x0, 1, false, 0xE000FFFF, 0x0, 0x0, 0x0, 0x0, 0x0⟩,  -- TRACE_TRIG_CFG
  ⟨0x90018, 0x0, 1, 0x0, 1, true, 0x0, 0x0, 0x0, 0x0, 0x0, 0x0⟩,  -- TRACE_PTR
  ⟨0x90020, 0x0, 1, 0x0, 1, false, 0x0, 0x0, 0x0, 0x0, 0x0, 0x0⟩,  -- TRACE_GEOM
  ⟨0x90028, 0x0, 1, 0x0, 1, true, 0x0, 0x0, 0x0, 0x0, 0x0, 0x0⟩  -- TRACE_TRIG
  ]

def regRows4 : List RegRow := [
  ⟨0x90030, 0x0, 1, 0x0, 1, false, 0x0, 0x0, 0x0, 0x0, 0x0, 0x0⟩,  -- TRACE_TRIG_SRC
  ⟨0x90038, 0x0, 1, 0x0, 1, true, 0x0, 0x0, 0x0, 0x0, 0x0, 0x0⟩,  -- TRACE_T0
  ⟨0x90040, 0x0, 1, 0x0, 1, true, 0x0, 0x0, 0x0, 0x0, 0x0, 0x0⟩,  -- TRACE_TRIG_TIME
  ⟨0x90048, 0x0, 1, 0x0, 1, true, 0x0, 0x0, 0x0, 0x0, 0x0, 0x0⟩,  -- TRACE_COUNTS
  ⟨0x90050, 0x0, 1, 0x0, 1, false, 0x0, 0xFFFFF, 0x0, 0x0, 0x0, 0x0⟩,  -- TRACE_RDPTR
  ⟨0x90054, 0x0, 1, 0x0, 1, false, 0xBFBFBFBF, 0x0, 0x0, 0x0, 0x0, 0x0⟩,  -- TRACE_MASK_CFG
  ⟨0x90058, 0x0, 1, 0x0, 1, false, 0x83FFFFFF, 0x0, 0x0, 0x0, 0x0, 0x0⟩,  -- TRACE_MASK_SPAN
  ⟨0x90100, 0x4, 64, 0x0, 1, false, 0xC0000FFF, 0x0, 0x0, 0x0, 0x0, 0x0⟩,  -- TRACE_CH_j
  ⟨0x90200, 0x10, 8, 0x0, 1, false, 0xFBFF003F, 0x0, 0x0, 0x0, 0x0, 0x0⟩,  -- TRACE_CMP_CFG_c
  ⟨0x90208, 0x10, 8, 0x0, 1, true, 0xFFFFFFFFFFFFFFFF, 0x0, 0x0, 0x0, 0x0, 0x0⟩,  -- TRACE_CMP_VAL_c
  ⟨0x90800, 0x0, 1, 0x0, 1, false, 0xFF000000, 0x0, 0x0, 0x0, 0x0, 0x0⟩,  -- SNAP_CFG
  ⟨0x90808, 0x0, 1, 0x0, 1, true, 0xFFFFFFFFFFFFFFFF, 0x0, 0x0, 0x0, 0x0, 0x0⟩,  -- SNAP_AXMASK
  ⟨0x90810, 0x0, 1, 0x0, 1, false, 0x0, 0x0, 0xF0000, 0x0, 0x0, 0x0⟩,  -- SNAP_STATUS
  ⟨0xA0000, 0x4, 8192, 0x0, 1, false, 0xFFFFFFFF, 0x0, 0x0, 0x0, 0x0, 0x0⟩,  -- TRACE_MASK_e
  ⟨0x130000, 0x2000, 4, 0x0, 1, false, 0x0, 0x0, 0x0, 0x0, 0x0, 0x0⟩,  -- SNAP_HDR
  ⟨0x130004, 0x2000, 4, 0x0, 1, false, 0x0, 0x0, 0x0, 0x0, 0x0, 0x0⟩,  -- SNAP_CAUSE
  ⟨0x130008, 0x2000, 4, 0x0, 1, true, 0x0, 0x0, 0x0, 0x0, 0x0, 0x0⟩,  -- SNAP_TIME
  ⟨0x2000, 0x4, 640, 0x0, 1, false, 0xE7003F0F, 0x0, 0x0, 0x0, 0x0, 0xF⟩,  -- EVR_SRC_CFG_s
  ⟨0x2C00, 0x4, 6, 0x0, 1, false, 0x870003FF, 0x0, 0x0, 0x0, 0x0, 0x5000064⟩,  -- EVR_TGT_CFG_t
  ⟨0x2C20, 0x4, 68, 0x0, 1, false, 0x3FF00FF, 0x0, 0x0, 0x0, 0x0, 0x1⟩,  -- EVR_MOD_u
  ⟨0x2D40, 0x8, 2, 0x0, 1, true, 0xFFFFFFFFFFFFFFFF, 0x0, 0x0, 0x0, 0x0, 0x0⟩,  -- EVR_PIN_MASK_k
  ⟨0x2E00, 0x4, 40, 0x0, 1, false, 0x0, 0x0, 0x0, 0x0, 0x0, 0x0⟩,  -- EVR_STATE_w
  ⟨0x2EC0, 0x0, 1, 0x0, 1, true, 0x0, 0x0, 0xFFFFFFFFFFFF, 0x0, 0x0, 0x0⟩,  -- EVR_WAKE_LATCH
  ⟨0x2EC8, 0x0, 1, 0x0, 1, true, 0x0, 0x0, 0x0, 0x0, 0x0, 0x0⟩,  -- EVR_COUNTS
  ⟨0x2ED0, 0x0, 1, 0x0, 1, false, 0x0, 0x0, 0x0, 0x0, 0x0, 0x0⟩,  -- EVR_LAST
  ⟨0x2F00, 0x0, 1, 0x0, 1, false, 0x0, 0x0, 0x0, 0x0, 0x3FF, 0x0⟩,  -- EVR_HOST_COMPLETE
  ⟨0x2F04, 0x0, 1, 0x0, 1, false, 0x0, 0x1, 0x0, 0x0, 0x0, 0x0⟩,  -- EVR_HOST_IDLE
  ⟨0xB0000, 0x0, 1, 0x0, 1, false, 0xFC00FFFF, 0x0, 0x0, 0x0, 0x0, 0xF8000000⟩,  -- TRV_CFG
  ⟨0xB0004, 0x0, 1, 0x0, 1, false, 0x7F03FF, 0x0, 0x0, 0x0, 0x0, 0x103E8⟩,  -- TRV_CYCLE
  ⟨0xB0008, 0x0, 1, 0x0, 1, false, 0xFFFFF0FF, 0x0, 0x0, 0x0, 0x0, 0x4B324011⟩,  -- TRV_TIMING
  ⟨0xB0010, 0x4, 4, 0x0, 1, false, 0xFFFF, 0x0, 0x0, 0x0, 0x0, 0x0⟩,  -- TRV_PROP_r
  ⟨0xB0040, 0x0, 1, 0x0, 1, false, 0x0, 0x0, 0x0, 0x0, 0x0, 0x300000⟩,  -- TRV_STATUS
  ⟨0xB0044, 0x0, 1, 0x0, 1, false, 0x0, 0x0, 0x0, 0x0, 0x0, 0x0⟩,  -- TRV_CYCLE_COUNT
  ⟨0xB0048, 0x0, 1, 0x0, 1, true, 0x0, 0x0, 0x0, 0x0, 0x0, 0x0⟩,  -- TRV_SYNC
  ⟨0xB0050, 0x0, 1, 0x0, 1, true, 0x0, 0x0, 0x0, 0x0, 0x0, 0x0⟩  -- TRV_STEP
  ]

def regRows5 : List RegRow := [
  ⟨0xB0058, 0x0, 1, 0x0, 1, false, 0x0, 0x0, 0x3FF, 0x0, 0x0, 0x0⟩,  -- TRV_ERR
  ⟨0xB0060, 0x0, 1, 0x0, 1, true, 0x0, 0x0, 0x0, 0x0, 0x0, 0x0⟩,  -- TRV_COUNTS
  ⟨0xB0080, 0x0, 1, 0x0, 1, true, 0xFFFFFFFFFFFFFFFF, 0x0, 0x0, 0x0, 0x0, 0x0⟩,  -- TRV_FLAG_OWN
  ⟨0xB0088, 0x0, 1, 0x0, 1, true, 0xFFFFFFFFFFFFFFFF, 0x0, 0x0, 0x0, 0x0, 0x0⟩,  -- TRV_TX_FLAGS
  ⟨0xB0090, 0x0, 1, 0x0, 1, true, 0x0, 0x0, 0x0, 0x0, 0x0, 0x0⟩,  -- TRV_RX_FLAGS
  ⟨0xB0400, 0x8, 64, 0x0, 1, false, 0xFFFFEFF0, 0x0, 0x0, 0x0, 0x0, 0x0⟩,  -- TRV_SLOT_j
  ⟨0xB0404, 0x8, 64, 0x0, 1, false, 0xFFF80000, 0x0, 0x0, 0x0, 0x0, 0x0⟩,  -- TRV_SLOT_X_j
  ⟨0xB0800, 0x4, 8, 0x0, 1, false, 0xFF1F003F, 0x0, 0x0, 0x0, 0x0, 0x0⟩,  -- TRV_POS_TX_k
  ⟨0xB0900, 0x4, 32, 0x0, 1, false, 0x8000003F, 0x0, 0x0, 0x0, 0x0, 0x0⟩,  -- TRV_POS_RXCFG_r
  ⟨0xB0A00, 0x20, 32, 0x0, 1, true, 0x0, 0x0, 0x0, 0x0, 0x0, 0x0⟩,  -- TRV_RXPOS_r
  ⟨0xB0A08, 0x20, 32, 0x0, 1, true, 0x0, 0x0, 0x0, 0x0, 0x0, 0x0⟩,  -- TRV_RXVEL_r
  ⟨0xB0A10, 0x20, 32, 0x0, 1, true, 0x0, 0x0, 0x0, 0x0, 0x0, 0x0⟩,  -- TRV_RXTIME_r
  ⟨0xB0A18, 0x20, 32, 0x0, 1, false, 0x0, 0x0, 0x0, 0x0, 0x0, 0xFF⟩,  -- TRV_RXAGE_r
  ⟨0xB2000, 0x100, 64, 0x4, 60, false, 0xFFFFFFFF, 0x0, 0x0, 0x0, 0x0, 0x0⟩,  -- TRV_TXUSER_j_w
  ⟨0xB8000, 0x100, 64, 0x0, 1, false, 0x0, 0x0, 0x0, 0x0, 0x0, 0xFF0000⟩,  -- TRV_RXHDR_j
  ⟨0xB8004, 0x100, 64, 0x4, 60, false, 0x0, 0x0, 0x0, 0x0, 0x0, 0x0⟩,  -- TRV_RXWORD_j_w
  ⟨0xC0000, 0x8000, 2, 0x0, 1, false, 0xC3FF0000, 0x0, 0x0, 0x0, 0x0, 0xC0640000⟩,  -- CAN_CFG
  ⟨0xC0004, 0x8000, 2, 0x0, 1, false, 0xFFFF7F1F, 0x0, 0x0, 0x0, 0x0, 0x1E3E0F00⟩,  -- CAN_NBT
  ⟨0xC0008, 0x8000, 2, 0x0, 1, false, 0xFFFFF81F, 0x0, 0x0, 0x0, 0x0, 0x351800⟩,  -- CAN_DBT
  ⟨0xC0010, 0x8000, 2, 0x0, 1, false, 0x0, 0x0, 0x0, 0x0, 0x0, 0x0⟩,  -- CAN_STATUS
  ⟨0xC0014, 0x8000, 2, 0x0, 1, false, 0x0, 0x0, 0x3FF, 0x0, 0x0, 0x0⟩,  -- CAN_ERR
  ⟨0xC0018, 0x8000, 2, 0x0, 1, true, 0x0, 0x0, 0x0, 0x0, 0x0, 0x0⟩,  -- CAN_COUNTS
  ⟨0xC0020, 0x8000, 2, 0x0, 1, true, 0x0, 0x0, 0x0, 0x0, 0x0, 0x0⟩,  -- CAN_TX_PEND
  ⟨0xC0028, 0x8000, 2, 0x0, 1, true, 0x0, 0x0, 0xFFFFFFFFFFFFFFFF, 0x0, 0x0, 0x0⟩,  -- CAN_TX_DONE
  ⟨0xC0030, 0x8000, 2, 0x0, 1, false, 0x0, 0x0, 0x0, 0x0, 0x0, 0x0⟩,  -- CAN_RX_PTR
  ⟨0xC0034, 0x8000, 2, 0x0, 1, false, 0x0, 0x0, 0x0, 0x0, 0xFFFF, 0x0⟩,  -- CAN_RX_DOORBELL
  ⟨0xC0038, 0x8000, 2, 0x0, 1, false, 0x0, 0x0, 0x0, 0x0, 0x0, 0x0⟩,  -- CAN_TSC
  ⟨0xC0040, 0x8000, 2, 0x10, 2, true, 0x0, 0x0, 0x0, 0x0, 0x0, 0x0⟩,  -- CAN_CORR_TIME_k
  ⟨0xC0048, 0x8000, 2, 0x10, 2, true, 0x0, 0x0, 0x0, 0x0, 0x0, 0x0⟩,  -- CAN_CORR_TS_k
  ⟨0xC0400, 0x8000, 2, 0x8, 128, true, 0xF7FFFFFFDFFFFFFF, 0x0, 0x0, 0x0, 0x0, 0x0⟩,  -- CAN_FLT_k
  ⟨0xD0000, 0x8, 2, 0x0, 1, false, 0x0, 0x0, 0x7, 0x0, 0x0, 0x0⟩,  -- FIELD_LINK_STATUS_d
  ⟨0xD0004, 0x8, 2, 0x0, 1, false, 0x0, 0x0, 0x0, 0x0, 0x0, 0x0⟩,  -- FIELD_LINK_COUNT_d
  ⟨0xD0020, 0x4, 6, 0x0, 1, false, 0x0, 0x0, 0x3, 0x0, 0x0, 0x0⟩,  -- FIELD_GROUP_STATUS_g
  ⟨0xD0040, 0x0, 1, 0x0, 1, true, 0x0, 0x0, 0x0, 0x0, 0x0, 0x0⟩,  -- FIELD_IN
  ⟨0xD0048, 0x0, 1, 0x0, 1, true, 0x0, 0x0, 0x0, 0x0, 0x0, 0x0⟩  -- FIELD_IN_WB
  ]

def regRows6 : List RegRow := [
  ⟨0xD0050, 0x0, 1, 0x0, 1, true, 0x0, 0x0, 0x0, 0x0, 0x0, 0x0⟩,  -- FIELD_OUT_CMD
  ⟨0xD0058, 0x0, 1, 0x0, 1, true, 0x0, 0x0, 0x0, 0x0, 0x0, 0x0⟩,  -- FIELD_OUT_ACT
  ⟨0xD0100, 0x4, 64, 0x0, 1, false, 0xFFFE0000, 0x0, 0x0, 0x0, 0x0, 0x40600000⟩,  -- FIELD_IN_CFG_i
  ⟨0xD0200, 0x4, 48, 0x0, 1, false, 0xF0000000, 0x0, 0x0, 0x0, 0x0, 0x0⟩,  -- FIELD_OUT_CFG_o
  ⟨0xD0300, 0x4, 48, 0x0, 1, false, 0x0, 0x0, 0xF, 0x0, 0x0, 0x0⟩,  -- FIELD_OUT_DIAG_o
  ⟨0xE0000, 0x0, 1, 0x0, 1, false, 0x0, 0x0, 0x0, 0x0, 0x0, 0x8000000⟩,  -- SAFETY_STATUS
  ⟨0xE0004, 0x0, 1, 0x0, 1, false, 0x0, 0x0, 0x0, 0x0, 0x0, 0x0⟩,  -- SAFETY_SET_CRC
  ⟨0xE0008, 0x0, 1, 0x0, 1, false, 0x0, 0x0, 0x0, 0x0, 0x0, 0x0⟩,  -- SAFETY_SET_ID
  ⟨0xE000C, 0x0, 1, 0x0, 1, false, 0x0, 0x0, 0x0, 0x0, 0x0, 0x0⟩,  -- SAFETY_SET_PEND
  ⟨0xE0010, 0x0, 1, 0x0, 1, false, 0x0, 0x0, 0x0, 0x0, 0x0, 0x0⟩,  -- SAFETY_IN
  ⟨0xE0014, 0x0, 1, 0x0, 1, false, 0x0, 0x0, 0x0, 0x0, 0x0, 0x0⟩,  -- SAFETY_PAIR
  ⟨0xE0018, 0x0, 1, 0x0, 1, false, 0x0, 0x0, 0x0, 0x0, 0x0, 0x0⟩,  -- SAFETY_OUT
  ⟨0xE0020, 0x0, 1, 0x0, 1, false, 0x0, 0x0, 0x0, 0x0, 0x0, 0x0⟩,  -- SAFETY_FAULT
  ⟨0xE0028, 0x0, 1, 0x0, 1, false, 0x0, 0x0, 0x0, 0x0, 0x0, 0x0⟩,  -- SAFETY_CYCLE
  ⟨0xE0030, 0x0, 1, 0x0, 1, true, 0x0, 0x0, 0x0, 0x0, 0x0, 0x0⟩,  -- SAFETY_EVENT_TIME
  ⟨0xF0000, 0x0, 1, 0x0, 1, false, 0x8FFFFFFF, 0x0, 0x0, 0x0, 0x0, 0x21001F4⟩,  -- PAIR_CFG
  ⟨0xF0004, 0x0, 1, 0x0, 1, false, 0x0, 0x0, 0x0, 0x0, 0x0, 0xE000000⟩,  -- PAIR_STATUS
  ⟨0xF0008, 0x0, 1, 0x0, 1, false, 0x0, 0x0, 0xFF, 0x0, 0x0, 0x0⟩,  -- PAIR_EVENT
  ⟨0xF0010, 0x0, 1, 0x0, 1, true, 0x0, 0x0, 0x0, 0x0, 0x0, 0x0⟩,  -- PAIR_COUNTS
  ⟨0xF0018, 0x0, 1, 0x0, 1, true, 0x0, 0x0, 0x0, 0x0, 0x0, 0x0⟩,  -- PAIR_TAKEOVER_TIME
  ⟨0xF0020, 0x0, 1, 0x0, 1, false, 0x0, 0x0, 0x0, 0x0, 0x0, 0x0⟩,  -- PAIR_TAKEOVER
  ⟨0xF0024, 0x0, 1, 0x0, 1, false, 0x0, 0x0, 0x0, 0x0, 0x0, 0x0⟩,  -- PAIR_TIME
  ⟨0x100000, 0x0, 1, 0x0, 1, false, 0x0, 0x0, 0x0, 0x0, 0x0, 0x0⟩,  -- STORE_STATUS
  ⟨0x100004, 0x0, 1, 0x0, 1, false, 0x0, 0x0, 0x0, 0x0, 0x0, 0x0⟩,  -- STORE_GEOM
  ⟨0x100008, 0x0, 1, 0x0, 1, false, 0x0, 0x0, 0x3F, 0x0, 0x0, 0x0⟩,  -- STORE_ERR
  ⟨0x100010, 0x0, 1, 0x0, 1, true, 0x0, 0x0, 0x0, 0x0, 0x0, 0x0⟩,  -- STORE_COUNTS
  ⟨0x100018, 0x0, 1, 0x0, 1, false, 0xFFFFFE00, 0x0, 0x0, 0x0, 0x0, 0x1E603600⟩,  -- STORE_CFG
  ⟨0x10001C, 0x0, 1, 0x0, 1, false, 0xFFFFFF, 0x0, 0x0, 0x0, 0x0, 0x0⟩,  -- STORE_PE
  ⟨0x100020, 0x0, 1, 0x0, 1, true, 0x0, 0x0, 0x0, 0x0, 0x0, 0x0⟩,  -- STORE_BUDGET
  ⟨0x100028, 0x0, 1, 0x0, 1, true, 0x0, 0x0, 0x0, 0x0, 0x0, 0x0⟩,  -- STORE_WEAR
  ⟨0x100108, 0x8, 11, 0x0, 1, true, 0x0, 0x0, 0x0, 0x0, 0x0, 0x0⟩,  -- STORE_PART_p
  ⟨0x100800, 0x0, 1, 0x0, 1, false, 0xFFFFFFFF, 0x0, 0x0, 0x0, 0x0, 0x4482140A⟩,  -- POWER_CFG
  ⟨0x100804, 0x0, 1, 0x0, 1, false, 0x0, 0x0, 0x0, 0x0, 0x0, 0x0⟩,  -- POWER_STATUS
  ⟨0x100808, 0x0, 1, 0x0, 1, false, 0x0, 0x0, 0x1F, 0x0, 0x0, 0x0⟩,  -- POWER_EVENT
  ⟨0x10080C, 0x0, 1, 0x0, 1, false, 0x0, 0x0, 0x0, 0x0, 0x0, 0x0⟩  -- POWER_VOLT
  ]

def regRows7 : List RegRow := [
  ⟨0x100810, 0x0, 1, 0x0, 1, true, 0x0, 0x0, 0x0, 0x0, 0x0, 0x0⟩,  -- POWER_PF_TIME
  ⟨0x100818, 0x0, 1, 0x0, 1, false, 0x0, 0x0, 0x0, 0x0, 0x0, 0x0⟩,  -- POWER_FLUSH
  ⟨0x100820, 0x0, 1, 0x0, 1, true, 0x0, 0x0, 0x0, 0x0, 0x0, 0x0⟩,  -- RTC_TIME
  ⟨0x100828, 0x0, 1, 0x0, 1, true, 0xFFFFFFFFFFFFFFFF, 0x0, 0x0, 0x0, 0x0, 0x0⟩,  -- RTC_SET
  ⟨0x110000, 0x0, 1, 0x0, 1, false, 0x0, 0x0, 0x0, 0x0, 0x0, 0x0⟩,  -- SEC_LC
  ⟨0x110004, 0x0, 1, 0x0, 1, false, 0x0, 0x0, 0x0, 0x0, 0x0, 0x0⟩,  -- SEC_KEYS
  ⟨0x110010, 0x8, 2, 0x0, 1, true, 0x0, 0x0, 0x0, 0x0, 0x0, 0x0⟩,  -- SEC_UID_k
  ⟨0x110020, 0x0, 1, 0x0, 1, false, 0x0, 0x0, 0x3, 0x0, 0x0, 0x0⟩,  -- SEC_COUNTS
  ⟨0x110800, 0x0, 1, 0x0, 1, false, 0x0, 0x0, 0x0, 0x0, 0x0, 0xE0000000⟩,  -- DEBUG_STATUS
  ⟨0x110804, 0x0, 1, 0x0, 1, false, 0x80000000, 0x0, 0x0, 0x0, 0x0, 0x80000000⟩,  -- DEBUG_CFG
  ⟨0x111000, 0x0, 1, 0x0, 1, false, 0x3, 0x0, 0x0, 0x0, 0x0, 0x0⟩,  -- PWR_CTRL
  ⟨0x111004, 0x0, 1, 0x0, 1, false, 0x0, 0x0, 0x0, 0x0, 0x0, 0x0⟩,  -- PWR_STATUS
  ⟨0x104, 0x0, 1, 0x0, 1, false, 0x0, 0x0, 0x0, 0x0, 0xFFFF, 0x0⟩,  -- SYS_STOP_DOORBELL
  ⟨0x200, 0x0, 1, 0x0, 1, false, 0x0, 0x0, 0x0, 0x0, 0x0, 0x0⟩,  -- SYS_WEDGE
  ⟨0x208, 0x0, 1, 0x0, 1, true, 0x0, 0x0, 0x0, 0x0, 0x0, 0x0⟩,  -- SYS_WEDGE_TIME
  ⟨0x210, 0x0, 1, 0x0, 1, false, 0xC0FF80FF, 0x0, 0x0, 0x0, 0x0, 0x40FF000A⟩,  -- SYS_WEDGE_CFG
  ⟨0x101000, 0x0, 1, 0x0, 1, false, 0x0, 0x0, 0x0, 0x0, 0x0, 0x0⟩,  -- THERMAL_STATUS
  ⟨0x101004, 0x0, 1, 0x0, 1, false, 0x0, 0x0, 0xF, 0x0, 0x0, 0x0⟩,  -- THERMAL_EVENT
  ⟨0x101800, 0x4, 6, 0x0, 1, false, 0x0, 0x0, 0x0, 0x0, 0x0, 0x0⟩,  -- TELEM_TEMP_k
  ⟨0x101820, 0x4, 10, 0x0, 1, false, 0x0, 0x0, 0x0, 0x0, 0x0, 0x0⟩,  -- TELEM_VOLT_k
  ⟨0x101848, 0x0, 1, 0x0, 1, false, 0x0, 0x0, 0x3FF, 0x0, 0x0, 0x0⟩,  -- TELEM_EVENT
  ⟨0x102000, 0x0, 1, 0x0, 1, false, 0x0, 0x0, 0xFF, 0x0, 0x0, 0x0⟩,  -- BG_STATUS
  ⟨0x102008, 0x0, 1, 0x0, 1, true, 0x0, 0x0, 0x0, 0x0, 0x0, 0x0⟩,  -- BG_ECC
  ⟨0x102010, 0x0, 1, 0x0, 1, false, 0x0, 0x0, 0x0, 0x0, 0x0, 0x0⟩,  -- BG_ECC_LAST
  ⟨0x102100, 0x4, 64, 0x0, 1, false, 0x0, 0x0, 0x0, 0x0, 0x0, 0x0⟩,  -- BG_ENC_e
  ⟨0x120000, 0x0, 1, 0x0, 1, false, 0x0, 0x0, 0x0, 0x0, 0x0, 0x0⟩,  -- SQ_STATUS
  ⟨0x120008, 0x0, 1, 0x0, 1, false, 0xFFFFFFFF, 0x0, 0x0, 0x0, 0x0, 0x1⟩,  -- SQ_SEED
  ⟨0x120100, 0x10, 8, 0x0, 1, false, 0xFF3FFFFF, 0x0, 0x0, 0x0, 0x0, 0x0⟩,  -- SQ_RULE_CFG_r
  ⟨0x120104, 0x10, 8, 0x0, 1, false, 0x9FFFFFFF, 0x0, 0x0, 0x0, 0x0, 0x0⟩,  -- SQ_RULE_SEL_r
  ⟨0x120108, 0x10, 8, 0x0, 1, false, 0xFFF0FFFF, 0x0, 0x0, 0x0, 0x0, 0x0⟩,  -- SQ_RULE_TRIG_r
  ⟨0x12010C, 0x10, 8, 0x0, 1, false, 0x0, 0x0, 0x0, 0x0, 0x0, 0x0⟩,  -- SQ_RULE_COUNT_r
  ⟨0x0, 0x0, 1, 0x0, 1, true, 0x0, 0x0, 0x0, 0x0, 0x0, 0x0⟩  -- SYS_ID
  ]

/-- Every register and memory-window word of REGWIN (R31, R564, R566). -/
def regRows : List RegRow :=
  regRows0 ++ regRows1 ++ regRows2 ++ regRows3 ++ regRows4 ++ regRows5 ++ regRows6 ++ regRows7

end Sys2Proof.Machine
end

