-- ==== Sys2Proof/Machine/Regs.lean ====
section
/-!
DEFINITION. The register map of REGWIN (R31, R566): the offset of every register (namespace `R`, one function of the
register's subscripts) and the bit position and width of every field (namespace `F`), copied from the register tables
of the chapters of spec/.  A field of a 64-bit register is numbered 63:0 over both words.
-/

namespace Sys2Proof.Machine

/-! ### Register offsets (R566) -/

namespace R

def SYS_BOOT_STATUS : Nat := 0x10
def SYS_CLOCK_STATUS : Nat := 0x18
def SYS_TIME : Nat := 0x40
def SYS_TICK_CTRL (n : Nat) : Nat := 0x80 + 0x10 * n
def SYS_TICK_STATUS (n : Nat) : Nat := 0x88 + 0x10 * n
def SYS_TICK_COUNT (n : Nat) : Nat := 0xC0 + 0x8 * n
def SYS_RESET_DOORBELL : Nat := 0x100
def CMDQ_ATTACH_DOORBELL : Nat := 0x1000
def CMDQ_DOORBELL (q : Nat) : Nat := 0x1010 + 0x4 * q
def CMDQ_REPLY_DOORBELL : Nat := 0x1020
def CMDQ_EVENT_DOORBELL : Nat := 0x1024
def CMDQ_SESSION : Nat := 0x1100
def CMDQ_ACCEPTED (q : Nat) : Nat := 0x1110 + 0x10 * q
def CMDQ_COMPLETED (q : Nat) : Nat := 0x1114 + 0x10 * q
def CMDQ_FETCH (q : Nat) : Nat := 0x1118 + 0x10 * q
def CMDQ_ESN : Nat := 0x1200
def CMDQ_ESN_OLDEST : Nat := 0x1204
def CMDQ_ERRORS : Nat := 0x1210
def AXIS_BIND (a : Nat) : Nat := 0x10000 + 0x800 * a
def AXIS_BIND_IN (a : Nat) : Nat := 0x10004 + 0x800 * a
def AXIS_COMMUT (a : Nat) : Nat := 0x10008 + 0x800 * a
def AXIS_COMM_CFG (a : Nat) : Nat := 0x1000C + 0x800 * a
def AXIS_COMM_OFFSET (a : Nat) : Nat := 0x10010 + 0x800 * a
def AXIS_DECEL_NORMAL (a : Nat) : Nat := 0x10020 + 0x800 * a
def AXIS_DECEL_QUICK (a : Nat) : Nat := 0x10028 + 0x800 * a
def AXIS_REACT (a : Nat) : Nat := 0x10030 + 0x800 * a
def AXIS_HOME_CFG (a : Nat) : Nat := 0x10038 + 0x800 * a
def AXIS_HOME_VEL (a : Nat) : Nat := 0x10040 + 0x800 * a
def AXIS_HOME_OFFSET (a : Nat) : Nat := 0x10048 + 0x800 * a
def AXIS_COMM_MEAS (a : Nat) : Nat := 0x10050 + 0x800 * a
def AXIS_STATUS (a : Nat) : Nat := 0x10100 + 0x800 * a
def AXIS_FAULT (a : Nat) : Nat := 0x10104 + 0x800 * a
def INTERP_POOL : Nat := 0x30000
def INTERP_SYNC : Nat := 0x30008
def INTERP_GRP_MEMBERS (g : Nat) : Nat := 0x31000 + 0x100 * g
def INTERP_GRP_CFG (g : Nat) : Nat := 0x31008 + 0x100 * g
def INTERP_GRP_SCALE (g i : Nat) : Nat := 0x31010 + 0x100 * g + 0x4 * i
def INTERP_GRP_OVR (g : Nat) : Nat := 0x31030 + 0x100 * g
def INTERP_GRP_TOL (g : Nat) : Nat := 0x31038 + 0x100 * g
def INTERP_GRP_STATUS (g : Nat) : Nat := 0x31040 + 0x100 * g
def INTERP_GRP_FILL (g : Nat) : Nat := 0x31044 + 0x100 * g
def INTERP_GRP_EVENT (g : Nat) : Nat := 0x31048 + 0x100 * g
def INTERP_AXLIM_VMAX (a : Nat) : Nat := 0x32000 + 0x20 * a
def INTERP_AXLIM_AMAX (a : Nat) : Nat := 0x32008 + 0x20 * a
def INTERP_AXLIM_JMAX (a : Nat) : Nat := 0x32010 + 0x20 * a
def INTERP_FOLLOW_STATUS (a : Nat) : Nat := 0x33000 + 0x10 * a
def INTERP_VM_VEL (v : Nat) : Nat := 0x34000 + 0x20 * v
def INTERP_VM_ACC (v : Nat) : Nat := 0x34008 + 0x20 * v
def INTERP_VM_POS (v : Nat) : Nat := 0x34010 + 0x20 * v
def INTERP_CAM_PROF (p : Nat) : Nat := 0x35000 + 0x10 * p
def INTERP_CAM_LEN (p : Nat) : Nat := 0x35008 + 0x10 * p
def INTERP_ENGAGE_TOL : Nat := 0x30010
def INTERP_GANTRY_CFG (j : Nat) : Nat := 0x36000 + 0x20 * j
def INTERP_GANTRY_LIMIT (j : Nat) : Nat := 0x36004 + 0x20 * j
def INTERP_GANTRY_OFFSET (j : Nat) : Nat := 0x36008 + 0x20 * j
def INTERP_GANTRY_YAW (j : Nat) : Nat := 0x36010 + 0x20 * j
def CAM_Y (i : Nat) : Nat := 0x40000 + 0x10 * i
def CAM_S (i : Nat) : Nat := 0x40008 + 0x10 * i
def CE_LANE_CFG (n : Nat) : Nat := 0x50000 + 0x100 * n
def CE_LANE_STATUS (n : Nat) : Nat := 0x50004 + 0x100 * n
def CE_LANE_LOAD (n : Nat) : Nat := 0x50008 + 0x100 * n
def CE_LANE_EVENT (n : Nat) : Nat := 0x5000C + 0x100 * n
def CE_LANE_OVR_COUNT (n : Nat) : Nat := 0x50010 + 0x100 * n
def CE_HSG_STATUS : Nat := 0x50800
def CE_HSG_TIME : Nat := 0x50808
def CE_AX_CFG (a : Nat) : Nat := 0x58000 + 0x200 * a
def CE_AX_HOOK (a : Nat) : Nat := 0x58004 + 0x200 * a
def CE_AX_FE (a : Nat) : Nat := 0x58008 + 0x200 * a
def CE_AX_ADV (a : Nat) : Nat := 0x5800C + 0x200 * a
def CE_AX_NOTCH_CFG (a : Nat) : Nat := 0x58010 + 0x200 * a
def CE_AX_PARAM (a k : Nat) : Nat := 0x58040 + 0x200 * a + 0x4 * k
def CE_AX_NOTCHP (a j : Nat) : Nat := 0x580C0 + 0x200 * a + 0x4 * j
def CE_AX_STATUS (a : Nat) : Nat := 0x58100 + 0x200 * a
def CE_AX_DELAY (a : Nat) : Nat := 0x58104 + 0x200 * a
def CE_AX_SIG (a k : Nat) : Nat := 0x58180 + 0x200 * a + 0x4 * k
def CFE_CLK_CFG : Nat := 0x70000
def CFE_CLK_STATUS : Nat := 0x70004
def CFE_SDCK_CFG (k : Nat) : Nat := 0x70040 + 0x4 * k
def CFE_BANK_CAL (n : Nat) : Nat := 0x70100 + 0x10 * n
def CFE_BANK_REF (n : Nat) : Nat := 0x70104 + 0x10 * n
def CFE_BANK_GAIN (n : Nat) : Nat := 0x70108 + 0x10 * n
def CFE_BANK_AGE (n : Nat) : Nat := 0x7010C + 0x10 * n
def CFE_SD_CFG (i : Nat) : Nat := 0x71000 + 0x20 * i
def CFE_SD_OC (i : Nat) : Nat := 0x71004 + 0x20 * i
def CFE_SD_RANGE (i : Nat) : Nat := 0x71008 + 0x20 * i
def CFE_SD_GAIN (i : Nat) : Nat := 0x7100C + 0x20 * i
def CFE_SD_OFFSET (i : Nat) : Nat := 0x71010 + 0x20 * i
def CFE_SD_VALUE (i : Nat) : Nat := 0x71014 + 0x20 * i
def CFE_SD_STATUS (i : Nat) : Nat := 0x71018 + 0x20 * i
def PWM_BANK_CFG (n : Nat) : Nat := 0x60000 + 0x40 * n
def PWM_BANK_STATUS (n : Nat) : Nat := 0x60004 + 0x40 * n
def PWM_BANK_POS (n : Nat) : Nat := 0x60008 + 0x40 * n
def PWM_TRIP_CFG (t : Nat) : Nat := 0x60400 + 0x8 * t
def PWM_TRIP_STATUS (t : Nat) : Nat := 0x60404 + 0x8 * t
def PWM_LEG_CFG (l : Nat) : Nat := 0x61000 + 0x20 * l
def PWM_LEG_DT (l : Nat) : Nat := 0x61004 + 0x20 * l
def PWM_LEG_CMP (l : Nat) : Nat := 0x61008 + 0x20 * l
def PWM_LEG_ACT (l : Nat) : Nat := 0x6100C + 0x20 * l
def PWM_LEG_COUNT (l : Nat) : Nat := 0x61010 + 0x20 * l
def ENC_CFG (e : Nat) : Nat := 0x80000 + 0x40 * e
def ENC_SER (e : Nat) : Nat := 0x80004 + 0x40 * e
def ENC_CRC (e : Nat) : Nat := 0x80008 + 0x40 * e
def ENC_TIMING (e : Nat) : Nat := 0x8000C + 0x40 * e
def ENC_DLY (e : Nat) : Nat := 0x80010 + 0x40 * e
def ENC_MAXDELTA (e : Nat) : Nat := 0x80014 + 0x40 * e
def ENC_POS (e : Nat) : Nat := 0x80018 + 0x40 * e
def ENC_TIME (e : Nat) : Nat := 0x80020 + 0x40 * e
def ENC_ZPOS (e : Nat) : Nat := 0x80028 + 0x40 * e
def ENC_STATUS (e : Nat) : Nat := 0x80030 + 0x40 * e
def FIX_CFG (i : Nat) : Nat := 0x81000 + 0x20 * i
def FIX_OFS (i : Nat) : Nat := 0x81004 + 0x20 * i
def FIX_STATUS (i : Nat) : Nat := 0x81008 + 0x20 * i
def FIX_REC_HDR (i : Nat) : Nat := 0x88000 + 0x400 * i
def FIX_REC_STAMP (i : Nat) : Nat := 0x88008 + 0x400 * i
def FIX_REC_VALID (i : Nat) : Nat := 0x88010 + 0x400 * i
def FIX_REC_POS (i a : Nat) : Nat := 0x88020 + 0x400 * i + 0x8 * a
def PCO_CFG (o : Nat) : Nat := 0x82000 + 0x20 * o
def PCO_LIST (o : Nat) : Nat := 0x82004 + 0x20 * o
def PCO_STATUS (o : Nat) : Nat := 0x82008 + 0x20 * o
def COMPARE (j : Nat) : Nat := 0x84000 + 0x8 * j
def TD_CTRL (c : Nat) : Nat := 0x27F000 + 0x80000 * c
def TD_STATUS (c : Nat) : Nat := 0x27F004 + 0x80000 * c
def TD_FAULT (c : Nat) : Nat := 0x27F008 + 0x80000 * c
def TD_FAULT_PC (c : Nat) : Nat := 0x27F00C + 0x80000 * c
def TD_TRIG (c k : Nat) : Nat := 0x27F040 + 0x80000 * c + 0x4 * k
def TD_TRIG_STATUS (c : Nat) : Nat := 0x27F060 + 0x80000 * c
def TD_RUNTIME (c : Nat) : Nat := 0x27F064 + 0x80000 * c
def TD_STALLS (c : Nat) : Nat := 0x27F068 + 0x80000 * c
def TD_IMAGE (c : Nat) : Nat := 0x27F06C + 0x80000 * c
def TD_SIGSCALE (c k : Nat) : Nat := 0x27F080 + 0x80000 * c + 0x4 * k
def TD_HOOK_MASK (c h : Nat) : Nat := 0x27F100 + 0x80000 * c + 0x8 * h
def TRACE_CTRL : Nat := 0x90000
def TRACE_STATUS : Nat := 0x90004
def TRACE_CFG : Nat := 0x90008
def TRACE_CLK : Nat := 0x9000C
def TRACE_POST : Nat := 0x90010
def TRACE_TRIG_CFG : Nat := 0x90014
def TRACE_PTR : Nat := 0x90018
def TRACE_GEOM : Nat := 0x90020
def TRACE_TRIG : Nat := 0x90028
def TRACE_TRIG_SRC : Nat := 0x90030
def TRACE_T0 : Nat := 0x90038
def TRACE_TRIG_TIME : Nat := 0x90040
def TRACE_COUNTS : Nat := 0x90048
def TRACE_RDPTR : Nat := 0x90050
def TRACE_MASK_CFG : Nat := 0x90054
def TRACE_MASK_SPAN : Nat := 0x90058
def TRACE_CH (j : Nat) : Nat := 0x90100 + 0x4 * j
def TRACE_CMP_CFG (c : Nat) : Nat := 0x90200 + 0x10 * c
def TRACE_CMP_VAL (c : Nat) : Nat := 0x90208 + 0x10 * c
def SNAP_CFG : Nat := 0x90800
def SNAP_AXMASK : Nat := 0x90808
def SNAP_STATUS : Nat := 0x90810
def TRACE_MASK (e : Nat) : Nat := 0xA0000 + 0x4 * e
def SNAP_HDR (b : Nat) : Nat := 0x130000 + 0x2000 * b
def SNAP_CAUSE (b : Nat) : Nat := 0x130004 + 0x2000 * b
def SNAP_TIME (b : Nat) : Nat := 0x130008 + 0x2000 * b
def EVR_SRC_CFG (s : Nat) : Nat := 0x2000 + 0x4 * s
def EVR_TGT_CFG (t : Nat) : Nat := 0x2C00 + 0x4 * t
def EVR_MOD (u : Nat) : Nat := 0x2C20 + 0x4 * u
def EVR_PIN_MASK (k : Nat) : Nat := 0x2D40 + 0x8 * k
def EVR_STATE (w : Nat) : Nat := 0x2E00 + 0x4 * w
def EVR_WAKE_LATCH : Nat := 0x2EC0
def EVR_COUNTS : Nat := 0x2EC8
def EVR_LAST : Nat := 0x2ED0
def EVR_HOST_COMPLETE : Nat := 0x2F00
def EVR_HOST_IDLE : Nat := 0x2F04
def TRV_CFG : Nat := 0xB0000
def TRV_CYCLE : Nat := 0xB0004
def TRV_TIMING : Nat := 0xB0008
def TRV_PROP (r : Nat) : Nat := 0xB0010 + 0x4 * r
def TRV_STATUS : Nat := 0xB0040
def TRV_CYCLE_COUNT : Nat := 0xB0044
def TRV_SYNC : Nat := 0xB0048
def TRV_STEP : Nat := 0xB0050
def TRV_ERR : Nat := 0xB0058
def TRV_COUNTS : Nat := 0xB0060
def TRV_FLAG_OWN : Nat := 0xB0080
def TRV_TX_FLAGS : Nat := 0xB0088
def TRV_RX_FLAGS : Nat := 0xB0090
def TRV_SLOT (j : Nat) : Nat := 0xB0400 + 0x8 * j
def TRV_SLOT_X (j : Nat) : Nat := 0xB0404 + 0x8 * j
def TRV_POS_TX (k : Nat) : Nat := 0xB0800 + 0x4 * k
def TRV_POS_RXCFG (r : Nat) : Nat := 0xB0900 + 0x4 * r
def TRV_RXPOS (r : Nat) : Nat := 0xB0A00 + 0x20 * r
def TRV_RXVEL (r : Nat) : Nat := 0xB0A08 + 0x20 * r
def TRV_RXTIME (r : Nat) : Nat := 0xB0A10 + 0x20 * r
def TRV_RXAGE (r : Nat) : Nat := 0xB0A18 + 0x20 * r
def TRV_TXUSER (j w : Nat) : Nat := 0xB2000 + 0x100 * j + 0x4 * w
def TRV_RXHDR (j : Nat) : Nat := 0xB8000 + 0x100 * j
def TRV_RXWORD (j w : Nat) : Nat := 0xB8004 + 0x100 * j + 0x4 * w
def CAN_CFG (c : Nat) : Nat := 0xC0000 + 0x8000 * c
def CAN_NBT (c : Nat) : Nat := 0xC0004 + 0x8000 * c
def CAN_DBT (c : Nat) : Nat := 0xC0008 + 0x8000 * c
def CAN_STATUS (c : Nat) : Nat := 0xC0010 + 0x8000 * c
def CAN_ERR (c : Nat) : Nat := 0xC0014 + 0x8000 * c
def CAN_COUNTS (c : Nat) : Nat := 0xC0018 + 0x8000 * c
def CAN_TX_PEND (c : Nat) : Nat := 0xC0020 + 0x8000 * c
def CAN_TX_DONE (c : Nat) : Nat := 0xC0028 + 0x8000 * c
def CAN_RX_PTR (c : Nat) : Nat := 0xC0030 + 0x8000 * c
def CAN_RX_DOORBELL (c : Nat) : Nat := 0xC0034 + 0x8000 * c
def CAN_TSC (c : Nat) : Nat := 0xC0038 + 0x8000 * c
def CAN_CORR_TIME (c k : Nat) : Nat := 0xC0040 + 0x8000 * c + 0x10 * k
def CAN_CORR_TS (c k : Nat) : Nat := 0xC0048 + 0x8000 * c + 0x10 * k
def CAN_FLT (c k : Nat) : Nat := 0xC0400 + 0x8000 * c + 0x8 * k
def FIELD_LINK_STATUS (d : Nat) : Nat := 0xD0000 + 0x8 * d
def FIELD_LINK_COUNT (d : Nat) : Nat := 0xD0004 + 0x8 * d
def FIELD_GROUP_STATUS (g : Nat) : Nat := 0xD0020 + 0x4 * g
def FIELD_IN : Nat := 0xD0040
def FIELD_IN_WB : Nat := 0xD0048
def FIELD_OUT_CMD : Nat := 0xD0050
def FIELD_OUT_ACT : Nat := 0xD0058
def FIELD_IN_CFG (i : Nat) : Nat := 0xD0100 + 0x4 * i
def FIELD_OUT_CFG (o : Nat) : Nat := 0xD0200 + 0x4 * o
def FIELD_OUT_DIAG (o : Nat) : Nat := 0xD0300 + 0x4 * o
def SAFETY_STATUS : Nat := 0xE0000
def SAFETY_SET_CRC : Nat := 0xE0004
def SAFETY_SET_ID : Nat := 0xE0008
def SAFETY_SET_PEND : Nat := 0xE000C
def SAFETY_IN : Nat := 0xE0010
def SAFETY_PAIR : Nat := 0xE0014
def SAFETY_OUT : Nat := 0xE0018
def SAFETY_FAULT : Nat := 0xE0020
def SAFETY_CYCLE : Nat := 0xE0028
def SAFETY_EVENT_TIME : Nat := 0xE0030
def PAIR_CFG : Nat := 0xF0000
def PAIR_STATUS : Nat := 0xF0004
def PAIR_EVENT : Nat := 0xF0008
def PAIR_COUNTS : Nat := 0xF0010
def PAIR_TAKEOVER_TIME : Nat := 0xF0018
def PAIR_TAKEOVER : Nat := 0xF0020
def PAIR_TIME : Nat := 0xF0024
def STORE_STATUS : Nat := 0x100000
def STORE_GEOM : Nat := 0x100004
def STORE_ERR : Nat := 0x100008
def STORE_COUNTS : Nat := 0x100010
def STORE_CFG : Nat := 0x100018
def STORE_PE : Nat := 0x10001C
def STORE_BUDGET : Nat := 0x100020
def STORE_WEAR : Nat := 0x100028
def STORE_PART (p : Nat) : Nat := 0x100100 + 0x8 * p
def POWER_CFG : Nat := 0x100800
def POWER_STATUS : Nat := 0x100804
def POWER_EVENT : Nat := 0x100808
def POWER_VOLT : Nat := 0x10080C
def POWER_PF_TIME : Nat := 0x100810
def POWER_FLUSH : Nat := 0x100818
def RTC_TIME : Nat := 0x100820
def RTC_SET : Nat := 0x100828
def SEC_LC : Nat := 0x110000
def SEC_KEYS : Nat := 0x110004
def SEC_UID (k : Nat) : Nat := 0x110010 + 0x8 * k
def SEC_COUNTS : Nat := 0x110020
def DEBUG_STATUS : Nat := 0x110800
def DEBUG_CFG : Nat := 0x110804
def PWR_CTRL : Nat := 0x111000
def PWR_STATUS : Nat := 0x111004
def SYS_STOP_DOORBELL : Nat := 0x104
def SYS_WEDGE : Nat := 0x200
def SYS_WEDGE_TIME : Nat := 0x208
def SYS_WEDGE_CFG : Nat := 0x210
def THERMAL_STATUS : Nat := 0x101000
def THERMAL_EVENT : Nat := 0x101004
def TELEM_TEMP (k : Nat) : Nat := 0x101800 + 0x4 * k
def TELEM_VOLT (k : Nat) : Nat := 0x101820 + 0x4 * k
def TELEM_EVENT : Nat := 0x101848
def BG_STATUS : Nat := 0x102000
def BG_ECC : Nat := 0x102008
def BG_ECC_LAST : Nat := 0x102010
def BG_ENC (e : Nat) : Nat := 0x102100 + 0x4 * e
def SQ_STATUS : Nat := 0x120000
def SQ_SEED : Nat := 0x120008
def SQ_RULE_CFG (r : Nat) : Nat := 0x120100 + 0x10 * r
def SQ_RULE_SEL (r : Nat) : Nat := 0x120104 + 0x10 * r
def SQ_RULE_TRIG (r : Nat) : Nat := 0x120108 + 0x10 * r
def SQ_RULE_COUNT (r : Nat) : Nat := 0x12010C + 0x10 * r
def SYS_ID : Nat := 0x0

end R

/-! ### Fields: low bit and width -/

namespace F

def SYS_BOOT_STATUS_READY : Fld := ⟨31, 1⟩
def SYS_BOOT_STATUS_BOOT_SRC : Fld := ⟨24, 2⟩
def SYS_BOOT_STATUS_PAIR_ROLE : Fld := ⟨23, 1⟩
def SYS_BOOT_STATUS_NODE_ID : Fld := ⟨16, 4⟩
def SYS_BOOT_STATUS_RESET_CAUSE : Fld := ⟨12, 4⟩
def SYS_BOOT_STATUS_IMAGE : Fld := ⟨8, 4⟩
def SYS_BOOT_STATUS_STAGE : Fld := ⟨0, 8⟩
def SYS_CLOCK_STATUS_PWM_LOST : Fld := ⟨17, 1⟩
def SYS_CLOCK_STATUS_REF_LOST : Fld := ⟨16, 1⟩
def SYS_CLOCK_STATUS_PLL_LOST : Fld := ⟨8, 6⟩
def SYS_CLOCK_STATUS_SAFA_LOCK : Fld := ⟨7, 1⟩
def SYS_CLOCK_STATUS_TIE_LOCK : Fld := ⟨6, 1⟩
def SYS_CLOCK_STATUS_CAN_LOCK : Fld := ⟨5, 1⟩
def SYS_CLOCK_STATUS_SUP_LOCK : Fld := ⟨4, 1⟩
def SYS_CLOCK_STATUS_PWM_LOCK : Fld := ⟨3, 1⟩
def SYS_CLOCK_STATUS_DSP_LOCK : Fld := ⟨2, 1⟩
def SYS_CLOCK_STATUS_CE_LOCK : Fld := ⟨1, 1⟩
def SYS_CLOCK_STATUS_REF_OK : Fld := ⟨0, 1⟩
def SYS_TIME_TIME_NS : Fld := ⟨0, 64⟩
def SYS_TICK_CTRL_DISCIPLINE : Fld := ⟨31, 1⟩
def SYS_TICK_CTRL_PHASE : Fld := ⟨0, 16⟩
def SYS_TICK_STATUS_LOCKED : Fld := ⟨31, 1⟩
def SYS_TICK_STATUS_SLEWING : Fld := ⟨30, 1⟩
def SYS_TICK_STATUS_PHASE_ERR : Fld := ⟨0, 16⟩
def SYS_TICK_COUNT_TICKS : Fld := ⟨0, 64⟩
def SYS_RESET_DOORBELL_KEY : Fld := ⟨0, 16⟩
def CMDQ_ATTACH_DOORBELL_ADDR : Fld := ⟨6, 58⟩
def CMDQ_DOORBELL_PROD : Fld := ⟨0, 16⟩
def CMDQ_REPLY_DOORBELL_CONS : Fld := ⟨0, 16⟩
def CMDQ_EVENT_DOORBELL_CONS : Fld := ⟨0, 16⟩
def CMDQ_SESSION_ATTACHED : Fld := ⟨31, 1⟩
def CMDQ_SESSION_TRANSPORT : Fld := ⟨16, 2⟩
def CMDQ_SESSION_EPOCH : Fld := ⟨0, 16⟩
def CMDQ_ACCEPTED_CSN : Fld := ⟨0, 32⟩
def CMDQ_COMPLETED_CSN : Fld := ⟨0, 32⟩
def CMDQ_FETCH_FILL : Fld := ⟨16, 9⟩
def CMDQ_FETCH_FETCH : Fld := ⟨0, 16⟩
def CMDQ_ESN_LAST : Fld := ⟨0, 32⟩
def CMDQ_ESN_OLDEST_OLDEST : Fld := ⟨0, 32⟩
def CMDQ_ERRORS_CRC : Fld := ⟨24, 8⟩
def CMDQ_ERRORS_GAP : Fld := ⟨16, 8⟩
def CMDQ_ERRORS_XPORT : Fld := ⟨8, 8⟩
def CMDQ_ERRORS_DB_BAD : Fld := ⟨0, 8⟩
def AXIS_BIND_BOUND : Fld := ⟨31, 1⟩
def AXIS_BIND_TYPE : Fld := ⟨24, 2⟩
def AXIS_BIND_FIRST_LEG : Fld := ⟨16, 8⟩
def AXIS_BIND_ENC : Fld := ⟨8, 8⟩
def AXIS_BIND_TRIP : Fld := ⟨0, 8⟩
def AXIS_BIND_IN_FORCE_IN : Fld := ⟨24, 8⟩
def AXIS_BIND_IN_DCLINK_IN : Fld := ⟨16, 8⟩
def AXIS_BIND_IN_CUR_B : Fld := ⟨8, 8⟩
def AXIS_BIND_IN_CUR_A : Fld := ⟨0, 8⟩
def AXIS_COMMUT_ECYCLE : Fld := ⟨0, 32⟩
def AXIS_COMM_CFG_COMM_SRC : Fld := ⟨30, 2⟩
def AXIS_COMM_CFG_ALIGN_I : Fld := ⟨16, 8⟩
def AXIS_COMM_CFG_ALIGN_T : Fld := ⟨0, 16⟩
def AXIS_COMM_OFFSET_OFFSET : Fld := ⟨0, 64⟩
def AXIS_DECEL_NORMAL_DECEL : Fld := ⟨0, 64⟩
def AXIS_DECEL_QUICK_DECEL : Fld := ⟨0, 64⟩
def AXIS_REACT_WD_CLASS : Fld := ⟨30, 2⟩
def AXIS_REACT_WD_TIMEOUT : Fld := ⟨16, 14⟩
def AXIS_REACT_BRAKE_EN : Fld := ⟨15, 1⟩
def AXIS_REACT_BRAKE_OUT : Fld := ⟨8, 6⟩
def AXIS_REACT_BRAKE_T : Fld := ⟨0, 8⟩
def AXIS_HOME_CFG_METHOD : Fld := ⟨28, 4⟩
def AXIS_HOME_CFG_DIR : Fld := ⟨27, 1⟩
def AXIS_HOME_CFG_SRC_KIND : Fld := ⟨26, 1⟩
def AXIS_HOME_CFG_SWITCH : Fld := ⟨16, 8⟩
def AXIS_HOME_CFG_EDGE : Fld := ⟨15, 1⟩
def AXIS_HOME_CFG_HS_CURRENT : Fld := ⟨8, 7⟩
def AXIS_HOME_CFG_HS_TIME : Fld := ⟨0, 8⟩
def AXIS_HOME_VEL_VEL : Fld := ⟨0, 64⟩
def AXIS_HOME_OFFSET_OFFSET : Fld := ⟨0, 64⟩
def AXIS_COMM_MEAS_OFFSET : Fld := ⟨0, 64⟩
def AXIS_STATUS_HOMED : Fld := ⟨31, 1⟩
def AXIS_STATUS_ALIGNED : Fld := ⟨30, 1⟩
def AXIS_STATUS_BRAKE_RELEASED : Fld := ⟨29, 1⟩
def AXIS_STATUS_WD_EXPIRED : Fld := ⟨28, 1⟩
def AXIS_STATUS_STOP_CLASS : Fld := ⟨26, 2⟩
def AXIS_STATUS_LAST_STATE : Fld := ⟨8, 3⟩
def AXIS_STATUS_STATE : Fld := ⟨0, 3⟩
def AXIS_FAULT_HOME_FAIL : Fld := ⟨6, 1⟩
def AXIS_FAULT_ENABLE_FAIL : Fld := ⟨5, 1⟩
def AXIS_FAULT_LANE_OVERRUN : Fld := ⟨4, 1⟩
def AXIS_FAULT_FOLLOW : Fld := ⟨3, 1⟩
def AXIS_FAULT_ENCODER : Fld := ⟨2, 1⟩
def AXIS_FAULT_OVERCURRENT : Fld := ⟨1, 1⟩
def AXIS_FAULT_TRIP : Fld := ⟨0, 1⟩
def INTERP_POOL_FREE : Fld := ⟨16, 13⟩
def INTERP_POOL_RESERVED_SUM : Fld := ⟨0, 13⟩
def INTERP_SYNC_FLAGS : Fld := ⟨0, 64⟩
def INTERP_GRP_MEMBERS_MEMBER0 : Fld := ⟨0, 8⟩
def INTERP_GRP_MEMBERS_MEMBER1 : Fld := ⟨8, 8⟩
def INTERP_GRP_MEMBERS_MEMBER2 : Fld := ⟨16, 8⟩
def INTERP_GRP_MEMBERS_MEMBER3 : Fld := ⟨24, 8⟩
def INTERP_GRP_MEMBERS_MEMBER4 : Fld := ⟨32, 8⟩
def INTERP_GRP_MEMBERS_MEMBER5 : Fld := ⟨40, 8⟩
def INTERP_GRP_MEMBERS_MEMBER6 : Fld := ⟨48, 8⟩
def INTERP_GRP_MEMBERS_MEMBER7 : Fld := ⟨56, 8⟩
def INTERP_GRP_CFG_QDEPTH : Fld := ⟨16, 9⟩
def INTERP_GRP_CFG_RESERVE : Fld := ⟨7, 9⟩
def INTERP_GRP_CFG_LOW_WATER : Fld := ⟨0, 7⟩
def INTERP_GRP_SCALE_SCALE : Fld := ⟨0, 32⟩
def INTERP_GRP_OVR_RAMP : Fld := ⟨16, 16⟩
def INTERP_GRP_OVR_OVR : Fld := ⟨0, 16⟩
def INTERP_GRP_TOL_TOL : Fld := ⟨0, 64⟩
def INTERP_GRP_STATUS_LIMITED : Fld := ⟨31, 1⟩
def INTERP_GRP_STATUS_DRAINED : Fld := ⟨30, 1⟩
def INTERP_GRP_STATUS_STATE : Fld := ⟨24, 3⟩
def INTERP_GRP_STATUS_EFF_OVR : Fld := ⟨16, 8⟩
def INTERP_GRP_STATUS_SEG_TAG : Fld := ⟨0, 16⟩
def INTERP_GRP_FILL_START_LAT : Fld := ⟨16, 16⟩
def INTERP_GRP_FILL_FILL : Fld := ⟨0, 9⟩
def INTERP_GRP_EVENT_IDLE : Fld := ⟨5, 1⟩
def INTERP_GRP_EVENT_HELD : Fld := ⟨4, 1⟩
def INTERP_GRP_EVENT_WAIT_TIMEOUT : Fld := ⟨3, 1⟩
def INTERP_GRP_EVENT_SEG_DONE : Fld := ⟨2, 1⟩
def INTERP_GRP_EVENT_UNDERRUN : Fld := ⟨1, 1⟩
def INTERP_GRP_EVENT_LOW_WATER : Fld := ⟨0, 1⟩
def INTERP_AXLIM_VMAX_VMAX : Fld := ⟨0, 64⟩
def INTERP_AXLIM_AMAX_AMAX : Fld := ⟨0, 64⟩
def INTERP_AXLIM_JMAX_JMAX : Fld := ⟨0, 64⟩
def INTERP_FOLLOW_STATUS_KIND : Fld := ⟨30, 2⟩
def INTERP_FOLLOW_STATUS_CLUTCHING : Fld := ⟨29, 1⟩
def INTERP_FOLLOW_STATUS_MASTER_LOST : Fld := ⟨28, 1⟩
def INTERP_FOLLOW_STATUS_MASTER_KIND : Fld := ⟨12, 3⟩
def INTERP_FOLLOW_STATUS_MASTER_INDEX : Fld := ⟨0, 6⟩
def INTERP_VM_VEL_VEL : Fld := ⟨0, 64⟩
def INTERP_VM_ACC_ACC : Fld := ⟨0, 64⟩
def INTERP_VM_POS_POS : Fld := ⟨0, 64⟩
def INTERP_CAM_PROF_CYCLIC : Fld := ⟨31, 1⟩
def INTERP_CAM_PROF_CARRY : Fld := ⟨30, 1⟩
def INTERP_CAM_PROF_COUNT : Fld := ⟨16, 13⟩
def INTERP_CAM_PROF_FIRST : Fld := ⟨0, 12⟩
def INTERP_CAM_LEN_LEN : Fld := ⟨0, 64⟩
def INTERP_ENGAGE_TOL_TOL : Fld := ⟨0, 64⟩
def INTERP_GANTRY_CFG_EN : Fld := ⟨31, 1⟩
def INTERP_GANTRY_CFG_KY : Fld := ⟨16, 15⟩
def INTERP_GANTRY_CFG_LEADER : Fld := ⟨8, 8⟩
def INTERP_GANTRY_CFG_PARTNER : Fld := ⟨0, 8⟩
def INTERP_GANTRY_LIMIT_CLAMP : Fld := ⟨16, 16⟩
def INTERP_GANTRY_LIMIT_LIMIT : Fld := ⟨0, 16⟩
def INTERP_GANTRY_OFFSET_OFFSET : Fld := ⟨0, 64⟩
def INTERP_GANTRY_YAW_E : Fld := ⟨0, 64⟩
def CAM_Y_Y : Fld := ⟨0, 64⟩
def CAM_S_S : Fld := ⟨0, 64⟩
def CE_LANE_CFG_VDIV : Fld := ⟨10, 2⟩
def CE_LANE_CFG_PDIV : Fld := ⟨8, 2⟩
def CE_LANE_CFG_RATE : Fld := ⟨0, 3⟩
def CE_LANE_STATUS_ACTIVE : Fld := ⟨25, 5⟩
def CE_LANE_STATUS_P3 : Fld := ⟨20, 5⟩
def CE_LANE_STATUS_P2 : Fld := ⟨15, 5⟩
def CE_LANE_STATUS_P1 : Fld := ⟨10, 5⟩
def CE_LANE_STATUS_P0 : Fld := ⟨5, 5⟩
def CE_LANE_STATUS_NMAX : Fld := ⟨0, 5⟩
def CE_LANE_LOAD_PEAK : Fld := ⟨16, 16⟩
def CE_LANE_LOAD_LAST : Fld := ⟨0, 16⟩
def CE_LANE_EVENT_HOOK_STALE : Fld := ⟨1, 1⟩
def CE_LANE_EVENT_OVERRUN : Fld := ⟨0, 1⟩
def CE_LANE_OVR_COUNT_COUNT : Fld := ⟨0, 32⟩
def CE_HSG_STATUS_ACTIVE : Fld := ⟨31, 1⟩
def CE_HSG_STATUS_SOURCE : Fld := ⟨0, 2⟩
def CE_HSG_TIME_TIME : Fld := ⟨0, 64⟩
def CE_AX_CFG_MOD : Fld := ⟨10, 1⟩
def CE_AX_CFG_ADV_HALF : Fld := ⟨9, 1⟩
def CE_AX_CFG_DIR_F : Fld := ⟨7, 1⟩
def CE_AX_CFG_FMODE : Fld := ⟨5, 2⟩
def CE_AX_CFG_FLOOR : Fld := ⟨4, 1⟩
def CE_AX_CFG_DECOUPLE : Fld := ⟨3, 1⟩
def CE_AX_CFG_SPH : Fld := ⟨0, 2⟩
def CE_AX_HOOK_STALE_LIMIT : Fld := ⟨8, 8⟩
def CE_AX_HOOK_EN : Fld := ⟨0, 5⟩
def CE_AX_FE_FE_TIME : Fld := ⟨24, 8⟩
def CE_AX_FE_FE_LIMIT : Fld := ⟨0, 24⟩
def CE_AX_ADV_ADV_TRIM : Fld := ⟨0, 16⟩
def CE_AX_NOTCH_CFG_MODE1 : Fld := ⟨2, 2⟩
def CE_AX_NOTCH_CFG_MODE0 : Fld := ⟨0, 2⟩
def CE_AX_PARAM_VALUE : Fld := ⟨0, 32⟩
def CE_AX_NOTCHP_VALUE : Fld := ⟨0, 32⟩
def CE_AX_STATUS_HSG : Fld := ⟨31, 1⟩
def CE_AX_STATUS_SAT : Fld := ⟨30, 1⟩
def CE_AX_STATUS_WINNER : Fld := ⟨28, 2⟩
def CE_AX_STATUS_FLOORED : Fld := ⟨27, 1⟩
def CE_AX_STATUS_IV_CLAMP : Fld := ⟨26, 1⟩
def CE_AX_STATUS_IF_CLAMP : Fld := ⟨25, 1⟩
def CE_AX_STATUS_VI_CLAMP : Fld := ⟨24, 1⟩
def CE_AX_STATUS_IMAX_CLAMP : Fld := ⟨23, 1⟩
def CE_AX_STATUS_HOOK_STALE : Fld := ⟨16, 5⟩
def CE_AX_DELAY_MAX : Fld := ⟨16, 16⟩
def CE_AX_DELAY_LAST : Fld := ⟨0, 16⟩
def CE_AX_SIG_VALUE : Fld := ⟨0, 32⟩
def CFE_CLK_CFG_EXT : Fld := ⟨31, 1⟩
def CFE_CLK_CFG_EXT_DIV : Fld := ⟨16, 7⟩
def CFE_CLK_CFG_CAP_DLY : Fld := ⟨0, 5⟩
def CFE_CLK_STATUS_EXT_LOST : Fld := ⟨31, 1⟩
def CFE_CLK_STATUS_SDCK_FAULT : Fld := ⟨0, 20⟩
def CFE_SDCK_CFG_EN : Fld := ⟨31, 1⟩
def CFE_SDCK_CFG_DIV : Fld := ⟨16, 7⟩
def CFE_SDCK_CFG_CAP_DLY : Fld := ⟨0, 5⟩
def CFE_BANK_CAL_REF_EN : Fld := ⟨31, 1⟩
def CFE_BANK_CAL_REF_IN : Fld := ⟨0, 8⟩
def CFE_BANK_REF_REF_NOM : Fld := ⟨0, 24⟩
def CFE_BANK_GAIN_GAIN : Fld := ⟨0, 32⟩
def CFE_BANK_AGE_CAL_AGE : Fld := ⟨0, 32⟩
def CFE_SD_CFG_EN : Fld := ⟨31, 1⟩
def CFE_SD_CFG_CLKSEL : Fld := ⟨28, 3⟩
def CFE_SD_CFG_OSR : Fld := ⟨25, 3⟩
def CFE_SD_CFG_CAL_EN : Fld := ⟨24, 1⟩
def CFE_SD_CFG_GAIN_APPLY : Fld := ⟨23, 1⟩
def CFE_SD_CFG_OC_EN : Fld := ⟨22, 1⟩
def CFE_SD_CFG_OC_W : Fld := ⟨21, 1⟩
def CFE_SD_CFG_OC_N : Fld := ⟨18, 3⟩
def CFE_SD_CFG_STUCK_EN : Fld := ⟨17, 1⟩
def CFE_SD_CFG_ALT_EN : Fld := ⟨16, 1⟩
def CFE_SD_CFG_STUCK_N : Fld := ⟨13, 3⟩
def CFE_SD_CFG_RANGE_N : Fld := ⟨8, 2⟩
def CFE_SD_OC_OC_HI : Fld := ⟨16, 16⟩
def CFE_SD_OC_OC_LO : Fld := ⟨0, 16⟩
def CFE_SD_RANGE_RANGE_HI : Fld := ⟨16, 16⟩
def CFE_SD_RANGE_RANGE_LO : Fld := ⟨0, 16⟩
def CFE_SD_GAIN_GAIN : Fld := ⟨0, 32⟩
def CFE_SD_OFFSET_OFFSET : Fld := ⟨0, 24⟩
def CFE_SD_VALUE_SIGN : Fld := ⟨24, 8⟩
def CFE_SD_VALUE_WORD : Fld := ⟨0, 24⟩
def CFE_SD_STATUS_FILLING : Fld := ⟨31, 1⟩
def CFE_SD_STATUS_CAL_VALID : Fld := ⟨30, 1⟩
def CFE_SD_STATUS_CAL_LIMIT : Fld := ⟨6, 1⟩
def CFE_SD_STATUS_ALT : Fld := ⟨5, 1⟩
def CFE_SD_STATUS_STUCK : Fld := ⟨4, 1⟩
def CFE_SD_STATUS_RANGE : Fld := ⟨3, 1⟩
def CFE_SD_STATUS_OC_W : Fld := ⟨2, 1⟩
def CFE_SD_STATUS_OC_LO : Fld := ⟨1, 1⟩
def CFE_SD_STATUS_OC_HI : Fld := ⟨0, 1⟩
def PWM_BANK_CFG_MODE0 : Fld := ⟨31, 1⟩
def PWM_BANK_CFG_RPEAK0 : Fld := ⟨30, 1⟩
def PWM_BANK_CFG_MODE1 : Fld := ⟨29, 1⟩
def PWM_BANK_CFG_RPEAK1 : Fld := ⟨28, 1⟩
def PWM_BANK_CFG_EN1 : Fld := ⟨27, 1⟩
def PWM_BANK_CFG_PERIOD1 : Fld := ⟨0, 19⟩
def PWM_BANK_STATUS_FROZEN : Fld := ⟨31, 1⟩
def PWM_BANK_STATUS_TB1_RUN : Fld := ⟨30, 1⟩
def PWM_BANK_STATUS_TB1_POS : Fld := ⟨0, 19⟩
def PWM_BANK_POS_TB0_POS : Fld := ⟨16, 16⟩
def PWM_TRIP_CFG_EN : Fld := ⟨31, 1⟩
def PWM_TRIP_CFG_INV : Fld := ⟨30, 1⟩
def PWM_TRIP_CFG_REARM : Fld := ⟨29, 1⟩
def PWM_TRIP_CFG_FILT : Fld := ⟨10, 6⟩
def PWM_TRIP_CFG_BLANK : Fld := ⟨0, 10⟩
def PWM_TRIP_STATUS_LEVEL : Fld := ⟨31, 1⟩
def PWM_TRIP_STATUS_LATCHED : Fld := ⟨30, 1⟩
def PWM_TRIP_STATUS_TRIPPED : Fld := ⟨16, 1⟩
def PWM_TRIP_STATUS_COUNT : Fld := ⟨0, 16⟩
def PWM_LEG_CFG_BOUND : Fld := ⟨31, 1⟩
def PWM_LEG_CFG_HOST : Fld := ⟨30, 1⟩
def PWM_LEG_CFG_RUN : Fld := ⟨29, 1⟩
def PWM_LEG_CFG_TB : Fld := ⟨28, 1⟩
def PWM_LEG_CFG_POLICY : Fld := ⟨27, 1⟩
def PWM_LEG_CFG_MINP_MODE : Fld := ⟨26, 1⟩
def PWM_LEG_CFG_POL_H : Fld := ⟨25, 1⟩
def PWM_LEG_CFG_POL_L : Fld := ⟨24, 1⟩
def PWM_LEG_CFG_TRIP : Fld := ⟨16, 8⟩
def PWM_LEG_CFG_MINP : Fld := ⟨8, 8⟩
def PWM_LEG_CFG_GUARD : Fld := ⟨0, 8⟩
def PWM_LEG_DT_DT_R : Fld := ⟨16, 11⟩
def PWM_LEG_DT_DT_F : Fld := ⟨0, 11⟩
def PWM_LEG_CMP_CMP : Fld := ⟨0, 24⟩
def PWM_LEG_ACT_H_ON : Fld := ⟨31, 1⟩
def PWM_LEG_ACT_L_ON : Fld := ⟨30, 1⟩
def PWM_LEG_ACT_HIZ : Fld := ⟨29, 1⟩
def PWM_LEG_ACT_CMP_EFF : Fld := ⟨0, 24⟩
def PWM_LEG_COUNT_LATE : Fld := ⟨24, 8⟩
def PWM_LEG_COUNT_LATE_EDGE : Fld := ⟨16, 8⟩
def PWM_LEG_COUNT_DROPPED : Fld := ⟨8, 8⟩
def PWM_LEG_COUNT_STRETCHED : Fld := ⟨0, 8⟩
def ENC_CFG_MODE : Fld := ⟨30, 2⟩
def ENC_CFG_DIR : Fld := ⟨29, 1⟩
def ENC_CFG_LISTEN : Fld := ⟨28, 1⟩
def ENC_CFG_HIZ_RX : Fld := ⟨27, 1⟩
def ENC_CFG_GRAY : Fld := ⟨26, 1⟩
def ENC_CFG_PARITY : Fld := ⟨25, 1⟩
def ENC_CFG_ERRBIT_EN : Fld := ⟨24, 1⟩
def ENC_CFG_FILT : Fld := ⟨16, 8⟩
def ENC_CFG_ZGATE : Fld := ⟨14, 2⟩
def ENC_CFG_BAD_N : Fld := ⟨4, 4⟩
def ENC_SER_HALF : Fld := ⟨22, 10⟩
def ENC_SER_DATA_BITS : Fld := ⟨16, 6⟩
def ENC_SER_WIDTH : Fld := ⟨10, 6⟩
def ENC_SER_POS_LSB : Fld := ⟨4, 6⟩
def ENC_CRC_CRC_POLY : Fld := ⟨16, 16⟩
def ENC_CRC_CRC_LEN : Fld := ⟨11, 5⟩
def ENC_TIMING_START_OFS : Fld := ⟨20, 12⟩
def ENC_TIMING_ACK_MAX : Fld := ⟨12, 8⟩
def ENC_TIMING_TMO : Fld := ⟨0, 12⟩
def ENC_DLY_LATCH_DLY : Fld := ⟨16, 16⟩
def ENC_DLY_SAMPLE_DLY : Fld := ⟨0, 10⟩
def ENC_MAXDELTA_MAXDELTA : Fld := ⟨0, 32⟩
def ENC_POS_POS : Fld := ⟨0, 64⟩
def ENC_TIME_TIME : Fld := ⟨0, 64⟩
def ENC_ZPOS_ZPOS : Fld := ⟨0, 64⟩
def ENC_STATUS_FAILED : Fld := ⟨31, 1⟩
def ENC_STATUS_WARN : Fld := ⟨30, 1⟩
def ENC_STATUS_BADRUN : Fld := ⟨26, 4⟩
def ENC_STATUS_ZSEEN : Fld := ⟨9, 1⟩
def ENC_STATUS_MA_FAULT : Fld := ⟨8, 1⟩
def ENC_STATUS_OVERLAP : Fld := ⟨7, 1⟩
def ENC_STATUS_NOT_IDLE : Fld := ⟨6, 1⟩
def ENC_STATUS_TIMEOUT : Fld := ⟨5, 1⟩
def ENC_STATUS_CRC : Fld := ⟨4, 1⟩
def ENC_STATUS_PARITY : Fld := ⟨3, 1⟩
def ENC_STATUS_ERRBIT : Fld := ⟨2, 1⟩
def ENC_STATUS_DELTA : Fld := ⟨1, 1⟩
def ENC_STATUS_QERR : Fld := ⟨0, 1⟩
def FIX_CFG_EN : Fld := ⟨31, 1⟩
def FIX_CFG_SRC : Fld := ⟨30, 1⟩
def FIX_CFG_BOTH : Fld := ⟨29, 1⟩
def FIX_CFG_EDGE : Fld := ⟨28, 1⟩
def FIX_CFG_FILT : Fld := ⟨0, 3⟩
def FIX_OFS_OFS : Fld := ⟨0, 32⟩
def FIX_STATUS_ARMED : Fld := ⟨31, 1⟩
def FIX_STATUS_CONT : Fld := ⟨30, 1⟩
def FIX_STATUS_FORMING : Fld := ⟨29, 1⟩
def FIX_STATUS_MISSED : Fld := ⟨16, 8⟩
def FIX_STATUS_EVENTS : Fld := ⟨0, 16⟩
def FIX_REC_HDR_SEQ : Fld := ⟨16, 16⟩
def FIX_REC_HDR_SRC : Fld := ⟨0, 1⟩
def FIX_REC_STAMP_STAMP : Fld := ⟨0, 64⟩
def FIX_REC_VALID_VALID : Fld := ⟨0, 64⟩
def FIX_REC_POS_POS : Fld := ⟨0, 64⟩
def PCO_CFG_POL : Fld := ⟨31, 1⟩
def PCO_CFG_SRC : Fld := ⟨30, 1⟩
def PCO_CFG_DIR : Fld := ⟨29, 1⟩
def PCO_CFG_MODE : Fld := ⟨28, 1⟩
def PCO_CFG_REPEAT : Fld := ⟨27, 1⟩
def PCO_CFG_AXIS : Fld := ⟨16, 6⟩
def PCO_CFG_WIDTH : Fld := ⟨0, 16⟩
def PCO_LIST_FIRST : Fld := ⟨16, 10⟩
def PCO_LIST_COUNT : Fld := ⟨0, 11⟩
def PCO_STATUS_ENABLED : Fld := ⟨31, 1⟩
def PCO_STATUS_DONE : Fld := ⟨30, 1⟩
def PCO_STATUS_NEXT : Fld := ⟨16, 10⟩
def PCO_STATUS_OVERLAP : Fld := ⟨8, 8⟩
def PCO_STATUS_LATE : Fld := ⟨0, 8⟩
def COMPARE_POS : Fld := ⟨0, 64⟩
def TD_CTRL_RECOVER : Fld := ⟨31, 1⟩
def TD_CTRL_EVR_L1 : Fld := ⟨30, 1⟩
def TD_STATUS_SMM : Fld := ⟨31, 1⟩
def TD_STATUS_BANK : Fld := ⟨30, 1⟩
def TD_STATUS_LVL : Fld := ⟨28, 2⟩
def TD_STATUS_LDEPTH : Fld := ⟨26, 2⟩
def TD_STATUS_PC : Fld := ⟨13, 13⟩
def TD_STATUS_STATE : Fld := ⟨0, 3⟩
def TD_FAULT_HOOK_WERR : Fld := ⟨5, 1⟩
def TD_FAULT_TRIG_OVR : Fld := ⟨4, 1⟩
def TD_FAULT_LOOP : Fld := ⟨3, 1⟩
def TD_FAULT_ADDR : Fld := ⟨2, 1⟩
def TD_FAULT_ILLEGAL : Fld := ⟨1, 1⟩
def TD_FAULT_PC_PC : Fld := ⟨0, 13⟩
def TD_TRIG_EN : Fld := ⟨31, 1⟩
def TD_TRIG_LEVEL : Fld := ⟨30, 1⟩
def TD_TRIG_LANE : Fld := ⟨28, 2⟩
def TD_TRIG_DIV : Fld := ⟨20, 8⟩
def TD_TRIG_OFS : Fld := ⟨0, 20⟩
def TD_TRIG_STATUS_OVR_COUNT : Fld := ⟨16, 16⟩
def TD_TRIG_STATUS_PENDING : Fld := ⟨0, 8⟩
def TD_RUNTIME_MAX : Fld := ⟨16, 16⟩
def TD_RUNTIME_LAST : Fld := ⟨0, 16⟩
def TD_STALLS_COUNT : Fld := ⟨0, 32⟩
def TD_IMAGE_CRC : Fld := ⟨0, 32⟩
def TD_SIGSCALE_SCALE : Fld := ⟨0, 32⟩
def TD_HOOK_MASK_AXES : Fld := ⟨0, 64⟩
def TRACE_CTRL_RELEASE : Fld := ⟨3, 1⟩
def TRACE_CTRL_FORCE : Fld := ⟨2, 1⟩
def TRACE_CTRL_DISARM : Fld := ⟨1, 1⟩
def TRACE_CTRL_ARM : Fld := ⟨0, 1⟩
def TRACE_STATUS_STATE : Fld := ⟨29, 3⟩
def TRACE_STATUS_REL : Fld := ⟨28, 1⟩
def TRACE_STATUS_ACQ : Fld := ⟨16, 8⟩
def TRACE_STATUS_TRIG_IN_GAP : Fld := ⟨7, 1⟩
def TRACE_STATUS_MASK_STOP : Fld := ⟨6, 1⟩
def TRACE_STATUS_FORCED : Fld := ⟨5, 1⟩
def TRACE_STATUS_PARTIAL : Fld := ⟨4, 1⟩
def TRACE_STATUS_TRIG_OVERRUN : Fld := ⟨3, 1⟩
def TRACE_STATUS_TRIGGERED : Fld := ⟨2, 1⟩
def TRACE_STATUS_GAP : Fld := ⟨1, 1⟩
def TRACE_STATUS_RDPTR_BAD : Fld := ⟨0, 1⟩
def TRACE_CFG_MODE : Fld := ⟨30, 2⟩
def TRACE_CFG_AUTO_TMO : Fld := ⟨6, 13⟩
def TRACE_CFG_NCH : Fld := ⟨0, 6⟩
def TRACE_CLK_SRC : Fld := ⟨29, 3⟩
def TRACE_CLK_INPUT : Fld := ⟨16, 8⟩
def TRACE_CLK_DIV : Fld := ⟨0, 16⟩
def TRACE_POST_POST : Fld := ⟨0, 32⟩
def TRACE_TRIG_CFG_SEQ : Fld := ⟨31, 1⟩
def TRACE_TRIG_CFG_OPA : Fld := ⟨30, 1⟩
def TRACE_TRIG_CFG_OPB : Fld := ⟨29, 1⟩
def TRACE_TRIG_CFG_MASKB : Fld := ⟨8, 8⟩
def TRACE_TRIG_CFG_MASKA : Fld := ⟨0, 8⟩
def TRACE_PTR_FULL : Fld := ⟨63, 1⟩
def TRACE_PTR_OLDEST : Fld := ⟨32, 20⟩
def TRACE_PTR_WRPTR : Fld := ⟨0, 20⟩
def TRACE_GEOM_WORDS : Fld := ⟨20, 7⟩
def TRACE_GEOM_DEPTH : Fld := ⟨0, 20⟩
def TRACE_TRIG_POS : Fld := ⟨32, 32⟩
def TRACE_TRIG_SEQ : Fld := ⟨0, 32⟩
def TRACE_TRIG_SRC_VALID : Fld := ⟨31, 1⟩
def TRACE_TRIG_SRC_FORCED : Fld := ⟨30, 1⟩
def TRACE_TRIG_SRC_DEFINER : Fld := ⟨24, 4⟩
def TRACE_TRIG_SRC_MASK : Fld := ⟨0, 8⟩
def TRACE_T0_TIME : Fld := ⟨0, 64⟩
def TRACE_TRIG_TIME_TIME : Fld := ⟨0, 64⟩
def TRACE_COUNTS_GAP_SAMPLES : Fld := ⟨32, 32⟩
def TRACE_COUNTS_VIOL : Fld := ⟨0, 32⟩
def TRACE_RDPTR_RDPTR : Fld := ⟨0, 20⟩
def TRACE_MASK_CFG_EN0 : Fld := ⟨7, 1⟩
def TRACE_MASK_CFG_CH0 : Fld := ⟨0, 6⟩
def TRACE_MASK_CFG_EN1 : Fld := ⟨15, 1⟩
def TRACE_MASK_CFG_CH1 : Fld := ⟨8, 6⟩
def TRACE_MASK_CFG_EN2 : Fld := ⟨23, 1⟩
def TRACE_MASK_CFG_CH2 : Fld := ⟨16, 6⟩
def TRACE_MASK_CFG_EN3 : Fld := ⟨31, 1⟩
def TRACE_MASK_CFG_CH3 : Fld := ⟨24, 6⟩
def TRACE_MASK_SPAN_STOPV : Fld := ⟨31, 1⟩
def TRACE_MASK_SPAN_POINTS : Fld := ⟨16, 10⟩
def TRACE_MASK_SPAN_SPAN : Fld := ⟨0, 16⟩
def TRACE_CH_KIND : Fld := ⟨30, 2⟩
def TRACE_CH_INDEX : Fld := ⟨4, 8⟩
def TRACE_CH_SIG : Fld := ⟨0, 4⟩
def TRACE_CMP_CFG_TYPE : Fld := ⟨29, 3⟩
def TRACE_CMP_CFG_SENSE : Fld := ⟨27, 2⟩
def TRACE_CMP_CFG_EVSRC : Fld := ⟨16, 10⟩
def TRACE_CMP_CFG_CH : Fld := ⟨0, 6⟩
def TRACE_CMP_VAL_B : Fld := ⟨32, 32⟩
def TRACE_CMP_VAL_A : Fld := ⟨0, 32⟩
def SNAP_CFG_KEEP : Fld := ⟨31, 1⟩
def SNAP_CFG_PIN_EN : Fld := ⟨30, 1⟩
def SNAP_CFG_PIN_EDGE : Fld := ⟨29, 1⟩
def SNAP_CFG_TIE_IN : Fld := ⟨28, 1⟩
def SNAP_CFG_TIE_OUT : Fld := ⟨27, 1⟩
def SNAP_CFG_OUT_EN : Fld := ⟨26, 1⟩
def SNAP_CFG_SAFETY : Fld := ⟨25, 1⟩
def SNAP_CFG_TRACE : Fld := ⟨24, 1⟩
def SNAP_AXMASK_AXES : Fld := ⟨0, 64⟩
def SNAP_STATUS_BUSY : Fld := ⟨31, 1⟩
def SNAP_STATUS_NEXT : Fld := ⟨24, 2⟩
def SNAP_STATUS_FULL : Fld := ⟨16, 4⟩
def SNAP_STATUS_LOST : Fld := ⟨8, 8⟩
def SNAP_STATUS_MERGED : Fld := ⟨0, 8⟩
def TRACE_MASK_BOUND : Fld := ⟨0, 32⟩
def SNAP_HDR_SEQ : Fld := ⟨16, 16⟩
def SNAP_HDR_VALID : Fld := ⟨15, 1⟩
def SNAP_HDR_FILLING : Fld := ⟨14, 1⟩
def SNAP_HDR_SOURCE : Fld := ⟨0, 6⟩
def SNAP_CAUSE_AXIS : Fld := ⟨16, 6⟩
def SNAP_CAUSE_FIRST : Fld := ⟨0, 3⟩
def SNAP_TIME_TIME : Fld := ⟨0, 64⟩
def EVR_SRC_CFG_EN : Fld := ⟨31, 1⟩
def EVR_SRC_CFG_COMPAT : Fld := ⟨30, 1⟩
def EVR_SRC_CFG_WAKE : Fld := ⟨29, 1⟩
def EVR_SRC_CFG_LEVEL : Fld := ⟨28, 1⟩
def EVR_SRC_CFG_WAKE_CAP : Fld := ⟨27, 1⟩
def EVR_SRC_CFG_TARGET : Fld := ⟨24, 3⟩
def EVR_SRC_CFG_VECTOR : Fld := ⟨8, 6⟩
def EVR_SRC_CFG_PRIO : Fld := ⟨0, 4⟩
def EVR_TGT_CFG_WAKE : Fld := ⟨31, 1⟩
def EVR_TGT_CFG_FALLBACK : Fld := ⟨24, 3⟩
def EVR_TGT_CFG_REHOME : Fld := ⟨0, 10⟩
def EVR_MOD_HOLDOFF : Fld := ⟨16, 10⟩
def EVR_MOD_COALESCE : Fld := ⟨0, 8⟩
def EVR_PIN_MASK_VECTORS : Fld := ⟨0, 64⟩
def EVR_STATE_STATE : Fld := ⟨0, 32⟩
def EVR_WAKE_LATCH_LATCH : Fld := ⟨0, 48⟩
def EVR_COUNTS_SPURIOUS : Fld := ⟨48, 16⟩
def EVR_COUNTS_REHOMED : Fld := ⟨32, 16⟩
def EVR_COUNTS_BAD_COMPLETE : Fld := ⟨16, 16⟩
def EVR_COUNTS_FORCED : Fld := ⟨0, 16⟩
def EVR_LAST_SPUR_SRC : Fld := ⟨16, 10⟩
def EVR_LAST_FROM : Fld := ⟨13, 3⟩
def EVR_LAST_TO : Fld := ⟨10, 3⟩
def EVR_LAST_REHOME_SRC : Fld := ⟨0, 10⟩
def EVR_HOST_COMPLETE_SOURCE : Fld := ⟨0, 10⟩
def EVR_HOST_IDLE_IDLE : Fld := ⟨0, 1⟩
def TRV_CFG_CH_EN : Fld := ⟨30, 2⟩
def TRV_CFG_RANK : Fld := ⟨27, 3⟩
def TRV_CFG_MIRROR : Fld := ⟨26, 1⟩
def TRV_CFG_SCHED_ID : Fld := ⟨0, 16⟩
def TRV_CYCLE_NSLOT : Fld := ⟨16, 7⟩
def TRV_CYCLE_CYCLE : Fld := ⟨0, 10⟩
def TRV_TIMING_AP : Fld := ⟨24, 8⟩
def TRV_TIMING_WIN : Fld := ⟨16, 8⟩
def TRV_TIMING_NLOSS : Fld := ⟨12, 4⟩
def TRV_TIMING_OFS_SH : Fld := ⟨4, 4⟩
def TRV_TIMING_RATE_SH : Fld := ⟨0, 4⟩
def TRV_PROP_PROP : Fld := ⟨0, 16⟩
def TRV_STATUS_STATE : Fld := ⟨29, 3⟩
def TRV_STATUS_ACTING : Fld := ⟨28, 1⟩
def TRV_STATUS_DRANK : Fld := ⟨26, 2⟩
def TRV_STATUS_DNODE : Fld := ⟨22, 4⟩
def TRV_STATUS_A_OK : Fld := ⟨21, 1⟩
def TRV_STATUS_B_OK : Fld := ⟨20, 1⟩
def TRV_STATUS_GUARD : Fld := ⟨19, 1⟩
def TRV_STATUS_SCHED_MISMATCH : Fld := ⟨18, 1⟩
def TRV_STATUS_MISS : Fld := ⟨4, 4⟩
def TRV_STATUS_NODE : Fld := ⟨0, 4⟩
def TRV_CYCLE_COUNT_CYCLE : Fld := ⟨0, 32⟩
def TRV_SYNC_RHO : Fld := ⟨32, 32⟩
def TRV_SYNC_OFFSET : Fld := ⟨0, 32⟩
def TRV_STEP_STEP : Fld := ⟨0, 64⟩
def TRV_ERR_CH_B_FAIL : Fld := ⟨9, 1⟩
def TRV_ERR_CH_A_FAIL : Fld := ⟨8, 1⟩
def TRV_ERR_TAKEOVER : Fld := ⟨7, 1⟩
def TRV_ERR_COLLISION : Fld := ⟨6, 1⟩
def TRV_ERR_TX_BLOCKED : Fld := ⟨5, 1⟩
def TRV_ERR_GUARD : Fld := ⟨4, 1⟩
def TRV_ERR_READBACK : Fld := ⟨3, 1⟩
def TRV_ERR_HDR : Fld := ⟨2, 1⟩
def TRV_ERR_CRC : Fld := ⟨1, 1⟩
def TRV_ERR_BOUNDARY : Fld := ⟨0, 1⟩
def TRV_COUNTS_BOUNDARY : Fld := ⟨48, 16⟩
def TRV_COUNTS_CRC : Fld := ⟨32, 16⟩
def TRV_COUNTS_HDR : Fld := ⟨16, 16⟩
def TRV_COUNTS_GUARD : Fld := ⟨0, 16⟩
def TRV_FLAG_OWN_OWN : Fld := ⟨0, 64⟩
def TRV_TX_FLAGS_FLAGS : Fld := ⟨0, 64⟩
def TRV_RX_FLAGS_FLAGS : Fld := ⟨0, 64⟩
def TRV_SLOT_START : Fld := ⟨16, 16⟩
def TRV_SLOT_KIND : Fld := ⟨13, 3⟩
def TRV_SLOT_OWNER : Fld := ⟨8, 4⟩
def TRV_SLOT_TNODE : Fld := ⟨4, 4⟩
def TRV_SLOT_X_WORDS : Fld := ⟨26, 6⟩
def TRV_SLOT_X_FLAGS : Fld := ⟨25, 1⟩
def TRV_SLOT_X_NREC : Fld := ⟨21, 4⟩
def TRV_SLOT_X_LANE : Fld := ⟨19, 2⟩
def TRV_POS_TX_EN : Fld := ⟨31, 1⟩
def TRV_POS_TX_KIND : Fld := ⟨30, 1⟩
def TRV_POS_TX_SLOT : Fld := ⟨24, 6⟩
def TRV_POS_TX_RECORD : Fld := ⟨16, 5⟩
def TRV_POS_TX_AXIS : Fld := ⟨0, 6⟩
def TRV_POS_RXCFG_EN : Fld := ⟨31, 1⟩
def TRV_POS_RXCFG_SLOT : Fld := ⟨0, 6⟩
def TRV_RXPOS_POS : Fld := ⟨0, 64⟩
def TRV_RXVEL_VEL : Fld := ⟨0, 64⟩
def TRV_RXTIME_TIME : Fld := ⟨0, 64⟩
def TRV_RXAGE_KIND : Fld := ⟨8, 1⟩
def TRV_RXAGE_AGE : Fld := ⟨0, 8⟩
def TRV_TXUSER_WORD : Fld := ⟨0, 32⟩
def TRV_RXHDR_AGE : Fld := ⟨24, 8⟩
def TRV_RXHDR_RXAGE : Fld := ⟨16, 8⟩
def TRV_RXHDR_DCOUNT : Fld := ⟨0, 16⟩
def TRV_RXWORD_WORD : Fld := ⟨0, 32⟩
def CAN_CFG_AUTO_REC : Fld := ⟨31, 1⟩
def CAN_CFG_DEF_REJECT : Fld := ⟨30, 1⟩
def CAN_CFG_CORR_PERIOD : Fld := ⟨16, 10⟩
def CAN_NBT_SJW : Fld := ⟨25, 7⟩
def CAN_NBT_TSEG1 : Fld := ⟨16, 9⟩
def CAN_NBT_TSEG2 : Fld := ⟨8, 7⟩
def CAN_NBT_BRP : Fld := ⟨0, 5⟩
def CAN_DBT_TDC_EN : Fld := ⟨31, 1⟩
def CAN_DBT_TDCO : Fld := ⟨24, 7⟩
def CAN_DBT_DSJW : Fld := ⟨20, 4⟩
def CAN_DBT_DTSEG1 : Fld := ⟨15, 5⟩
def CAN_DBT_DTSEG2 : Fld := ⟨11, 4⟩
def CAN_DBT_DBRP : Fld := ⟨0, 5⟩
def CAN_STATUS_STATE : Fld := ⟨29, 3⟩
def CAN_STATUS_ERR_STATE : Fld := ⟨27, 2⟩
def CAN_STATUS_WARN : Fld := ⟨26, 1⟩
def CAN_STATUS_HELD : Fld := ⟨25, 1⟩
def CAN_STATUS_TEC : Fld := ⟨16, 9⟩
def CAN_STATUS_REC : Fld := ⟨8, 8⟩
def CAN_STATUS_HELD_IDX : Fld := ⟨0, 6⟩
def CAN_ERR_DB_BAD : Fld := ⟨9, 1⟩
def CAN_ERR_RX_OVR : Fld := ⟨8, 1⟩
def CAN_ERR_BUSOFF : Fld := ⟨7, 1⟩
def CAN_ERR_PASSIVE : Fld := ⟨6, 1⟩
def CAN_ERR_WARN_HIT : Fld := ⟨5, 1⟩
def CAN_ERR_ACK : Fld := ⟨4, 1⟩
def CAN_ERR_CRC : Fld := ⟨3, 1⟩
def CAN_ERR_FORM : Fld := ⟨2, 1⟩
def CAN_ERR_STUFF : Fld := ⟨1, 1⟩
def CAN_ERR_BIT : Fld := ⟨0, 1⟩
def CAN_COUNTS_RX_DROP : Fld := ⟨48, 16⟩
def CAN_COUNTS_ARB_LOST : Fld := ⟨32, 16⟩
def CAN_COUNTS_ERRORS : Fld := ⟨16, 16⟩
def CAN_COUNTS_BUSOFFS : Fld := ⟨0, 16⟩
def CAN_TX_PEND_PEND : Fld := ⟨0, 64⟩
def CAN_TX_DONE_DONE : Fld := ⟨0, 64⟩
def CAN_RX_PTR_PROD : Fld := ⟨16, 16⟩
def CAN_RX_PTR_CONS : Fld := ⟨0, 16⟩
def CAN_RX_DOORBELL_CONS : Fld := ⟨0, 16⟩
def CAN_TSC_COUNT : Fld := ⟨0, 32⟩
def CAN_CORR_TIME_TIME : Fld := ⟨0, 64⟩
def CAN_CORR_TS_SEQ : Fld := ⟨48, 16⟩
def CAN_CORR_TS_TS : Fld := ⟨0, 32⟩
def CAN_FLT_EN : Fld := ⟨63, 1⟩
def CAN_FLT_ACTION : Fld := ⟨61, 2⟩
def CAN_FLT_IDE : Fld := ⟨60, 1⟩
def CAN_FLT_MASK : Fld := ⟨30, 29⟩
def CAN_FLT_ID : Fld := ⟨0, 29⟩
def FIELD_LINK_STATUS_STALE : Fld := ⟨31, 1⟩
def FIELD_LINK_STATUS_SUPPLY : Fld := ⟨30, 1⟩
def FIELD_LINK_STATUS_FALLBACK : Fld := ⟨29, 1⟩
def FIELD_LINK_STATUS_RX_SEQ : Fld := ⟨16, 8⟩
def FIELD_LINK_STATUS_SUPPLY_LOST : Fld := ⟨2, 1⟩
def FIELD_LINK_STATUS_STALE_HIT : Fld := ⟨1, 1⟩
def FIELD_LINK_STATUS_BAD : Fld := ⟨0, 1⟩
def FIELD_LINK_COUNT_DOWN : Fld := ⟨16, 16⟩
def FIELD_LINK_COUNT_UP : Fld := ⟨0, 16⟩
def FIELD_GROUP_STATUS_EN : Fld := ⟨31, 1⟩
def FIELD_GROUP_STATUS_UV : Fld := ⟨30, 1⟩
def FIELD_GROUP_STATUS_CURRENT : Fld := ⟨16, 12⟩
def FIELD_GROUP_STATUS_OC : Fld := ⟨1, 1⟩
def FIELD_GROUP_STATUS_UV_HIT : Fld := ⟨0, 1⟩
def FIELD_IN_LEVEL : Fld := ⟨0, 64⟩
def FIELD_IN_WB_BREAK : Fld := ⟨0, 64⟩
def FIELD_OUT_CMD_CMD : Fld := ⟨0, 48⟩
def FIELD_OUT_ACT_ON : Fld := ⟨0, 48⟩
def FIELD_IN_CFG_PRESET : Fld := ⟨30, 2⟩
def FIELD_IN_CFG_HYST : Fld := ⟨29, 1⟩
def FIELD_IN_CFG_THR : Fld := ⟨24, 5⟩
def FIELD_IN_CFG_FILT : Fld := ⟨20, 4⟩
def FIELD_IN_CFG_WB_EN : Fld := ⟨19, 1⟩
def FIELD_IN_CFG_EDGE : Fld := ⟨17, 2⟩
def FIELD_OUT_CFG_FB : Fld := ⟨31, 1⟩
def FIELD_OUT_CFG_RESTART : Fld := ⟨30, 1⟩
def FIELD_OUT_CFG_OL_EN : Fld := ⟨29, 1⟩
def FIELD_OUT_CFG_PAIR : Fld := ⟨28, 1⟩
def FIELD_OUT_DIAG_CLASS : Fld := ⟨29, 3⟩
def FIELD_OUT_DIAG_THERMAL : Fld := ⟨3, 1⟩
def FIELD_OUT_DIAG_OVERLOAD : Fld := ⟨2, 1⟩
def FIELD_OUT_DIAG_OPEN : Fld := ⟨1, 1⟩
def FIELD_OUT_DIAG_VOLT_OFF : Fld := ⟨0, 1⟩
def SAFETY_STATUS_CH_A_RUN : Fld := ⟨31, 1⟩
def SAFETY_STATUS_CH_B_RUN : Fld := ⟨30, 1⟩
def SAFETY_STATUS_SET_VALID : Fld := ⟨29, 1⟩
def SAFETY_STATUS_FAULT : Fld := ⟨28, 1⟩
def SAFETY_STATUS_STARTUP : Fld := ⟨27, 1⟩
def SAFETY_STATUS_STO : Fld := ⟨20, 4⟩
def SAFETY_STATUS_DEMAND : Fld := ⟨8, 8⟩
def SAFETY_STATUS_RESTART : Fld := ⟨0, 8⟩
def SAFETY_SET_CRC_ACTIVE : Fld := ⟨0, 32⟩
def SAFETY_SET_ID_ID : Fld := ⟨0, 16⟩
def SAFETY_SET_PEND_LOADED : Fld := ⟨0, 32⟩
def SAFETY_IN_CH_B : Fld := ⟨16, 16⟩
def SAFETY_IN_CH_A : Fld := ⟨0, 16⟩
def SAFETY_PAIR_DEMAND : Fld := ⟨24, 8⟩
def SAFETY_PAIR_DISC : Fld := ⟨16, 8⟩
def SAFETY_PAIR_TP_FAULT : Fld := ⟨0, 16⟩
def SAFETY_OUT_STOEN_A : Fld := ⟨28, 4⟩
def SAFETY_OUT_STOEN_B : Fld := ⟨24, 4⟩
def SAFETY_OUT_SO_STATE : Fld := ⟨16, 4⟩
def SAFETY_OUT_SO_CMD : Fld := ⟨12, 4⟩
def SAFETY_FAULT_FIRST : Fld := ⟨16, 8⟩
def SAFETY_FAULT_SELFTEST_B : Fld := ⟨7, 1⟩
def SAFETY_FAULT_LOCKSTEP : Fld := ⟨6, 1⟩
def SAFETY_FAULT_TP_OUTPUT : Fld := ⟨5, 1⟩
def SAFETY_FAULT_SO_READBACK : Fld := ⟨4, 1⟩
def SAFETY_FAULT_MSG_B_MISSING : Fld := ⟨3, 1⟩
def SAFETY_FAULT_MSG_A_MISSING : Fld := ⟨2, 1⟩
def SAFETY_FAULT_COMPARE : Fld := ⟨0, 1⟩
def SAFETY_CYCLE_CYCLE : Fld := ⟨0, 32⟩
def SAFETY_EVENT_TIME_TIME : Fld := ⟨0, 64⟩
def PAIR_CFG_EN : Fld := ⟨31, 1⟩
def PAIR_CFG_HB_MISS : Fld := ⟨24, 4⟩
def PAIR_CFG_DIV_LIM : Fld := ⟨16, 8⟩
def PAIR_CFG_BOOT_WAIT : Fld := ⟨0, 16⟩
def PAIR_STATUS_ROLE : Fld := ⟨31, 1⟩
def PAIR_STATUS_STATE : Fld := ⟨28, 3⟩
def PAIR_STATUS_PARTNER : Fld := ⟨25, 3⟩
def PAIR_STATUS_LINK_UP : Fld := ⟨24, 1⟩
def PAIR_STATUS_HB_TIE : Fld := ⟨23, 1⟩
def PAIR_STATUS_HB_PIN : Fld := ⟨22, 1⟩
def PAIR_STATUS_CFG_MATCH : Fld := ⟨21, 1⟩
def PAIR_STATUS_SAFE_MATCH : Fld := ⟨20, 1⟩
def PAIR_STATUS_TIME_OK : Fld := ⟨19, 1⟩
def PAIR_STATUS_TRV_MUTED : Fld := ⟨18, 1⟩
def PAIR_EVENT_SAFETY_DIFF : Fld := ⟨7, 1⟩
def PAIR_EVENT_RESIGNED : Fld := ⟨6, 1⟩
def PAIR_EVENT_DIVERGE : Fld := ⟨5, 1⟩
def PAIR_EVENT_MISMATCH : Fld := ⟨4, 1⟩
def PAIR_EVENT_LINK_DOWN : Fld := ⟨3, 1⟩
def PAIR_EVENT_READY : Fld := ⟨2, 1⟩
def PAIR_EVENT_PARTNER_LOST : Fld := ⟨1, 1⟩
def PAIR_EVENT_TOOK_OVER : Fld := ⟨0, 1⟩
def PAIR_COUNTS_LINK_ERR : Fld := ⟨48, 16⟩
def PAIR_COUNTS_HB_MISSED : Fld := ⟨32, 16⟩
def PAIR_COUNTS_MIRROR_LATE : Fld := ⟨16, 16⟩
def PAIR_COUNTS_DIVERGE : Fld := ⟨0, 16⟩
def PAIR_TAKEOVER_TIME_TIME : Fld := ⟨0, 64⟩
def PAIR_TAKEOVER_CAUSE : Fld := ⟨28, 4⟩
def PAIR_TAKEOVER_GAP : Fld := ⟨0, 24⟩
def PAIR_TIME_ERR : Fld := ⟨16, 16⟩
def PAIR_TIME_RTT : Fld := ⟨0, 16⟩
def STORE_STATUS_MOUNTED : Fld := ⟨31, 1⟩
def STORE_STATUS_GEOMETRY : Fld := ⟨30, 1⟩
def STORE_STATUS_TOO_SMALL : Fld := ⟨29, 1⟩
def STORE_STATUS_RATING_LOW : Fld := ⟨28, 1⟩
def STORE_STATUS_CE1_PRESENT : Fld := ⟨27, 1⟩
def STORE_STATUS_DDR : Fld := ⟨23, 1⟩
def STORE_STATUS_TMODE : Fld := ⟨16, 3⟩
def STORE_STATUS_BAD : Fld := ⟨0, 16⟩
def STORE_GEOM_LOG2_PAGE : Fld := ⟨28, 4⟩
def STORE_GEOM_LOG2_PPB : Fld := ⟨24, 4⟩
def STORE_GEOM_BLOCKS : Fld := ⟨0, 20⟩
def STORE_ERR_SCRUB_LATE : Fld := ⟨5, 1⟩
def STORE_ERR_BAD_WARN : Fld := ⟨4, 1⟩
def STORE_ERR_FULL : Fld := ⟨3, 1⟩
def STORE_ERR_RETIRED : Fld := ⟨2, 1⟩
def STORE_ERR_UNCORR : Fld := ⟨1, 1⟩
def STORE_ERR_THROTTLED : Fld := ⟨0, 1⟩
def STORE_COUNTS_CORRECTED : Fld := ⟨32, 32⟩
def STORE_COUNTS_UNCORR : Fld := ⟨16, 16⟩
def STORE_COUNTS_REFRESH : Fld := ⟨0, 16⟩
def STORE_CFG_SCRUB_DAYS : Fld := ⟨24, 8⟩
def STORE_CFG_REFRESH_THR : Fld := ⟨18, 6⟩
def STORE_CFG_BURST_DAYS : Fld := ⟨13, 5⟩
def STORE_CFG_TMAX : Fld := ⟨10, 3⟩
def STORE_CFG_DDR_EN : Fld := ⟨9, 1⟩
def STORE_PE_RATING : Fld := ⟨0, 24⟩
def STORE_BUDGET_RATE : Fld := ⟨32, 32⟩
def STORE_BUDGET_DEBT : Fld := ⟨23, 1⟩
def STORE_BUDGET_LEVEL : Fld := ⟨16, 7⟩
def STORE_WEAR_MAX : Fld := ⟨32, 32⟩
def STORE_WEAR_MIN : Fld := ⟨0, 32⟩
def STORE_PART_SIZE : Fld := ⟨32, 32⟩
def STORE_PART_USED : Fld := ⟨0, 32⟩
def POWER_CFG_CHG_EN : Fld := ⟨31, 1⟩
def POWER_CFG_CHG_I : Fld := ⟨28, 3⟩
def POWER_CFG_CHG_V : Fld := ⟨22, 6⟩
def POWER_CFG_BAK_MIN : Fld := ⟨17, 5⟩
def POWER_CFG_FLUSH_DELAY : Fld := ⟨8, 9⟩
def POWER_CFG_PF_FILT : Fld := ⟨0, 8⟩
def POWER_STATUS_ON_VBAK : Fld := ⟨31, 1⟩
def POWER_STATUS_BAK_OK : Fld := ⟨30, 1⟩
def POWER_STATUS_JOURNAL_ARMED : Fld := ⟨29, 1⟩
def POWER_STATUS_CHARGING : Fld := ⟨28, 1⟩
def POWER_STATUS_VNAND_OK : Fld := ⟨27, 1⟩
def POWER_STATUS_PF_ACTIVE : Fld := ⟨26, 1⟩
def POWER_STATUS_LAST_PF : Fld := ⟨25, 1⟩
def POWER_STATUS_UNWARNED : Fld := ⟨24, 1⟩
def POWER_STATUS_RTC_LOST : Fld := ⟨23, 1⟩
def POWER_STATUS_JOURNAL_SRC : Fld := ⟨22, 1⟩
def POWER_STATUS_JOURNAL_LOST : Fld := ⟨21, 1⟩
def POWER_EVENT_BOOT_PF : Fld := ⟨4, 1⟩
def POWER_EVENT_FLUSH_FAIL : Fld := ⟨3, 1⟩
def POWER_EVENT_VBAK_LOW : Fld := ⟨2, 1⟩
def POWER_EVENT_VAUX_LOST : Fld := ⟨1, 1⟩
def POWER_EVENT_PF : Fld := ⟨0, 1⟩
def POWER_VOLT_VAUX : Fld := ⟨16, 16⟩
def POWER_VOLT_VBAK : Fld := ⟨0, 16⟩
def POWER_PF_TIME_RTC : Fld := ⟨0, 64⟩
def POWER_FLUSH_RESULT : Fld := ⟨30, 2⟩
def POWER_FLUSH_SLOT : Fld := ⟨24, 6⟩
def POWER_FLUSH_DURATION : Fld := ⟨0, 16⟩
def RTC_TIME_SEC : Fld := ⟨15, 49⟩
def RTC_TIME_FRAC : Fld := ⟨0, 15⟩
def RTC_SET_TIME : Fld := ⟨0, 64⟩
def SEC_LC_STATE : Fld := ⟨30, 2⟩
def SEC_LC_PENDING : Fld := ⟨29, 1⟩
def SEC_LC_NEXT : Fld := ⟨27, 2⟩
def SEC_LC_CFG : Fld := ⟨16, 1⟩
def SEC_LC_SAFETY : Fld := ⟨15, 1⟩
def SEC_LC_DSP : Fld := ⟨14, 1⟩
def SEC_LC_SVN : Fld := ⟨0, 6⟩
def SEC_KEYS_VENDOR : Fld := ⟨4, 1⟩
def SEC_KEYS_REV1 : Fld := ⟨3, 1⟩
def SEC_KEYS_REV0 : Fld := ⟨2, 1⟩
def SEC_KEYS_SLOT1 : Fld := ⟨1, 1⟩
def SEC_KEYS_SLOT0 : Fld := ⟨0, 1⟩
def SEC_UID_UID : Fld := ⟨0, 64⟩
def SEC_COUNTS_FAILS : Fld := ⟨24, 8⟩
def SEC_COUNTS_JTAG_REFUSED : Fld := ⟨16, 8⟩
def SEC_COUNTS_HALT_REFUSED : Fld := ⟨8, 8⟩
def SEC_COUNTS_SIG_FAIL : Fld := ⟨1, 1⟩
def SEC_COUNTS_UNLOCK_FAIL : Fld := ⟨0, 1⟩
def DEBUG_STATUS_LEVEL : Fld := ⟨30, 2⟩
def DEBUG_STATUS_CONFIG : Fld := ⟨29, 1⟩
def DEBUG_STATUS_UNLOCKED : Fld := ⟨28, 1⟩
def DEBUG_STATUS_SLOT : Fld := ⟨26, 2⟩
def DEBUG_STATUS_DAP : Fld := ⟨25, 1⟩
def DEBUG_STATUS_MHALT : Fld := ⟨24, 1⟩
def DEBUG_CFG_HALT_GUARD : Fld := ⟨31, 1⟩
def PWR_CTRL_REQ : Fld := ⟨0, 2⟩
def PWR_STATUS_STATE : Fld := ⟨29, 3⟩
def PWR_STATUS_FROM : Fld := ⟨26, 3⟩
def PWR_STATUS_DOZES : Fld := ⟨0, 16⟩
def SYS_STOP_DOORBELL_KEY : Fld := ⟨0, 16⟩
def SYS_WEDGE_WEDGED : Fld := ⟨31, 1⟩
def SYS_WEDGE_SUP0_LATE : Fld := ⟨30, 1⟩
def SYS_WEDGE_SUP1_LATE : Fld := ⟨29, 1⟩
def SYS_WEDGE_ECC : Fld := ⟨28, 1⟩
def SYS_WEDGE_TRAP : Fld := ⟨27, 1⟩
def SYS_WEDGE_PRIOR : Fld := ⟨26, 1⟩
def SYS_WEDGE_ACTION : Fld := ⟨24, 2⟩
def SYS_WEDGE_SUP0_CNT : Fld := ⟨8, 8⟩
def SYS_WEDGE_SUP1_CNT : Fld := ⟨0, 8⟩
def SYS_WEDGE_TIME_TIME : Fld := ⟨0, 64⟩
def SYS_WEDGE_CFG_ACTION : Fld := ⟨30, 2⟩
def SYS_WEDGE_CFG_VECTOR : Fld := ⟨16, 8⟩
def SYS_WEDGE_CFG_PIN : Fld := ⟨15, 1⟩
def SYS_WEDGE_CFG_LIMIT : Fld := ⟨0, 8⟩
def THERMAL_STATUS_LEVEL : Fld := ⟨30, 2⟩
def THERMAL_STATUS_SENSOR_FAIL : Fld := ⟨29, 1⟩
def THERMAL_STATUS_VALID : Fld := ⟨16, 6⟩
def THERMAL_STATUS_TJ : Fld := ⟨0, 16⟩
def THERMAL_EVENT_SENSOR : Fld := ⟨3, 1⟩
def THERMAL_EVENT_STOP : Fld := ⟨2, 1⟩
def THERMAL_EVENT_THROTTLE : Fld := ⟨1, 1⟩
def THERMAL_EVENT_WARN : Fld := ⟨0, 1⟩
def TELEM_TEMP_MAX : Fld := ⟨16, 16⟩
def TELEM_TEMP_TEMP : Fld := ⟨0, 16⟩
def TELEM_VOLT_MV : Fld := ⟨0, 16⟩
def TELEM_EVENT_RANGE : Fld := ⟨0, 10⟩
def BG_STATUS_PAUSED : Fld := ⟨31, 1⟩
def BG_STATUS_ECC_UNCORR : Fld := ⟨7, 1⟩
def BG_STATUS_ECC_CORR : Fld := ⟨6, 1⟩
def BG_STATUS_ENC_LATE : Fld := ⟨5, 1⟩
def BG_STATUS_CAL_LATE : Fld := ⟨4, 1⟩
def BG_STATUS_WEAR_LATE : Fld := ⟨3, 1⟩
def BG_STATUS_COMPACT_LATE : Fld := ⟨2, 1⟩
def BG_STATUS_TELEM_LATE : Fld := ⟨1, 1⟩
def BG_STATUS_SCRUB_LATE : Fld := ⟨0, 1⟩
def BG_ECC_UNCORR : Fld := ⟨48, 16⟩
def BG_ECC_CORRECTED : Fld := ⟨0, 32⟩
def BG_ECC_LAST_MEM : Fld := ⟨28, 4⟩
def BG_ECC_LAST_ADDR : Fld := ⟨0, 28⟩
def BG_ENC_GLITCH : Fld := ⟨16, 16⟩
def BG_ENC_DSPREAD : Fld := ⟨0, 8⟩
def SQ_STATUS_LEVEL_OK : Fld := ⟨31, 1⟩
def SQ_STATUS_PAUSED : Fld := ⟨30, 1⟩
def SQ_STATUS_INJECTED : Fld := ⟨29, 1⟩
def SQ_STATUS_DONE : Fld := ⟨8, 8⟩
def SQ_STATUS_ARMED : Fld := ⟨0, 8⟩
def SQ_SEED_SEED : Fld := ⟨0, 32⟩
def SQ_RULE_CFG_TARGET : Fld := ⟨28, 4⟩
def SQ_RULE_CFG_MODE : Fld := ⟨25, 3⟩
def SQ_RULE_CFG_DIR : Fld := ⟨24, 1⟩
def SQ_RULE_CFG_UNIT : Fld := ⟨16, 6⟩
def SQ_RULE_CFG_BIT : Fld := ⟨0, 16⟩
def SQ_RULE_SEL_ANY : Fld := ⟨31, 1⟩
def SQ_RULE_SEL_ID : Fld := ⟨0, 29⟩
def SQ_RULE_TRIG_KIND : Fld := ⟨30, 2⟩
def SQ_RULE_TRIG_LIMIT : Fld := ⟨20, 10⟩
def SQ_RULE_TRIG_VALUE : Fld := ⟨0, 16⟩
def SQ_RULE_COUNT_COUNT : Fld := ⟨0, 32⟩
def SYS_ID_FW_MAJOR : Fld := ⟨56, 8⟩
def SYS_ID_FW_MINOR : Fld := ⟨48, 8⟩
def SYS_ID_SREV : Fld := ⟨32, 4⟩
def SYS_ID_DEVICE_ID : Fld := ⟨16, 16⟩
def SYS_ID_VENDOR_ID : Fld := ⟨0, 16⟩

end F

end Sys2Proof.Machine
end

