-- ==== Sys2Proof/Machine/State.lean ====
section
/-!
DEFINITION. The state of the block as plain data: every register of REGWIN in one table, the bulk memories, and the
internal state of each unit, chapter by chapter; the reasons a command can stop; the state right after reset.
A register has one home, the table `regs`; the structures below hold what the spec gives the machine beside registers.
A structure's default values are its reset values.
-/

namespace Sys2Proof.Machine

open Sys2Proof

/-! ### Command packets, queues and sequence recovery (02) -/

/-- What a started command is still waiting for before its final reply (R57). -/
inductive WaitKind where
  | write      -- the pending parameter writes of write group `ix` are applied (R73)
  | enable     -- axis `ix` enters READY (R89)
  | final      -- axis `ix` reaches the final state of its stop (R91, R98)
  | home       -- axis `ix` enters READY after its homing search (R97)
  | profile    -- the MOVE_AXIS profile of axis `ix` ends (R125)
  | engage     -- the gear or cam engagement of axis `ix` takes effect (R126, R132)
  | rest       -- the disengaged follower `ix` enters READY (R132)
  | groupStart -- group `ix` starts (R108)
  | groupHeld  -- group `ix` enters HELD (R121)
  | groupIdle  -- group `ix` enters IDLE (R120)
  | store      -- the Logbook operation numbered `ix` ends (R479)
  | trvJoin | trvLeave          -- the Traverse node reaches SYNC, or OFF (R382)
  | can        -- CAN channel `ix` reaches the state it was sent to (R400)
  | canTx      -- transmit entry `ix` (64 a channel) ends (R395)
  | dspHalt    -- core `ix` stops issue (R291)
  | safety     -- the safety channels answer (R448)
  | selfTest   -- the self-test ends (R534)
  | journal    -- the last journal copy is written (R61, R72)
  | switchover -- the switch tick passes (R471)
  deriving DecidableEq, Repr, Inhabited

/-- One awaited happening. -/
structure Wait where
  kind : WaitKind := .write
  ix   : Nat := 0
  deriving DecidableEq, Repr, Inhabited

/-- An accepted command that has not completed (R49, R51), in acceptance order.  `verdict` is the failure that checks
6–8 of R47 have given a member of a chain, and `closed` says that the chain it belongs to was validated (R56). -/
structure Accepted where
  pkt     : Packet := {}
  started : Bool := false
  progressed : Bool := false
  inChain : Bool := false
  closed  : Bool := false
  verdict : Option (Nat × Nat) := none
  waits   : List Wait := []
  status  : Nat := 0
  detail  : Nat := 0
  failIx  : Nat := 0
  pay     : List Word := []
  deriving DecidableEq, Repr, Inhabited

/-- A reply, progress reply, event or journal copy (R45).  `kind` is the KIND of word 0; `inv` is a bit that the Squall injector has
inverted after the CRC (R533). -/
structure Reply where
  op      : BitVec 16 := 0
  kind    : Nat := 0
  csn     : Word := 0
  esn     : Word := 0
  status  : Nat := 0
  detail  : Nat := 0
  payload : List Word := []
  inv     : Option Nat := none
  deriving DecidableEq, Repr, Inhabited

/-- A held reply (R61), with the transport that it must leave on, or none for the one that holds the session (R58). -/
structure Held where
  dest  : Option Xport := none
  reply : Reply := {}
  deriving DecidableEq, Repr, Inhabited

/-- An entry of a queue's replay cache (R70): the CSN and CRC word of an accepted packet, and its final reply once the
command has completed. -/
structure CacheEntry where
  csn   : Word := 0
  crc   : Word := 0
  reply : Option Reply := none
  deriving DecidableEq, Repr, Inhabited

/-- The rings that the last ATTACH over PCIe set up (R60, R67, R77). -/
structure Rings where
  valid      : Bool := false
  replyVec   : Nat := 0
  eventVec   : Nat := 0
  replyBase  : Word64 := 0
  eventBase  : Word64 := 0
  replySlots : Nat := 0
  eventSlots : Nat := 0
  queueBase  : List Word64 := []
  wbBase     : Word64 := 0
  deriving DecidableEq, Repr, Inhabited

/-- The write-back block as the device last wrote it (R60). -/
structure WriteBack where
  fetch : List Nat := []
  replyProd : Nat := 0
  eventProd : Nat := 0
  timeNs : Nat := 0
  deriving DecidableEq, Repr, Inhabited

/-- A validated parameter write that has not been applied (R73): the word, the mask of the bits it writes, its value,
the lane at whose next tick boundary it is applied (`none`: the global point), the write group it belongs to, and the tick number of
that boundary once it has come. -/
structure PWrite where
  off  : Nat := 0
  mask : Word := 0
  val  : Word := 0
  lane : Option Nat := none
  gid  : Nat := 0
  tick : Option Nat := none
  deriving DecidableEq, Repr, Inhabited

/-- A packet that is being assembled from Traverse segments (R64). -/
structure SegOpen where
  isOpen : Bool := false
  next : Nat := 0
  words : List Word := []
  deriving DecidableEq, Repr, Inhabited

/-- A 64-bit read in two accesses (R13): requester and offset of the lower word, with the latched upper word.
Requesters are 0 the host, 1 the command executive, 2 the service SPI port and 8 + c the Transit DSP core c. -/
structure UpperLatch where
  req : Nat := 0
  off : Nat := 0
  upper : Word := 0
  deriving DecidableEq, Repr, Inhabited

/-- The command executive: queues, replies, journal, sessions (R42–R78). -/
structure CmdState where
  accepted  : List Accepted := []
  unseq     : List Packet := []
  chainFail : List Nat := []            -- queues whose open chain has failed already (R56)
  cache     : Tab (List CacheEntry) := []  -- by queue, newest first
  journal   : List Reply := []          -- newest first, 4,096 at most
  nextEsn   : Word := 0
  held      : List Held := []           -- replies of Q1–Q3 that wait for room, 64 at most (R61)
  heldUrgent : List Held := []          -- replies of Q0 and of unsequenced opcodes, 16 at most
  parked    : List (Bool × Held) := []  -- replies (true: urgent) for which those entries had no room when they came
  rings     : Rings := {}
  ringProd  : Tab Nat := []             -- producer index last written for each command ring
  replyRing : List Reply := []          -- posted to the reply ring and not returned, oldest first
  eventRing : List Reply := []
  replyProd : Nat := 0
  replyCons : Nat := 0
  eventProd : Nat := 0
  eventCons : Nat := 0
  gap       : Option (Word × Word) := none -- first and last ESN not posted to the event ring (R62)
  travOut   : List Reply := []          -- packets that wait for the reply slots of Traverse
  spiOut    : List Reply := []          -- packets that wait for the SPI transport
  wb        : WriteBack := {}
  xbuf      : Tab (List Word) := []     -- received packets: Traverse queue q at q, SPI queue q at 4 + q
  segs      : Tab SegOpen := []         -- by queue
  attachLow : Word := 0                 -- lower word written to CMDQ_ATTACH_DOORBELL
  attachDue : Option (Word × List Word) := none -- an ATTACH doorbell that has not been read yet, with the packet that it names (R41, R515)
  lastLife  : Nat := 0                  -- device time of the last life sign (R101), in 2^−32 ns
  writes    : List PWrite := []
  nextGid   : Nat := 0
  resetReq  : Bool := false             -- RESET_DEVICE has posted its reply
  bootCfg   : Nat := 0                  -- configuration set applied at boot
  journalQ  : List Reply := []          -- journal copies that READ_JOURNAL has still to write (R61)
  slotAt    : Word64 := 0               -- bus address of the command ring slot fetched last (R59)
  spiSent   : List Byte := []           -- what the last SPI transfer sent: the status byte, then the bytes after the dummy byte (R65, R66)
  late      : Option (Reply × Option Nat) := none -- exchanged with the next reply or event, with an event's vector (R533)
  deriving DecidableEq, Repr, Inhabited

/-! ### Axis slots (03) -/

/-- Where the enabling sequence of an axis stands (R89).  `pending` is an accepted ENABLE before its application tick. -/
inductive EnabPhase where
  | none | pending | align | brake
  deriving DecidableEq, Repr, Inhabited

/-- A running stop (R91): its severity under R87 (0 STO, 1 fault class 0, 2 stop class 0, 3 fault class 1, 4 stop class 1,
5 stop class 2), whether it is still ramping (otherwise BRAKE_T runs), the state code that ends it, and that a class 2 stop keeps
DECEL_QUICK (R93). -/
structure StopRun where
  rank  : Nat := 5
  ramp  : Bool := true
  final : Nat := 2
  quick : Bool := false
  deriving DecidableEq, Repr, Inhabited

/-- What drives the commanded position of an axis (R85). -/
inductive Motion where
  | hold | group | profile | follower | home | rampDown
  deriving DecidableEq, Repr, Inhabited

/-- Where a homing search stands (R96): towards the switch edge, towards the Z pulse, against the hard stop, with
the reference point found, or in the class 2 stop after it. -/
inductive HomePhase where
  | none | toSwitch | toZ | hardStop | found | after
  deriving DecidableEq, Repr, Inhabited

/-- A start condition (R112, R122) with the event that has met it: `metAt` is the event instant in ns. -/
structure StartCond where
  start   : Nat := 0
  source  : Nat := 0
  timeout : Nat := 0
  early   : Bool := false
  anchor  : Bool := false
  consume : Bool := false
  armed   : Bool := false
  metAt   : Option Nat := none
  deriving DecidableEq, Repr, Inhabited

/-- A seven-phase S-curve from rest to rest (R114): start and end position, the durations in ns of each jerk phase, of each phase of constant
acceleration and of the cruise, and the duration to which the whole is stretched. -/
structure SCurve where
  p0    : Int := 0
  p1    : Int := 0
  tj    : Nat := 1
  ta    : Nat := 0
  tv    : Nat := 0
  total : Nat := 0
  deriving DecidableEq, Repr, Inhabited

/-- The planned move of a MOVE_AXIS profile (R125): from position, velocity and acceleration the acceleration goes to 0 within `t0` ns, the
velocity, `va` at position `pa`, to `v1` at position `pb`, and a curve follows to a target position. -/
structure Move where
  p0    : Int := 0
  v0    : Int := 0
  a0    : Int := 0
  t0    : Nat := 0
  pa    : Int := 0
  va    : Int := 0
  v1    : Int := 0
  tj    : Nat := 0
  ta    : Nat := 0
  pb    : Int := 0
  curve : Option SCurve := none
  deriving DecidableEq, Repr, Inhabited

/-- A MOVE_AXIS profile (R125): its start condition, mode, target, limits, whether it has reached its target, and once it runs its planned move
and the time in ns that it has run. -/
structure Profile where
  cond    : StartCond := {}
  tag     : Nat := 0
  mode    : Nat := 0
  target  : Int := 0
  vmax    : Int := 0
  amax    : Int := 0
  jmax    : Int := 0
  reached : Bool := false  -- a velocity profile has reached its target
  move    : Move := {}
  elapsed : Nat := 0
  deriving DecidableEq, Repr, Inhabited

/-- A gear or cam follower (R126–R132).  `phase`: 0 waits for the engage position or the wrap, 1 clutching,
2 engaged, 3 accepted and engaging at the next tick; `mode` is that of the command.  Positions are in units of 2^−24 counts. -/
structure Follower where
  cam     : Bool := false
  phase   : Nat := 3
  mode    : Nat := 0
  kind    : Nat := 0
  index   : Nat := 0
  extrap  : Bool := false
  maxAge  : Nat := 0
  n       : Int := 0
  d       : Nat := 1
  len     : Int := 0
  engPos  : Int := 0
  p0      : Int := 0
  m0      : Int := 0
  rem     : Int := 0
  mPrev   : Int := 0
  prof    : Nat := 0
  mOff    : Int := 0
  fOff    : Int := 0
  nextProf : Option (Nat × Int × Int) := none
  deriving DecidableEq, Repr, Inhabited

/-- The internal state of an axis slot beside its registers: set point, redefinition of the position (R97), stop,
enabling, homing, profiles, follower, and the captured hard-stop and fault conditions. -/
structure AxisSt where
  pCmd    : Int := 0        -- commanded position, 2^−24 counts
  vCmd    : Int := 0        -- velocity command, 2^−16 counts/s
  aCmd    : Int := 0        -- acceleration command, 2^−16 counts/s²
  shift   : Int := 0        -- actual position minus ENC_POS (R97)
  motion  : Motion := .hold
  enab    : EnabPhase := .none
  stop    : Option StopRun := none
  home    : HomePhase := .none
  homeStart : Int := 0      -- actual position at the start of the search
  homeRef : Int := 0        -- reference position before the redefinition
  homeLvl : Bool := false   -- level of the homing switch at the last tick (R96)
  hsNs : Option Nat := none -- instant from which the current magnitude has exceeded HS_CURRENT, ns (R96)
  homeStamp : Option Nat := none -- stamp in ns of the switch edge that the search has taken at a fix input (R244)
  running : Option Profile := none
  next    : Option Profile := none -- an IMMEDIATE profile that starts at the next decision instant (R109)
  waiting : Option Profile := none -- a profile that waits on its start condition (R125)
  fol     : Option Follower := none -- the engagement that drives the axis (phase 1 or 2)
  folNext : Option Follower := none -- an accepted engagement that has not taken effect (phase 3 or 0)
  enabNs  : Nat := 0        -- instant of the tick at which ENABLE was applied, ns (R89)
  gCorr   : Int := 0        -- set point minus command of a coupled gantry leader (R133)
  deriving DecidableEq, Repr, Inhabited

/-! ### Path interpolation (04) -/

/-- A queued path segment (R112, R113), with the absolute start and end positions of the eight members. -/
structure Segment where
  typ     : Nat := 0
  blend   : Bool := false
  notify  : Bool := false
  cond    : StartCond := {}
  tag     : Nat := 0
  axmask  : Nat := 0
  feed    : Int := 0
  acc     : Int := 0
  jerk    : Int := 0
  starts  : List Int := []
  ends    : List Int := []
  startV  : List Int := []  -- PVT: velocity and acceleration at the start, then at the end
  startA  : List Int := []
  endV    : List Int := []
  endA    : List Int := []
  dur     : Nat := 0        -- PVT duration in ns, DWELL duration in µs
  velPct  : Nat := 0
  accPct  : Nat := 0
  syncEnd : Bool := false
  dir     : Bool := false   -- CIRCULAR: sense from AX2 to AX1
  ax1     : Nat := 0
  ax2     : Nat := 0
  turns   : Nat := 0
  c1      : Int := 0
  c2      : Int := 0
  flag    : Nat := 0        -- SYNC
  clear   : Bool := false
  accNs   : Nat := 0        -- instant of its acceptance, ns (R109)
  deriving DecidableEq, Repr, Inhabited

/-- The internal state of a coordinate group: its queue with the active segment first, how far the path has come along the active segment
(`dist` in 2^−24 path units; for PVT, PTP and DWELL `elapsed` in 1/20,000 ns), the path speed and acceleration (2^−16 path units/s and /s²), the
curves of an active PTP segment by member, the running blend into the next segment (how far it has come of its length 2d, and d, in 2^−24
path units, R116), the time-scale factor with its ramp (0.01 %, R119), a flush with the segments that it keeps and has discarded, and the
class of a stop in progress. -/
structure GroupSt where
  queue    : List Segment := []
  active   : Bool := false  -- the head segment has started
  dist     : Nat := 0
  elapsed  : Nat := 0
  spd      : Int := 0
  pacc     : Int := 0
  curves   : List SCurve := []
  blend    : Option (Nat × Nat) := none
  scale    : Nat := 10000
  scaleFrom : Nat := 10000
  scaleTo  : Nat := 10000
  rampNs   : Nat := 0
  flush    : Bool := false
  keep     : Nat := 0
  dropped  : Nat := 0
  stopCls  : Nat := 2
  deriving DecidableEq, Repr, Inhabited

/-- A virtual master (R128): position, in 2^−24 units, and velocity, in 2^−16 units/s, at an instant in ns. -/
structure Vm where
  pos : Int := 0
  vel : Int := 0
  at' : Nat := 0
  deriving DecidableEq, Repr, Inhabited

/-- The path interpolator (R105–R136): groups, virtual masters, the instant of each lane's last position-loop tick, and the sync flags that
starts have consumed with the tick instant at which they did (R124). -/
structure InterpState where
  groups : Tab GroupSt := []
  vms    : Tab Vm := []
  tickNs : Tab Nat := []
  used   : List Nat := []
  usedAt : Nat := 0
  deriving DecidableEq, Repr, Inhabited

/-! ### Control Engine (05) -/

/-- A BFP24 value m × 2^e (R4, R140). -/
structure Bfp where
  m : Int := 0
  e : Int := -128
  deriving DecidableEq, Repr, Inhabited

/-- The delay line of one notch (R154). -/
structure Notch where
  x1 : Bfp := {}
  x2 : Bfp := {}
  y1 : Bfp := {}
  y2 : Bfp := {}
  deriving DecidableEq, Repr, Inhabited

/-- One hook of an axis (R161, R162, R289): held value, freshness, consecutive stale reads; the binding stands in TD_HOOK_MASK. -/
structure Hook where
  value : Word := 0
  fresh : Bool := false
  stale : Nat := 0
  deriving DecidableEq, Repr, Inhabited

/-- The evaluation that a servo tick has made due for an axis (R137): the tick's count, and the set points of that tick (R145, R146). -/
structure EvalDue where
  tick : Nat := 0
  pCmd : Int := 0
  vCmd : Int := 0
  aCmd : Int := 0
  deriving DecidableEq, Repr, Inhabited

/-- The evaluation state of an axis beside its registers (R145–R162). -/
structure CeAxis where
  iv   : Bfp := {}
  iF   : Bfp := {}
  jd   : Bfp := {}
  jq   : Bfp := {}
  s    : Int := 1
  n0   : Notch := {}
  n1   : Notch := {}
  vRef : Bfp := {}
  vAct : Bfp := {}
  uv   : Bfp := {}
  pPrev : Int := 0        -- position of the previous velocity-loop tick
  h4Prev : Option (Int × Nat) := none -- H4 angle, in 2^−40 turns, and t_ref, in 0.1 ns, of the previous evaluation
  feN  : Nat := 0         -- consecutive position-loop ticks beyond FE_LIMIT
  due  : List EvalDue := []  -- the evaluations that have not been run yet, oldest first
  hsgRamp : Bool := false -- driven by the hardware stop generator, and not at zero yet (R174, R175)
  hsgOwn  : Bool := false -- the running stop is that of a device-wide start alone (R93)
  seq  : Word := 0        -- evaluation sequence word of the signal window (R256)
  deriving DecidableEq, Repr, Inhabited

/-- The Control Engine lanes (R137–R176). -/
structure CeState where
  ax    : Tab CeAxis := []
  hooks : Tab Hook := []      -- hook h of axis a at 5a + h
  stopped : Bool := false     -- lanes stopped by a lost PLL or a motion halt
  evals : Tab Nat := []       -- evaluations of each lane since its last tick
  deriving DecidableEq, Repr, Inhabited

/-! ### Current front end (06) -/

/-- One sigma-delta input beside its registers: the last sample word and the last free-run word (filter outputs, units of 2^−23), the
consecutive words out of range, the lasting over-current (own value and phase W), stuck and alternating conditions, and the running
averages. -/
structure SdIn where
  sample   : Int := 0
  raw      : Int := 0
  rangeN   : Nat := 0
  ocNow    : Bool := false
  ocW      : Bool := false
  stuckNow : Bool := false
  altNow   : Bool := false
  calSum   : Int := 0
  calN     : Nat := 0
  calBad   : Bool := false  -- the span of the running average contains a range, stuck or clock event (R189)
  deriving DecidableEq, Repr, Inhabited

/-- The current front end (R177–R196). `window` lists the axes whose PWM-off window is open (R189). -/
structure CfeState where
  sd     : Tab SdIn := []
  window : List Nat := []
  extNow : Bool := false     -- SDCLK_IN is lost at present
  sdckNow : List Nat := []   -- SDCK outputs whose readback fails at present
  deriving DecidableEq, Repr, Inhabited

/-! ### PWM generator (07) -/

/-- The three conditions of a leg (R197). -/
inductive LegCond where
  | hiz | switching | frozen
  deriving DecidableEq, Repr, Inhabited

/-- One leg beside its registers.  `s` is the raw switching signal, `c` the compare value in effect, `arrived` the last
value that waits for a reload point, `edgeAt` the position of the last edge of S and `onAt` that of the last turn-on, in sixteenths from
the start of the running period (negative for an earlier one),
`pendOn` a pending dead-time turn-on (true: the high side), `held` an output held on to its minimum pulse, `shift` the
sixteenths by which a stretched pulse moves the next turn-on, `edged` that S has had its edge in the running slope. -/
structure Leg where
  cond    : LegCond := .hiz
  s       : Bool := false
  c       : Nat := 0
  arrived : Option Nat := none
  slope2  : Bool := false
  edgeAt  : Int := 0
  edged   : Bool := false
  pendOn  : Option Bool := none
  held    : Option Bool := none
  onAt    : Int := 0
  str     : Bool := false   -- the running pulse is stretched and counted already
  shift   : Nat := 0
  dtR     : Nat := 200
  dtF     : Nat := 200
  issued  : List Nat := []  -- compare values that are crossing to the leg, oldest first (R20)
  last    : Option Nat := none  -- CE-driven: the compare value of the latest evaluation since the leg was last made high-impedance
  first   : Bool := false   -- CE-driven: holds duty 0.5 until the first evaluation's values arrive (R213)
  deriving DecidableEq, Repr, Inhabited

/-- The timebases of one bank: the running TB0 period in counts, the TB1 values in effect (R200), and that the next tick cuts a TB0 period
short after a halt (R222). -/
structure Bank where
  per0   : Nat := 5000
  mode1  : Nat := 0
  rpeak1 : Nat := 0
  per1   : Nat := 40000
  run1   : Bool := false
  cut    : Bool := false
  deriving DecidableEq, Repr, Inhabited

/-- One trip input beside its registers: whether blanking blocks it (R216). -/
structure Trip where
  blocked : Bool := false
  line    : Bool := false   -- an internal trip line of the current front end acts
  deriving DecidableEq, Repr, Inhabited

/-- The PWM generator and trip logic (R197–R224). -/
structure PwmState where
  legs   : Tab Leg := []
  banks  : Tab Bank := []
  trips  : Tab Trip := []
  halted : Bool := false
  deriving DecidableEq, Repr, Inhabited

/-! ### Encoder ports and Fix unit (08) -/

/-- One delivered sample of an encoder port: position in 2^−24 counts, instant in ns, and whether it was good. -/
structure Sample where
  pos  : Int := 0
  time : Nat := 0
  good : Bool := true
  deriving DecidableEq, Repr, Inhabited

/-- One encoder port beside its registers: the quadrature counter, the filtered levels, the last 16 samples newest
first (R234), the word and position of the last good serial sample (R232), the runs of bad and good samples (R236), a
simultaneous change since the previous sample, a running serial frame and its first falling MA edge, whether the last tick's
frame has still to start, and the samples delivered since the port was enabled. -/
structure Port where
  counter : Int := 0
  a : Bool := false
  b : Bool := false
  hist    : List Sample := []
  ref     : Option (Nat × Int) := none
  badRun  : Nat := 0
  goodRun : Nat := 0
  qerr    : Bool := false
  running : Bool := false
  startNs : Nat := 0
  due     : Bool := false
  deriving DecidableEq, Repr, Inhabited

/-- One fix input beside its registers (R239–R242): the last stamped edge and a rising edge of its compare output that has
not been taken, both in ns, OFS at the stamp of the forming record, and the axes whose entries are still to be written. -/
structure FixIn where
  last : Option Nat := none
  pco  : Option Nat := none
  ofs  : Int := 0
  need : List Nat := []
  deriving DecidableEq, Repr, Inhabited

/-- One compare output beside its registers: the ball at its active level, an armed target, the wait for the return past
x0, and the predicted instant in ns (R245–R249). -/
structure Pco where
  active : Bool := false
  armed  : Bool := false
  back   : Bool := false
  pred   : Option Nat := none
  deriving DecidableEq, Repr, Inhabited

/-- The encoder ports and the Fix unit. -/
structure EncState where
  ports : Tab Port := []
  fix   : Tab FixIn := []
  pco   : Tab Pco := []
  deriving DecidableEq, Repr, Inhabited
/-! ### Transit DSP cores (09, 10) -/

/-- A register write of a bundle that is still in the pipeline (R262, R263): the first bundle number at which it is seen,
the register, the bits it writes and their value, whether a MAC wrote it (it is forwarded to a MAC that accumulates), and whether an
accumulator result saturated, so that it sets AOV (R275). -/
structure TdWrite where
  due  : Nat := 0
  key  : Nat := 0
  mask : BitVec 72 := 0
  val  : BitVec 72 := 0
  mac  : Bool := false
  aov  : Bool := false
  deriving DecidableEq, Repr, Inhabited

/-- A fetched bundle (R270, R281): its address, the loop depth before its loop-end decision, the loop count that the decision
changed, with its old value, and the register that holds the depth. -/
structure Fetched where
  addr  : Nat := 0
  depth : Nat := 0
  lc    : Option (Nat × BitVec 72) := none
  dkey  : Nat := 0x4D
  deriving DecidableEq, Repr, Inhabited

/-- A read of a register that DE writes, by a move or a store whose EX1 is still to come (R262, R283): the bundle, the register
code, its bank and level, and where the value goes, a register code or the place of a store (see `Core.memPend`). -/
structure LateRead where
  num  : Nat := 0
  code : Nat := 0
  bank : Bool := false
  lvl  : Nat := 0
  dst  : Nat ⊕ Nat := .inl 0
  deriving DecidableEq, Repr, Inhabited

/-- One core beside its TDSP window (R253–R291).  `r` holds the registers by their code (R298), those of the shadow bank
at 128 more, the whole accumulators at 0x60 + n; `cyc` numbers the bundles; `f0` and `f1` are the bundle that comes to DE next
and the one behind it, `nf` the address fetched after them; `ds` counts the delay slots or setup bundles that are left,
`ret` the level whose return they end. -/
structure Core where
  r       : Tab (BitVec 72) := []
  shadow  : Bool := false
  lvl     : Nat := 0
  cyc     : Nat := 0
  pend    : List TdWrite := []
  memPend : List (Nat × Nat × Word) := []  -- stores in the pipeline: when seen, REGWIN offset (for hook ports and I/O 2^24 + address), word
  cycles  : Nat := 0           -- CYCLES, before it wraps (R255)
  f0      : Fetched := {}
  f1      : Fetched := {}
  nf      : Nat := 0
  ds      : Nat := 0
  ret     : Nat := 0
  haltReq : Bool := false
  halted  : Bool := false      -- halted by DSP_HALT: mode 1 may resume it (R292)
  cause1  : Nat := 0           -- TRIGIDX1
  cause2  : Nat := 0           -- TRIGIDX2
  aov     : Bool := false      -- the AOV trap is requested
  handler : Nat := 0           -- bundles of the running level-1 handler
  trigDue : List Nat := []     -- tick triggers whose qualifying tick has passed and whose offset has not (R285)
  timeHi  : Word := 0          -- latched by a load of TIME_L
  encHi   : Tab (Option Word) := []  -- upper encoder words latched by a load of the lower (R257)
  late    : Option LateRead := none  -- a read of a register that DE writes, not yet done
  deriving DecidableEq, Repr, Inhabited


/-! ### Event Router (12) -/

/-- One source beside its state code in EVR_STATE_w (R339): the instant at which it became pending, the claiming
target, the REPEAT and REHOMED marks, the redirected target (R350), and the instant of the last fall of its level that
the device made itself (R345). -/
structure EvrSrc where
  pendNs  : Nat := 0
  claim   : Nat := 0
  rep     : Bool := false
  rehomed : Bool := false
  dest      : Option Nat := none
  fellNs  : Option Nat := none
  deriving DecidableEq, Repr, Inhabited

/-- A moderation unit (R346): the deliveries counted, and whether its hold-off timer runs. -/
structure ModUnit where
  count : Nat := 0
  timer : Bool := false
  deriving DecidableEq, Repr, Inhabited

/-- The Event Router: sources, moderation units 0–67, the MSI-X table (word k of entry v at 4v + k, the mask bits beside it) and
pending-bit array (R30, R346), the messages sent by vector, address and data of the last, the levels of INT0n and INT1n, and the request
lines of the Transit DSP cores. -/
structure EvrState where
  src     : Tab EvrSrc := []
  units   : Tab ModUnit := []
  unmasked : List Nat := []     -- MSI-X vectors the host has unmasked
  msiPend : List Nat := []
  msix    : Tab Word := []
  msiLast : List Word := []
  msiSent : Tab Nat := []
  int0Low : Bool := false
  int1Low : Bool := false
  line    : Tab Bool := []      -- request line of TDc at c
  deriving DecidableEq, Repr, Inhabited

/-- An entry of the fault log (R350, R480): the device time and what was written. -/
structure LogEntry where
  timeNs : Nat := 0
  words  : List Nat := []
  deriving DecidableEq, Repr, Inhabited
/-! ### Barograph and snapshot (11) -/

/-- A sample whose instant has come and that has not closed (R317, R318): its instant; the tick of the clock lane, or none for a free-run
word, whose value is `word`; the signals that the evaluations for the tick have given to the channels of KIND 0; and the compare values of
those evaluations that have still to arrive, by leg. -/
structure SampleDue where
  inst : Nat := 0
  tick : Option Nat := none
  word : Int := 0
  sigs : List (Nat × Word) := []
  legs : List (Nat × Nat) := []
  deriving DecidableEq, Repr, Inhabited

/-- The Barograph beside its registers (R313–R328): whether a sample has closed since the arm, the number of the next
sample, the channel words of the last closed sample, whether stage A has armed stage B, a forced trigger that is due, the
samples still to take after the trigger, the ordinal of the next frame since the arm and of the trigger frame, the
running gap (first missing sample and length), the sources that have fired since the last close, the instants of sample
ticks whose samples have not closed, the number of the sample from which mask points count, and whether the last
streamed sample met stage A. -/
structure TraceSt where
  sampleNo : Nat := 0
  prev     : List Word := []
  stageB   : Bool := false
  force    : Bool := false
  postLeft : Nat := 0
  frames   : Nat := 0
  trigFrame : Nat := 0
  gapFirst : Nat := 0
  gapLen   : Nat := 0
  fired    : List Nat := []
  due      : List SampleDue := []
  maskFrom : Option Nat := none
  run      : Bool := false
  words    : Nat := 0       -- free-run words of the clocking input since the last sample (R317, SRC 4)
  deriving DecidableEq, Repr, Inhabited

/-- The snapshot unit beside its registers (R330–R333): the bank that a snapshot occupies, the register values that the
blocks have latched for it, the words of the bank that are no register, the level of SNAPOUT, and the number of the next snapshot. -/
structure SnapSt where
  bank   : Option Nat := none
  latch  : Tab Word := []
  extra  : List (Nat × Word) := []
  outHigh : Bool := false
  next   : Nat := 0
  clock  : Option Nat := none   -- the clock of the latest strobe (R331)
  deriving DecidableEq, Repr, Inhabited

/-! ### Traverse bus (13) -/

/-- The latest valid frame of a slot that has not been delivered (R374): its header and payload. -/
structure SlotRx where
  hdr   : Word := 0
  words : List Word := []
  deriving DecidableEq, Repr, Inhabited

/-- The latest complete send buffer of an own slot (R372, R373): its payload, the transmissions it has had, the instant in ns of its
commit, and the payload and transmissions of the one before it. -/
structure SlotTx where
  words : List Word := []
  age   : Nat := 0
  atNs  : Nat := 0
  old   : List Word × Nat := ([], 0)
  deriving DecidableEq, Repr, Inhabited

/-- The frame that the node last started (R355): slot, header, payload, CRC, the channels it drives, and the instant in ns at which
DE falls. -/
structure TrvFrameOut where
  slot  : Nat := 0
  hdr   : Word := 0
  words : List Word := []
  crc   : Word := 0
  chA   : Bool := false
  chB   : Bool := false
  deFell : Nat := 0
  deriving DecidableEq, Repr, Inhabited

/-- The Traverse controller beside its registers.  `cycStart` is the start of the present cycle in ns of device time; `first`
is the first datum frame of a running integration (its frame start by the stepped local time, its cycle number); `miss` counts
the cycles since the last valid datum frame without saturating; `ePrev` is in ns, `oPrev` in 2^−32 ns; `oLeft` and `oClocks`
are the part of an offset correction that is still to be added, and over how many PWM clocks; `csSent` counts coldstart
frames; `goodA` and `goodB` are the cycles of the last valid frame of each channel; `cmdSlots` are delivered command slots
that the command executive has not taken, none for an empty slot; `reply` is what is left of the packet being sent in reply slots
(queue, next segment, words). -/
structure TrvSt where
  cycStart : Nat := 0
  first    : Option (Nat × Nat) := none
  miss     : Nat := 0
  ePrev    : Int := 0
  oPrev    : Int := 0
  oLeft    : Int := 0
  oClocks  : Nat := 0
  csSent   : Nat := 0
  goodA    : Nat := 0
  goodB    : Nat := 0
  rx       : Tab (Option SlotRx) := []
  tx       : Tab SlotTx := []
  out      : Option TrvFrameOut := none
  flagsOut : Nat := 0       -- flag word of the own data frame last sent
  cmdSlots : List (Option (List Word)) := []
  reply    : Option (Nat × Nat × List Word) := none
  lastTx   : Tab (Option (Word × List Word)) := []        -- by slot: the frame sent last
  lateTx   : Tab (Option (Bool × Word × List Word)) := [] -- by slot: a frame that is sent a cycle late, the second in a row (R533)
  lastRx   : Tab (Option SlotRx) := []                    -- by slot: what was delivered last
  lateRx   : Tab (Option (Nat × SlotRx)) := []            -- by slot: a frame that is delivered a cycle late, and how far it has come
  deriving DecidableEq, Repr, Inhabited

/-! ### CAN FD (14) -/

/-- One CAN channel beside its registers: the entry whose frame is on the bus, the pending entries in acceptance order (R392), those
that are to be aborted (R395), a disable in progress and the entries it has aborted (R401), listen-only, a running recovery
(R390), the frames stored since the channel was enabled, that the
channel of a STANDBY, which listens, is running in its partner (R464, R469), and of the Squall injector (R533) that the frame on the bus
is to be sent once more, and a received frame, with its stamp, filter and action, that is stored after the next. -/
structure CanSt where
  sending : Option Nat := none
  order   : List Nat := []
  aborts  : List Nat := []
  disabling : Bool := false
  abN     : Nat := 0
  listen  : Bool := false
  recovering : Bool := false
  stored  : Nat := 0
  shadowRun : Bool := false
  again : Bool := false
  late : Option (CanFrame × Word × Nat × Nat) := none
  deriving DecidableEq, Repr, Inhabited

/-! ### Field dies (15) and safety functions (16) -/

/-- The cycle message of a safety channel (R431): cycle number, filtered inputs, pair and function demands, STO banks, safe-output
commands, test-pulse faults, discrepancies, restarts pending, faults, and the CRCs of the active and the loaded set. -/
structure SMsg where
  cycle  : Nat := 0
  filt   : Nat := 0
  pd     : Nat := 0
  demf   : Nat := 0
  sto    : Nat := 15
  so     : Nat := 0
  tpf    : Nat := 0
  disc   : Nat := 0
  pend   : Nat := 0
  faults : Nat := 0
  crc    : Word := 0
  loaded : Word := 0
  deriving DecidableEq, Repr, Inhabited

/-- A safety channel (R428).  Sets of inputs, pairs, functions, banks and switches are bit masks.  `set` is the active safety set (none:
no valid set); `filt` the filtered inputs and `lat` those taken at the last latch; `both` the pairs with a discrepancy whose inputs
have demanded together; `hold` the functions that hold STO and `ss1` those whose SS1 delay runs; `resets` the resets since the last
decision; `sto` the banks held and `next` the decision of the running cycle, with the SS1 stops that it starts in `starts`; `due` that
the cycle's decision is still to be made; `missing` and `diff` count cycles; `cur` and `prev` are the last two own messages, `rx` and
`got` the message being received and its fragments, `peer` the last complete one; `so` are the channel's own switches on, bit x for
SOx, and `cmd` channel A's commands as this channel knows them. -/
structure SChan where
  on      : Bool := false
  startup : Bool := false
  set     : Option (List Word) := none
  filt    : Nat := 0
  lat     : Nat := 0
  tpf     : Nat := 0
  tpBad   : Nat := 0        -- inputs that have failed a check in the running test period
  tpSeen  : Nat := 0        -- inputs that have been checked in it
  tpOk    : Tab Nat := []   -- consecutive periods passed, by input
  disc    : Nat := 0
  both    : Nat := 0
  pd      : Nat := 0
  demf    : Nat := 0
  hold    : Nat := 255
  pend    : Nat := 0
  ss1     : Nat := 0
  resets  : Nat := 0
  sto     : Nat := 15
  next    : Nat := 15
  starts  : Nat := 0
  due     : Bool := false
  missing : Nat := 0
  diff    : Nat := 0
  crcDiff : Bool := false
  faults  : Nat := 0        -- faults the channel has taken or seen in the other's messages
  cur     : Option SMsg := none
  prev    : Option SMsg := none
  got     : Nat := 0
  rx      : SMsg := {}
  peer    : Option SMsg := none
  so      : Nat := 0
  soNext  : Nat := 0
  cmd     : Nat := 0
  soBad   : Tab Nat := []   -- by switch: cycles, and at 2 + x test pulses, whose readback has disagreed
  deriving DecidableEq, Repr, Inhabited

/-- The safety function beside its registers: the channels, the loaded and the stored boot set with their signature blocks, a commit that
waits for the latch, the running cycle number, the indices of the next die A frames (R429), the good upstream frames missed in a row, the
periods in which a test-pulse output has failed, a thermal hold of the STOEN_A pins (R527), and the banks whose SS1 delay runs (R441). -/
structure SafetySt where
  a        : SChan := {}
  b        : SChan := {}
  loaded   : Option (List Word) := none
  loadedSig : List Byte := []
  boot     : Option (List Word) := none
  bootSig  : List Byte := []
  commit   : Bool := false
  cyc      : Nat := 0
  downIdx  : Nat := 0
  upIdx    : Nat := 0
  upBad    : Nat := 0
  tpOut    : Tab Nat := []
  thermal  : Bool := false
  ss1Banks : List Nat := []
  deriving DecidableEq, Repr, Inhabited

/-- A downstream isolation-link frame (R420, R430): SEQ, output commands, the configuration word, and the safety exchange: frame index,
the message whose fragment it carries, and channel A's safe-output commands; `bad` is a bit that the Squall injector has inverted. -/
structure DownFrame where
  seq  : Nat := 0
  cmds : Nat := 0
  cfg  : Option (Nat × Word) := none
  ix   : Nat := 0
  msg  : Option SMsg := none
  so   : Nat := 0
  bad  : Bool := false
  deriving DecidableEq, Repr, Inhabited

/-- A field die and its isolation link.  Of the die: running, the SEQ of its last upstream frame and of the last received downstream
frame, the runs of bad and good downstream frames, fallback, whether the last downstream frame was bad, the commands in effect
and those last received, outputs off by R413, in overload, and the voltage condition of off outputs (2 open, 3 stuck-high, 4
driven by partner).  Of the motion die: the SEQ last sent, the runs of bad and good upstream frames, staleness that has just
ended, the downstream frame on the link, and configuration words still to be taken by the die. -/
structure FieldDie where
  on       : Bool := false
  upSeq    : Nat := 0
  rxSeq    : Nat := 0
  bad      : Nat := 0
  good     : Nat := 0
  fallback : Bool := false
  lastBad  : Bool := false
  cmd      : Nat := 0
  lastCmd  : Nat := 0
  hot      : List Nat := []
  ovl : List Nat := []
  cond     : Tab Nat := []
  dnSeq    : Nat := 0
  upBad    : Nat := 0
  upGood   : Nat := 0
  resync   : Bool := false
  down     : Option DownFrame := none
  cfgQ     : List (Nat × Word) := []
  lastDown : Option DownFrame := none -- the frame sent last, and one exchanged with the next (R533)
  swapDown : Option DownFrame := none
  upSwap   : Bool := false            -- the die's next frame is the one exchanged with its last (R533)
  deriving DecidableEq, Repr, Inhabited

/-- The field dies: by die, the configuration words that they hold, the filtered input levels, the levels that have changed since the last
upstream frame, the wire breaks, and the samples of SIN15–SIN0 that the motion die holds. -/
structure FieldSt where
  dies   : Tab FieldDie := []
  cfg    : Tab Word := []
  levels : Nat := 0
  chg    : Nat := 0
  wb     : Nat := 0
  sin    : Nat := 0        -- the comparator A samples of the latest good die A frame (R430)
  deriving DecidableEq, Repr, Inhabited

/-! ### Hot-standby pair (17) -/

/-- The pair beside its registers: the SEQ of the last received frame, the runs of good and of discarded frames, the frames sent by KIND
with the payload of the last of each, whether a HEARTBEAT has been received since pairing began and since the last own one, the health
mask of the last, the instant of the last heartbeat on either path in ns, the level of PAIR_HBO, whether the BULK copy is complete, the
consecutive ticks on which each axis has diverged, the safety cycles on which the STO banks have differed, the LANE_MIRROR frames that
wait for a position-loop tick, the hook values that the own cores have written in shadow, the replies computed in shadow that the ACTIVE
has not posted, each with whether it is to be sent to a host, the replies (CSN, ESN, KIND) that the ACTIVE has posted before they were
computed here, that the device has left SEEKING by itself and heard no heartbeat since, a scheduled switchover and the instant of its
acceptance, the instant from which a device that has taken over sends on Traverse (R469), and the start of a gap that is still running
(R470). -/
structure PairSt where
  rxSeq    : Nat := 0
  goodRun  : Nat := 0
  badRun   : Nat := 0
  sent     : Tab Nat := []
  last     : Tab (List Word) := []
  heard    : Bool := false
  heardNow : Bool := false
  health   : Word := 0
  hbNs     : Nat := 0
  hbo      : Bool := false
  bulk     : Bool := false
  div      : Tab Nat := []
  stoDiff  : Nat := 0
  laneMir  : Tab (Option LaneMirror) := []
  hooks    : Tab (Option Word) := []
  unposted : List (Reply × Bool) := []
  posted   : List (Word × Word × Nat) := []
  alone    : Bool := false
  switch   : Bool := false
  switchAt : Nat := 0
  trvFrom  : Nat := 0
  gapFrom  : Option Nat := none
  late     : Option (Nat × List Word) := none -- an own frame, and a received one, exchanged with the next (R533)
  lateRx   : Option TieHead := none
  deriving DecidableEq, Repr, Inhabited

/-! ### Logbook store and persistence island (18) -/

/-- An object of a Logbook partition (R479): partition, number, sequence and content. -/
structure StoreObj where
  part  : Nat := 0
  num   : Nat := 0
  seq   : Nat := 0
  bytes : List Byte := []
  deriving DecidableEq, Repr, Inhabited

/-- What a Logbook operation does: an object is written, read or erased, or the content of a partition's object is written on behalf
of IMAGE_INSTALL or SAVE_CONFIG_SET. -/
inductive StoreKind where
  | write | read | erase | image | config
  deriving DecidableEq, Repr, Inhabited

/-- A running Logbook operation: its number, what it writes, where and how much it reads, and the physical bytes that it has
programmed. -/
structure StoreOp where
  id    : Nat := 0
  kind  : StoreKind := .write
  part  : Nat := 0
  num   : Nat := 0
  bytes : List Byte := []
  at_   : Nat := 0
  max   : Nat := 0
  phys  : Nat := 0
  deriving DecidableEq, Repr, Inhabited

/-- The content of the journal SRAM as a flush writes it to a slot (R491): sequence, RTC time, whether it was unwarned, the budget, the
snapshot banks and the fault log ring. -/
structure Journal where
  seq      : Nat := 0
  rtc      : Nat := 0
  unwarned : Bool := false
  budget   : Int := 0
  snaps    : Tab Word := []
  log      : List LogEntry := []
  deriving DecidableEq, Repr, Inhabited

/-- The Logbook store beside its registers: its objects, the sequence of the next, the running operations in their order and the number of
the next, the part that is mounted, bad blocks, erase counts, blocks that have reached REFRESH_THR in the running scrub period, blocks
queued for refresh, the wear budget in units of 1/6,311,520,000 byte, that no part has been mounted yet, the journal slots (none: erased)
and the sequence of the next flush, that a flush has to run, that one has started, that the island has stopped, the phase of the real-time
clock in 1/400,000,000 of its unit, the budget as the last wear accounting wrote it to the journal SRAM, the seconds that wear accounting
has counted, and that the charger runs. -/
structure StoreSt where
  objs     : List StoreObj := []
  seq      : Nat := 1
  ops      : List StoreOp := []
  nextId   : Nat := 0
  part     : Option NandPart := none
  bad      : List Nat := []
  erases   : Tab Nat := []
  hits     : List Nat := []
  refresh  : List Nat := []
  budget   : Int := 0
  blank    : Bool := true
  slots    : Tab (Option Journal) := []
  jseq     : Nat := 1
  flush    : Bool := false
  frozen   : Bool := false
  lost     : Bool := false
  rtcAcc   : Nat := 0
  saved    : Option Int := none
  wearSec  : Nat := 0
  chg      : Bool := false
  deriving DecidableEq, Repr, Inhabited

/-! ### Lifecycle, debug and power states (19) -/

/-- What OTP holds and the device can change (R499–R506): the lifecycle code, the security version, the hashes of the owner slots (empty:
not written), the revocation bits and the policy bits DSP, SAFETY, CFG.  The device is delivered OPEN (assumption log 25). -/
structure Otp where
  lc    : Nat := 1
  svn   : Nat := 0
  hash0 : List Byte := []
  hash1 : List Byte := []
  rev0  : Bool := false
  rev1  : Bool := false
  pDsp  : Bool := false
  pSafe : Bool := false
  pCfg  : Bool := false
  deriving DecidableEq, Repr, Inhabited

/-- The boundary-scan instructions that drive the outputs (R512). -/
inductive JtagDrive where
  | none | extest | clamp | highz
  deriving DecidableEq, Repr, Inhabited

/-- Security, debug and the TAP beside their registers: OTP, the valid nonce (R509), that challenges are refused (R510), the TAP's
instruction code, the boundary-scan register, what drives the boundary outputs, and an applied power-state request that has not
acted (R513). -/
structure SecSt where
  otp     : Otp := {}
  nonce   : Option (List Word) := none
  lockout : Bool := false
  ir      : Nat := 1
  bsr     : List Bool := []
  drive   : JtagDrive := .none
  pwrReq  : Option Nat := none
  deriving DecidableEq, Repr, Inhabited

/-! ### Background tasks, governor, Squall (20) and boot (01) -/

/-- The background tasks, the governor, the watchdog and the injector beside their registers: by rail the samples out of range in a row
(R525), the largest lane load and issue delay kept for the fault log, corrected words that wait for their write-back (R523), a warm
reset that waits for the stop generator (R529), the matches of each armed rule, the seed of the generator of R532 and its draws, and that an
arm duration runs. -/
structure BgSt where
  rail    : Tab Nat := []
  maxLoad : Tab Nat := []
  maxDly  : Tab Nat := []
  wb      : List (Nat × Nat) := []
  wedgeReset : Bool := false
  matches_ : Tab Nat := []
  gen     : Nat := 1
  draws   : Nat := 0
  dur     : Bool := false
  deriving DecidableEq, Repr, Inhabited

/-- The boot beside its registers: the image that the next boot takes from Logbook staging (R40), the security version of a verified image
that is being booted, and that the island holds the motion die in reset (R492, R493). -/
structure BootSt where
  staged : Option (List Byte) := none
  svn    : Option Nat := none
  held   : Bool := false
  deriving DecidableEq, Repr, Inhabited

/-! ### The device -/

/-- Everything the device holds, but for the queue of waiting commands. -/
structure Dev where
  regs   : Tab Word := []         -- REGWIN by offset: every register and memory window (R31, R566)
  time   : Nat := 0               -- device time in units of 2^−32 ns (R23)
  rate   : Int := 0               -- rate correction, 2^−32 ns a PWM clock
  stepped : Bool := false         -- device time has been stepped at a first synchronisation
  raised : List Nat := []         -- sources raised whose crossing to the Event Router has not ended (R20)
  fresh  : Nat := 0               -- the model's own counter for free values
  latches : List UpperLatch := [] -- R13
  cmd    : CmdState := {}
  axes   : Tab AxisSt := []
  ip     : InterpState := {}
  ce     : CeState := {}
  cfe    : CfeState := {}
  pwm    : PwmState := {}
  enc    : EncState := {}
  td     : Tab Core := []
  evr    : EvrState := {}
  faultLog : List LogEntry := []  -- oldest first
  bulk   : Tab Byte := []         -- BULKWIN by byte offset: trace SRAM and staging (R32); unwritten bytes read 0
  trace  : TraceSt := {}
  snap   : SnapSt := {}
  safety : SafetySt := {}
  trv    : TrvSt := {}
  servoNs : Tab Nat := []         -- instant of each lane's last servo tick, ns
  can    : Tab CanSt := []
  clocks : Nat := 0               -- PWM clocks since the last cold or warm reset
  field  : FieldSt := {}
  pair   : PairSt := {}
  store  : StoreSt := {}
  sec    : SecSt := {}
  bg     : BgSt := {}
  boot   : BootSt := {}
  ticked : List Nat := []         -- lanes that have had a servo tick since the last reset (R29)
  tickDue : Tab Nat := []         -- PWM clock at which each lane ticks next, where `ticked` (R25, R26)
  readOut : List Byte := []       -- what the last host read returned (R12, R13)
  deriving DecidableEq, Repr, Inhabited

/-- Why a command stops the machine. -/
inductive Fault where
  /-- Raised by a meaning that is handed operands outside `Instr.wellFormed`: an operand no unit of the device can
  deliver, such as a CAN frame of 70 bytes.  Safe: the device never sees such a command. -/
  | illFormed (mnemonic : String)
  deriving DecidableEq, Repr

/-- Why a command has no meaning. -/
inductive Refusal where
  /-- Raised by `exec` for a command that the model gives no meaning yet, by its mnemonic.  Safe: the machine stops. -/
  | notModelled (mnemonic : String)
  deriving DecidableEq, Repr

/-- The machine: the commands that wait, first in, first out, and the device. -/
structure State where
  pending : List Instr := []
  dev     : Dev := {}
  deriving DecidableEq, Repr, Inhabited

/-- The machine right after a cold reset by PORn with every strap at 0: no command waits, nothing is listed in any
memory, and every register holds its reset value (R34, R35, assumption log 2). -/
def State.reset : State := {}

/-- What a meaning answers. -/
abbrev Out := Host.Outcome State Fault Refusal

end Sys2Proof.Machine
end

