-- ==== Sys2Proof/Machine/Tab.lean ====
section
/-!
DEFINITION. Sparse tables in canonical form: reading, writing, and the form itself.  A table lists its pairs in strictly
rising order of their number and lists none that equals what an unlisted number reads as, so equal tables are equal
lists.  The default is given as a function of the number.
-/

namespace Sys2Proof.Machine

/-- The value of number `k`, or `dflt k` where the table does not list it. -/
def tabGetD {α : Type} (dflt : Nat → α) (t : Tab α) (k : Nat) : α :=
  match t with
  | [] => dflt k
  | (j, v) :: r => if j = k then v else tabGetD dflt r k

/-- The table without number `k`. -/
def tabErase {α : Type} (t : Tab α) (k : Nat) : Tab α :=
  match t with
  | [] => []
  | (j, v) :: r => if j = k then tabErase r k else (j, v) :: tabErase r k

/-- The table with the pair `(k, v)` put before the first greater number. -/
def tabInsert {α : Type} (t : Tab α) (k : Nat) (v : α) : Tab α :=
  match t with
  | [] => [(k, v)]
  | (j, u) :: r => if k < j then (k, v) :: (j, u) :: r else (j, u) :: tabInsert r k v

/-- The table in which number `k` has the value `v`. -/
def tabSetD {α : Type} [DecidableEq α] (dflt : Nat → α) (t : Tab α) (k : Nat) (v : α) : Tab α :=
  if v = dflt k then tabErase t k else tabInsert (tabErase t k) k v

/-- Every number listed in the table is at least `lo`, the numbers rise strictly, and no pair is the default. -/
def tabWfFrom {α : Type} [DecidableEq α] (dflt : Nat → α) (lo : Nat) (t : Tab α) : Bool :=
  match t with
  | [] => true
  | (j, v) :: r => decide (lo ≤ j) && decide (v ≠ dflt j) && tabWfFrom dflt (j + 1) r

/-- The table is in canonical form. -/
def tabWf {α : Type} [DecidableEq α] (dflt : Nat → α) (t : Tab α) : Bool := tabWfFrom dflt 0 t

/-- The value of number `k` in a table whose default is the type's reset value. -/
def tabGet {α : Type} [Inhabited α] (t : Tab α) (k : Nat) : α := tabGetD (fun _ => default) t k

/-- The table, with the type's reset value as its default, in which number `k` has the value `v`. -/
def tabSet {α : Type} [Inhabited α] [DecidableEq α] (t : Tab α) (k : Nat) (v : α) : Tab α :=
  tabSetD (fun _ => default) t k v

end Sys2Proof.Machine
end

