-- ==== Sys2Proof/Machine/Ops.lean ====
section
/-!
DEFINITION. The named operations every meaning is built from: reading and writing registers and their fields, raising
an Event Router source, fresh values, signed numbers, and device time.
-/

namespace Sys2Proof.Machine

open Sys2Proof

/-! ### Numbers -/

/-- The signed value of the `n`-bit number `v` (two's complement). -/
def toS (n v : Nat) : Int := if 2 ^ (n - 1) ≤ v % 2 ^ n then ((v % 2 ^ n : Nat) : Int) - (2 ^ n : Nat) else ((v % 2 ^ n : Nat) : Int)

/-- The `n`-bit number that stands for the integer `v` modulo 2^n. -/
def ofS (n : Nat) (v : Int) : Nat := (v % ((2 ^ n : Nat) : Int)).toNat

/-- `v` held between `lo` and `hi`. -/
def clampI (lo hi v : Int) : Int := if v < lo then lo else if hi < v then hi else v

/-- The sign of `v`: −1, 0 or +1. -/
def signI (v : Int) : Int := if v < 0 then -1 else if v = 0 then 0 else 1

/-- `a / b` rounded to the nearest integer, ties to even; `b` is positive. -/
def roundDiv (a : Int) (b : Nat) : Int :=
  let q := Int.fdiv a b
  let r := a - q * b
  if 2 * r < b then q else if (b : Int) < 2 * r then q + 1 else if q % 2 = 0 then q else q + 1

/-- Bit `k` of a word. -/
def wbit (w : Word) (k : Nat) : Bool := w.getLsbD k

/-- Bits `hi` to `lo` of a word as a number. -/
def wbits (w : Word) (hi lo : Nat) : Nat := (w.toNat >>> lo) % 2 ^ (hi + 1 - lo)

/-- The word of a number modulo 2^32. -/
def toW (n : Nat) : Word := BitVec.ofNat 32 n

/-- The word of an integer modulo 2^32. -/
def toWI (n : Int) : Word := BitVec.ofInt 32 n

/-- Two words as a 64-bit number, lower word first. -/
def pair64 (lo hi : Word) : Nat := hi.toNat * 2 ^ 32 + lo.toNat

/-- Two words as a signed 64-bit number, lower word first. -/
def pairS (lo hi : Word) : Int := toS 64 (pair64 lo hi)

/-- The two words of a 64-bit number, lower word first (R3). -/
def words64 (n : Nat) : List Word := [toW n, toW (n / 2 ^ 32)]

/-! ### The register file -/

/-- Which row of the register table the offset lies in, with the subscripts and the word (0 lower, 1 upper). -/
def regLocate (r : RegRow) (off : Nat) : Option (Nat × Nat × Nat) :=
  if off < r.base then none else
  let rel := off - r.base
  let i := if r.s1 = 0 then 0 else rel / r.s1
  let rel1 := if r.s1 = 0 then rel else rel % r.s1
  let j := if r.s2 = 0 then 0 else rel1 / r.s2
  let rel2 := if r.s2 = 0 then rel1 else rel1 % r.s2
  if i < r.n1 ∧ j < r.n2 then
    if rel2 = 0 then some (i, j, 0) else if rel2 = 4 ∧ r.w64 then some (i, j, 1) else none
  else none

/-- The row, subscripts and word of the register at an offset; none where no register stands (R31). -/
def findReg (off : Nat) : Option (RegRow × Nat × Nat × Nat) :=
  regRows.findSome? fun r => (regLocate r off).map fun x => (r, x)

/-- Which sources are level sources (R336, R384, R402, R426, R453, R474, R497, R519, R536). -/
def isLevelSource (s : Nat) : Bool :=
  (64 ≤ s && s < 144) || (192 ≤ s && s < 272) || (336 ≤ s && s < 352 && (s - 336) % 4 ≠ 3)
  || (356 ≤ s && s < 360)
  || (384 ≤ s && s < 416 && [2, 3, 7, 9].contains ((s - 384) % 16))
  || (480 ≤ s && s < 544)
  || [545, 546, 547, 561, 563, 564, 565, 567, 577, 578, 580, 581, 584, 585, 592, 593, 594, 595, 596, 597, 599, 600,
      610, 611, 614].contains s

/-- The 48 wake-capable sources and their bits of EVR_WAKE_LATCH (R351). -/
def wakeBit (s : Nat) : Option Nat :=
  if 256 ≤ s ∧ s < 260 then some (s - 256)
  else if 352 ≤ s ∧ s < 354 then some (s - 352 + 4)
  else if s = 384 then some 6
  else if s = 400 then some 7
  else if 544 ≤ s ∧ s < 560 then some (s - 544 + 8)
  else if 560 ≤ s ∧ s < 568 then some (s - 560 + 24)
  else if 576 ≤ s ∧ s < 584 then some (s - 576 + 32)
  else if 608 ≤ s ∧ s < 610 then some (s - 608 + 40)
  else if 624 ≤ s ∧ s < 630 then some (s - 624 + 42)
  else none

/-- Reset words that depend on the subscript of a register (R165, R336, R351, and the notes of the register tables): SPH is the slot
number modulo 4; CE_AX_PARAM_24 and _26 are 1.0; slot 0 of the Traverse schedule is the datum slot; EVR_TGT_CFG_5 reads 0; SYS_ID names
the first silicon revision (R565, assumption log 25); SEC_LC, SEC_KEYS, SEC_UID and DEBUG_STATUS read as OTP gives them on the device as
delivered (R499, assumption log 25); EVR_SRC_CFG_s holds the kind and the wake capability of its source. -/
def specialReset (off : Nat) : Option Nat :=
  if 0x58000 ≤ off ∧ off < 0x60000 then
    let rel := (off - 0x58000) % 0x200
    let a := (off - 0x58000) / 0x200
    if rel = 0 then some (a % 4)
    else if rel = 0x40 + 4 * 24 then some 0x3F800000
    else if rel = 0x40 + 4 * 26 then some 0x3F800000
    else none
  else if off = 0 then some 0x64641F5C
  else if off = 4 then some 1
  else if off = 0xB0400 then some 0x2000
  else if off = 0xB0404 then some 0x10000000
  else if off = 0x2C14 then some 0
  else if off = 0x110000 then some 0x40000000
  else if off = 0x110004 then some 0x10
  else if off = 0x110800 then some 0xE0000000
  else if 0x110010 ≤ off ∧ off < 0x110020 ∧ off % 4 = 0 then
    some ((Config.uid ((off - 0x110010) / 8)).toNat / 2 ^ (8 * (off % 8)))
  else if 0x2000 ≤ off ∧ off < 0x2A00 ∧ off % 4 = 0 then
    let s := (off - 0x2000) / 4
    some (0xF + (if isLevelSource s then 2 ^ 28 else 0) + (if (wakeBit s).isSome then 2 ^ 27 else 0))
  else none

/-- The word a register holds at reset where nothing else fills it in (R566); 0 where no register stands (R31). -/
def resetWord (off : Nat) : Word :=
  match specialReset off with
  | some v => toW v
  | none =>
    match findReg off with
    | none => 0
    | some (r, _, _, w) => toW (if w = 0 then r.rst else r.rst / 2 ^ 32)

/-- The applied word at a REGWIN offset. -/
def Dev.rd (d : Dev) (off : Nat) : Word := tabGetD resetWord d.regs off

/-- `d` with the word `w` at a REGWIN offset. -/
def Dev.wr (d : Dev) (off : Nat) (w : Word) : Dev := { d with regs := tabSetD resetWord d.regs off w }

/-- The number of field `f` of a word. -/
def fldGet (w : Word) (f : Fld) : Nat := (w.toNat >>> f.lo) % 2 ^ f.w

/-- The word with the number `v`, modulo the field's size, in field `f`. -/
def fldSet (w : Word) (f : Fld) (v : Nat) : Word :=
  (w &&& ~~~(BitVec.ofNat 32 (2 ^ f.w - 1) <<< f.lo)) ||| (BitVec.ofNat 32 (v % 2 ^ f.w) <<< f.lo)

/-- The whole value of the 64-bit register at `off`. -/
def Dev.rd64 (d : Dev) (off : Nat) : Nat := pair64 (d.rd off) (d.rd (off + 4))

/-- `d` with the 64-bit register at `off` holding `v` modulo 2^64. -/
def Dev.wr64 (d : Dev) (off : Nat) (v : Nat) : Dev := (d.wr off (toW v)).wr (off + 4) (toW (v / 2 ^ 32))

/-- The signed whole value of the 64-bit register at `off`. -/
def Dev.rdS (d : Dev) (off : Nat) : Int := toS 64 (d.rd64 off)

/-- `d` with the 64-bit register at `off` holding the integer `v` modulo 2^64. -/
def Dev.wrS (d : Dev) (off : Nat) (v : Int) : Dev := d.wr64 off (ofS 64 v)

/-- The number in field `f` of the register at `off`; the field may lie in the upper word of a 64-bit register. -/
def Dev.fg (d : Dev) (off : Nat) (f : Fld) : Nat :=
  if f.lo + f.w ≤ 32 then fldGet (d.rd off) f
  else if 32 ≤ f.lo then fldGet (d.rd (off + 4)) ⟨f.lo - 32, f.w⟩
  else (d.rd64 off >>> f.lo) % 2 ^ f.w

/-- `d` with the number `v`, modulo the field's size, in field `f` of the register at `off`. -/
def Dev.fs (d : Dev) (off : Nat) (f : Fld) (v : Nat) : Dev :=
  if f.lo + f.w ≤ 32 then d.wr off (fldSet (d.rd off) f v)
  else if 32 ≤ f.lo then d.wr (off + 4) (fldSet (d.rd (off + 4)) ⟨f.lo - 32, f.w⟩ v)
  else d.wr64 off (d.rd64 off - ((d.rd64 off >>> f.lo) % 2 ^ f.w) * 2 ^ f.lo + (v % 2 ^ f.w) * 2 ^ f.lo)

/-- A one-bit field as a Bool. -/
def Dev.fb (d : Dev) (off : Nat) (f : Fld) : Bool := d.fg off f == 1

/-- `d` with a one-bit field set to a Bool. -/
def Dev.fsb (d : Dev) (off : Nat) (f : Fld) (b : Bool) : Dev := d.fs off f b.toNat

/-- The signed number in a field. -/
def Dev.fgS (d : Dev) (off : Nat) (f : Fld) : Int := toS f.w (d.fg off f)

/-- `d` with a counter field one higher, held at its largest value (the saturating counters of the register tables). -/
def Dev.satInc (d : Dev) (off : Nat) (f : Fld) : Dev :=
  d.fs off f (if d.fg off f + 1 < 2 ^ f.w then d.fg off f + 1 else 2 ^ f.w - 1)

/-- `d` with a counter field one higher, wrapping. -/
def Dev.wrapInc (d : Dev) (off : Nat) (f : Fld) : Dev := d.fs off f (d.fg off f + 1)

/-- Bit `k` of the register (32 or 64 bits) at `off`. -/
def Dev.bit (d : Dev) (off k : Nat) : Bool := d.fb off ⟨k, 1⟩

/-- `d` with bit `k` of the register (32 or 64 bits) at `off` set to a Bool. -/
def Dev.setBit (d : Dev) (off k : Nat) (b : Bool) : Dev := d.fsb off ⟨k, 1⟩ b

/-! ### Sources, fresh values, time -/

/-- `d` with source `s` raised: its status bit is set, and the source is on its way to the Event Router (R20, R567). -/
def Dev.raise (d : Dev) (s : Nat) : Dev := { d with raised := d.raised ++ [s] }

/-- `d` with the counter of free values advanced. -/
def Dev.nextFresh (d : Dev) : Dev := { d with fresh := d.fresh + 1 }

/-- Device time in whole nanoseconds, as SYS_TIME returns it. -/
def Dev.ns (d : Dev) : Nat := d.time / 2 ^ 32

/-- CAN_TSC: the timestamp counter of both channels, 40 MHz since the last reset (R398). -/
def Dev.canTsc (d : Dev) : Nat := (d.clocks / 10) % 2 ^ 32

/-- A Transit DSP core is RUNNING or WAITING (R290). -/
def Dev.tdBusy (d : Dev) (c : Nat) : Bool :=
  d.fg (R.TD_STATUS c) F.TD_STATUS_STATE = 2 || d.fg (R.TD_STATUS c) F.TD_STATUS_STATE = 3

/-- The word that a read of a REGWIN offset returns: SYS_TIME and CAN_TSC count with the clock and are computed, every other register has
its home in `regs`.  The memories of a core that is RUNNING or WAITING read 0 (R259). -/
def Dev.view (d : Dev) (off : Nat) : Word :=
  if off = R.SYS_TIME then toW d.ns
  else if off = R.SYS_TIME + 4 then toW (d.ns / 2 ^ 32)
  else if off = R.CAN_TSC 0 ∨ off = R.CAN_TSC 1 then toW d.canTsc
  else if 0x200000 ≤ off ∧ off < 0x400000 ∧ off % 0x80000 < 0x30000 ∧ d.tdBusy ((off - 0x200000) / 0x80000) then 0
  else d.rd off

/-- A table entry changed by a function. -/
def tabMod {α : Type} [Inhabited α] [DecidableEq α] (t : Tab α) (k : Nat) (f : α → α) : Tab α :=
  tabSet t k (f (tabGet t k))

/-- The device changed by a function for each number of a list, in order. -/
def Dev.each (d : Dev) (l : List Nat) (f : Dev → Nat → Dev) : Dev := l.foldl f d

/-- The power state (R513). -/
def Dev.power (d : Dev) : Nat := d.fg R.PWR_STATUS F.PWR_STATUS_STATE

/-- The PWM generator has been configured by the boot (R36): the boot has completed. -/
def Dev.pwmConfigured (d : Dev) : Bool := d.fb R.SYS_BOOT_STATUS F.SYS_BOOT_STATUS_READY

/-- The device is in DOZE. -/
def Dev.dozing (d : Dev) : Bool := d.power = 2

/-- The tasks that THROTTLE pauses do not run (R520, R526). -/
def Dev.throttled (d : Dev) : Bool := 2 ≤ d.fg R.THERMAL_STATUS F.THERMAL_STATUS_LEVEL

/-- The motion die is held in reset by the island (R492, R493). -/
def Dev.heldInReset (d : Dev) : Bool := d.boot.held

/-- A meaning that changes the device only, whatever the motion die does: one of the island, of a field die or of a safety channel. -/
def State.onAll (s : State) (f : Dev → Dev) : Out := .next { s with dev := f s.dev }

/-- A meaning of the motion die: while the die is held in reset, nothing happens. -/
def State.onDev (s : State) (f : Dev → Dev) : Out := s.onAll fun d => if d.heldInReset then d else f d

end Sys2Proof.Machine
end

