-- ==== Sys2Proof/Machine/Clock.lean ====
section
/-!
DEFINITION. PWM clocks of 2.5 ns: one passes while no command waits, and a servo tick lets the clocks up to its instant pass: device time,
the timestamp counter, the PWM timebases and the real-time clock (R23, R25, R200, R398, R488; assumption log 3).
-/

namespace Sys2Proof.Machine

open Sys2Proof

/-- The part of a running offset correction that `k` clocks add (R23): what is left is spread evenly over the clocks that are left, the
odd units over the last of them. -/
def Dev.slewPart (d : Dev) (k : Nat) : Int :=
  let n : Int := max 1 d.trv.oClocks
  let q := d.trv.oLeft / n
  let r := d.trv.oLeft - q * n
  let k : Int := min k n
  q * k + max 0 (k - (n - r))

/-- Device time advances by 2.5 ns a clock, the rate correction, and a part of a running offset correction (R23). -/
def Dev.timePass (d : Dev) (k : Nat) : Dev :=
  let part := d.slewPart k
  { d with
    time := ((d.time : Int) + k * (5 * 2 ^ 31 + d.rate) + part).toNat
    clocks := d.clocks + k
    trv := { d.trv with oLeft := d.trv.oLeft - part, oClocks := d.trv.oClocks - k } }

/-- The positions of the timebases of a bank: TB0 once its lane has ticked, TB1 while it runs (R200). -/
def Dev.bankPass (k : Nat) (d : Dev) (n : Nat) : Dev :=
  let d := if d.ticked.contains n then
      d.fs (R.PWM_BANK_POS n) F.PWM_BANK_POS_TB0_POS (d.fg (R.PWM_BANK_POS n) F.PWM_BANK_POS_TB0_POS + k)
    else d
  let b := tabGet d.pwm.banks n
  if b.run1 then d.fs (R.PWM_BANK_STATUS n) F.PWM_BANK_STATUS_TB1_POS ((d.fg (R.PWM_BANK_STATUS n) F.PWM_BANK_STATUS_TB1_POS + k) % b.per1)
  else d

/-- The real-time clock counts 32,768 times a second while the island runs (R488). -/
def Dev.rtcPass (d : Dev) (k : Nat) : Dev :=
  if d.power = 4 then d else
  let acc := d.store.rtcAcc + 32768 * k
  let d : Dev := { d with store := { d.store with rtcAcc := acc % 400000000 } }
  if acc < 400000000 then d else d.wr64 R.RTC_TIME (d.rd64 R.RTC_TIME + acc / 400000000)

/-- `k` PWM clocks pass; a motion die that is held in reset has none. -/
def Dev.pass (d : Dev) (k : Nat) : Dev :=
  let d := d.rtcPass k
  if d.heldInReset then d
  else if d.pwm.halted then d.timePass k
  else (d.timePass k).each (List.range 4) (Dev.bankPass k)

/-- One PWM clock. -/
def Dev.clockTick (d : Dev) : Dev := d.pass 1

end Sys2Proof.Machine
end

