-- ==== Sys2Proof/Machine/EvrOps.lean ====
section
/-!
DEFINITION. The Event Router's operations (12): the level behind each level source, firing, claim, completion,
moderation units, MSI-X messages and the INTkn pins.
-/

namespace Sys2Proof.Machine

open Sys2Proof

/-! ### Kinds, levels and wake capability (R336, R351) -/

/-- The words and bits whose being set makes the level of source `s` high (R336, R384, R402, R426, R453, R474, R497,
R519, R536); an edge source has none. -/
def levelBits (s : Nat) : List (Nat × Nat) :=
  if 64 ≤ s ∧ s < 128 then [(R.AXIS_FAULT (s - 64), 0x7F)]
  else if 128 ≤ s ∧ s < 144 then [(R.INTERP_GRP_EVENT (s - 128), 0x3F)]
  else if 192 ≤ s ∧ s < 256 then [(R.ENC_STATUS (s - 192), 0x800001FF)]
  else if 256 ≤ s ∧ s < 260 then
    (List.range 16).map (fun i => (R.PWM_TRIP_STATUS (16 * (s - 256) + i), 0x10000)) ++ [(R.PWM_TRIP_STATUS (64 + (s - 256)), 0x10000)]
  else if 260 ≤ s ∧ s < 264 then
    (R.CFE_CLK_STATUS, 0x80000000 + 0x1F * 2 ^ (5 * (s - 260))) :: (List.range 40).map (fun i => (R.CFE_SD_STATUS (40 * (s - 260) + i), 0x7F))
  else if 264 ≤ s ∧ s < 272 then [(R.CE_LANE_EVENT ((s - 264) / 2), if s % 2 = 0 then 1 else 2)]
  else if 336 ≤ s ∧ s < 352 then
    let c := (s - 336) / 4
    match (s - 336) % 4 with
    | 0 => [(R.TD_FAULT c, 0x0E)]
    | 1 => [(R.TD_FAULT c, 0x10)]
    | 2 => [(R.TD_FAULT c, 0x20)]
    | _ => []
  else if s = 356 then
    [(R.TRV_ERR, 2 ^ F.TRV_ERR_BOUNDARY.lo + 2 ^ F.TRV_ERR_CRC.lo + 2 ^ F.TRV_ERR_HDR.lo + 2 ^ F.TRV_ERR_READBACK.lo)]
  else if s = 357 then [(R.TRV_ERR, 2 ^ F.TRV_ERR_GUARD.lo + 2 ^ F.TRV_ERR_TX_BLOCKED.lo)]
  else if s = 358 then [(R.TRV_ERR, 2 ^ F.TRV_ERR_COLLISION.lo)]
  else if s = 359 then [(R.TRV_ERR, 2 ^ F.TRV_ERR_CH_A_FAIL.lo + 2 ^ F.TRV_ERR_CH_B_FAIL.lo)]
  else if 384 ≤ s ∧ s < 416 then
    let c := (s - 384) / 16
    match (s - 384) % 16 with
    | 2 => [(R.CAN_ERR c, 2 ^ F.CAN_ERR_RX_OVR.lo)]
    | 3 => [(R.CAN_TX_DONE c, 0xFFFFFFFF), (R.CAN_TX_DONE c + 4, 0xFFFFFFFF)]
    | 7 => [(R.CAN_ERR c, 2 ^ F.CAN_ERR_BUSOFF.lo)]
    | 9 => [(R.CAN_ERR c, 2 ^ F.CAN_ERR_BIT.lo + 2 ^ F.CAN_ERR_STUFF.lo + 2 ^ F.CAN_ERR_FORM.lo + 2 ^ F.CAN_ERR_CRC.lo + 2 ^ F.CAN_ERR_ACK.lo)]
    | _ => []
  else if 480 ≤ s ∧ s < 528 then
    [(R.FIELD_OUT_DIAG (s - 480), 0xF)]
  else if s = 528 ∨ s = 529 then [(R.FIELD_LINK_STATUS (s - 528), 2 ^ F.FIELD_LINK_STATUS_STALE_HIT.lo)]
  else if s = 530 ∨ s = 531 then [(R.FIELD_LINK_STATUS (s - 530), 2 ^ F.FIELD_LINK_STATUS_SUPPLY_LOST.lo)]
  else if 532 ≤ s ∧ s < 538 then [(R.FIELD_GROUP_STATUS (s - 532), 2 ^ F.FIELD_GROUP_STATUS_UV_HIT.lo)]
  else if 538 ≤ s ∧ s < 544 then [(R.FIELD_GROUP_STATUS (s - 538), 2 ^ F.FIELD_GROUP_STATUS_OC.lo)]
  else if s = 545 then [(R.SAFETY_FAULT, 0xFD)]
  else if s = 546 then [(R.SAFETY_PAIR, 0xFF0000)]
  else if s = 547 then [(R.SAFETY_PAIR, 0xFFFF)]
  else if s = 561 then [(R.PAIR_EVENT, 2 ^ F.PAIR_EVENT_PARTNER_LOST.lo)]
  else if s = 563 then [(R.PAIR_EVENT, 2 ^ F.PAIR_EVENT_LINK_DOWN.lo)]
  else if s = 564 then [(R.PAIR_EVENT, 2 ^ F.PAIR_EVENT_MISMATCH.lo)]
  else if s = 565 then [(R.PAIR_EVENT, 2 ^ F.PAIR_EVENT_DIVERGE.lo)]
  else if s = 567 then [(R.PAIR_EVENT, 2 ^ F.PAIR_EVENT_SAFETY_DIFF.lo)]
  else if s = 577 then [(R.POWER_EVENT, 2 ^ F.POWER_EVENT_VAUX_LOST.lo)]
  else if s = 578 then [(R.POWER_EVENT, 2 ^ F.POWER_EVENT_VBAK_LOW.lo)]
  else if s = 580 then [(R.STORE_ERR, 2 ^ F.STORE_ERR_THROTTLED.lo)]
  else if s = 581 then [(R.STORE_ERR, 2 ^ F.STORE_ERR_UNCORR.lo)]
  else if s = 584 then [(R.STORE_ERR, 2 ^ F.STORE_ERR_FULL.lo)]
  else if s = 585 then [(R.STORE_ERR, 2 ^ F.STORE_ERR_BAD_WARN.lo)]
  else if s = 592 then [(R.THERMAL_EVENT, 2 ^ F.THERMAL_EVENT_WARN.lo)]
  else if s = 593 then [(R.THERMAL_EVENT, 2 ^ F.THERMAL_EVENT_THROTTLE.lo)]
  else if s = 594 then [(R.THERMAL_EVENT, 2 ^ F.THERMAL_EVENT_STOP.lo)]
  else if s = 595 then [(R.TELEM_EVENT, 0x3FF)]
  else if s = 596 then [(R.BG_STATUS, 2 ^ F.BG_STATUS_ECC_CORR.lo)]
  else if s = 597 then [(R.BG_STATUS, 2 ^ F.BG_STATUS_ECC_UNCORR.lo)]
  else if s = 599 then [(R.BG_STATUS, 0x3F)]
  else if s = 600 then [(R.SQ_STATUS, 2 ^ F.SQ_STATUS_INJECTED.lo)]
  else if s = 610 then [(R.SEC_COUNTS, 2 ^ F.SEC_COUNTS_UNLOCK_FAIL.lo)]
  else if s = 611 then [(R.SEC_COUNTS, 2 ^ F.SEC_COUNTS_SIG_FAIL.lo)]
  else if s = 614 then [(R.SEC_COUNTS, 0xFF00)]
  else []

/-- Whether the level of source `s` is high (R337). -/
def Dev.levelHigh (d : Dev) (s : Nat) : Bool :=
  (levelBits s).any fun x => (d.rd x.1).toNat &&& x.2 != 0

/-- A bit behind level source `s` has been set on `old`: the source is raised when its level rises, and in native mode also while it is
high (R337, R341). -/
def Dev.raiseBit (d old : Dev) (s : Nat) : Dev :=
  if d.fb (R.EVR_SRC_CFG s) F.EVR_SRC_CFG_COMPAT && old.levelHigh s then d else d.raise s

/-- `d` with status bit `k` of a register set, and the source raised when the bit was 0. -/
def Dev.setFlag (d : Dev) (off k src : Nat) : Dev :=
  if d.bit off k then d else (d.setBit off k true).raiseBit d src

/-! ### Source configuration and state -/

/-- The state code of source `s` (R339): 0 inactive, 1 pending, 2 active, 3 active-and-pending. -/
def Dev.srcState (d : Dev) (s : Nat) : Nat := d.fg (R.EVR_STATE (s / 16)) ⟨2 * (s % 16), 2⟩

/-- `d` with the state code of source `s`. -/
def Dev.setSrcState (d : Dev) (s v : Nat) : Dev := d.fs (R.EVR_STATE (s / 16)) ⟨2 * (s % 16), 2⟩ v

/-- The record of source `s`. -/
def Dev.src (d : Dev) (s : Nat) : EvrSrc := tabGet d.evr.src s

/-- `d` with the record of source `s` changed. -/
def Dev.modSrc (d : Dev) (s : Nat) (f : EvrSrc → EvrSrc) : Dev :=
  { d with evr := { d.evr with src := tabMod d.evr.src s f } }

def Dev.srcEn (d : Dev) (s : Nat) : Bool := d.fb (R.EVR_SRC_CFG s) F.EVR_SRC_CFG_EN
def Dev.srcPrio (d : Dev) (s : Nat) : Nat := d.fg (R.EVR_SRC_CFG s) F.EVR_SRC_CFG_PRIO
def Dev.srcVector (d : Dev) (s : Nat) : Nat := d.fg (R.EVR_SRC_CFG s) F.EVR_SRC_CFG_VECTOR

/-- The target that a delivery of source `s` goes to: the redirected one (R350), else TARGET. -/
def Dev.srcTarget (d : Dev) (s : Nat) : Nat := (d.src s).dest.getD (d.fg (R.EVR_SRC_CFG s) F.EVR_SRC_CFG_TARGET)

/-- The sources that are not inactive, in rising order. -/
def Dev.liveSources (d : Dev) : List Nat :=
  (List.range 40).flatMap fun w =>
    if d.rd (R.EVR_STATE w) = 0 then [] else
    (List.range 16).filterMap fun i => if d.srcState (16 * w + i) = 0 then none else some (16 * w + i)

/-- A target is asleep (R350): the host while no session is attached, a core while EMPTY, HALTED or FAULTED. -/
def Dev.asleep (d : Dev) (t : Nat) : Bool :=
  if t = 0 then !d.fb R.CMDQ_SESSION F.CMDQ_SESSION_ATTACHED
  else if t ≤ 4 then [0, 1, 4].contains (d.fg (R.TD_STATUS (t - 1)) F.TD_STATUS_STATE)
  else false

/-- WAKE of a target (R350). -/
def Dev.wakeOf (d : Dev) (t : Nat) : Bool := d.fb (R.EVR_TGT_CFG t) F.EVR_TGT_CFG_WAKE

/-- A target is idle (R347): TDc while WAITING, the host while EVR_HOST_IDLE.IDLE is 1. -/
def Dev.idleTarget (d : Dev) (u : Nat) : Bool :=
  if u < 64 then d.fb R.EVR_HOST_IDLE F.EVR_HOST_IDLE_IDLE
  else d.fg (R.TD_STATUS (u - 64)) F.TD_STATUS_STATE == 3

/-! ### MSI-X messages, pins and moderation units (R346–R348) -/

/-- The message of vector `v` goes out: the data of its entry of the MSI-X table, to the entry's address (R30); the host is no longer idle
(R347). -/
def Dev.msiOut (d : Dev) (v : Nat) : Dev :=
  let d := d.fsb R.EVR_HOST_IDLE F.EVR_HOST_IDLE_IDLE false
  let e := d.evr
  { d with evr := { e with msiSent := tabMod e.msiSent v (· + 1), msiLast := (List.range 3).map fun k => tabGet e.msix (4 * v + k) } }

/-- The message of vector `v` is sent, or held pending while the vector is masked; the host is no longer idle. -/
def Dev.sendMsi (d : Dev) (v : Nat) : Dev :=
  let d := d.fsb R.EVR_HOST_IDLE F.EVR_HOST_IDLE_IDLE false
  if d.evr.unmasked.contains v then d.msiOut v
  else if d.evr.msiPend.contains v then d
  else { d with evr := { d.evr with msiPend := d.evr.msiPend ++ [v] } }

/-- INT0n and INT1n at the release of the unit of vector `v` (R348). -/
def Dev.assertPins (d : Dev) (v : Nat) : Dev :=
  let k0 := d.bit (R.EVR_PIN_MASK 0) v
  let k1 := d.bit (R.EVR_PIN_MASK 1) v
  let d := if k0 || k1 then d.fsb R.EVR_HOST_IDLE F.EVR_HOST_IDLE_IDLE false else d
  { d with evr := { d.evr with int0Low := d.evr.int0Low || k0, int1Low := d.evr.int1Low || k1 } }

/-- A wedge with PIN at 1 holds INT0n low until the next reset (R529). -/
def Dev.wedgePin (d : Dev) : Bool := d.fb R.SYS_WEDGE F.SYS_WEDGE_WEDGED && d.fb R.SYS_WEDGE_CFG F.SYS_WEDGE_CFG_PIN

/-- INTkn returns high when every host-targeted source whose vector is in its mask is inactive (R348). -/
def Dev.releasePins (d : Dev) : Dev :=
  let host := d.liveSources.filter fun s => d.srcTarget s = 0 || ((2 ≤ d.srcState s) && (d.src s).claim = 0)
  let live (k : Nat) := host.any fun s => d.bit (R.EVR_PIN_MASK k) (d.srcVector s)
  { d with evr := { d.evr with int0Low := d.evr.int0Low && (live 0 || d.wedgePin), int1Low := d.evr.int1Low && live 1 } }

/-- The first of two sources in delivery order (R342). -/
def Dev.earlier (d : Dev) (s t : Nat) : Bool :=
  d.srcPrio s < d.srcPrio t || (d.srcPrio s = d.srcPrio t && s < t)

/-- The pending source that target `t` takes next (R342). -/
def Dev.nextFor (d : Dev) (t : Nat) : Option Nat :=
  (d.liveSources.filter fun s => d.srcState s = 1 && d.srcTarget s = t).foldl
    (fun best s => match best with
      | none => some s
      | some b => if d.earlier s b then some s else some b) none

/-- A moderation unit releases (R346): its count and timer are cleared, and it sends its message (while the host is
awake) and drives the pins, or asserts the request line of its core; a pin with no source behind it, and a line with none pending, does not
stay (R342, R348). -/
def Dev.unitRelease (d : Dev) (u : Nat) : Dev :=
  let d := { d with evr := { d.evr with units := tabSet d.evr.units u {} } }
  if u < 64 then
    let d := if d.asleep 0 then d else d.sendMsi u
    (d.assertPins u).releasePins
  else { d with evr := { d.evr with line := tabSet d.evr.line (u - 64) (d.nextFor (u - 63)).isSome } }

/-- A delivery is counted on a unit (R346, R347): the first one starts the hold-off timer; the unit releases when its
count reaches COALESCE, with HOLDOFF 0, or while its target is idle. -/
def Dev.unitDeliver (d : Dev) (u : Nat) : Dev :=
  let c := (tabGet d.evr.units u).count + 1
  let d' := { d with evr := { d.evr with units := tabSet d.evr.units u { count := c, timer := true } } }
  if d.fg (R.EVR_MOD u) F.EVR_MOD_COALESCE ≤ c || d.fg (R.EVR_MOD u) F.EVR_MOD_HOLDOFF = 0 || d.idleTarget u
  then d'.unitRelease u else d'

/-- The delivery that a source counts when it becomes pending (R346): on its core's unit, or, for the sleeping host
with WAKE at 1, on its vector's unit. -/
def Dev.countPending (d : Dev) (s : Nat) : Dev :=
  let t := d.srcTarget s
  if 1 ≤ t ∧ t ≤ 4 then d.unitDeliver (63 + t)
  else if t = 0 && d.asleep 0 && d.wakeOf 0 then d.unitDeliver (d.srcVector s)
  else d

/-- A record enters the fault log ring of 6,656 records (R491); while a flush runs the island discards it. -/
def Dev.logFault (d : Dev) (ws : List Nat) : Dev :=
  if d.store.frozen then d else
  let l := d.faultLog ++ [({ timeNs := d.ns, words := ws } : LogEntry)]
  { d with faultLog := l.drop (l.length - 6656) }

/-! ### Firing, claim, completion (R339–R345) -/

/-- A source that is EN fires (R339, R341). -/
def Dev.fire (d : Dev) (s : Nat) : Dev :=
  if !d.srcEn s then d else
  match d.srcState s with
  | 0 => ((d.setSrcState s 1).modSrc s fun x => { x with pendNs := d.ns, rep := false, rehomed := false, dest := none }).countPending s
  | 2 =>
    if d.fb (R.EVR_SRC_CFG s) F.EVR_SRC_CFG_COMPAT then d
    else (d.setSrcState s 3).modSrc s fun x => { x with pendNs := d.ns, dest := none }
  | _ => d

/-- Target `t` claims pending source `s`. -/
def Dev.claim (d : Dev) (s t : Nat) : Dev := (d.setSrcState s 2).modSrc s fun x => { x with claim := t }

/-- SPURIOUS counts and records the source when its level is low and the device itself made it fall after the pending
instant (R345). -/
def Dev.spurious (d : Dev) (s : Nat) : Dev :=
  if isLevelSource s && !d.levelHigh s && (match (d.src s).fellNs with | some f => (d.src s).pendNs ≤ f | none => false) then
    (d.satInc R.EVR_COUNTS F.EVR_COUNTS_SPURIOUS).fs R.EVR_LAST F.EVR_LAST_SPUR_SRC s
  else d

/-- The completion of source `s` that is active on its claiming target (R339, R341, R352). -/
def Dev.completeActive (d : Dev) (s : Nat) : Dev :=
  let d1 := d.spurious s
  let d2 :=
    if d.srcState s = 3 then
      if d.srcEn s then
        (((d1.setSrcState s 1).modSrc s fun x => { x with rep := true, rehomed := false, dest := none }).countPending s)
      else d1.setSrcState s 0
    else if isLevelSource s && d.fb (R.EVR_SRC_CFG s) F.EVR_SRC_CFG_COMPAT && d.levelHigh s && d.srcEn s then
      (((d1.setSrcState s 1).modSrc s fun x => { x with pendNs := d.ns, rep := false, rehomed := false, dest := none }).countPending s)
    else d1.setSrcState s 0
  d2.releasePins

/-- Target `t` completes source `s`; a source not active on it is ignored and counted (R342). -/
def Dev.complete (d : Dev) (s t : Nat) : Dev :=
  if s < 640 && 2 ≤ d.srcState s && (d.src s).claim = t then d.completeActive s
  else d.satInc R.EVR_COUNTS F.EVR_COUNTS_BAD_COMPLETE

/-- The device completes every source that is active on target `t` and counts each in FORCED (R344). -/
def Dev.forceComplete (d : Dev) (t : Nat) : Dev :=
  d.each (d.liveSources.filter fun s => 2 ≤ d.srcState s && (d.src s).claim = t)
    fun d s => (d.completeActive s).satInc R.EVR_COUNTS F.EVR_COUNTS_FORCED

/-- The request line of TDc falls when no source is pending for the core (R342). -/
def Dev.lineUpdate (d : Dev) (c : Nat) : Dev :=
  if (d.nextFor (c + 1)).isNone then { d with evr := { d.evr with line := tabSet d.evr.line c false } } else d

/-- The level of source `s`, high on `old`, has fallen (R337, R345): by the device itself, or by a clearing action, a host write or a command
that clears the bits. -/
def Dev.levelFell (d old : Dev) (own : Bool) (s : Nat) : Dev :=
  if old.levelHigh s && !d.levelHigh s then d.modSrc s fun x => { x with fellNs := if own then some d.ns else none } else d

/-- The word that a load from EVR_CLAIM returns for source `s` (R342). -/
def Dev.claimWord (d : Dev) (s : Nat) : Word :=
  toW ((if (d.src s).rehomed then 2 ^ 30 else 0) + (if (d.src s).rep then 2 ^ 29 else 0) + d.srcPrio s * 2 ^ 24 + s)

end Sys2Proof.Machine
end

