-- ==== Sys2Proof/Machine/TraceOps.lean ====
section
/-!
DEFINITION. BULKWIN bytes and words (R32), and the words and registers that fill a snapshot bank (R333).
-/

namespace Sys2Proof.Machine

open Sys2Proof

/-! ### BULKWIN (R32, R33) -/

/-- The byte at a BULKWIN offset. -/
def Dev.bulkByte (d : Dev) (off : Nat) : Byte := tabGet d.bulk off

/-- `d` with the byte `b` at a BULKWIN offset. -/
def Dev.setBulkByte (d : Dev) (off : Nat) (b : Byte) : Dev := { d with bulk := tabSet d.bulk off b }

/-- The little-endian word at a BULKWIN offset (R3). -/
def Dev.bulkWord (d : Dev) (off : Nat) : Word :=
  toW ((d.bulkByte off).toNat + (d.bulkByte (off + 1)).toNat * 2 ^ 8 + (d.bulkByte (off + 2)).toNat * 2 ^ 16
    + (d.bulkByte (off + 3)).toNat * 2 ^ 24)

/-- `d` with the word `w` at a BULKWIN offset. -/
def Dev.setBulkWord (d : Dev) (off : Nat) (w : Word) : Dev :=
  (((d.setBulkByte off (w.extractLsb' 0 8)).setBulkByte (off + 1) (w.extractLsb' 8 8)).setBulkByte (off + 2)
    (w.extractLsb' 16 8)).setBulkByte (off + 3) (w.extractLsb' 24 8)

/-- `d` with consecutive words from a BULKWIN offset. -/
def Dev.setBulkWords (d : Dev) (off : Nat) (l : List Word) : Dev :=
  match l with
  | [] => d
  | w :: r => (d.setBulkWord off w).setBulkWords (off + 4) r

/-- `d` with consecutive bytes from a BULKWIN offset. -/
def Dev.setBulkBytes (d : Dev) (off : Nat) (l : List Byte) : Dev :=
  match l with
  | [] => d
  | b :: r => (d.setBulkByte off b).setBulkBytes (off + 1) r

/-- `n` consecutive bytes from a BULKWIN offset. -/
def Dev.bulkBytes (d : Dev) (off n : Nat) : List Byte := (List.range n).map fun i => d.bulkByte (off + i)

/-- The first byte of Logbook staging and of the image staging of a core (R32). -/
def stagingBase : Nat := 0x1000000
def imageBase (c : Nat) : Nat := 0x2000000 + 0x80000 * c

/-! ### Snapshot banks (R333) -/

/-- The words of a bank that are no register, at their offsets: the pending sources, p_cmd and p_act. -/
def Dev.snapExtra (d : Dev) : List (Nat × Word) :=
  ((List.range 20).map fun w =>
    (0x80 + 4 * w, toW (((List.range 32).filter fun i => d.srcState (32 * w + i) % 2 = 1).foldl (fun n i => n + 2 ^ i) 0)))
  ++ (List.range 64).flatMap fun a =>
    let x := tabGet d.axes a
    let act := d.rdS (R.ENC_POS (d.fg (R.AXIS_BIND a) F.AXIS_BIND_ENC)) + x.shift
    let b := 0x100 + 0x40 * a + 0x10
    [(b, toWI x.pCmd), (b + 4, toWI (x.pCmd / 2 ^ 32)), (b + 8, toWI act), (b + 12, toWI (act / 2 ^ 32))]

/-- The registers that fill a bank, by their offsets in it (R333, R385, R403, R427, R454, R475, R498, R537). -/
def snapMap : List (Nat × Nat) :=
  let two (o r : Nat) : List (Nat × Nat) := [(o, r), (o + 4, r + 4)]
  let seq (o : Nat) (rs : List Nat) : List (Nat × Nat) := rs.mapIdx fun i r => (o + 4 * i, r)
  ((List.range 4).flatMap fun n => two (0x40 + 0x10 * n) (R.SYS_TICK_COUNT n)
      ++ [(0x48 + 0x10 * n, R.CE_LANE_STATUS n), (0x4C + 0x10 * n, R.CE_LANE_LOAD n)])
  ++ seq 0xE0 ((List.range 4).flatMap fun q => [R.CMDQ_ACCEPTED q, R.CMDQ_COMPLETED q])
  ++ ((List.range 64).flatMap fun a =>
      let b := 0x100 + 0x40 * a
      seq b [R.AXIS_STATUS a, R.AXIS_FAULT a, R.CE_AX_STATUS a, R.CE_AX_DELAY a]
      ++ seq (b + 0x20) ([0, 2, 3, 4, 6, 7, 9, 13].map (R.CE_AX_SIG a)))
  ++ seq 0x1100 ((List.range 192).map R.PWM_LEG_ACT)
  ++ seq 0x1400 ((List.range 68).map R.PWM_TRIP_STATUS)
  ++ seq 0x1510 ((List.range 4).map R.PWM_BANK_POS ++ (List.range 4).map R.PWM_BANK_STATUS)
  ++ seq 0x1600 ((List.range 64).map R.ENC_STATUS)
  ++ seq 0x1700 ((List.range 16).flatMap fun g => [R.INTERP_GRP_STATUS g, R.INTERP_GRP_FILL g])
  ++ ((List.range 4).flatMap fun c => seq (0x1780 + 0x10 * c) [R.TD_STATUS c, R.TD_FAULT c, R.TD_FAULT_PC c])
  ++ seq 0x17C0 [R.SYS_CLOCK_STATUS, R.CFE_CLK_STATUS, R.CE_HSG_STATUS]
  ++ seq 0x1800 ([R.FIELD_LINK_STATUS 0, R.FIELD_LINK_STATUS 1] ++ (List.range 6).map R.FIELD_GROUP_STATUS
      ++ [R.FIELD_IN, R.FIELD_IN + 4, R.FIELD_IN_WB, R.FIELD_IN_WB + 4, R.FIELD_OUT_CMD, R.FIELD_OUT_CMD + 4,
          R.FIELD_OUT_ACT, R.FIELD_OUT_ACT + 4] ++ (List.range 48).map R.FIELD_OUT_DIAG)
  ++ seq 0x1900 [R.SAFETY_STATUS, R.SAFETY_SET_CRC, R.SAFETY_IN, R.SAFETY_PAIR, R.SAFETY_OUT, R.SAFETY_FAULT,
      R.SAFETY_CYCLE, R.SAFETY_EVENT_TIME, R.SAFETY_EVENT_TIME + 4]
  ++ seq 0x1A00 [R.TRV_STATUS, R.TRV_CYCLE_COUNT, R.TRV_SYNC, R.TRV_SYNC + 4, R.TRV_ERR, R.TRV_COUNTS, R.TRV_COUNTS + 4,
      R.TRV_RX_FLAGS, R.TRV_RX_FLAGS + 4]
  ++ ((List.range 2).flatMap fun c => seq (0x1B00 + 0x80 * c) [R.CAN_STATUS c, R.CAN_ERR c, R.CAN_COUNTS c,
      R.CAN_COUNTS c + 4, R.CAN_TX_PEND c, R.CAN_TX_PEND c + 4, R.CAN_TX_DONE c, R.CAN_TX_DONE c + 4, R.CAN_RX_PTR c,
      R.CAN_TSC c, R.CAN_CORR_TS c 0, R.CAN_CORR_TS c 0 + 4, R.CAN_CORR_TIME c 0, R.CAN_CORR_TIME c 0 + 4])
  ++ seq 0x1C00 [R.PAIR_STATUS, R.PAIR_EVENT, R.PAIR_COUNTS, R.PAIR_COUNTS + 4, R.PAIR_TAKEOVER_TIME,
      R.PAIR_TAKEOVER_TIME + 4, R.PAIR_TAKEOVER, R.PAIR_TIME]
  ++ seq 0x1D00 [R.STORE_STATUS, R.STORE_ERR, R.STORE_BUDGET, R.STORE_BUDGET + 4, R.POWER_STATUS, R.POWER_EVENT,
      R.POWER_VOLT]
  ++ seq 0x1D40 ([R.THERMAL_STATUS, R.THERMAL_EVENT] ++ (List.range 6).map R.TELEM_TEMP
      ++ [R.TELEM_EVENT, R.BG_STATUS, R.BG_ECC, R.BG_ECC + 4, R.SYS_WEDGE, R.SQ_STATUS])
  ++ seq 0x1E00 [R.TRACE_STATUS, R.TRACE_PTR, R.TRACE_PTR + 4, R.TRACE_TRIG, R.TRACE_TRIG + 4]

/-- The words of RXAGE of slots 0 to 63, one byte each (R385), from the latched registers. -/
def snapAges (rd : Nat → Word) : List (Nat × Word) :=
  (List.range 16).map fun k => (0x1A24 + 4 * k,
    toW ((List.range 4).foldl (fun n i => n + fldGet (rd (R.TRV_RXHDR (4 * k + i))) F.TRV_RXHDR_RXAGE * 2 ^ (8 * i)) 0))

/-- Every word of the bank that the running snapshot has latched. -/
def Dev.snapWords (d : Dev) : List (Nat × Word) :=
  let rd (o : Nat) : Word := tabGetD resetWord d.snap.latch o
  snapMap.map (fun x => (x.1, rd x.2)) ++ d.snap.extra ++ snapAges rd

/-! ### The samples of the Barograph that have not closed (R316–R318) -/

def Dev.nch (d : Dev) : Nat := d.fg R.TRACE_CFG F.TRACE_CFG_NCH + 1
def Dev.chKind (d : Dev) (j : Nat) : Nat := d.fg (R.TRACE_CH j) F.TRACE_CH_KIND
def Dev.chIndex (d : Dev) (j : Nat) : Nat := d.fg (R.TRACE_CH j) F.TRACE_CH_INDEX

/-- The value that a channel of KIND 0 holds now. -/
def Dev.sigWord (d : Dev) (j : Nat) : Word := d.rd (R.CE_AX_SIG (d.chIndex j) (d.fg (R.TRACE_CH j) F.TRACE_CH_SIG))

/-- The samples that have not closed, each changed. -/
def Dev.mapDue (d : Dev) (f : SampleDue → SampleDue) : Dev := { d with trace := { d.trace with due := d.trace.due.map f } }

/-- The channels of KIND 0 of an axis of the clock lane take their values for tick `t`: those of the evaluation that has ended, or the held
ones where it has been skipped (R318). -/
def Dev.sampleSigs (d : Dev) (a t : Nat) : Dev :=
  if d.trace.due.isEmpty || d.fg R.TRACE_CLK F.TRACE_CLK_SRC ≠ a / 16 then d else
  let l := ((List.range d.nch).filter fun j => d.chKind j = 0 && d.chIndex j = a).map fun j => (j, d.sigWord j)
  d.mapDue fun e => if e.tick = some t then { e with sigs := e.sigs ++ l } else e

/-- The compare values of an evaluation for tick `t` are on their way: each leg with the number of values in front of it and its own
(R317). -/
def Dev.sampleIssue (d : Dev) (legs : List Nat) (lane t : Nat) : Dev :=
  if d.fg R.TRACE_CLK F.TRACE_CLK_SRC ≠ lane then d else
  let l := legs.map fun l => (l, (tabGet d.pwm.legs l).issued.length)
  d.mapDue fun e => if e.tick = some t then { e with legs := e.legs ++ l } else e

/-- A compare value has arrived at a leg. -/
def Dev.sampleArrive (d : Dev) (l : Nat) : Dev :=
  d.mapDue fun e => { e with legs := e.legs.map fun x => if x.1 = l then (l, x.2 - 1) else x }

end Sys2Proof.Machine
end

