-- ==== Sys2Proof/Machine/Crypto.lean ====
section
/-!
DEFINITION. SHA-256 and ECDSA over P-256 as the published standards state them (FIPS 180 and FIPS 186, R502–R504), and signature
blocks.  Byte strings are lists of bytes; numbers in them are big-endian.
-/

namespace Sys2Proof.Machine

open Sys2Proof

/-! ### SHA-256 -/

/-- The round constants of SHA-256. -/
def shaK : List Word :=
  [0x428A2F98#32, 0x71374491#32, 0xB5C0FBCF#32, 0xE9B5DBA5#32, 0x3956C25B#32, 0x59F111F1#32, 0x923F82A4#32, 0xAB1C5ED5#32,
   0xD807AA98#32, 0x12835B01#32, 0x243185BE#32, 0x550C7DC3#32, 0x72BE5D74#32, 0x80DEB1FE#32, 0x9BDC06A7#32, 0xC19BF174#32,
   0xE49B69C1#32, 0xEFBE4786#32, 0x0FC19DC6#32, 0x240CA1CC#32, 0x2DE92C6F#32, 0x4A7484AA#32, 0x5CB0A9DC#32, 0x76F988DA#32]
  ++
  [0x983E5152#32, 0xA831C66D#32, 0xB00327C8#32, 0xBF597FC7#32, 0xC6E00BF3#32, 0xD5A79147#32, 0x06CA6351#32, 0x14292967#32,
   0x27B70A85#32, 0x2E1B2138#32, 0x4D2C6DFC#32, 0x53380D13#32, 0x650A7354#32, 0x766A0ABB#32, 0x81C2C92E#32, 0x92722C85#32,
   0xA2BFE8A1#32, 0xA81A664B#32, 0xC24B8B70#32, 0xC76C51A3#32, 0xD192E819#32, 0xD6990624#32, 0xF40E3585#32, 0x106AA070#32]
  ++
  [0x19A4C116#32, 0x1E376C08#32, 0x2748774C#32, 0x34B0BCB5#32, 0x391C0CB3#32, 0x4ED8AA4A#32, 0x5B9CCA4F#32, 0x682E6FF3#32,
   0x748F82EE#32, 0x78A5636F#32, 0x84C87814#32, 0x8CC70208#32, 0x90BEFFFA#32, 0xA4506CEB#32, 0xBEF9A3F7#32, 0xC67178F2#32]

/-- The initial hash value. -/
def shaInit : List Word :=
  [0x6A09E667#32, 0xBB67AE85#32, 0x3C6EF372#32, 0xA54FF53A#32, 0x510E527F#32, 0x9B05688C#32, 0x1F83D9AB#32, 0x5BE0CD19#32]

/-- Words of four big-endian bytes. -/
def beWords (l : List Byte) : List Word :=
  match l with
  | a :: b :: c :: d :: r => (a ++ b ++ c ++ d : BitVec 32) :: beWords r
  | _ => []

/-- The message schedule: `n` words are appended to the window of the last 16. -/
def shaSchedule (n : Nat) (w : List Word) : List Word :=
  match n with
  | 0 => w
  | n + 1 =>
    let t := w.length
    let x := w.getD (t - 15) 0
    let y := w.getD (t - 2) 0
    let s0 := x.rotateRight 7 ^^^ x.rotateRight 18 ^^^ (x >>> 3)
    let s1 := y.rotateRight 17 ^^^ y.rotateRight 19 ^^^ (y >>> 10)
    shaSchedule n (w ++ [w.getD (t - 16) 0 + s0 + w.getD (t - 7) 0 + s1])

/-- One round with the sum of its constant and message word. -/
def shaRound (h : List Word) (kw : Word) : List Word :=
  match h with
  | [a, b, c, d, e, f, g, i] =>
    let s1 := e.rotateRight 6 ^^^ e.rotateRight 11 ^^^ e.rotateRight 25
    let ch := (e &&& f) ^^^ (~~~e &&& g)
    let t1 := i + s1 + ch + kw
    let s0 := a.rotateRight 2 ^^^ a.rotateRight 13 ^^^ a.rotateRight 22
    let mj := (a &&& b) ^^^ (a &&& c) ^^^ (b &&& c)
    [t1 + (s0 + mj), a, b, c, d + t1, e, f, g]
  | _ => h

/-- One block of 16 words. -/
def shaBlock (h : List Word) (m : List Word) : List Word :=
  let w := shaSchedule 48 m
  let r := (shaK.zipWith (· + ·) w).foldl shaRound h
  h.zipWith (· + ·) r

/-- `n` blocks of 16 words. -/
def shaBlocks (n : Nat) (h : List Word) (w : List Word) : List Word :=
  match n with
  | 0 => h
  | n + 1 => shaBlocks n (shaBlock h (w.take 16)) (w.drop 16)

/-- `n` big-endian bytes of a number. -/
def beBytes (n v : Nat) : List Byte := (List.range n).map fun i => BitVec.ofNat 8 (v / 2 ^ (8 * (n - 1 - i)))

/-- The number of big-endian bytes. -/
def beNat (l : List Byte) : Nat := l.foldl (fun n b => n * 256 + b.toNat) 0

/-- The SHA-256 digest of a byte string. -/
def sha256 (l : List Byte) : List Byte :=
  let n := l.length
  let pad := l ++ [0x80] ++ List.replicate ((119 - n % 64) % 64) 0 ++ beBytes 8 (8 * n)
  (shaBlocks (pad.length / 64) shaInit (beWords pad)).flatMap fun w => beBytes 4 w.toNat

/-! ### P-256 -/

def p256P : Nat := 0xFFFFFFFF00000001000000000000000000000000FFFFFFFFFFFFFFFFFFFFFFFF
def p256N : Nat := 0xFFFFFFFF00000000FFFFFFFFFFFFFFFFBCE6FAADA7179E84F3B9CAC2FC632551
def p256B : Nat := 0x5AC635D8AA3A93E7B3EBBD55769886BC651D06B0CC53B0F63BCE3C3E27D2604B
def p256G : Nat × Nat :=
  (0x6B17D1F2E12C4247F8BCE6E563A440F277037D812DEB33A0F4A13945D898C296,
   0x4FE342E2FE1A7F9B8EE7EB4A7C0F9E162BCE33576B315ECECBB6406837BF51F5)

/-- `b` to the power `e` modulo `m`, over `k` bits of `e` from bit k − 1 down. -/
def powMod (m b e k : Nat) : Nat :=
  match k with
  | 0 => 1 % m
  | k + 1 =>
    let h := powMod m b (e / 2) k
    let s := h * h % m
    if e % 2 = 1 then s * b % m else s

/-- The inverse modulo a prime. -/
def invMod (m a : Nat) : Nat := powMod m (a % m) (m - 2) 256

/-- The sum of two points of the curve y² = x³ − 3x + b; none is the point at infinity. -/
def ecAdd (a b : Option (Nat × Nat)) : Option (Nat × Nat) :=
  match a, b with
  | none, q => q
  | q, none => q
  | some (x1, y1), some (x2, y2) =>
    let p := p256P
    let done (l : Nat) : Option (Nat × Nat) :=
      let x3 := (l * l + (p - x1) + (p - x2)) % p
      some (x3, (l * ((x1 + (p - x3)) % p) + (p - y1)) % p)
    if x1 = x2 then
      if (y1 + y2) % p = 0 then none
      else done ((3 * x1 * x1 + (p - 3)) % p * invMod p (2 * y1) % p)
    else done ((y2 + (p - y1)) % p * invMod p (x2 + (p - x1)) % p)

/-- `e` times a point, over `k` bits of `e`. -/
def ecMul (e k : Nat) (q : Option (Nat × Nat)) : Option (Nat × Nat) :=
  match k with
  | 0 => none
  | k + 1 =>
    let h := ecMul (e / 2) k q
    let s := ecAdd h h
    if e % 2 = 1 then ecAdd s q else s

/-- The public key is a point of the curve. -/
def onCurve (x y : Nat) : Bool :=
  x < p256P && y < p256P && y * y % p256P = (x * x * x + (p256P - 3) * x + p256B) % p256P

/-- ECDSA verification of a digest (FIPS 186; R504): r and s lie in [1, n − 1], the key is a point of the curve, and the x-coordinate of
u₁G + u₂Q is r modulo n. -/
def ecdsaOk (digest qx qy r s : List Byte) : Bool :=
  let r := beNat r
  let s := beNat s
  let x := beNat qx
  let y := beNat qy
  let n := p256N
  1 ≤ r && r < n && 1 ≤ s && s < n && onCurve x y &&
  let w := invMod n s
  let u1 := beNat digest % n * w % n
  let u2 := r * w % n
  match ecAdd (ecMul u1 256 (some p256G)) (ecMul u2 256 (some (x, y))) with
  | none => false
  | some (vx, _) => vx % n == r

/-! ### Signature blocks (R502, R503) -/

/-- The little-endian words of a byte string. -/
def leWords (l : List Byte) : List Word :=
  match l with
  | a :: b :: c :: d :: r => (d ++ c ++ b ++ a : BitVec 32) :: leWords r
  | _ => []

/-- The bytes `off` to `off + n − 1` of a string. -/
def slice (l : List Byte) (off n : Nat) : List Byte := (l.drop off).take n

/-- A key matches a slot hash (R502). -/
def keyMatches (qx qy hash : List Byte) : Bool := hash.length = 32 && sha256 (qx ++ qy) = hash

/-- The magic of a signature block stands in the last 144 bytes of an object. -/
def sigPresent (l : List Byte) : Bool :=
  144 < l.length && (leWords (slice l (l.length - 144) 4)).getD 0 0 = 0x4B474953#32

/-- The key slot code and the security version of a signature block whose fixed fields are as R503 states. -/
def sigHead (b : List Byte) : Option (Nat × Nat) :=
  let w := leWords (b.take 16)
  let k := (w.getD 1 0).toNat
  let v := (w.getD 2 0).toNat
  if w.getD 0 0 = 0x4B474953#32 && k < 3 && v < 64 && w.getD 3 0 = 0 then some (k, v) else none

end Sys2Proof.Machine
end

