-- ==== Sys2Proof/Machine/SecOps.lean ====
section
/-!
DEFINITION. Verification of signatures against the key hashes of OTP (19), which firmware images, Transit DSP images, safety sets and
signed commands share, and the signature policy.
-/

namespace Sys2Proof.Machine

open Sys2Proof

def Dev.modSec (d : Dev) (f : SecSt → SecSt) : Dev := { d with sec := f d.sec }

/-! ### Signatures (R502–R506) -/

/-- The hash of the key slot with a code; none where the slot is not written, revoked, or ignored (R499, R502). -/
def Dev.slotHash (d : Dev) (code : Nat) : Option (List Byte) :=
  let o := d.sec.otp
  match code with
  | 0 => some (beBytes 32 Config.vendorHash.toNat)
  | 1 => if o.rev0 || o.hash0.isEmpty || d.fg R.SEC_LC F.SEC_LC_STATE = 3 then none else some o.hash0
  | 2 => if o.rev1 || o.hash1.isEmpty || d.fg R.SEC_LC F.SEC_LC_STATE = 3 then none else some o.hash1
  | _ => none

/-- A signature by the key of a slot verifies on a digest (R504). -/
def Dev.verify (d : Dev) (code : Nat) (digest qx qy r s : List Byte) : Bool :=
  match d.slotHash code with
  | none => false
  | some h => keyMatches qx qy h && ecdsaOk digest qx qy r s

/-- The signature block at the end of an object verifies (R503, R504), the slot being the vendor's for firmware images and an owner's
otherwise; the answer has the security version. -/
def Dev.blockOk (d : Dev) (l : List Byte) (firmware : Bool) : Option Nat :=
  let n := l.length - 144
  let b := l.drop n
  match sigHead b with
  | none => none
  | some (code, ver) =>
    let digest := sha256 (l.take n ++ b.take 16)
    if (firmware == (code == 0)) && (firmware || ver == 0) && d.verify code digest (slice b 16 32) (slice b 48 32) (slice b 80 32) (slice b 112 32)
    then some ver else none

/-- Why a firmware image is refused (R504, R506): without a block 0x0502, with one that does not verify or too low a version 0x0501.  The
image is the object with its block (assumption log 27). -/
def Dev.imageFail (d : Dev) (l : List Byte) : Option (Nat × Nat) :=
  if !sigPresent l then some (0x0502, 0)
  else match d.blockOk l true with
    | none => some (0x0501, 0)
    | some v => if v < d.sec.otp.svn then some (0x0501, 0) else none

/-- A verification has failed: SIG_FAIL is set and source 611 raised. -/
def Dev.sigFail (d : Dev) : Dev := d.setFlag R.SEC_COUNTS F.SEC_COUNTS_SIG_FAIL.lo 611

/-- A failed image is recorded: a signature that does not verify sets SIG_FAIL. -/
def Dev.imageRefuse (d : Dev) (l : List Byte) : Dev :=
  if sigPresent l && (d.blockOk l true).isNone then d.sigFail else d

/-- The device is SECURED (R499). -/
def Dev.secured (d : Dev) : Bool := d.fg R.SEC_LC F.SEC_LC_STATE = 2

/-- The signature policy on an object outside the firmware (R505): `signed` says that it carries a block, `must` that the policy bit is 1. -/
def Dev.policyFail (d : Dev) (l : List Byte) (signed must : Bool) : Option (Nat × Nat) :=
  if !d.secured then none
  else if !signed then (if must then some (0x0502, 0) else none)
  else if (d.blockOk l false).isNone then some (0x0501, 0) else none

/-- The debug level (R507). -/
def Dev.debugLevel (d : Dev) : Nat := d.fg R.DEBUG_STATUS F.DEBUG_STATUS_LEVEL

/-- A command on configuration sets is refused without the CONFIG permission (R505). -/
def Dev.configDenied (d : Dev) : Bool :=
  d.secured && d.fb R.SEC_LC F.SEC_LC_CFG && !d.fb R.DEBUG_STATUS F.DEBUG_STATUS_CONFIG

end Sys2Proof.Machine
end

