-- ==== Sys2Proof/Machine/SquallOps.lean ====
section
/-!
DEFINITION. The Squall injector's operations (20): arming, and which rule acts on a unit of traffic.
-/

namespace Sys2Proof.Machine

open Sys2Proof

/-- SQ_STATUS.LEVEL_OK and PAUSED follow the debug level and the power state (R531); below FULL every rule disarms. -/
def Dev.squallRegs (d : Dev) : Dev :=
  let full := d.debugLevel = 3
  let d := d.fsb R.SQ_STATUS F.SQ_STATUS_LEVEL_OK full
  let d := if full then d else d.fs R.SQ_STATUS F.SQ_STATUS_ARMED 0
  d.fsb R.SQ_STATUS F.SQ_STATUS_PAUSED (d.fg R.PWR_STATUS F.PWR_STATUS_STATE = 2 && d.fg R.SQ_STATUS F.SQ_STATUS_ARMED ≠ 0)

/-- Rule `r` is armed and may inject (R531, R532). -/
def Dev.squallLive (d : Dev) (r : Nat) : Bool :=
  d.bit R.SQ_STATUS (F.SQ_STATUS_ARMED.lo + r) && !d.bit R.SQ_STATUS (F.SQ_STATUS_DONE.lo + r)
  && d.debugLevel = 3 && d.fg R.PWR_STATUS F.PWR_STATUS_STATE ≤ 1

/-- Rule `r` matches a unit of traffic (R532): its target, direction and unit, and for CAN its identifier. -/
def Dev.squallMatches (d : Dev) (target dir : Nat) (units : List Nat) (id : Nat) (r : Nat) : Bool :=
  let c := R.SQ_RULE_CFG r
  d.squallLive r && d.fg c F.SQ_RULE_CFG_TARGET = target && d.fg c F.SQ_RULE_CFG_DIR = dir
  && units.contains (d.fg c F.SQ_RULE_CFG_UNIT)
  && (target ≠ 2 || d.fb (R.SQ_RULE_SEL r) F.SQ_RULE_SEL_ANY || d.fg (R.SQ_RULE_SEL r) F.SQ_RULE_SEL_ID = id)

/-- One draw of the generator of R532; the spec gives no recurrence, so its course is a free function of the seed and of the number of
draws. -/
def squallDraw (gen n : Nat) : Nat := Config.squallGen gen n % 65536

/-- The trigger of a matching rule decides (R532); the answer has the rule's match counted. -/
def Dev.squallTrig (d : Dev) (r : Nat) : Dev × Bool :=
  let t := R.SQ_RULE_TRIG r
  let n := tabGet d.bg.matches_ r + 1
  let v := d.fg t F.SQ_RULE_TRIG_VALUE
  let d := { d with bg := { d.bg with matches_ := tabSet d.bg.matches_ r n } }
  match d.fg t F.SQ_RULE_TRIG_KIND with
  | 0 => (d, true)
  | 1 => (d, v ≠ 0 && n % v = 0)
  | _ => ({ d with bg := { d.bg with draws := d.bg.draws + 1 } }, squallDraw d.bg.gen d.bg.draws < v)

/-- An injection of rule `r` counts and raises source 600; at LIMIT the rule is DONE (R532). -/
def Dev.squallCount (d : Dev) (r : Nat) : Dev :=
  let d := (d.satInc (R.SQ_RULE_COUNT r) F.SQ_RULE_COUNT_COUNT).setFlag R.SQ_STATUS F.SQ_STATUS_INJECTED.lo 600
  let lim := d.fg (R.SQ_RULE_TRIG r) F.SQ_RULE_TRIG_LIMIT
  if lim ≠ 0 && lim ≤ d.fg (R.SQ_RULE_COUNT r) F.SQ_RULE_COUNT_COUNT then d.setBit R.SQ_STATUS (F.SQ_STATUS_DONE.lo + r) true else d

/-- What the injector does to one unit of traffic (R532): the lowest rule that matches acts alone; the answer has its number and MODE when it
injects. -/
def Dev.squall (d : Dev) (target dir : Nat) (units : List Nat) (id : Nat) : Dev × Option (Nat × Nat) :=
  match (List.range 8).find? (d.squallMatches target dir units id) with
  | none => (d, none)
  | some r =>
    let (d, hit) := d.squallTrig r
    if hit then (d.squallCount r, some (r, d.fg (R.SQ_RULE_CFG r) F.SQ_RULE_CFG_MODE)) else (d, none)

/-- BIT of rule `r`. -/
def Dev.squallBit (d : Dev) (r : Nat) : Nat := d.fg (R.SQ_RULE_CFG r) F.SQ_RULE_CFG_BIT

end Sys2Proof.Machine
end

