-- ==== Sys2Proof/Machine/CmdOps.lean ====
section
/-!
DEFINITION. The command executive's operations (02): the packet's words and CRC, the checks of arrival, the replay
cache, replies, events and the journal, the start rules of the queues, the shared course of every opcode, the frames
of the Tie link, and the snapshot strobe, which several units issue.
-/

namespace Sys2Proof.Machine

open Sys2Proof

/-! ### CRC-32C and packet words (R42, R43, R45) -/

/-- One bit of the reflected CRC-32C (R43). -/
def crcBit (c : BitVec 32) : BitVec 32 :=
  if c.getLsbD 0 then (c >>> 1) ^^^ 0x82F63B78#32 else c >>> 1

/-- One byte of the CRC. -/
def crcByte (c : BitVec 32) (b : Byte) : BitVec 32 :=
  let x := c ^^^ b.setWidth 32
  crcBit (crcBit (crcBit (crcBit (crcBit (crcBit (crcBit (crcBit x)))))))

/-- The four bytes of a word, lowest first (R3). -/
def wordBytes (w : Word) : List Byte :=
  [w.extractLsb' 0 8, w.extractLsb' 8 8, w.extractLsb' 16 8, w.extractLsb' 24 8]

/-- The CRC-32C of a list of bytes (R43). -/
def crc32c (l : List Byte) : Word := (l.foldl crcByte 0xFFFFFFFF#32) ^^^ 0xFFFFFFFF#32

/-- The CRC-32C over the bytes of words (R43). -/
def crcWords (l : List Word) : Word := crc32c (l.flatMap wordBytes)

/-- The fields of a packet's words (R42); the last word is the CRC. -/
def parsePacket (x : Xport) (q : Nat) (ws : List Word) : Packet :=
  let w0 := ws.getD 0 0
  let w2 := ws.getD 2 0
  { xport := x, q := q
    opcode := w0.extractLsb' 16 16
    resv := wbit w0 3, barrier := wbit w0 2, chain := wbit w0 1, ack := wbit w0 0
    csn := ws.getD 1 0
    epoch := w2.extractLsb' 16 16, tclass := w2.extractLsb' 8 8, tindex := w2.extractLsb' 0 8
    params := (ws.drop 3).dropLast
    crc := ws.getLastD 0 }

/-- Word `k` of a packet, for k ≥ 3 a parameter word (0 where the packet has none). -/
def pw (p : Packet) (k : Nat) : Word := p.params.getD (k - 3) 0

/-- The number in bits `hi`–`lo` of word `k`. -/
def pb (p : Packet) (k hi lo : Nat) : Nat := wbits (pw p k) hi lo

/-- The signed 64-bit parameter whose lower word is word `k`. -/
def pS (p : Packet) (k : Nat) : Int := pairS (pw p k) (pw p (k + 1))

/-- The opcode as a number. -/
def opNum (p : Packet) : Nat := p.opcode.toNat

/-- The target index as a number. -/
def tix (p : Packet) : Nat := p.tindex.toNat

/-- The words of a reply, event or journal copy, with its CRC (R45). -/
def replyWords (r : Reply) : List Word :=
  let ws := [toW (r.op.toNat * 2 ^ 16 + (r.payload.length + 5) * 16 + r.kind), r.csn, r.esn,
             toW (r.status * 2 ^ 16 + r.detail)] ++ r.payload
  ws ++ [crcWords ws]

/-! ### Opcodes (R44, R49, R77) -/

/-- ATTACH, RESYNC and GET_STATUS are unsequenced (R50). -/
def isUnseq (op : Nat) : Bool := op == 1 || op == 2 || op == 4

/-- The opcodes of R77. -/
def knownOp (op : Nat) : Bool :=
  (1 ≤ op && op ≤ 8) || (0x100 ≤ op && op ≤ 0x106) || (0x200 ≤ op && op ≤ 0x205) || (0x300 ≤ op && op ≤ 0x305)
  || (0x400 ≤ op && op ≤ 0x403) || (0x500 ≤ op && op ≤ 0x502) || (0x600 ≤ op && op ≤ 0x603)
  || (0x700 ≤ op && op ≤ 0x702) || (0x800 ≤ op && op ≤ 0x801) || (0x900 ≤ op && op ≤ 0x903)
  || (0xA00 ≤ op && op ≤ 0xA03) || (0xB00 ≤ op && op ≤ 0xB01) || (0xC00 ≤ op && op ≤ 0xC03)
  || (0xD00 ≤ op && op ≤ 0xD01) || (0xE00 ≤ op && op ≤ 0xE02)

/-- The opcodes that each queue admits (R49, R50). -/
def admits (q op : Nat) : Bool :=
  let fam := op / 256
  isUnseq op ||
  match q with
  | 0 => [0x0003, 0x0006, 0x0201, 0x0202, 0x0302, 0x0303, 0x0304, 0x0401, 0x0602].contains op
  | 1 => [2, 3, 8].contains fam || (fam == 4 && op != 0x402) || (fam == 5 && op != 0x501)
  | 2 => [0, 1, 0xA, 0xB, 0xC, 0xD, 0xE].contains fam || (fam == 6 && op != 0x600) || (fam == 7 && op != 0x701)
  | 3 => fam == 9 || [0x402, 0x501, 0x600, 0x701].contains op
  | _ => false

/-- The depth of each queue (R49). -/
def queueDepth (q : Nat) : Nat := [16, 256, 64, 32].getD q 0

/-- The target classes that an opcode takes (R44 and the opcode tables of the chapters). -/
def opTargets (op : Nat) : List Nat :=
  if op = 0x200 ∨ op = 0x201 then [0x01, 0xFF]
  else if op = 0x202 then [0x01, 0x02, 0xFF]
  else if 0x203 ≤ op ∧ op ≤ 0x205 then [0x01]
  else if 0x300 ≤ op ∧ op ≤ 0x304 then [0x02]
  else if op = 0x305 ∨ op = 0x400 ∨ op = 0x401 ∨ op = 0x403 then [0x01]
  else if op = 0x500 ∨ op = 0x502 then [0x07]
  else if 0x600 ≤ op ∧ op ≤ 0x603 then [0x04]
  else if op = 0xA02 ∨ op = 0xA03 then [0x05]
  else if 0x104 ≤ op ∧ op ≤ 0x106 then [0x08]
  else [0x00]

/-- The number of targets of a class (R44). -/
def classSize (c : Nat) : Nat :=
  match c with
  | 0 => 1 | 1 => 64 | 2 => 16 | 3 => 4 | 4 => 4 | 5 => 2 | 6 => 2 | 7 => 16 | 8 => 16 | 0xFF => 1 | _ => 0

/-- Checks 6 to 8 of R47, with the status and detail of the first that fails. -/
def checks6to8 (p : Packet) : Option (Nat × Nat) :=
  let op := opNum p
  if !knownOp op then some (0x0103, 0)
  else if !admits p.q op then some (0x0105, p.q)
  else if !((opTargets op).contains p.tclass.toNat && tix p < classSize p.tclass.toNat) then some (0x0106, 0)
  else none

/-! ### Replies, events, the journal (R57–R62, R71, R72) -/

/-- The transport codes of CMDQ_SESSION (R72). -/
def xportCode (x : Xport) : Nat := match x with | .pcie => 0 | .traverse => 1 | .spi => 2

/-- The transport that holds the session; none while no session is attached (R58). -/
def Dev.session (d : Dev) : Option Xport :=
  if d.fb R.CMDQ_SESSION F.CMDQ_SESSION_ATTACHED then
    match d.fg R.CMDQ_SESSION F.CMDQ_SESSION_TRANSPORT with
    | 0 => some .pcie
    | 1 => some .traverse
    | _ => some .spi
  else none

/-- The write-back block is written (R60). -/
def Dev.writeBack (d : Dev) : Dev :=
  { d with cmd := { d.cmd with wb :=
    { fetch := (List.range 4).map (fun q => d.fg (R.CMDQ_FETCH q) F.CMDQ_FETCH_FETCH)
      replyProd := d.cmd.replyProd, eventProd := d.cmd.eventProd, timeNs := d.ns } } }

/-- The pair makes this device follow another one: it posts nothing (R462). -/
def Dev.shadow (d : Dev) : Bool :=
  d.fb R.PAIR_CFG F.PAIR_CFG_EN && (d.fg R.PAIR_STATUS F.PAIR_STATUS_STATE == 4 || d.fg R.PAIR_STATUS F.PAIR_STATUS_STATE == 5)

/-- The outputs of R464 are not driven: the device is a STANDBY of a pair, or has resigned (R458, R464, R467). -/
def Dev.muted (d : Dev) : Bool := 4 ≤ d.fg R.PAIR_STATUS F.PAIR_STATUS_STATE && d.fg R.PAIR_STATUS F.PAIR_STATUS_STATE ≤ 6

/-- The reply ring of PCIe has room (R60, R61). -/
def Dev.replyRoom (d : Dev) : Bool := d.cmd.replyRing.length < d.cmd.rings.replySlots

/-- A reply is written to the reply ring, the write-back block follows, and the reply counts on its vector (R60, R346). -/
def Dev.pushReply (d : Dev) (r : Reply) : Dev :=
  ({ d with cmd := { d.cmd with replyRing := d.cmd.replyRing ++ [r], replyProd := (d.cmd.replyProd + 1) % 65536 } }.writeBack).unitDeliver
    d.cmd.rings.replyVec

/-- A reply enters the list of held replies, which has 64 entries for Q1–Q3 and 16 for Q0 and unsequenced opcodes (R61).  DESIGN CHOICE:
one that finds its entries full stands behind the list until an entry is free (assumption log 50). -/
def Dev.hold (d : Dev) (urgent : Bool) (h : Held) : Dev :=
  let c := d.cmd
  if (if urgent then 16 ≤ c.heldUrgent.length else 64 ≤ c.held.length) then { d with cmd := { c with parked := c.parked ++ [(urgent, h)] } }
  else if urgent then { d with cmd := { c with heldUrgent := c.heldUrgent ++ [h] } }
  else { d with cmd := { c with held := c.held ++ [h] } }

/-- A reply is written for a transport; while the reply ring is full it is held (R61), to leave on `dest`, or on the transport that holds
the session then (R58).  The SPI and Traverse transports keep it until it is read (assumption log 5). -/
def Dev.putReply (d : Dev) (x : Xport) (dest : Option Xport) (urgent : Bool) (r : Reply) : Dev :=
  match x with
  | .pcie =>
    if !d.cmd.rings.valid then d
    else if d.replyRoom && d.cmd.held.isEmpty && d.cmd.heldUrgent.isEmpty then d.pushReply r
    else d.hold urgent { dest := dest, reply := r }
  | .traverse => { d with cmd := { d.cmd with travOut := d.cmd.travOut ++ [r] } }
  | .spi => { d with cmd := { d.cmd with spiOut := d.cmd.spiOut ++ [r] } }

/-- The event ring of PCIe has room (R62). -/
def Dev.eventRoom (d : Dev) : Bool := d.cmd.eventRing.length < d.cmd.rings.eventSlots

/-- A packet is written to the event ring and counts on a vector. -/
def Dev.pushEvent (d : Dev) (r : Reply) (vec : Nat) : Dev :=
  ({ d with cmd := { d.cmd with eventRing := d.cmd.eventRing ++ [r], eventProd := (d.cmd.eventProd + 1) % 65536 } }.writeBack).unitDeliver vec

/-- A packet that a session over SPI or Traverse gets counts on its vector, if it has one (R346): the ATTACH of these transports names none. -/
def Dev.countVector (d : Dev) (vec : Nat) : Dev := if vec < 64 then d.unitDeliver vec else d

/-- An event packet is written for the session transport; while the event ring is full it is not posted and the gap grows (R62). -/
def Dev.putEvent (d : Dev) (r : Reply) (vec : Nat) : Dev :=
  match d.session with
  | none => d
  | some .traverse => ({ d with cmd := { d.cmd with travOut := d.cmd.travOut ++ [r] } } : Dev).countVector vec
  | some .spi => ({ d with cmd := { d.cmd with spiOut := d.cmd.spiOut ++ [r] } } : Dev).countVector vec
  | some .pcie =>
    if d.eventRoom && d.cmd.gap.isNone then d.pushEvent r vec
    else { d with cmd := { d.cmd with gap := some ((d.cmd.gap.map (·.1)).getD r.esn, r.esn) } }

/-- What the Squall injector has exchanged with a reply or event follows it (R533). -/
def Dev.flushLate (d : Dev) : Dev :=
  match d.cmd.late with
  | none => d
  | some (r, v) =>
    let d := { d with cmd := { d.cmd with late := none } }
    match v, d.session with
    | some v, _ => d.putEvent r v
    | none, some x => d.putReply x none false r
    | none, none => d

/-- A reply (unit 1) or event (unit 2) is posted by `put`, or as the Squall injector has it (R533): not posted, with a bit inverted, twice,
or after the next one. -/
def Dev.squallPost (d : Dev) (unit : Nat) (r : Reply) (v : Option Nat) (put : Dev → Reply → Dev) : Dev :=
  let (d, hit) := d.squall 5 1 [0, unit] 0
  match hit with
  | some (_, 0) => d
  | some (k, 1) => (put d { r with inv := some (d.squallBit k) }).flushLate
  | some (_, 2) => (put (put d r) r).flushLate
  | some (_, 3) => if d.cmd.late.isNone then { d with cmd := { d.cmd with late := some (r, v) } } else (put d r).flushLate
  | _ => (put d r).flushLate

/-- A reply goes to the transport that sent the packet, or to the one that holds the session, if any (R58). -/
def Dev.sendReply (d : Dev) (dest : Option Xport) (urgent : Bool) (r : Reply) : Dev :=
  match dest.or d.session with
  | none => d
  | some x => d.squallPost 1 r none fun d r => d.putReply x dest urgent r

/-- A frame leaves on the Tie link (R457): its count, and its payload as the last of its KIND. -/
def Dev.tieOut (d : Dev) (kind : Nat) (pay : List Word) : Dev :=
  { d with pair := { d.pair with sent := tabMod d.pair.sent kind (· + 1), last := tabSet d.pair.last kind pay } }

/-- A frame is sent on the Tie link, or as the Squall injector has it (R533): not sent, with a bit inverted, twice, or after the next. -/
def Dev.tieFrame (d : Dev) (kind : Nat) (pay : List Word) : Dev :=
  let late (d : Dev) : Dev := match d.pair.late with
    | some (k, p) => ({ d with pair := { d.pair with late := none } } : Dev).tieOut k p
    | none => d
  let (d, hit) := d.squall 4 1 [0, kind] 0
  match hit with
  | some (_, 0) => d
  | some (_, 2) => late ((d.tieOut kind pay).tieOut kind pay)
  | some (_, 3) => if d.pair.late.isNone then { d with pair := { d.pair with late := some (kind, pay) } } else late (d.tieOut kind pay)
  | _ => late (d.tieOut kind pay)

/-- A frame of a KIND with a payload goes out on the Tie link (R457): from the ACTIVE while the link is up. -/
def Dev.sendTie (d : Dev) (kind : Nat) (pay : List Word) : Dev :=
  let st := d.fg R.PAIR_STATUS F.PAIR_STATUS_STATE
  if (st = 2 || st = 3) && d.fb R.PAIR_STATUS F.PAIR_STATUS_LINK_UP then d.tieFrame kind pay else d

/-- The next ESN is taken and the packet enters the event journal of 4,096 entries (R71, R72). -/
def Dev.journal (d : Dev) (r : Reply) : Dev :=
  let n := d.cmd.nextEsn
  let js := (r :: d.cmd.journal).take 4096
  let d := ({ d with cmd := { d.cmd with journal := js, nextEsn := n + 1 } }.wr R.CMDQ_ESN n).wr R.CMDQ_ESN_OLDEST
    ((js.getLastD r).esn)
  d.sendTie 5 [n, toW r.kind, r.csn, toW d.cmd.replyProd, toW d.cmd.eventProd]

/-- The reply that a packet gets with the next ESN. -/
def Dev.replyOf (d : Dev) (p : Packet) (kind st det : Nat) (pay : List Word) : Reply :=
  { op := p.opcode, kind := kind, csn := p.csn, esn := d.cmd.nextEsn, status := st, detail := det, payload := pay }

/-- A reply or progress reply of a packet takes its ESN, is journalled, and is posted to `dest` (none: the transport that holds the
session), unless the packet asked for no acknowledgement of success (R57, R58). -/
def Dev.postDirect (d : Dev) (p : Packet) (dest : Option Xport) (kind st det : Nat) (pay : List Word) : Dev :=
  let r := d.replyOf p kind st det pay
  let d := d.journal r
  if st = 0 && !p.ack then d else d.sendReply dest (p.q = 0 || isUnseq (opNum p)) r

/-- A reply that the ACTIVE has posted before this device had it stands in the journal under the ACTIVE's ESN (R462, R469). -/
def Dev.takePosted (d : Dev) (r : Reply) (x : Word × Word × Nat) : Dev × Reply :=
  let r := { r with esn := x.2.1 }
  ({ d with pair := { d.pair with posted := d.pair.posted.erase x }
            cmd := { d.cmd with journal := d.cmd.journal.map fun e => if e.esn = r.esn then r else e } }, r)

/-- The reply of an accepted command, with the device after it: a device that shadows its partner posts nothing and keeps the reply, with
whether it is to be sent (R57, R462); one that the ACTIVE has posted is not posted again (R469). -/
def Dev.postReply (d : Dev) (p : Packet) (kind st det : Nat) (pay : List Word) : Dev × Reply :=
  let r := d.replyOf p kind st det pay
  match d.pair.posted.find? fun x => x.1 = r.csn && x.2.2 = kind with
  | some x => d.takePosted r x
  | none =>
    if d.shadow then ({ d with pair := { d.pair with unposted := d.pair.unposted ++ [(r, p.ack || st ≠ 0)] } }, r)
    else (d.postDirect p none kind st det pay, r)

/-- An event packet takes its ESN, is journalled, and goes to the session transport (R58, R71). -/
def Dev.postEvent (d : Dev) (code det : Nat) (pay : List Word) (vec : Nat) : Dev :=
  if d.shadow then d else
  let r : Reply := { op := BitVec.ofNat 16 code, kind := 1, csn := 0, esn := d.cmd.nextEsn, status := 0, detail := det, payload := pay }
  let d := d.journal r
  if d.session.isNone then d else d.squallPost 2 r (some vec) fun d r => d.putEvent r vec

/-- A protocol event (R46) uses the event vector of ATTACH (R343), which only its PCIe form has; 64 stands for none. -/
def Dev.protocolEvent (d : Dev) (code : Nat) (pay : List Word) : Dev :=
  d.postEvent code 0 pay (if d.session = some .pcie then d.cmd.rings.eventVec else 64)

/-! ### Snapshot strobe (R330–R332) -/

/-- A strobe that does not come from the partner goes to it as a STROBE frame when TIE_OUT is 1 and the link is up (R330, R457). -/
def Dev.strobeOut (d : Dev) (src : Nat) : Dev :=
  if d.fb R.SNAP_CFG F.SNAP_CFG_TIE_OUT && src ≠ 5 && d.fb R.PAIR_STATUS F.PAIR_STATUS_LINK_UP then d.tieFrame 7 (words64 d.ns) else d

/-- A further source in the clock of a strobe (R331): FIRST gives the lowest bit, and AXIS the lowest axis of source 2. -/
def Dev.strobeJoin (d : Dev) (b src axis : Nat) : Dev :=
  let c := R.SNAP_CAUSE b
  let seen := (d.fg (R.SNAP_HDR b) F.SNAP_HDR_SOURCE).testBit 2
  let d := d.fs c F.SNAP_CAUSE_FIRST (min (d.fg c F.SNAP_CAUSE_FIRST) src)
  let d := if src = 2 then d.fs c F.SNAP_CAUSE_AXIS (if seen then min (d.fg c F.SNAP_CAUSE_AXIS) axis else axis) else d
  d.fs (R.SNAP_HDR b) F.SNAP_HDR_SOURCE (d.fg (R.SNAP_HDR b) F.SNAP_HDR_SOURCE ||| 2 ^ src)

/-- A strobe from source bit `src` (R330–R332), on behalf of axis `axis` for source 2. In the clock of the strobe that a snapshot began
with it is part of it; while the snapshot is being taken later it merges; when NEXT is FULL and KEEP is 1 it is lost; otherwise it
occupies the bank NEXT, every block latches its snapshot registers, and SNAPOUT and the partner follow. In DOZE strobes are not issued
(R515). -/
def Dev.strobe (d : Dev) (src axis : Nat) : Dev :=
  if d.dozing then d else
  match d.snap.bank with
  | some b =>
    if d.snap.clock = some d.clocks then d.strobeJoin b src axis else
    (d.fs (R.SNAP_HDR b) F.SNAP_HDR_SOURCE (d.fg (R.SNAP_HDR b) F.SNAP_HDR_SOURCE ||| 2 ^ src)).satInc
      R.SNAP_STATUS F.SNAP_STATUS_MERGED
  | none =>
    let b := d.fg R.SNAP_STATUS F.SNAP_STATUS_NEXT
    if d.bit R.SNAP_STATUS (F.SNAP_STATUS_FULL.lo + b) && d.fb R.SNAP_CFG F.SNAP_CFG_KEEP then
      (d.satInc R.SNAP_STATUS F.SNAP_STATUS_LOST).raise 188
    else
      let lat := tabSetD resetWord (tabSetD resetWord d.regs (R.CAN_TSC 0) (toW d.canTsc)) (R.CAN_TSC 1) (toW d.canTsc)
      let ext := d.snapExtra
      let d := d.wr (R.SNAP_HDR b) (toW ((d.snap.next % 65536) * 2 ^ 16 + 2 ^ 15 + 2 ^ 14 + 2 ^ src))
      let d := d.wr (R.SNAP_CAUSE b) (toW ((if src = 2 then axis * 2 ^ 16 else 0) + src))
      let d := (d.wr64 (R.SNAP_TIME b) d.ns).fsb R.SNAP_STATUS F.SNAP_STATUS_BUSY true
      ({ d with snap := { d.snap with
          bank := some b, latch := lat, extra := ext, next := (d.snap.next + 1) % 65536, clock := some d.clocks
          outHigh := d.snap.outHigh || d.fb R.SNAP_CFG F.SNAP_CFG_OUT_EN } } : Dev).strobeOut src

/-- A fault bit of an axis strobes when SNAP_AXMASK names the axis (R330). -/
def Dev.strobeAxis (d : Dev) (a : Nat) : Dev := if d.bit R.SNAP_AXMASK a then d.strobe 2 a else d

/-! ### Accepted commands (R49–R57, R70) -/

/-- The accepted command that a packet is, by queue and CSN. -/
def sameCmd (p : Packet) (a : Accepted) : Bool := a.pkt.q == p.q && a.pkt.csn == p.csn

/-- The accepted commands with one of them changed. -/
def Dev.modAccepted (d : Dev) (p : Packet) (f : Accepted → Accepted) : Dev :=
  { d with cmd := { d.cmd with accepted := d.cmd.accepted.map (fun a => if sameCmd p a then f a else a) } }

/-- The reply of a completed command enters the replay cache (R70). -/
def Dev.cacheReply (d : Dev) (p : Packet) (r : Reply) : Dev :=
  { d with cmd := { d.cmd with cache := tabMod d.cmd.cache p.q (fun l =>
      l.map (fun e => if e.csn = p.csn then { e with reply := some r } else e)) } }

/-- An accepted command completes with its final status (R57, R70, R71): it leaves its queue, its CSN becomes the last
completed one, and its reply is posted and cached. -/
def Dev.finish (d : Dev) (p : Packet) (st det : Nat) (pay : List Word) : Dev :=
  let d := { d with cmd := { d.cmd with accepted := d.cmd.accepted.filter (fun a => !sameCmd p a) } }
  let d := d.fs (R.CMDQ_FETCH p.q) F.CMDQ_FETCH_FILL (d.fg (R.CMDQ_FETCH p.q) F.CMDQ_FETCH_FILL - 1)
  let d := d.wr (R.CMDQ_COMPLETED p.q) p.csn
  let (d, r) := d.postReply p 0 st det pay
  d.cacheReply p r

/-- What runs of the accepted list before a command has been accepted (R51): the commands accepted earlier. -/
def beforeCmd (p : Packet) (l : List Accepted) : List Accepted := l.takeWhile fun a => !sameCmd p a

/-- The accepted commands of the chain that a command belongs to, in order (R56); an unchained command stands alone. -/
def chainOf (l : List Accepted) (p : Packet) : List Accepted :=
  let ql := l.filter fun a => a.pkt.q = p.q
  let pre := beforeCmd p ql
  let post := ql.drop pre.length
  (pre.reverse.takeWhile fun a => a.pkt.chain).reverse ++ (post.takeWhile fun a => a.pkt.chain) ++ (post.dropWhile fun a => a.pkt.chain).take 1

/-- A command may start now (R51, R52, R55, R56, R61), with the whole chain that it begins: it is accepted, every earlier command of its queue
has started, and its chain has been validated; in Q1–Q3 no earlier command of its queue is uncompleted, no Q0 command that may start waits, and no
barrier holds it; a barrier, also at the end of a chain, waits for everything accepted before; and the held list has room. -/
def Dev.canStart (d : Dev) (p : Packet) : Bool :=
  let l := d.cmd.accepted
  let chain := chainOf l p
  let before := (beforeCmd p l).filter fun b => !chain.contains b
  let own := before.filter fun b => b.pkt.q = p.q
  match l.find? (sameCmd p) with
  | none => false
  | some a =>
    a.pkt == p && !a.started && (!a.inChain || a.closed) &&
    ((beforeCmd p l).all fun b => b.pkt.q ≠ p.q || b.started) &&
    (if chain.any fun b => b.pkt.barrier then before.isEmpty else p.q = 0 || (before.all (fun b => !b.pkt.barrier) && own.isEmpty)) &&
    (if p.q = 0 then d.cmd.heldUrgent.length < 16
     else d.cmd.held.length < 64 &&
       !(l.any (fun b => b.pkt.q = 0 && !b.started && !b.pkt.barrier && !(b.inChain && !b.closed)) && d.cmd.heldUrgent.length < 16))

/-! ### The course of an opcode (R47, R57, R77) -/

/-- How the execution of an opcode ends: with a final reply, or running until what it waits for has happened; a command on
several targets may carry the failure of its first failing target already (R104). -/
inductive OpEnd where
  | done (d : Dev) (status detail : Nat) (pay : List Word)
  | wait (d : Dev) (ws : List Wait) (pay : List Word)
  | waitAll (d : Dev) (ws : List Wait) (status detail failIx : Nat) (pay : List Word)

/-- The number of parameter words that the layout of an opcode requires of a packet (R77). -/
structure OpSpec where
  len   : Packet → Nat
  check : Dev → Packet → Option (Nat × Nat)
  run   : Dev → Packet → OpEnd

/-- The length check of R77: the index of the first word at which packet and layout differ. -/
def lenCheck (p : Packet) (n : Nat) : Option (Nat × Nat) :=
  if p.params.length < n then some (0x0201, 3 + p.params.length)
  else if n < p.params.length then some (0x0201, 3 + n)
  else none

/-- The status and detail of the first condition of a list that holds. -/
def failOf (l : List (Bool × Nat × Nat)) : Option (Nat × Nat) := l.findSome? fun x => if x.1 then some x.2 else none

/-- RECOVERY executes only the session, IMAGE_INSTALL and security opcodes (R78). -/
def Dev.inRecovery (d : Dev) : Bool := d.fg R.SYS_BOOT_STATUS F.SYS_BOOT_STATUS_STAGE == 0xF0

def recoveryAdmits (op : Nat) : Bool := (1 ≤ op && op ≤ 5) || op == 0x903 || op / 256 == 0xC

/-- In RECOVERY an opcode that is not executed there fails with 0x0304 at check 10, unless a parameter check has failed before (R47, R78). -/
def Dev.recoveryFail (d : Dev) (p : Packet) (e : Option (Nat × Nat)) : Option (Nat × Nat) :=
  if !d.inRecovery || recoveryAdmits (opNum p) then e
  else match e with
    | some x => if x.1 / 256 = 2 then some x else some (0x0304, 0)
    | none => some (0x0304, 0)

/-- Checks 9 and 10 of R47 for an opcode: the length of the packet, then the opcode's own checks and RECOVERY. -/
def Dev.opCheck (d : Dev) (o : OpSpec) (p : Packet) : Option (Nat × Nat) :=
  match lenCheck p (o.len p) with
  | some e => some e
  | none => d.recoveryFail p (o.check d p)

/-- The payload of some error replies (R72): RES_JOURNAL_EXPIRED carries the oldest available ESN. -/
def Dev.errPay (d : Dev) (st : Nat) : List Word := if st = 0x0406 then [d.rd R.CMDQ_ESN_OLDEST] else []

/-- A command starts: it is checked, and takes effect (R47, R57). -/
def Dev.startOp (d : Dev) (o : OpSpec) (p : Packet) : Dev :=
  let d := d.modAccepted p fun a => { a with started := true }
  match d.opCheck o p with
  | some (st, det) => d.finish p st det (d.errPay st)
  | none =>
    match o.run d p with
    | .done d st det pay => d.finish p st det pay
    | .wait d [] pay => d.finish p 0 0 pay
    | .wait d ws pay => d.modAccepted p fun a => { a with waits := ws, pay := pay }
    | .waitAll d [] st det _ pay => d.finish p st det pay
    | .waitAll d ws st det ix pay => d.modAccepted p fun a =>
      { a with waits := ws, status := st, detail := det, failIx := ix, pay := pay }

/-- A packet is a sequenced command that runs opcode `code`; it starts when it may (R51).  Where it may not start, nothing happens
(assumption log 4). -/
def Dev.runOp (d : Dev) (code : Nat) (o : OpSpec) (p : Packet) : Dev :=
  if opNum p ≠ code || !d.canStart p then d else d.startOp o p

/-- An unsequenced packet is executed as soon as it has been received, and its reply goes to the transport that sent it
(R50, R58).  DEDUCED: while the 16 urgent entries of the held list are full it waits, as its reply would have no entry (assumption log 50). -/
def Dev.runUnseq (d : Dev) (code : Nat) (o : OpSpec) (p : Packet) : Dev :=
  if opNum p ≠ code || !d.cmd.unseq.contains p || 16 ≤ d.cmd.heldUrgent.length then d else
  let d := { d with cmd := { d.cmd with unseq := d.cmd.unseq.erase p } }
  let reply (d : Dev) (st det : Nat) (pay : List Word) : Dev := d.postDirect p (some p.xport) 0 st det pay
  match d.opCheck o p with
  | some (st, det) => reply d st det []
  | none =>
    match o.run d p with
    | .done d st det pay => reply d st det pay
    | .wait d _ pay => reply d 0 0 pay
    | .waitAll d _ st det _ pay => reply d st det pay

/-! ### What commands wait for -/

/-- A happening that commands wait for has come: each waiting command drops it, keeps the status of the first target in
slot order that failed, and completes when nothing is left (R57, R104). -/
def Dev.resolveOne (w : Wait) (st det : Nat) (pay : List Word) (d : Dev) (a : Accepted) : Dev :=
  if !a.waits.contains w then d else
  let ws := a.waits.filter (· ≠ w)
  let worse := st ≠ 0 && (a.status = 0 || w.ix < a.failIx)
  let st' := if worse then st else a.status
  let det' := if worse then det else a.detail
  let fail' := if worse then w.ix else a.failIx
  let pay' := if pay.isEmpty then a.pay else pay
  if ws.isEmpty then d.finish a.pkt st' det' pay'
  else d.modAccepted a.pkt fun b => { b with waits := ws, status := st', detail := det', failIx := fail', pay := pay' }

/-- A command that is executing holds the Logbook staging region (R33): STORE_WRITE, STORE_READ or IMAGE_INSTALL waits for
its Logbook operation. -/
def Dev.stagingBusy (d : Dev) : Bool :=
  d.cmd.accepted.any fun a => a.started && [0x0900, 0x0901, 0x0903].contains (opNum a.pkt) && a.waits.any fun w => w.kind == .store

/-- Every command that waits for `w` takes the outcome. -/
def Dev.resolve (d : Dev) (w : Wait) (st det : Nat) (pay : List Word) : Dev :=
  d.cmd.accepted.foldl (Dev.resolveOne w st det pay) d

/-- Some command waits for `w`. -/
def Dev.awaited (d : Dev) (w : Wait) : Bool := d.cmd.accepted.any fun a => a.waits.contains w

/-- What waits for `w` waits for `v` from now on. -/
def Dev.rewait (d : Dev) (w v : Wait) : Dev :=
  { d with cmd := { d.cmd with accepted := d.cmd.accepted.map fun a => { a with waits := a.waits.map fun x => if x = w then v else x } } }

/-- Validated parameter writes wait for their application point as one write group (R73); the answer has its number. -/
def Dev.queueWrites (d : Dev) (l : List (Nat × Word × Word)) (lane : Option Nat) : Dev × Nat :=
  let g := d.cmd.nextGid
  ({ d with cmd := { d.cmd with
      nextGid := g + 1
      writes := d.cmd.writes ++ l.map fun x => { off := x.1, mask := x.2.1, val := x.2.2, lane := lane, gid := g } } }, g)

/-! ### Held replies and copies (R61, R62) -/

/-- A packet is written for a transport whose reply channel can take it. -/
def Dev.putNow (d : Dev) (x : Xport) (r : Reply) : Dev :=
  match x with
  | .pcie => d.pushReply r
  | .traverse => { d with cmd := { d.cmd with travOut := d.cmd.travOut ++ [r] } }
  | .spi => { d with cmd := { d.cmd with spiOut := d.cmd.spiOut ++ [r] } }

/-- The transport on which a reply may leave now (R58, R61): its own, or the one that holds the session, while its channel has room. -/
def Dev.freeChannel (d : Dev) (dest : Option Xport) : Option Xport :=
  match dest.or d.session with
  | some .pcie => if d.cmd.rings.valid && d.replyRoom then some .pcie else none
  | x => x

/-- The first entry of a list of held replies that may leave now, and on which transport. -/
def Dev.nextHeld (d : Dev) (l : List Held) : Option (Held × Xport) := l.findSome? fun h => (d.freeChannel h.dest).map fun x => (h, x)

/-- Replies that stand behind the list take its free entries, in their order (R61). -/
def Dev.unpark (n : Nat) (d : Dev) : Dev :=
  match n with
  | 0 => d
  | n + 1 =>
    match d.cmd.parked.find? fun x => if x.1 then d.cmd.heldUrgent.length < 16 else d.cmd.held.length < 64 with
    | some x => Dev.unpark n (({ d with cmd := { d.cmd with parked := d.cmd.parked.erase x } } : Dev).hold x.1 x.2)
    | none => d

/-- While their channels can take packets, the held replies leave, and then the journal copies of READ_JOURNAL (R61).  DESIGN CHOICE: the
replies of Q0 and of unsequenced opcodes go first, then those of Q1–Q3; the manual gives no order (assumption log 50).  `n` bounds the number of
packets. -/
def Dev.drainHeld (n : Nat) (d : Dev) : Dev :=
  match n with
  | 0 => d
  | n + 1 =>
    match d.nextHeld d.cmd.heldUrgent, d.nextHeld d.cmd.held with
    | some (h, x), _ => Dev.drainHeld n ((({ d with cmd := { d.cmd with heldUrgent := d.cmd.heldUrgent.erase h } } : Dev).unpark 1).putNow x h.reply)
    | none, some (h, x) => Dev.drainHeld n ((({ d with cmd := { d.cmd with held := d.cmd.held.erase h } } : Dev).unpark 1).putNow x h.reply)
    | none, none =>
      match d.cmd.journalQ, d.freeChannel none with
      | r :: rest, some x =>
        let d := ({ d with cmd := { d.cmd with journalQ := rest } } : Dev).putNow x r
        Dev.drainHeld n (if rest.isEmpty then d.resolve ⟨.journal, 0⟩ 0 0 [] else d)
      | _, _ => d

/-- Everything leaves that may. -/
def Dev.drainAll (d : Dev) : Dev :=
  d.drainHeld (d.cmd.heldUrgent.length + d.cmd.held.length + d.cmd.parked.length + d.cmd.journalQ.length)

/-- The tick count of the lane of axis `a` as two payload words (R73, R104). -/
def Dev.tickWords (d : Dev) (n : Nat) : List Word := words64 (d.rd64 (R.SYS_TICK_COUNT n))

end Sys2Proof.Machine
end

