-- ==== Sys2Proof/Machine/PwmOps.lean ====
section
/-!
DEFINITION. The operations of the PWM generator and the trip logic (07): which legs an axis owns, a leg's condition and
outputs, edges of the switching signal, dead time and minimum pulse, compare values, and trip latches.
-/

namespace Sys2Proof.Machine

open Sys2Proof

/-! ### Axes, lanes and legs (R16, R80) -/

/-- The state code of an axis (R85). -/
def Dev.axState (d : Dev) (a : Nat) : Nat := d.fg (R.AXIS_STATUS a) F.AXIS_STATUS_STATE

/-- An axis is active while ENABLING, READY, MOVING or STOPPING (R137). -/
def Dev.active (d : Dev) (a : Nat) : Bool := 1 ≤ d.axState a && d.axState a ≤ 4

/-- The axis slot is bound. -/
def Dev.bound (d : Dev) (a : Nat) : Bool := d.fb (R.AXIS_BIND a) F.AXIS_BIND_BOUND

/-- TYPE of the binding. -/
def Dev.axType (d : Dev) (a : Nat) : Nat := d.fg (R.AXIS_BIND a) F.AXIS_BIND_TYPE

/-- The number of legs of each axis type (R80). -/
def typeLegs (t : Nat) : Nat := [3, 4, 2].getD t 0

/-- The run of legs of a bound axis (R80). -/
def Dev.legsOf (d : Dev) (a : Nat) : List Nat :=
  if d.bound a then (List.range (typeLegs (d.axType a))).map (d.fg (R.AXIS_BIND a) F.AXIS_BIND_FIRST_LEG + ·) else []

/-- The axis slots of lane `n` (R16). -/
def laneAxes (n : Nat) : List Nat := (List.range 16).map (16 * n + ·)

/-- The lane of an axis slot (R16). -/
def laneOf (a : Nat) : Nat := a / 16

/-- The axis whose run holds a leg. -/
def Dev.legOwner (d : Dev) (l : Nat) : Option Nat := (laneAxes (l / 48)).find? fun a => (d.legsOf a).contains l

/-- The servo tick period of a lane in PWM counts (the table of R25). -/
def Dev.tickCounts (d : Dev) (n : Nat) : Nat :=
  [40000, 20000, 10000, 5000, 2500].getD (d.fg (R.CE_LANE_CFG n) F.CE_LANE_CFG_RATE) 5000

/-! ### Trip latches (R215–R219) -/

/-- The trip inputs that guard a leg (R215). -/
def Dev.guards (d : Dev) (l : Nat) : List Nat :=
  let own := match d.legOwner l with
    | some a => d.fg (R.AXIS_BIND a) F.AXIS_BIND_TRIP
    | none => if d.fb (R.PWM_LEG_CFG l) F.PWM_LEG_CFG_HOST then d.fg (R.PWM_LEG_CFG l) F.PWM_LEG_CFG_TRIP else 0xFF
  if own < 64 then [own, 64 + l / 48] else [64 + l / 48]

/-- The latch of a trip input is set. -/
def Dev.latched (d : Dev) (t : Nat) : Bool := d.fb (R.PWM_TRIP_STATUS t) F.PWM_TRIP_STATUS_LATCHED

/-- Some latch that guards the leg is set (R198). -/
def Dev.legTripped (d : Dev) (l : Nat) : Bool := (d.guards l).any d.latched

/-- The trip inputs that guard an axis. -/
def Dev.axisTrips (d : Dev) (a : Nat) : List Nat :=
  let t := d.fg (R.AXIS_BIND a) F.AXIS_BIND_TRIP
  if t < 64 then [t, 64 + laneOf a] else [64 + laneOf a]

/-! ### Leg condition and outputs (R197, R198) -/

def Dev.leg (d : Dev) (l : Nat) : Leg := tabGet d.pwm.legs l

def Dev.modLeg (d : Dev) (l : Nat) (f : Leg → Leg) : Dev := { d with pwm := { d.pwm with legs := tabMod d.pwm.legs l f } }

def Dev.bank (d : Dev) (n : Nat) : Bank := tabGet d.pwm.banks n

def Dev.modBank (d : Dev) (n : Nat) (f : Bank → Bank) : Dev := { d with pwm := { d.pwm with banks := tabMod d.pwm.banks n f } }

def Dev.trip (d : Dev) (t : Nat) : Trip := tabGet d.pwm.trips t

def Dev.modTrip (d : Dev) (t : Nat) (f : Trip → Trip) : Dev := { d with pwm := { d.pwm with trips := tabMod d.pwm.trips t f } }

def Dev.hOn (d : Dev) (l : Nat) : Bool := d.fb (R.PWM_LEG_ACT l) F.PWM_LEG_ACT_H_ON
def Dev.lOn (d : Dev) (l : Nat) : Bool := d.fb (R.PWM_LEG_ACT l) F.PWM_LEG_ACT_L_ON

/-- Every edge of an output starts the blanking of the trip inputs that guard the leg (R216). -/
def Dev.blank (d : Dev) (l : Nat) : Dev :=
  d.each ((d.guards l).filter fun t => d.fg (R.PWM_TRIP_CFG t) F.PWM_TRIP_CFG_BLANK ≠ 0)
    fun d t => d.modTrip t fun x => { x with blocked := true }

/-- The outputs of a driven leg: high side and low side on or off. -/
def Dev.setOut (d : Dev) (l : Nat) (h lo : Bool) : Dev :=
  if d.hOn l = h ∧ d.lOn l = lo then d
  else ((d.fsb (R.PWM_LEG_ACT l) F.PWM_LEG_ACT_H_ON h).fsb (R.PWM_LEG_ACT l) F.PWM_LEG_ACT_L_ON lo).blank l

/-- The leg is HIGH-Z: at once, with no regard to dead time or minimum pulse (R214, R217). -/
def Dev.legHiz (d : Dev) (l : Nat) : Dev :=
  let d := d.modLeg l fun x => { x with cond := .hiz, pendOn := none, held := none, arrived := none, first := false, issued := [], last := none }
  ((d.fsb (R.PWM_LEG_ACT l) F.PWM_LEG_ACT_H_ON false).fsb (R.PWM_LEG_ACT l) F.PWM_LEG_ACT_L_ON false).fsb
    (R.PWM_LEG_ACT l) F.PWM_LEG_ACT_HIZ true

/-- The legs of an axis go high-impedance. -/
def Dev.axisHiz (d : Dev) (a : Nat) : Dev := d.each (d.legsOf a) Dev.legHiz

/-- The compare value in effect of a leg (PWM_LEG_ACT.CMP_EFF shows it). -/
def Dev.setCmp (d : Dev) (l c : Nat) : Dev := (d.modLeg l fun x => { x with c := c }).fs (R.PWM_LEG_ACT l) F.PWM_LEG_ACT_CMP_EFF c

/-! ### Timebases (R200–R202) -/

/-- The leg is on TB1 of its bank: a host-driven leg with TB at 1. -/
def Dev.onTb1 (d : Dev) (l : Nat) : Bool :=
  (d.legOwner l).isNone && d.fg (R.PWM_LEG_CFG l) F.PWM_LEG_CFG_TB = 1

/-- The leg's timebase counts up only (MODE at 1). -/
def Dev.upMode (d : Dev) (l : Nat) : Bool :=
  if d.onTb1 l then (d.bank (l / 48)).mode1 = 1 else d.fg (R.PWM_BANK_CFG (l / 48)) F.PWM_BANK_CFG_MODE0 = 1

/-- The running period of the leg's timebase in counts. -/
def Dev.period (d : Dev) (l : Nat) : Nat := if d.onTb1 l then (d.bank (l / 48)).per1 else (d.bank (l / 48)).per0

/-- The nominal period of the leg's timebase in counts. -/
def Dev.nominal (d : Dev) (l : Nat) : Nat := if d.onTb1 l then (d.bank (l / 48)).per1 else d.tickCounts (l / 48)

/-- Half of the nominal period: the length of slope 1 in up-down mode (R201). -/
def Dev.half (d : Dev) (l : Nat) : Nat := d.nominal l / 2

/-- The position of the edge of S in a slope, in sixteenths from the start of the slope, for compare value `c` (R202);
none where the edge lies at or beyond the slope's end.  From 16P on, with P the nominal period, S is always on, in a lengthened period too
(assumption log 54). -/
def Dev.edgePos (d : Dev) (l c : Nat) (slope2 : Bool) : Option Nat :=
  let c := min c (16 * d.nominal l)
  let on := decide (c = 16 * d.nominal l)
  if d.upMode l then (if c < 16 * d.period l && !on then some c else none)
  else if slope2 then (if c / 2 < 16 * (d.period l - d.half l) && !on then some (c / 2) else none)
  else (if 0 < (c + 1) / 2 then some (16 * d.half l - (c + 1) / 2) else none)

/-- The position at which a slope starts, in sixteenths from the start of its period. -/
def Dev.slopeStart (d : Dev) (l : Nat) (slope2 : Bool) : Nat := if !d.upMode l && slope2 then 16 * d.half l else 0

/-! ### Edges, dead time, minimum pulse (R209–R212) -/

/-- MINP of a leg in sixteenths. -/
def Dev.minp (d : Dev) (l : Nat) : Nat := 16 * d.fg (R.PWM_LEG_CFG l) F.PWM_LEG_CFG_MINP

/-- The dead time before the turn-on of the high (true) or low side of a leg, in sixteenths. -/
def Leg.deadTime (x : Leg) (high : Bool) : Nat := 16 * (if high then x.dtR else x.dtF)

/-- The position, from the start of the running period, at which S leaves the level `high` again, as the compare value in
effect places it (R210): in the running period where the edge lies ahead of the last one and occurs there, else in the next; none where S
stays there for good. -/
def Dev.oppositeEdge (d : Dev) (l : Nat) (high : Bool) : Option Nat :=
  let c := min (d.leg l).c (16 * d.nominal l)
  let p := 16 * d.period l
  let at' := if d.upMode l then (if high then c else p) else if high then 16 * d.half l + c / 2 else 16 * d.half l - (c + 1) / 2
  if (if high then 16 * d.nominal l ≤ c else c = 0) then none
  else if (d.leg l).edgeAt < at' && (at' < p || (d.upMode l && !high)) then some at'
  else some (p + at')

/-- S takes the level `v` at a position of the running period (R209): the output of the other level turns off at once,
unless it is held on to its minimum pulse (R211), and the turn-on of the new one is scheduled after its dead time,
replacing a turn-on that is still pending. -/
def Dev.sEdge (d : Dev) (l : Nat) (v : Bool) (pos : Nat) : Dev :=
  let pos : Int := pos
  let x := d.leg l
  if x.s = v then d else
  let onX := if v then d.lOn l else d.hOn l
  let short := onX && pos < x.onAt + d.minp l
  if x.held = some v then
    -- S returns to the level of the output that is held on: the two pulses merge (R212)
    d.modLeg l fun x => { x with s := v, held := none, pendOn := none, edgeAt := pos, edged := true }
  else if short then
    let d' := d.modLeg l fun y => { y with s := v, held := some (!v), pendOn := some v, edgeAt := pos, edged := true,
                                           shift := (y.onAt + d.minp l - pos).toNat }
    if x.str then d' else d'.satInc (R.PWM_LEG_COUNT l) F.PWM_LEG_COUNT_STRETCHED
  else
    (d.modLeg l fun y => { y with s := v, pendOn := some v, edgeAt := pos, edged := true, shift := 0 }).setOut l false false

/-- The dead time of the pending turn-on ends (R209–R212). -/
def Dev.turnOn (d : Dev) (l : Nat) : Dev :=
  let x := d.leg l
  match x.pendOn with
  | none => d
  | some high =>
    let at0 : Int := x.edgeAt + x.deadTime high + x.shift
    let d0 := d.modLeg l fun y => { y with pendOn := none, held := none }
    let on (d : Dev) (str : Bool) : Dev := (d.modLeg l fun y => { y with onAt := at0, shift := 0, str := str }).setOut l high (!high)
    match d.oppositeEdge l high with
    | none => on d0 false
    | some e =>
      if (e : Int) ≤ at0 then d0
      else if (e : Int) - at0 < d.minp l then
        if d.fg (R.PWM_LEG_CFG l) F.PWM_LEG_CFG_MINP_MODE = 0 then
          d0.satInc (R.PWM_LEG_COUNT l) F.PWM_LEG_COUNT_DROPPED
        else (on d0 true).satInc (R.PWM_LEG_COUNT l) F.PWM_LEG_COUNT_STRETCHED
      else on d0 false

/-- The minimum pulse of a held output ends: it turns off, and the other side's turn-on keeps its dead time after that
(R211, R212). -/
def Dev.minEnd (d : Dev) (l : Nat) : Dev :=
  match (d.leg l).held with
  | none => d
  | some _ => (d.modLeg l fun y => { y with held := none }).setOut l false false

/-! ### Entering SWITCHING, period starts, compare values (R204–R207, R213) -/

/-- The leg is to switch (R198): its axis is active, or it is host-driven with RUN at 1, and no guarding latch is set; a device that
does not drive the legs of a pair switches none (R464). -/
def Dev.legWants (d : Dev) (l : Nat) : Bool :=
  !d.muted && !d.legTripped l &&
  match d.legOwner l with
  | some a => d.active a
  | none => d.fb (R.PWM_LEG_CFG l) F.PWM_LEG_CFG_HOST && d.fb (R.PWM_LEG_CFG l) F.PWM_LEG_CFG_RUN

/-- The level that R202 gives S at position 0 for a compare value. -/
def Dev.levelAt0 (d : Dev) (l c : Nat) : Bool := if d.upMode l then 0 < c else 16 * d.half l ≤ (c + 1) / 2

/-- The leg enters SWITCHING at a period start (R213); in a device that takes over from its partner a CE-driven leg starts with the
value of its own latest evaluation (R469). -/
def Dev.legStart (d : Dev) (l : Nat) : Dev :=
  let last := (d.leg l).last
  let ce := (d.legOwner l).isSome
  let c := if ce then last.getD (8 * d.tickCounts (l / 48)) else d.fg (R.PWM_LEG_CMP l) F.PWM_LEG_CMP_CMP
  let s := d.levelAt0 l c
  let d := d.modLeg l fun x => { x with
    cond := .switching, s := s, pendOn := some s, held := none, edgeAt := 0, edged := false, slope2 := false, shift := 0
    first := ce && last.isNone, issued := [], dtR := d.fg (R.PWM_LEG_DT l) F.PWM_LEG_DT_DT_R, dtF := d.fg (R.PWM_LEG_DT l) F.PWM_LEG_DT_DT_F }
  let d := (d.fsb (R.PWM_LEG_ACT l) F.PWM_LEG_ACT_HIZ false).setCmp l c
  d.setOut l false false

/-- The value that a RELOAD leg has waiting takes effect (R207). -/
def Dev.reload (d : Dev) (l : Nat) : Dev :=
  match (d.leg l).arrived with
  | some c => (d.modLeg l fun x => { x with arrived := none }).setCmp l c
  | none => d

/-- A period of the leg's timebase starts after one of `ended` counts (R200, R207, R209, R213); one that a restart has cut short ends with S at
the level of position 0 (R222). -/
def Dev.legPeriod (ended : Nat) (cut : Bool) (d : Dev) (l : Nat) : Dev :=
  match (d.leg l).cond with
  | .frozen => d
  | .hiz => if d.legWants l then d.legStart l else d
  | .switching =>
    let d := d.reload l
    let d := d.modLeg l fun x => { x with slope2 := false, edged := false
                                          edgeAt := x.edgeAt - (16 * ended : Nat), onAt := x.onAt - (16 * ended : Nat)
                                          dtR := d.fg (R.PWM_LEG_DT l) F.PWM_LEG_DT_DT_R
                                          dtF := d.fg (R.PWM_LEG_DT l) F.PWM_LEG_DT_DT_F }
    if d.upMode l then
      (if 0 < (d.leg l).c then (d.sEdge l true 0).modLeg l fun x => { x with edged := false } else d.sEdge l false 0)
    else if d.levelAt0 l (d.leg l).c then d.sEdge l true 0
    else if cut then (d.sEdge l false 0).modLeg l fun x => { x with edged := false }
    else d

/-- The legs of bank `n` that a period start concerns: those that switch, and those that are to. -/
def Dev.bankLegs (d : Dev) (n : Nat) (tb1 : Bool) : List Nat :=
  ((List.range 48).map (48 * n + ·)).filter fun l => ((d.leg l).cond = .switching || d.legWants l) && d.onTb1 l == tb1

/-- A new compare value is judged against the running slope under IMMEDIATE, the value in effect before it being c_old; a slope has one edge
of S at most (R205, R206). -/
def Dev.immediate (d : Dev) (l c : Nat) (slope2 : Bool) (p : Nat) : Dev :=
  let d := if (d.leg l).slope2 = slope2 then d else d.modLeg l fun x => { x with slope2 := slope2, edged := false }
  let lim := 16 * (p + 1)
  let passed (e : Option Nat) : Bool := match e with | some e => e < lim | none => false
  let old := passed (d.edgePos l (d.leg l).c slope2)
  let new := passed (d.edgePos l c slope2)
  let d' := d.setCmp l c
  let v := !(d.upMode l || slope2)
  if !old && new then
    (if (d.leg l).edged then d' else (d'.sEdge l v (d.slopeStart l slope2 + lim)).modLeg l fun x => { x with edged := true }).satInc
      (R.PWM_LEG_COUNT l) F.PWM_LEG_COUNT_LATE_EDGE
  else d'

/-- A new compare value arrives at a leg in the clock at position `p` of a slope, `r` clocks before the next reload point
(R205–R207). -/
def Dev.cmpArrive (d : Dev) (l c : Nat) (slope2 : Bool) (p r : Nat) : Dev :=
  let d := d.modLeg l fun x => { x with first := false }
  if d.fg (R.PWM_LEG_CFG l) F.PWM_LEG_CFG_POLICY = 0 then d.immediate l c slope2 p
  else
    let d' := d.modLeg l fun x => { x with arrived := some c }
    let d' := if r = 0 then d'.reload l else d'
    if r ≤ d.fg (R.PWM_LEG_CFG l) F.PWM_LEG_CFG_GUARD then d'.satInc (R.PWM_LEG_COUNT l) F.PWM_LEG_COUNT_LATE else d'

/-- PWM_LEG_COUNT of a leg is cleared. -/
def Dev.clearLegCount (d : Dev) (l : Nat) : Dev := d.wr (R.PWM_LEG_COUNT l) 0

end Sys2Proof.Machine
end

