-- ==== Sys2Proof/Machine/AxisOps.lean ====
section
/-!
DEFINITION. The operations shared by everything that reaches an axis (03): its state changes, the brake output, leaving
a motion source, stops of every severity, fault reactions, the hardware stop generator, and STO.
-/

namespace Sys2Proof.Machine

open Sys2Proof

/-! ### Internal records -/

def Dev.ax (d : Dev) (a : Nat) : AxisSt := tabGet d.axes a
def Dev.modAx (d : Dev) (a : Nat) (f : AxisSt → AxisSt) : Dev := { d with axes := tabMod d.axes a f }
def Dev.ceAx (d : Dev) (a : Nat) : CeAxis := tabGet d.ce.ax a
def Dev.modCe (d : Dev) (a : Nat) (f : CeAxis → CeAxis) : Dev := { d with ce := { d.ce with ax := tabMod d.ce.ax a f } }
def Dev.grp (d : Dev) (g : Nat) : GroupSt := tabGet d.ip.groups g
def Dev.modGrp (d : Dev) (g : Nat) (f : GroupSt → GroupSt) : Dev := { d with ip := { d.ip with groups := tabMod d.ip.groups g f } }

/-- The axis is a gear or cam follower, or is to become one. -/
def Dev.follows (d : Dev) (a : Nat) : Bool := (d.ax a).fol.isSome || (d.ax a).folNext.isSome

/-- The actual position of an axis: that of its port and the redefinition of R97, in 2^−24 counts. -/
def Dev.actual (d : Dev) (a : Nat) : Int := d.rdS (R.ENC_POS (d.fg (R.AXIS_BIND a) F.AXIS_BIND_ENC)) + (d.ax a).shift

/-! ### Lane status (R166) -/

/-- The active axes of a lane in a sample phase. -/
def Dev.phaseActive (d : Dev) (n ph : Nat) : Nat :=
  ((laneAxes n).filter fun a => d.active a && d.fg (R.CE_AX_CFG a) F.CE_AX_CFG_SPH = ph).length

/-- The clock divider, in PWM counts, of the modulator clock of a sigma-delta input (R177, R179). -/
def Dev.sdDiv (d : Dev) (i : Nat) : Nat :=
  if d.fb R.CFE_CLK_CFG F.CFE_CLK_CFG_EXT then d.fg R.CFE_CLK_CFG F.CFE_CLK_CFG_EXT_DIV
  else d.fg (R.CFE_SDCK_CFG (5 * (i / 40) + d.fg (R.CFE_SD_CFG i) F.CFE_SD_CFG_CLKSEL)) F.CFE_SDCK_CFG_DIV

/-- The OSR of a sigma-delta input (R182). -/
def Dev.osr (d : Dev) (i : Nat) : Nat := 16 * 2 ^ d.fg (R.CFE_SD_CFG i) F.CFE_SD_CFG_OSR

/-- The current inputs of a bound axis (R80). -/
def Dev.curIns (d : Dev) (a : Nat) : List Nat :=
  if !d.bound a then []
  else if d.axType a = 2 then [d.fg (R.AXIS_BIND_IN a) F.AXIS_BIND_IN_CUR_A]
  else [d.fg (R.AXIS_BIND_IN a) F.AXIS_BIND_IN_CUR_A, d.fg (R.AXIS_BIND_IN a) F.AXIS_BIND_IN_CUR_B]

/-- The inputs named by a binding, 0xFF left out: current and force inputs, then DC link. -/
def bindInputs (w : Word) : List Nat × List Nat :=
  (([wbits w 7 0, wbits w 15 8, wbits w 31 24]).filter (· ≠ 255), [wbits w 23 16].filter (· ≠ 255))

/-- Every input that a bound axis uses: current, force and DC link. -/
def Dev.allIns (d : Dev) (a : Nat) : List Nat :=
  if d.bound a then (bindInputs (d.rd (R.AXIS_BIND_IN a))).1 ++ (bindInputs (d.rd (R.AXIS_BIND_IN a))).2 else []

/-- t_mod of a lane in PWM counts (R166, R180): that of the slowest clock of an input that an active axis uses, with further axes counted
as active, or that of SDCLK_IN. -/
def Dev.tMod (d : Dev) (n : Nat) (more : List Nat) : Nat :=
  if d.fb R.CFE_CLK_CFG F.CFE_CLK_CFG_EXT then d.fg R.CFE_CLK_CFG F.CFE_CLK_CFG_EXT_DIV
  else ((laneAxes n).filter fun a => d.active a || more.contains a).foldl
    (fun m a => (d.allIns a).foldl (fun m i => max m (d.sdDiv i)) m) 0

/-- n_max of R166: min(16, ⌊(T/4 − t_mod) / 756 ns⌋), in units of 0.1 ns. -/
def nMax (tCounts tMod : Nat) : Nat := min 16 ((tCounts * 25 / 4 - tMod * 25) / 7560)

/-- CE_LANE_STATUS_n follows the active axes (R166). -/
def Dev.laneUpdate (d : Dev) (n : Nat) : Dev :=
  let act := ((laneAxes n).filter d.active).length
  let s := R.CE_LANE_STATUS n
  (((((d.fs s F.CE_LANE_STATUS_ACTIVE act).fs s F.CE_LANE_STATUS_P0 (d.phaseActive n 0)).fs s F.CE_LANE_STATUS_P1
    (d.phaseActive n 1)).fs s F.CE_LANE_STATUS_P2 (d.phaseActive n 2)).fs s F.CE_LANE_STATUS_P3 (d.phaseActive n 3)).fs s
    F.CE_LANE_STATUS_NMAX (nMax (d.tickCounts n) (d.tMod n []))

/-! ### State, brake, outputs (R85, R86, R89) -/

/-- The brake output of an axis (R89, R91, R418): the CE sets or clears its command bit, and BRAKE_RELEASED follows. -/
def Dev.brake (d : Dev) (a : Nat) (on : Bool) : Dev :=
  if d.fb (R.AXIS_REACT a) F.AXIS_REACT_BRAKE_EN then
    (d.setBit R.FIELD_OUT_CMD (d.fg (R.AXIS_REACT a) F.AXIS_REACT_BRAKE_OUT) on).fsb (R.AXIS_STATUS a)
      F.AXIS_STATUS_BRAKE_RELEASED on
  else d.fsb (R.AXIS_STATUS a) F.AXIS_STATUS_BRAKE_RELEASED false

/-- An axis enters a state (R85, R86): LAST_STATE keeps the one before, source a is raised, and ALIGNED and HOMED clear
on entry to DISABLED.  Nothing happens when it is in the state already. -/
def Dev.setState (d : Dev) (a st : Nat) : Dev :=
  if d.axState a = st then d else
  let d := (d.fs (R.AXIS_STATUS a) F.AXIS_STATUS_LAST_STATE (d.axState a)).fs (R.AXIS_STATUS a) F.AXIS_STATUS_STATE st
  let d := if st = 0 then (d.fsb (R.AXIS_STATUS a) F.AXIS_STATUS_ALIGNED false).fsb (R.AXIS_STATUS a) F.AXIS_STATUS_HOMED false else d
  let d := if 1 ≤ st && st ≤ 4 then { d with cfe := { d.cfe with window := d.cfe.window.filter (· ≠ a) } } else d
  (d.laneUpdate (laneOf a)).raise a

/-! ### Groups an axis belongs to (R105, R99) -/

/-- Member `i` of a group; 0xFF is an empty slot. -/
def Dev.member (d : Dev) (g i : Nat) : Nat := d.fg (R.INTERP_GRP_MEMBERS g) ⟨8 * i, 8⟩

/-- The axes of a group. -/
def Dev.members (d : Dev) (g : Nat) : List Nat := ((List.range 8).map (d.member g)).filter (· < 64)

/-- The group that an axis is a member of. -/
def Dev.groupOf (d : Dev) (a : Nat) : Option Nat := (List.range 16).find? fun g => (d.members g).contains a

/-- The state code of a group (R107). -/
def Dev.grpState (d : Dev) (g : Nat) : Nat := d.fg (R.INTERP_GRP_STATUS g) F.INTERP_GRP_STATUS_STATE

/-- Bits of INTERP_GRP_EVENT, each raising source 128 + g (R136). -/
def Dev.grpEvent (d : Dev) (g : Nat) (f : Fld) : Dev := d.setFlag (R.INTERP_GRP_EVENT g) f.lo (128 + g)

/-- A group enters a state (R107); entering IDLE or HELD sets its event bit. -/
def Dev.setGrpState (d : Dev) (g st : Nat) : Dev :=
  let d' := d.fs (R.INTERP_GRP_STATUS g) F.INTERP_GRP_STATUS_STATE st
  if st = 0 then d'.grpEvent g F.INTERP_GRP_EVENT_IDLE
  else if st = 4 then d'.grpEvent g F.INTERP_GRP_EVENT_HELD
  else d'

/-- The queue of a group changes: FILL and the free slots of the pool follow (R106), and LOW_WATER is set when the fill
falls from above LOW_WATER (R118). -/
def Dev.setQueue (d : Dev) (g : Nat) (q : List Segment) : Dev :=
  let old := (d.grp g).queue.length
  let free := d.fg R.INTERP_POOL F.INTERP_POOL_FREE
  let low := d.fg (R.INTERP_GRP_CFG g) F.INTERP_GRP_CFG_LOW_WATER
  let d := ((d.modGrp g fun x => { x with queue := q }).fs (R.INTERP_GRP_FILL g) F.INTERP_GRP_FILL_FILL q.length).fs
    R.INTERP_POOL F.INTERP_POOL_FREE (free + old - q.length)
  if low < old && q.length ≤ low then d.grpEvent g F.INTERP_GRP_EVENT_LOW_WATER else d

/-- The members of a group that it drives come to rest in READY. -/
def Dev.membersReady (d : Dev) (g : Nat) : Dev :=
  d.each (d.members g) fun d a =>
    if (d.ax a).motion = .group then
      let d := d.modAx a fun x => { x with motion := .hold, vCmd := 0, aCmd := 0 }
      if d.axState a = 3 then d.setState a 2 else d
    else d

/-- A group discards its queue and enters IDLE (R99, R107, R120). -/
def Dev.groupToIdle (d : Dev) (g : Nat) : Dev :=
  let n := (d.grp g).dropped + (d.grp g).queue.length
  let d := d.setQueue g []
  let k := d.fg (R.INTERP_GRP_OVR g) F.INTERP_GRP_OVR_OVR
  let d := d.modGrp g fun x => { x with
    active := false, dist := 0, elapsed := 0, spd := 0, pacc := 0, curves := [], blend := none, flush := false, keep := 0, dropped := 0
    scale := k, scaleFrom := k, scaleTo := k }
  let d := d.fsb (R.INTERP_GRP_STATUS g) F.INTERP_GRP_STATUS_DRAINED false
  let d := (d.membersReady g).setGrpState g 0
  d.resolve ⟨.groupIdle, g⟩ 0 0 [toW n]

/-- A stop, disable, fault reaction or STO reaches a member of a group (R99): the path decelerates to rest, or, where it
is at rest already, the group enters IDLE; commands waiting on the group end with 0x0306. -/
def Dev.groupStop (d : Dev) (g cls : Nat) : Dev :=
  let st := d.grpState g
  if st = 0 ∨ st = 5 then d else
  let d := (d.resolve ⟨.groupStart, g⟩ 0x0306 0 []).resolve ⟨.groupHeld, g⟩ 0x0306 0 []
  let x := d.grp g
  let rest : Bool := st = 2 || st = 4 || !x.active || (x.queue.head?.map (·.typ)).getD 5 ≥ 4
  if rest then d.groupToIdle g
  else (d.modGrp g fun x => { x with stopCls := cls }).setGrpState g 5

/-! ### Leaving a motion source (R53, R98–R100) -/

/-- INTERP_FOLLOW_STATUS of an axis that follows nothing: only MASTER_LOST stays, until the next engagement. -/
def Dev.followOff (d : Dev) (a : Nat) : Dev :=
  d.wr (R.INTERP_FOLLOW_STATUS a) (d.rd (R.INTERP_FOLLOW_STATUS a) &&& 0x10000000)

/-- A follower is disengaged (R100, R129, R132). -/
def Dev.disengage (d : Dev) (a : Nat) : Dev :=
  let d := d.modAx a fun x => { x with fol := none, folNext := none }
  let d := d.followOff a
  d.resolve ⟨.engage, a⟩ 0x0306 0 []

/-- What drives an axis lets go of it, because of an event of stop class `cls`: its group is stopped, its profile and
homing search end with 0x0306, its follower disengages. -/
def Dev.leaveMotion (d : Dev) (a cls : Nat) : Dev :=
  let x := d.ax a
  let d := d.modAx a fun x => { x with motion := .rampDown, running := none, next := none, waiting := none, home := .none }
  let d := if x.motion = .group then (match d.groupOf a with | some g => d.groupStop g cls | none => d) else d
  let d := if x.running.isSome then d.resolve ⟨.profile, a⟩ 0x0306 0 [] else d
  let d := if x.waiting.isSome then d.resolve ⟨.profile, 64 + a⟩ 0x0306 0 [] else d
  let d := if x.next.isSome then d.resolve ⟨.profile, 128 + a⟩ 0x0306 0 [] else d
  let d := if x.fol.isSome || x.folNext.isSome then d.disengage a else d
  let d := d.resolve ⟨.rest, a⟩ 0x0306 0 []
  if x.home ≠ .none then d.resolve ⟨.home, a⟩ 0x0306 0 [] else d

/-- ACTIVE clears when every driven axis has reached 0 (R175). -/
def Dev.hsgUpdate (d : Dev) : Dev :=
  if (List.range 64).any fun a => (d.ceAx a).hsgRamp then d else d.fsb R.CE_HSG_STATUS F.CE_HSG_STATUS_ACTIVE false

/-! ### Ends and starts of stops (R87, R91, R92) -/

/-- The legs are off and the brake is engaged, and the axis enters its final state (R91); commands that wait for the stop complete, with
0x0306 when a fault or STO ended it; ACTIVE of the generator clears with its last axis (R175); a less severe stop that came during the
ramp (wait number 64 + a) is answered with 0x0000 (R92), and a homing search that ran its class 2 stop is complete (R97). -/
def Dev.endStop (d : Dev) (a final : Nat) : Dev :=
  let homed := (d.ax a).home = .after
  let ref := (d.ax a).homeRef
  let d := d.modAx a fun x => { x with stop := none, enab := .none, motion := .hold, home := .none, vCmd := 0, aCmd := 0 }
  let d := ((d.modCe a fun x => { x with hsgRamp := false, hsgOwn := false }).fsb (R.CE_AX_STATUS a) F.CE_AX_STATUS_HSG false).hsgUpdate
  let d := if final = 2 then d else (d.axisHiz a).brake a false
  let d := d.setState a final
  let d := if homed then (if final = 2 then d.resolve ⟨.home, a⟩ 0 0 (words64 (ofS 64 ref)) else d.resolve ⟨.home, a⟩ 0x0306 0 []) else d
  (d.resolve ⟨.final, a⟩ (if final = 0 ∨ final = 2 then 0 else 0x0306) 0 (d.tickWords (laneOf a))).resolve
    ⟨.final, 64 + a⟩ 0 0 (d.tickWords (laneOf a))

/-- The stop class of a severity rank (R87, R94). -/
def rankClass (rank : Nat) : Nat := if rank ≤ 2 then 0 else if rank ≤ 4 then 1 else 2

/-- An event of severity `rank` with final state `final` reaches an axis (R85, R87, R98): an ENABLE that waits for its tick is not applied;
an active axis leaves its motion source and keeps the most severe event for the next tick of its lane; any other axis only records it.
A class 0 stop that overtakes a class 1 fault reaction ends in DISABLED, and AXIS_FAULT keeps its bit (DESIGN CHOICE, assumption log 51). -/
def Dev.stopAxis (d : Dev) (a rank final : Nat) : Dev :=
  let st := d.axState a
  if st = 0 then
    if (d.ax a).enab = .pending then (d.modAx a fun x => { x with enab := .none }).resolve ⟨.enable, a⟩ 0x0306 0 [] else d
  else if !d.active a then d
  else
    let r := (d.ax a).stop
    let old : Bool := match r with | some r => r.rank ≤ rank | none => false
    let same : Bool := match r with | some r => r.rank = rank | none => false
    if same then d.modCe a fun x => { x with hsgOwn := false }
    else if old then d else
    let d := d.modCe a fun x => { x with hsgOwn := false }
    let d := if st = 2 ∨ st = 3 then d.leaveMotion a (rankClass rank) else d
    let ramp := match r with | some r => r.ramp | none => true
    let final := if st = 1 ∧ final = 2 then 0 else final
    d.modAx a fun x => { x with stop := some { rank := rank, ramp := ramp, final := final } }

/-- A started group lets go of a member that a stop reaches (R99). -/
def Dev.leaveGroup (d : Dev) (a cls : Nat) : Dev := match d.groupOf a with | some g => d.groupStop g cls | none => d

/-- The stop that an axis has taken since the last tick of its lane takes effect (R85, R87, R91, R92, R98): an enabling sequence is aborted,
class 0 turns the legs off, and the others start their ramp or go on in their class. -/
def Dev.stopTick (d : Dev) (a : Nat) : Dev :=
  match (d.ax a).stop with
  | none => d
  | some r =>
    let cls := rankClass r.rank
    match d.axState a with
    | 1 => (d.resolve ⟨.enable, a⟩ 0x0306 0 []).endStop a r.final
    | 2 | 3 =>
      let d := ((d.leaveMotion a cls).leaveGroup a cls).fs (R.AXIS_STATUS a) F.AXIS_STATUS_STOP_CLASS cls
      if cls = 0 then d.endStop a r.final else d.setState a 4
    | 4 =>
      let d := d.fs (R.AXIS_STATUS a) F.AXIS_STATUS_STOP_CLASS cls
      if cls = 0 then d.endStop a r.final else d
    | _ => d

/-- An active axis is turned off at once, as by a stop of class 0 that waits for no tick (R93, R458); a fault reaction of class 0 that
waits for the tick is more severe, and ends in FAULTED (R87, R94). -/
def Dev.cutAxis (d : Dev) (a : Nat) : Dev :=
  if !d.active a then d.stopAxis a 2 0 else
  let final := match (d.ax a).stop with | some r => if r.rank ≤ 1 then r.final else 0 | none => 0
  let d := if d.axState a = 1 then d.resolve ⟨.enable, a⟩ 0x0306 0 [] else (d.leaveMotion a 0).leaveGroup a 0
  (d.fs (R.AXIS_STATUS a) F.AXIS_STATUS_STOP_CLASS 0).endStop a final

/-- The coupled gantry pair of an axis: its partner or leader while the pair is coupled (R133). -/
def Dev.gantryMate (d : Dev) (a : Nat) : Option Nat :=
  (List.range 8).findSome? fun j =>
    let c := R.INTERP_GANTRY_CFG j
    if d.fb c F.INTERP_GANTRY_CFG_EN then
      if d.fg c F.INTERP_GANTRY_CFG_LEADER = a then some (d.fg c F.INTERP_GANTRY_CFG_PARTNER)
      else if d.fg c F.INTERP_GANTRY_CFG_PARTNER = a then some (d.fg c F.INTERP_GANTRY_CFG_LEADER)
      else none
    else none

/-- An axis and, while it is coupled, its gantry mate (R133). -/
def Dev.withMate (d : Dev) (a : Nat) : List Nat :=
  match d.gantryMate a with | some b => [a, b] | none => [a]

/-! ### Faults (R94) -/

/-- A fault bit of an active axis is set and its reaction runs (R94); `bit` is the AXIS_FAULT bit, FOLLOW and HOME_FAIL
react with class 1 and the others with class 0.  A bit that is newly set strobes the snapshot where SNAP_AXMASK names the
axis (R330).  The mate of a coupled gantry runs the same reaction (R133).  An ENCODER
fault clears HOMED (R97). -/
def Dev.axisFault (d : Dev) (a bit : Nat) : Dev :=
  if !d.active a then d else
  let d := if d.bit (R.AXIS_FAULT a) bit then d else (d.setFlag (R.AXIS_FAULT a) bit (64 + a)).strobeAxis a
  let d := if bit = 2 then d.fsb (R.AXIS_STATUS a) F.AXIS_STATUS_HOMED false else d
  d.each (d.withMate a) fun d b => d.stopAxis b (if bit = 3 ∨ bit = 6 then 3 else 1) 5

/-- The internal trip line of an axis acts (R187, R194): its legs go high-impedance and it takes OVERCURRENT. -/
def Dev.ocTrip (d : Dev) (a : Nat) : Dev := (d.axisHiz a).axisFault a 1

/-! ### The hardware stop generator (R173–R175) -/

/-- The generator takes over one axis in READY, MOVING or STOPPING that it does not drive yet (R173, R174).  A device-wide start is a
stop of class 1 until the firmware applies its own class (R93); an axis start runs that of WD_CLASS, and with class 0 the legs go off at
the next tick. -/
def Dev.hsgTake (cls : Nat) (axisStart : Bool) (d : Dev) (a : Nat) : Dev :=
  let rank := [2, 4, 5].getD cls 5
  let v := (d.ax a).vCmd
  let running := (d.ax a).stop.isSome
  let d := if cls = 0 then d.stopAxis a 2 0 else
    let more : Bool := match (d.ax a).stop with | some r => rank < r.rank | none => true
    if !more then d else
    let d := (if running then d else d.leaveMotion a cls).modCe a fun x => { x with hsgOwn := !axisStart }
    (d.modAx a fun x =>
      { x with stop := some { rank := rank, ramp := true, final := if cls = 2 then 2 else 0 }, vCmd := v }).fs
      (R.AXIS_STATUS a) F.AXIS_STATUS_STOP_CLASS cls
  let d := (d.modCe a fun x => { x with hsgRamp := true }).modAx a fun x => { x with gCorr := 0 }
  let d := d.fsb (R.CE_AX_STATUS a) F.CE_AX_STATUS_HSG true
  if cls = 0 then d else d.setState a 4

/-- The axes of a start that the generator takes over: in READY, MOVING or STOPPING and not driven already (R173). -/
def Dev.hsgNew (d : Dev) (l : List Nat) : List Nat :=
  l.filter fun a => 2 ≤ d.axState a && d.axState a ≤ 4 && !d.fb (R.CE_AX_STATUS a) F.CE_AX_STATUS_HSG

/-- A start of the hardware stop generator on some axes (R173); a start that takes over no axis changes nothing, and
during a motion-domain halt the generator does not act (R511). -/
def Dev.hsgStart (d : Dev) (l : List Nat) (source cls : Nat) (axisStart : Bool) : Dev :=
  let new := d.hsgNew l
  if new.isEmpty || d.pwm.halted then d else
  let d := d.each new (Dev.hsgTake cls axisStart)
  ((d.fsb R.CE_HSG_STATUS F.CE_HSG_STATUS_ACTIVE true).fs R.CE_HSG_STATUS F.CE_HSG_STATUS_SOURCE source).wr64 R.CE_HSG_TIME d.ns

/-- A device-wide start (R173): every axis slot is named. -/
def Dev.hsgAll (d : Dev) (source : Nat) : Dev := d.hsgStart (List.range 64) source 1 false

/-! ### Binding (R82, R97) -/

/-- STO is held on a bank (R440). -/
def Dev.stoHeld (d : Dev) (n : Nat) : Bool := d.bit R.SAFETY_STATUS (F.SAFETY_STATUS_STO.lo + n)

/-- A change of AXIS_BIND or AXIS_BIND_IN has been applied (R82, R97): the redefinition is dropped, HOMED clears, and a bound
axis of a bank on which STO is held is in SAFE_OFF. -/
def Dev.rebound (d : Dev) (a : Nat) : Dev :=
  let d := (d.modAx a fun x => { x with shift := 0 }).fsb (R.AXIS_STATUS a) F.AXIS_STATUS_HOMED false
  let d := d.laneUpdate (laneOf a)
  if d.bound a && d.stoHeld (laneOf a) then d.setState a 6 else d

/-! ### Enabling (R89) -/

/-- The position loop takes the actual position as its command, and the axis enters READY. -/
def Dev.toReady (d : Dev) (a : Nat) : Dev :=
  let d := d.modAx a fun x => { x with pCmd := d.actual a, vCmd := 0, aCmd := 0, motion := .hold, enab := .none, gCorr := 0 }
  (d.setState a 2).resolve ⟨.enable, a⟩ 0 0 (d.tickWords (laneOf a))

/-- The brake step of the enabling sequence: with a brake, it is released and BRAKE_T runs; otherwise the axis is READY. -/
def Dev.enableBrake (d : Dev) (a : Nat) : Dev :=
  if d.fb (R.AXIS_REACT a) F.AXIS_REACT_BRAKE_EN then (d.brake a true).modAx a fun x => { x with enab := .brake }
  else d.toReady a

/-- An over-current, stuck or alternating condition of an input that began earlier is present, and its check is on (R187, R194). -/
def Dev.inputHolds (d : Dev) (i : Nat) : Bool :=
  let x := tabGet d.cfe.sd i
  let on (f : Fld) : Bool := d.fb (R.CFE_SD_CFG i) f
  on F.CFE_SD_CFG_EN && (on F.CFE_SD_CFG_OC_EN && (x.ocNow || (x.ocW && on F.CFE_SD_CFG_OC_W))
    || (x.stuckNow && on F.CFE_SD_CFG_STUCK_EN) || (x.altNow && on F.CFE_SD_CFG_ALT_EN))

/-- An axis that has just become active: a latch that guards it gives it the TRIP fault (R218), and a condition that is present already trips
it at the next captured bit (R187, R194). -/
def Dev.activationTrip (d : Dev) (a : Nat) : Dev :=
  let d := if (d.axisTrips a).any d.latched then d.axisFault a 0 else d
  if (d.curIns a).any d.inputHolds then d.ocTrip a else d

/-- The application of an accepted ENABLE at its tick (R89): the cascade starts with its integrators and delay lines at zero, and the
alignment or brake step starts. -/
def Dev.enableApply (d : Dev) (a : Nat) : Dev :=
  if (d.ax a).enab ≠ .pending || d.axState a ≠ 0 then d else
  let d := d.modCe a fun x => { x with
    iv := {}, iF := {}, jd := {}, jq := {}, s := 1, n0 := {}, n1 := {}, feN := 0, due := [], pPrev := d.actual a
    vRef := {}, vAct := {}, uv := {}, h4Prev := none }
  let d := (d.modAx a fun x => { x with enab := .align, motion := .hold, vCmd := 0, aCmd := 0, enabNs := d.ns }).setState a 1
  if d.fg (R.AXIS_COMM_CFG a) F.AXIS_COMM_CFG_COMM_SRC = 1 then d else d.enableBrake a

/-! ### STO (R85, R440) -/

/-- STO puts a bound axis into SAFE_OFF, whatever else reaches it (R87, R440). -/
def Dev.safeOff (d : Dev) (a : Nat) : Dev :=
  if !d.bound a || d.axState a = 6 then d else
  let d := if d.axState a = 1 ∨ (d.ax a).enab = .pending then d.resolve ⟨.enable, a⟩ 0x0306 0 [] else d
  let d := if 2 ≤ d.axState a && d.axState a ≤ 4 then d.leaveMotion a 0 else d
  d.endStop a 6

/-- STO is released (R85): to FAULTED when any AXIS_FAULT bit is set, otherwise to DISABLED. -/
def Dev.safeRelease (d : Dev) (a : Nat) : Dev :=
  if d.axState a = 6 then d.setState a (if d.rd (R.AXIS_FAULT a) = 0 then 0 else 5) else d

end Sys2Proof.Machine
end

