-- ==== Sys2Proof/Machine/EncOps.lean ====
section
/-!
DEFINITION. The operations of the encoder ports, the Fix unit and the compare outputs (08): delivered samples,
position fixes, targets and firings.
-/

namespace Sys2Proof.Machine

open Sys2Proof

/-! ### Ports -/

def Dev.port (d : Dev) (e : Nat) : Port := tabGet d.enc.ports e
def Dev.modPort (d : Dev) (e : Nat) (f : Port → Port) : Dev := { d with enc := { d.enc with ports := tabMod d.enc.ports e f } }
def Dev.fix (d : Dev) (i : Nat) : FixIn := tabGet d.enc.fix i
def Dev.modFix (d : Dev) (i : Nat) (f : FixIn → FixIn) : Dev := { d with enc := { d.enc with fix := tabMod d.enc.fix i f } }
def Dev.pco (d : Dev) (o : Nat) : Pco := tabGet d.enc.pco o
def Dev.modPco (d : Dev) (o : Nat) (f : Pco → Pco) : Dev := { d with enc := { d.enc with pco := tabMod d.enc.pco o f } }

/-- MODE of a port: 0 off, 1 quadrature, 2 SSI, 3 BiSS-C (R225). -/
def Dev.encMode (d : Dev) (e : Nat) : Nat := d.fg (R.ENC_CFG e) F.ENC_CFG_MODE

/-- The axes bound to a port. -/
def Dev.portAxes (d : Dev) (e : Nat) : List Nat :=
  (laneAxes (e / 16)).filter fun a => d.bound a && d.fg (R.AXIS_BIND a) F.AXIS_BIND_ENC = e

/-- The port of a bound axis. -/
def Dev.portOf (d : Dev) (a : Nat) : Nat := d.fg (R.AXIS_BIND a) F.AXIS_BIND_ENC

/-- A position wraps in two's complement at the range of R4 (R232). -/
def wrap64 (p : Int) : Int := toS 64 (ofS 64 p)

/-- The bound F of a serial frame in ns (R233). -/
def Dev.frameBound (d : Dev) (e : Nat) : Nat :=
  let start := d.fg (R.ENC_TIMING e) F.ENC_TIMING_START_OFS
  let tmo := d.fg (R.ENC_TIMING e) F.ENC_TIMING_TMO
  let half := d.fg (R.ENC_SER e) F.ENC_SER_HALF
  let bits := d.fg (R.ENC_SER e) F.ENC_SER_DATA_BITS + 1
  match d.encMode e with
  | 2 => (start + d.fg (R.ENC_DLY e) F.ENC_DLY_SAMPLE_DLY + tmo) * 5
      + (bits + d.fg (R.ENC_CFG e) F.ENC_CFG_PARITY + 1) * half * 10
  | 3 => (start + tmo) * 5
      + (d.fg (R.ENC_TIMING e) F.ENC_TIMING_ACK_MAX + 2 + bits + d.fg (R.ENC_CRC e) F.ENC_CRC_CRC_LEN) * half * 10 + 2000
  | _ => 0

/-- F is T or more for the port's lane (R233). -/
def Dev.frameTooLong (d : Dev) (e : Nat) : Bool :=
  2 ≤ d.encMode e && 5 * d.tickCounts (e / 16) ≤ 2 * d.frameBound e

/-- A cause bit of ENC_STATUS is set and source 192 + e raised (R235, R252). -/
def Dev.encFlag (d : Dev) (e : Nat) (f : Fld) : Dev := d.setFlag (R.ENC_STATUS e) f.lo (192 + e)

/-! ### Position fixes (R241, R244) -/

/-- The instant of a kept sample in half nanoseconds; for a MODE 1 port less the mean filter delay (R241). -/
def Dev.sampleHalfNs (d : Dev) (e : Nat) (x : Sample) : Int :=
  2 * (x.time : Int) - (if d.encMode e = 1 then (2 * (d.fg (R.ENC_CFG e) F.ENC_CFG_FILT : Int) + 3) * 5 else 0)

/-- The two kept samples around an instant in half nanoseconds, the later one first. -/
def Dev.around (d : Dev) (e : Nat) (t : Int) (l : List Sample) : Option (Sample × Sample) :=
  match l with
  | y :: x :: r =>
    if d.sampleHalfNs e x ≤ t ∧ t < d.sampleHalfNs e y then some (y, x) else d.around e t (x :: r)
  | _ => none

/-- p_fix of an axis at an instant in half nanoseconds, where the entry is valid (R241). -/
def Dev.pfix (d : Dev) (a : Nat) (t : Int) : Option Int :=
  let e := d.portOf a
  match d.around e t (d.port e).hist with
  | none => none
  | some (y, x) =>
    if y.good && x.good then
      let tx := d.sampleHalfNs e x
      some (x.pos + roundDiv ((y.pos - x.pos) * (t - tx)) (d.sampleHalfNs e y - tx).toNat + (d.ax a).shift)
    else none

/-- A sample after an instant in half nanoseconds has completed on the port of an axis. -/
def Dev.sampleAfter (d : Dev) (a : Nat) (t : Int) : Bool :=
  match (d.port (d.portOf a)).hist with
  | [] => false
  | y :: _ => t < d.sampleHalfNs (d.portOf a) y

/-- t_L of the forming record of a fix input, in half nanoseconds. -/
def Dev.latchHalfNs (d : Dev) (i : Nat) : Int := 2 * ((d.rd64 (R.FIX_REC_STAMP i) : Int) + (d.fix i).ofs)

/-- The entries of a forming record whose sample k + 1 has completed are written (R241, R242). -/
def Dev.fixEntries (d : Dev) (i : Nat) : Dev :=
  let t := d.latchHalfNs i
  let ready := (d.fix i).need.filter fun a => d.sampleAfter a t
  let d := d.each ready fun d a =>
    match d.pfix a t with
    | some p => (d.wrS (R.FIX_REC_POS i a) p).setBit (R.FIX_REC_VALID i) a true
    | none => (d.wr64 (R.FIX_REC_POS i a) 0).setBit (R.FIX_REC_VALID i) a false
  d.modFix i fun x => { x with need := x.need.filter fun a => !ready.contains a }

/-- A homing search whose switch edge is latched takes its reference point when the sample after the stamp completes (R244); where
R241 gives no valid entry the reference point is a free value. -/
def Dev.homeFix (d : Dev) (a : Nat) : Dev :=
  match (d.ax a).homeStamp with
  | none => d
  | some t =>
    if (d.ax a).home = .toSwitch && d.sampleAfter a (2 * t) then
      let p := (d.pfix a (2 * t)).getD (Config.freeInt d.fresh)
      d.nextFresh.modAx a fun x => { x with home := .found, homeRef := p, homeStamp := none }
    else d

/-! ### Compare outputs (R245–R249) -/

/-- Target m of an output, Q40.24 (R245). -/
def Dev.target (d : Dev) (o m : Nat) : Int :=
  let first := d.fg (R.PCO_LIST o) F.PCO_LIST_FIRST
  if d.fb (R.PCO_CFG o) F.PCO_CFG_MODE then
    let x0 := d.rdS (R.COMPARE first)
    let st := d.rdS (R.COMPARE (first + 1))
    if d.fb (R.PCO_CFG o) F.PCO_CFG_DIR then x0 - m * st else x0 + m * st
  else d.rdS (R.COMPARE (first + m))

/-- The number of targets. -/
def Dev.targets (d : Dev) (o : Nat) : Nat := d.fg (R.PCO_LIST o) F.PCO_LIST_COUNT

/-- The output is enabled. -/
def Dev.pcoOn (d : Dev) (o : Nat) : Bool := d.fb (R.PCO_STATUS o) F.PCO_STATUS_ENABLED

/-- The axis of an output. -/
def Dev.pcoAxis (d : Dev) (o : Nat) : Nat := d.fg (R.PCO_CFG o) F.PCO_CFG_AXIS

/-- The position that an output compares: the counter's (SRC 0) or the latest sample's (SRC 1), with the redefinition. -/
def Dev.pcoPos (d : Dev) (o : Nat) : Int :=
  let a := d.pcoAxis o
  if d.fb (R.PCO_CFG o) F.PCO_CFG_SRC then d.actual a
  else (d.port (d.portOf a)).counter * 2 ^ 24 + (d.ax a).shift

/-- Position `p` has reached or passed target `x` in the sense DIR of the output. -/
def Dev.reached (d : Dev) (o : Nat) (p x : Int) : Bool :=
  if d.fb (R.PCO_CFG o) F.PCO_CFG_DIR then p ≤ x else x ≤ p

/-- The first target from `m` on that position `p` has not passed; `n` bounds the targets left. -/
def Dev.firstAhead (d : Dev) (o : Nat) (p : Int) (m n : Nat) : Nat :=
  match n with
  | 0 => m
  | k + 1 => if d.reached o p (d.target o m) then d.firstAhead o p (m + 1) k else m

/-- The predicted instant at which target `x` of an output is reached (R247), in ns; none while the axis does not move in
the sense DIR or two delivered positions are missing. -/
def Dev.predict (d : Dev) (o : Nat) (x : Int) : Option Nat :=
  let a := d.pcoAxis o
  match (d.port (d.portOf a)).hist with
  | y :: z :: _ =>
    let dp := y.pos - z.pos
    let dt : Int := (y.time : Int) - z.time
    let fwd : Bool := if d.fb (R.PCO_CFG o) F.PCO_CFG_DIR then dp < 0 else 0 < dp
    if fwd then some ((y.time : Int) + Int.fdiv ((x - (y.pos + (d.ax a).shift)) * dt) dp).toNat else none
  | _ => none

/-- The armed target of an output, if any, gets its prediction from the latest sample. -/
def Dev.pcoPredict (d : Dev) (o : Nat) : Dev :=
  let t := if (d.pco o).armed then d.predict o (d.target o (d.fg (R.PCO_STATUS o) F.PCO_STATUS_NEXT)) else none
  d.modPco o fun x => { x with pred := t }

/-- After a firing the next target is armed, or the list is done or waits for the return past x0 (R245). -/
def Dev.pcoNextTarget (d : Dev) (o : Nat) : Dev :=
  let m := d.fg (R.PCO_STATUS o) F.PCO_STATUS_NEXT
  if m + 1 < d.targets o then (d.fs (R.PCO_STATUS o) F.PCO_STATUS_NEXT (m + 1)).pcoPredict o
  else if d.fb (R.PCO_CFG o) F.PCO_CFG_REPEAT then
    (d.fs (R.PCO_STATUS o) F.PCO_STATUS_NEXT 0).modPco o fun x => { x with armed := false, back := true, pred := none }
  else
    (((d.modPco o fun x => { x with armed := false, pred := none }).fsb (R.PCO_STATUS o) F.PCO_STATUS_DONE true)).raise (160 + o)

/-- The armed target of an output fires (R245, R248): a pulse starts, or the running one is prolonged, and the list goes on. -/
def Dev.pcoFire (d : Dev) (o : Nat) : Dev :=
  let d := if (d.pco o).active then (d.satInc (R.PCO_STATUS o) F.PCO_STATUS_OVERLAP).raise (160 + o)
    else (d.modPco o fun x => { x with active := true }).modFix o fun x => { x with pco := some d.ns }
  d.pcoNextTarget o

/-- With REPEAT at 1, target 0 is armed again once the position has returned past x0 against DIR (R245). -/
def Dev.pcoReturn (d : Dev) (o : Nat) : Dev :=
  if d.pcoOn o && (d.pco o).back && !d.reached o (d.pcoPos o) (d.target o 0) then
    (d.modPco o fun x => { x with back := false, armed := true }).pcoPredict o
  else d

/-- Every target whose predicted instant is already past fires at once and counts in LATE (R247); `n` bounds them. -/
def Dev.pcoLate (d : Dev) (o n : Nat) : Dev :=
  match n with
  | 0 => d
  | k + 1 =>
    match (d.pco o).pred with
    | none => d
    | some t =>
      if t < d.ns then
        ((((d.satInc (R.PCO_STATUS o) F.PCO_STATUS_LATE).raise (160 + o))).pcoFire o).pcoLate o k
      else d

/-- The outputs with a given SRC whose axis is bound to a port. -/
def Dev.portOutputs (d : Dev) (e : Nat) (src : Bool) : List Nat :=
  (List.range 16).filter fun o => d.pcoOn o && (d.portAxes e).contains (d.pcoAxis o) && d.fb (R.PCO_CFG o) F.PCO_CFG_SRC == src

/-- An output stops: a running pulse finishes, no target is armed (R249). -/
def Dev.pcoStop (d : Dev) (o : Nat) : Dev :=
  (d.modPco o fun x => { x with armed := false, back := false, pred := none }).fsb (R.PCO_STATUS o) F.PCO_STATUS_ENABLED false

/-! ### Samples (R232, R234–R236) -/

/-- The position that a bad sample delivers (R236). -/
def extrapolate (h : List Sample) : Int :=
  match h with
  | y :: z :: _ => wrap64 (2 * y.pos - z.pos)
  | [y] => y.pos
  | [] => 0

/-- A sample of a port completes (R234–R236): `pos` is the position that was read, `bad` says that a cause of R235 has occurred
already; the DELTA check is made here. -/
def Dev.deliver (d : Dev) (e time : Nat) (pos : Option Int) (bad : Bool) : Dev :=
  let h := (d.port e).hist
  let lim := (d.rd (R.ENC_MAXDELTA e)).toNat
  let delta := match pos, h with
    | some p, y :: _ => lim ≠ 0 && lim * 2 ^ 24 < (wrap64 (p - y.pos)).natAbs
    | _, _ => false
  let d := if delta then d.encFlag e F.ENC_STATUS_DELTA else d
  let good := !bad && !delta && pos.isSome
  let p := if good then pos.getD 0 else extrapolate h
  let d := d.modPort e fun x => { x with
    hist := ({ pos := p, time := time, good := good } :: x.hist).take 16
    badRun := if good then 0 else x.badRun + 1
    goodRun := if good then x.goodRun + 1 else 0 }
  let d := ((d.wrS (R.ENC_POS e) p).wr64 (R.ENC_TIME e) time).fs (R.ENC_STATUS e) F.ENC_STATUS_BADRUN (min 15 (d.port e).badRun)
  let d := d.each ((List.range 16).filter fun i => d.fb (R.FIX_STATUS i) F.FIX_STATUS_FORMING) Dev.fixEntries
  let d := d.each (d.portAxes e) Dev.homeFix
  if good then
    d.each (d.portOutputs e true) fun d o => ((d.pcoReturn o).pcoPredict o).pcoLate o 1024
  else d

/-- The first encoder clock at or after the tick of a lane, in ns: the tick itself, or the tick plus one PWM clock (R234).  Encoder clocks
fall on the even PWM clocks (assumption log 55). -/
def Dev.encClockNs (d : Dev) (n : Nat) : Nat :=
  let due := tabGet d.tickDue n
  let late : Int := (d.clocks : Int) - due - due % 2
  ((d.time : Int) - late * (5 * 2 ^ 31 + d.rate)).toNat / 2 ^ 32

/-- The sample of a MODE 1 port at a tick (R234, R235). -/
def Dev.quadSample (d : Dev) (e : Nat) : Dev :=
  let x := d.port e
  (d.modPort e fun x => { x with qerr := false }).deliver e (d.encClockNs (e / 16)) (some (wrap64 (x.counter * 2 ^ 24))) x.qerr

/-- A serial port at a tick (R235, R238): a frame that still runs makes this tick's sample bad; a LISTEN port that has seen no
frame since its last tick counts NOT_IDLE. -/
def Dev.serialTick (d : Dev) (e : Nat) : Dev :=
  if (d.port e).running then ((d.encFlag e F.ENC_STATUS_OVERLAP).modPort e fun x => { x with due := false }).deliver e d.ns none true
  else
    let d := if d.fb (R.ENC_CFG e) F.ENC_CFG_LISTEN && (d.port e).due then
        (d.encFlag e F.ENC_STATUS_NOT_IDLE).deliver e d.ns none true else d
    d.modPort e fun x => { x with due := true }

/-- Every port of a bank at a servo tick of its lane (R234). -/
def Dev.portsTick (d : Dev) (n : Nat) : Dev :=
  d.each ((List.range 16).map (16 * n + ·)) fun d e =>
    match d.encMode e with
    | 0 => d
    | 1 => d.quadSample e
    | _ => d.serialTick e

/-- A port is enabled in a mode (R227, R232): its samples and references start anew, and in MODE 1 the counter and ENC_POS start at 0 and the
levels at the balls, which the port holds, are the accepted ones. -/
def Dev.portEnable (d : Dev) (e : Nat) : Dev :=
  let d := d.modPort e fun x => { x with
    hist := [], ref := none, badRun := 0, goodRun := 0, qerr := false, running := false, due := false
    counter := if d.encMode e = 1 then 0 else x.counter }
  if d.encMode e = 1 then d.wr64 (R.ENC_POS e) 0 else d

/-! ### Serial words (R230–R232) -/

/-- The binary number of a Gray code of `n` bits. -/
def grayDecode (n w : Nat) : Nat :=
  (List.range n).foldl (fun acc i =>
    let k := n - 1 - i
    acc + (if Nat.testBit acc (k + 1) != Nat.testBit w k then 2 ^ k else 0)) 0

/-- The remainder of `n` data bits, first bit the most significant, by a polynomial of degree `len` whose lower terms are
`poly`, from start value 0 (R231). -/
def bissCrc (len poly n w : Nat) : Nat :=
  (List.range n).foldl (fun c i =>
    let b := Nat.testBit w (n - 1 - i)
    let top := Nat.testBit c (len - 1)
    let c2 := (2 * c) % 2 ^ len
    if top != b then c2 ^^^ (poly % 2 ^ len) else c2) 0

/-- The number of ones in the lower `n` bits. -/
def popcount (n w : Nat) : Nat := ((List.range n).filter fun i => w.testBit i).length

/-- The position that a good word gives a port (R232), with the word itself. -/
def Dev.wordPos (d : Dev) (e w : Nat) : Int :=
  let width := d.fg (R.ENC_SER e) F.ENC_SER_WIDTH
  let neg := d.fb (R.ENC_CFG e) F.ENC_CFG_DIR
  match (d.port e).ref with
  | none => wrap64 ((if neg then -(w : Int) else w) * 2 ^ 24)
  | some (w0, p0) =>
    let dw := toS width (ofS width ((w : Int) - w0))
    wrap64 (p0 + (if neg then -dw else dw) * 2 ^ 24)

end Sys2Proof.Machine
end

