-- ==== Sys2Proof/Machine/Curve.lean ====
section
/-!
DEFINITION. Arithmetic of motion (04): integer roots, sines and angles in fixed point, and S-curves: the velocity change, the seven-phase
move from rest to rest (R114), and the move of a MOVE_AXIS profile (R125).  Positions are in 2^−24 counts, velocities, accelerations and
jerks in 2^−16 counts per second, second squared and second cubed, durations in ns.  Durations are rounded up to whole ns, so that no limit
is passed, and a curve ends exactly at its end (assumption log 52).
-/

namespace Sys2Proof.Machine

open Sys2Proof

/-! ### Roots -/

/-- The integer square root of a number below 2^(2 × bits). -/
def isqrt (bits n : Nat) : Nat :=
  (List.range bits).foldl (fun r i => let t := r + 2 ^ (bits - 1 - i); if t * t ≤ n then t else r) 0

/-- The integer cube root of a number below 2^(3 × bits). -/
def icbrt (bits n : Nat) : Nat :=
  (List.range bits).foldl (fun r i => let t := r + 2 ^ (bits - 1 - i); if t * t * t ≤ n then t else r) 0

/-- The quotient rounded up. -/
def ceilDiv (a b : Nat) : Nat := (a + b - 1) / b

/-- Roots rounded up. -/
def csqrt (n : Nat) : Nat := let r := isqrt 96 n; if r * r = n then r else r + 1
def ccbrt (n : Nat) : Nat := let r := icbrt 64 n; if r * r * r = n then r else r + 1

/-! ### Sines and angles -/

/-- π × 2^60. -/
def pi60 : Int := 3622009729038561421

/-- sin of `x` (radians × 2^60, 0 to π/2) × 2^60, by its power series. -/
def sinSeries (x : Int) : Int :=
  let x2 := x * x / 2 ^ 60
  ((List.range 11).foldl (fun (acc : Int × Int) k =>
    (acc.1 + acc.2, -(acc.2 * x2 / 2 ^ 60) / ((2 * k + 2) * (2 * k + 3) : Nat))) (0, x)).1

/-- sin of an angle in 2^−40 turns, × 2^60. -/
def sinTurn (a : Int) : Int :=
  let u := ofS 40 a
  let r := u % 2 ^ 38
  let x (r : Nat) : Int := (r : Int) * pi60 / 2 ^ 39
  match u / 2 ^ 38 with
  | 0 => sinSeries (x r)
  | 1 => sinSeries (x (2 ^ 38 - r))
  | 2 => -sinSeries (x r)
  | _ => -sinSeries (x (2 ^ 38 - r))

/-- cos of an angle in 2^−40 turns, × 2^60. -/
def cosTurn (a : Int) : Int := sinTurn (a + 2 ^ 38)

/-- The angle, in 2^−40 turns, of a vector of the first quadrant, by bisection. -/
def quadrantAngle (x y : Int) : Nat :=
  (List.range 38).foldl (fun (r : Nat) i =>
    let t : Nat := r + 2 ^ (37 - i)
    if sinTurn (t : Int) * x ≤ cosTurn (t : Int) * y then t else r) 0

/-- The angle of a vector in 2^−40 turns. -/
def angleOf (x y : Int) : Nat :=
  if 0 < x ∧ 0 ≤ y then quadrantAngle x y
  else if x ≤ 0 ∧ 0 < y then 2 ^ 38 + quadrantAngle y (-x)
  else if x < 0 ∧ y ≤ 0 then 2 * 2 ^ 38 + quadrantAngle (-x) (-y)
  else if 0 ≤ x ∧ y < 0 then 3 * 2 ^ 38 + quadrantAngle (-y) x
  else 0

/-- The length of a vector. -/
def vecLen (v : Int × Int) : Nat := isqrt 160 (v.1.natAbs ^ 2 + v.2.natAbs ^ 2)

/-! ### Velocity changes -/

/-- The durations of a velocity change by `dv` from and to zero acceleration: of each jerk phase, and of the phase at constant acceleration. -/
def changeTimes (dv acc jerk : Nat) : Nat × Nat :=
  let j := max 1 jerk
  let a := max 1 acc
  if a * a ≤ dv * j then
    let tj := max 1 (ceilDiv (a * 10 ^ 9) j)
    (tj, ceilDiv (dv * 10 ^ 9) a - tj)
  else (max 1 (csqrt (dv * 10 ^ 18 / j)), 0)

/-- The shape of a velocity change of duration 2·tj + ta at time `t`: distance × 6·tj·(tj + ta), velocity × 2·tj·(tj + ta) and acceleration ×
tj·(tj + ta), for a change by 1 a ns. -/
def shape (tj ta t : Nat) : Nat × Nat × Nat :=
  let x := tj + ta
  let total := x + tj
  if t ≤ tj then (t ^ 3, t ^ 2, t)
  else if t ≤ x then
    let u := t - tj
    (tj * (tj ^ 2 + 3 * tj * u + 3 * u ^ 2), tj * (tj + 2 * u), tj)
  else
    let r := total - min t total
    (3 * tj * x * (total - 2 * r) + r ^ 3, 2 * tj * x - r ^ 2, r)

/-! ### The seven-phase move from rest to rest (R114) -/

/-- The time-optimal curve from `p0` to `p1` within a velocity, an acceleration and a jerk. -/
def curveOf (p0 p1 vmax amax jmax : Int) : SCurve :=
  let dist := (p1 - p0).natAbs
  let v := max 1 vmax.toNat * 256
  let a := max 1 amax.toNat
  let j := max 1 jmax.toNat
  if dist = 0 then { p0 := p0, p1 := p1, tj := 1, ta := 0, tv := 0, total := 0 } else
  let (tj, ta) := changeTimes (v / 256) a j
  let tt := ceilDiv (dist * 10 ^ 9) v
  if 2 * tj + ta ≤ tt then { p0 := p0, p1 := p1, tj := tj, ta := ta, tv := tt - (2 * tj + ta), total := tt + 2 * tj + ta }
  else
    let tj := max 1 (ceilDiv (a * 10 ^ 9) j)
    let x := ceilDiv (csqrt (tj * tj + 4 * (dist * 10 ^ 18 / (a * 256))) - tj) 2
    let (tj, ta) := if tj ≤ x then (tj, x - tj) else (max 1 (ccbrt (dist * 10 ^ 27 / (2 * j * 256))), 0)
    { p0 := p0, p1 := p1, tj := tj, ta := ta, tv := 0, total := 2 * (2 * tj + ta) }

/-- The own duration of a curve, before it is stretched. -/
def SCurve.own (c : SCurve) : Nat := if c.p0 = c.p1 then 0 else 2 * (2 * c.tj + c.ta) + c.tv

/-- Position, velocity and acceleration of a curve at time `num / den` ns; a curve whose total is longer than its own duration is stretched
in time. -/
def SCurve.at' (c : SCurve) (num den : Nat) : Int × Int × Int :=
  let own := c.own
  if own = 0 ∨ c.total * den ≤ num then (c.p1, 0, 0) else
  -- time in units of 1 / (den × total) of the curve's own ns
  let u := den * c.total
  let t := num * own
  let dist := c.p1 - c.p0
  let rise := 2 * c.tj + c.ta
  let x := c.tj + c.ta
  let q := 6 * c.tj * x * (rise + c.tv)
  let up (t : Nat) : Nat × Nat × Nat := shape (c.tj * u) (c.ta * u) t
  let (s, w, b) : Nat × Nat × Int :=
    if t ≤ rise * u then let y := up t; (y.1, y.2.1, (y.2.2 : Int))
    else if t ≤ (rise + c.tv) * u then
      (3 * c.tj * x * (2 * t - rise * u) * u ^ 2, 2 * c.tj * x * u ^ 2, 0)
    else let y := up (own * u - t); (q * u ^ 3 - y.1, y.2.1, -(y.2.2 : Int))
  -- the stretch own / total slows velocity, and acceleration twice
  (c.p0 + roundDiv (dist * s) (q * u ^ 3),
   roundDiv (dist * (3 * w : Nat) * 10 ^ 9 * own) (q * u ^ 2 * 256 * c.total),
   roundDiv (dist * 6 * b * 10 ^ 18 * (own * own : Nat)) (q * u * 256 * (c.total * c.total)))

/-- The largest time scale, in 0.01 %, at which a curve stays within a velocity, an acceleration and a jerk (R119). -/
def SCurve.cap (c : SCurve) (vmax amax jmax : Int) : Nat :=
  let dist := (c.p1 - c.p0).natAbs
  let own := c.own
  if own = 0 then 20000 else
  let x := c.tj + c.ta
  let run := 2 * c.tj + c.ta + c.tv
  let t := c.total
  min (10 ^ 4 * (vmax.toNat * 256 * run * t) / (dist * 10 ^ 9 * own))
    (min (isqrt 96 (10 ^ 8 * (amax.toNat * 256 * run * x * t ^ 2) / (dist * 10 ^ 18 * own ^ 2)))
      (icbrt 64 (10 ^ 12 * (jmax.toNat * 256 * run * x * c.tj * t ^ 3) / (dist * 10 ^ 27 * own ^ 3))))

/-! ### The move of a MOVE_AXIS profile (R125) -/

/-- The move from a position, velocity and acceleration: the acceleration goes to 0 at the jerk limit, the velocity to `v1`, and for a
target position a seven-phase curve follows from rest; from rest the move is that curve (assumption log 52). -/
def moveOf (p v a : Int) (v1 : Int) (target : Option Int) (vmax amax jmax : Int) : Move :=
  let j := max 1 jmax.toNat
  let t0 := ceilDiv (a.natAbs * 10 ^ 9) j
  let va := v + roundDiv (a * t0) (2 * 10 ^ 9)
  let pa := p + roundDiv (256 * (3 * v * t0 * 10 ^ 9 + a * t0 * t0)) (3 * 10 ^ 18)
  let (tj, ta) := if va = v1 then (0, 0) else changeTimes (v1 - va).natAbs amax.toNat j
  let pb := pa + roundDiv (256 * (va + v1) * (2 * tj + ta : Nat)) (2 * 10 ^ 9)
  { p0 := p, v0 := v, a0 := a, t0 := t0, pa := pa, va := va, v1 := v1, tj := tj, ta := ta, pb := pb
    curve := target.map fun q => curveOf pb q vmax amax jmax }

/-- The duration of a move up to its target. -/
def Move.total (m : Move) : Nat := m.t0 + (2 * m.tj + m.ta) + (match m.curve with | some c => c.total | none => 0)

/-- Position, velocity and acceleration of a move after `t` ns; one without a target position runs on at its velocity. -/
def Move.at' (m : Move) (t : Nat) : Int × Int × Int :=
  let t2 := 2 * m.tj + m.ta
  if t < m.t0 then
    let i : Int := t
    let n : Int := m.t0
    (m.p0 + roundDiv (256 * (6 * m.v0 * i * n * 10 ^ 9 + 3 * m.a0 * i * i * n - m.a0 * i * i * i)) (6 * m.t0 * 10 ^ 18),
     m.v0 + roundDiv (m.a0 * (2 * i * n - i * i)) (2 * m.t0 * 10 ^ 9),
     roundDiv (m.a0 * (n - i)) m.t0)
  else if t < m.t0 + t2 then
    let u := t - m.t0
    let x := m.tj + m.ta
    let (s, w, b) := shape m.tj m.ta u
    let dv := m.v1 - m.va
    (m.pa + roundDiv (256 * (m.va * u * (6 * m.tj * x : Nat) + dv * s)) (6 * m.tj * x * 10 ^ 9),
     m.va + roundDiv (dv * w) (2 * m.tj * x),
     roundDiv (dv * b * 10 ^ 9) (m.tj * x))
  else
    let u := t - m.t0 - t2
    match m.curve with
    | some c => c.at' u 1
    | none => (m.pb + roundDiv (256 * m.v1 * u) (10 ^ 9), m.v1, 0)

end Sys2Proof.Machine
end

