-- ==== Sys2Proof/Machine/Path.lean ====
section
/-!
DEFINITION. Coordinate groups (04): the geometry of segments, joins and blends, the limits of a path and what the planner looks ahead to, and
the advance of a path from one position-loop tick to the next.  Path distances are in 2^−24 path units, path speeds and accelerations in
2^−16 path units per second and second squared.  How fast a path goes within its limits is the planner's, and its jerk is a free value
(assumption log 6).
-/

namespace Sys2Proof.Machine

open Sys2Proof

/-- A list entry, 0 beyond its end. -/
def at0 (l : List Int) (i : Nat) : Int := l.getD i 0

/-- A free integer between two bounds. -/
def Dev.freeIn (d : Dev) (lo hi : Int) : Int := if hi < lo then lo else lo + (Config.freeNat d.fresh : Int) % (hi - lo + 1)

/-! ### Groups and members -/

/-- SCALE of a member, counts per path unit, Q16.16; 0 marks a non-path member (R110). -/
def Dev.scaleOf (d : Dev) (g i : Nat) : Nat := d.fg (R.INTERP_GRP_SCALE g i) F.INTERP_GRP_SCALE_SCALE

/-- The lane of a group: that of member 0 (R105). -/
def Dev.grpLane (d : Dev) (g : Nat) : Option Nat := if d.member g 0 < 64 then some (laneOf (d.member g 0)) else none

/-- The set point of an axis before the gantry correction (R133). -/
def Dev.setPoint (d : Dev) (a : Nat) : Int := (d.ax a).pCmd + (d.ax a).gCorr

/-- The present commanded positions of the eight members. -/
def Dev.memberPos (d : Dev) (g : Nat) : List Int :=
  (List.range 8).map fun i => if d.member g i < 64 then d.setPoint (d.member g i) else 0

/-- The members of a started group become MOVING under it (R108). -/
def Dev.membersMoving (d : Dev) (g : Nat) : Dev :=
  d.each (d.members g) fun d a =>
    if d.axState a = 2 && (d.ax a).stop.isNone then (d.modAx a fun x => { x with motion := .group }).setState a 3 else d

/-- The members of a drained group are READY, and stay under the group (R108). -/
def Dev.membersDrained (d : Dev) (g : Nat) : Dev :=
  d.each (d.members g) fun d a =>
    if (d.ax a).motion = .group && d.axState a = 3 then
      (d.modAx a fun x => { x with vCmd := 0, aCmd := 0 }).setState a 2
    else d

/-- VMAX of an axis. -/
def Dev.vmaxOf (d : Dev) (a : Nat) : Int := d.rdS (R.INTERP_AXLIM_VMAX a)

/-- The members take set points, velocities and accelerations. -/
def Dev.putExact (d : Dev) (g : Nat) (pos vel acc : List Int) : Dev :=
  d.each (List.range 8) fun d i =>
    let a := d.member g i
    if a < 64 && (d.ax a).motion = .group then
      d.modAx a fun x => { x with pCmd := at0 pos i, gCorr := 0, vCmd := at0 vel i, aCmd := at0 acc i }
    else d

/-- The members stand at a point of the path. -/
def Dev.putRest (d : Dev) (g : Nat) (pos : List Int) : Dev := d.putExact g pos [] []

/-! ### Segment geometry (R110, R113, R114) -/

/-- The displacement of member `i` on a segment. -/
def Segment.disp (s : Segment) (i : Nat) : Int := at0 s.ends i - at0 s.starts i

/-- The displacement of member `i` on a segment in 2^−24 path units; 0 for a non-path member. -/
def Dev.unitDisp (d : Dev) (g : Nat) (s : Segment) (i : Nat) : Int :=
  let sc := d.scaleOf g i
  if sc = 0 then 0 else s.disp i * 65536 / (sc : Int)

/-- The Euclidean length of a straight segment in path units (R110); where no path member moves, the largest displacement in counts
stands for it (DESIGN CHOICE, assumption log 52). -/
def Dev.lineLen (d : Dev) (g : Nat) (s : Segment) : Nat :=
  let l := isqrt 96 ((List.range 8).foldl (fun n i => n + (d.unitDisp g s i).natAbs ^ 2) 0)
  if l ≠ 0 then l else (List.range 8).foldl (fun n i => max n (s.disp i).natAbs) 0

/-- The vector from a circle's centre to a point of its plane, scaled so that both components have one unit of path (R110). -/
def Dev.radius (d : Dev) (g : Nat) (s : Segment) (p : List Int) : Int × Int :=
  ((at0 p s.ax1 - s.c1) * (d.scaleOf g s.ax2 : Int), (at0 p s.ax2 - s.c2) * (d.scaleOf g s.ax1 : Int))

/-- The swept angle of a circle in 2^−40 turns (R114). -/
def Dev.sweep (d : Dev) (g : Nat) (s : Segment) : Nat :=
  let a := d.radius g s s.starts
  let b := d.radius g s s.ends
  let x : Int := (angleOf b.1 b.2 : Int) - angleOf a.1 a.2
  let w := ofS 40 (if s.dir then -x else x)
  (if w = 0 then 2 ^ 40 else w) + s.turns * 2 ^ 40

/-- A circle as the path runs it: its radii at the start and at the end in 2^−24 path units, and the swept angle in radians × 2^60. -/
def Dev.circle (d : Dev) (g : Nat) (s : Segment) : Nat × Nat × Nat :=
  let u := max 1 (d.scaleOf g s.ax1 * d.scaleOf g s.ax2)
  (vecLen (d.radius g s s.starts) * 65536 / u, vecLen (d.radius g s s.ends) * 65536 / u, d.sweep g s * pi60.toNat / 2 ^ 39)

/-- The arc length over the first `num` of 2^48 parts of the swept angle, while the radius changes linearly from `r0` to `r1` over all of
it: the integral of √(r² + (dr/dθ)²) by Simpson's rule in four parts. -/
def arcTo (c : Nat × Nat × Nat) (num : Nat) : Nat :=
  let (r0, r1, th) := c
  if r0 = r1 then r0 * th * num / 2 ^ 108 else
  let grow := ((max r0 r1 - min r0 r1) * 2 ^ 60) / max 1 th
  let speed (k : Nat) : Nat :=   -- at k eighths of the way, scaled by 2^8
    let r : Int := (r0 : Int) * 2 ^ 8 + ((r1 : Int) - r0) * (k * num : Nat) / 2 ^ 43
    isqrt 96 (r.toNat ^ 2 + (grow * 2 ^ 8) ^ 2)
  let sum := speed 0 + 4 * speed 1 + 2 * speed 2 + 4 * speed 3 + 2 * speed 4 + 4 * speed 5 + 2 * speed 6 + 4 * speed 7 + speed 8
  sum * th * num / (24 * 2 ^ 116)

/-- The part of the swept angle, of 2^48, that a path has turned through at a distance. -/
def arcPart (c : Nat × Nat × Nat) (len dist : Nat) : Nat :=
  if len ≤ dist then 2 ^ 48
  else if c.1 = c.2.1 then dist * 2 ^ 48 / max 1 len
  else (List.range 48).foldl (fun r i => let t := r + 2 ^ (47 - i); if arcTo c t ≤ dist then t else r) 0

/-- The path length of a LINEAR or CIRCULAR segment (R110). -/
def Dev.segLen (d : Dev) (g : Nat) (s : Segment) : Nat := if s.typ = 1 then arcTo (d.circle g s) (2 ^ 48) else d.lineLen g s

/-- The positions of the members at a distance along a straight segment, or of the other members of a circle, which move in proportion to the
path length (R110). -/
def lineAt (s : Segment) (len dist : Nat) : List Int :=
  (List.range 8).map fun i => if len ≤ dist then at0 s.ends i else at0 s.starts i + roundDiv (s.disp i * dist) len

/-- The velocities of the members on a straight segment, and in the same way their accelerations. -/
def lineRate (s : Segment) (len : Nat) (v : Int) : List Int := (List.range 8).map fun i => if len = 0 then 0 else roundDiv (s.disp i * v) len

/-- Positions, velocities and accelerations of the members at a distance along a circle (R114): tangential and radial velocity, tangential
and centripetal acceleration. -/
def Dev.circleAt (d : Dev) (g : Nat) (s : Segment) (len dist : Nat) (v a : Int) : List Int × List Int × List Int :=
  let c := d.circle g s
  let part := arcPart c len dist
  let p0 := d.radius g s s.starts
  let l0 := max 1 (vecLen p0)
  let l1 := vecLen (d.radius g s s.ends)
  let th : Int := (d.sweep g s * part / 2 ^ 48 : Nat)
  let th := if s.dir then -th else th
  -- the unit vector from the centre, × 2^60
  let e1 := roundDiv (p0.1 * cosTurn th - p0.2 * sinTurn th) l0
  let e2 := roundDiv (p0.1 * sinTurn th + p0.2 * cosTurn th) l0
  let num : Int := (l0 : Int) * 2 ^ 48 + ((l1 : Int) - l0) * part
  let den (sc : Nat) : Nat := 2 ^ 108 * max 1 sc
  let sg : Int := if s.dir then -1 else 1
  let dr : Int := (c.2.1 : Int) - c.1
  let tang : Int := isqrt 96 (len ^ 2 - dr.natAbs ^ 2)
  let r : Nat := max 1 (((c.1 : Int) * 2 ^ 48 + dr * part) / 2 ^ 48).toNat
  let cent := v * v * 256 / (r : Int)
  let vel (e f : Int) (sc : Nat) : Int := roundDiv (v * (sg * f * tang + e * dr) * sc) (max 1 len * 2 ^ 76)
  let acc (e f : Int) (sc : Nat) : Int := roundDiv ((a * sg * f - cent * e) * sc) (2 ^ 76)
  let s1 := d.scaleOf g s.ax1
  let s2 := d.scaleOf g s.ax2
  let put (l : List Int) (x y : Int) : List Int := l.mapIdx fun i p => if i = s.ax1 then x else if i = s.ax2 then y else p
  let pos := if len ≤ dist then s.ends else
    put (lineAt s len dist) (s.c1 + roundDiv (e1 * num) (den s2)) (s.c2 + roundDiv (e2 * num) (den s1))
  (pos, put (lineRate s len v) (vel e1 (-e2) s1) (vel e2 e1 s2), put (lineRate s len a) (acc e1 (-e2) s1) (acc e2 e1 s2))

/-! ### Joins (R116, R117) -/

/-- The direction of the path at the end (`fin`) or the start of a LINEAR or CIRCULAR segment, as a vector of path space. -/
def Dev.tangent (d : Dev) (g : Nat) (s : Segment) (fin : Bool) : List Int :=
  let line := (List.range 8).map fun i => d.unitDisp g s i
  if s.typ ≠ 1 then line else
  let (r0, r1, th) := d.circle g s
  let p := if fin then s.ends else s.starts
  let u := d.radius g s p
  let l : Int := max 1 (vecLen u)
  let r : Int := if fin then r1 else r0
  let sg : Int := if s.dir then -1 else 1
  let dr : Int := (r1 : Int) - r0
  let turn := r * th / 2 ^ 60
  line.mapIdx fun i x =>
    if i = s.ax1 then (-u.2 * sg * turn + u.1 * dr) / l else if i = s.ax2 then (u.1 * sg * turn + u.2 * dr) / l else x

/-- cos φ × 2^30 of the change of direction between two segments; none where one has no direction. -/
def Dev.cosJoin (d : Dev) (g : Nat) (s t : Segment) : Option Int :=
  let x := d.tangent g s true
  let y := d.tangent g t false
  let dot (p q : List Int) : Int := (List.range 8).foldl (fun n i => n + at0 p i * at0 q i) 0
  let l := isqrt 200 ((dot x x).toNat * (dot y y).toNat)
  if l = 0 then none else some (dot x y * 2 ^ 30 / (l : Int))

/-- cos 0.5° × 2^30. -/
def cosHalfDegree : Int := 1073700939

/-- The distance d of the blend of a corner, where R116 blends it. -/
def Dev.blendOf (d : Dev) (g : Nat) (s t : Segment) : Option Nat :=
  if s.typ = 0 && t.typ = 0 && s.blend && t.cond.start = 0 then
    match d.cosJoin g s t with
    | none => none
    | some c =>
      if c < cosHalfDegree && -cosHalfDegree < c then
        let sinHalf := max 1 (isqrt 40 ((2 ^ 30 - c).toNat * 2 ^ 29))
        let tol := (d.rdS (R.INTERP_GRP_TOL g)).toNat
        let dist := min (tol * 16 * 2 ^ 30 / (5 * sinHalf)) (min (d.lineLen g s / 2) (d.lineLen g t / 2))
        if dist = 0 then none else some dist
      else none
  else none

/-- The path passes the join between two segments without coming to rest (R117). -/
def Dev.passes (d : Dev) (g : Nat) (s t : Segment) : Bool :=
  if t.cond.start ≠ 0 then false
  else if s.typ = 2 && t.typ = 2 then true
  else if s.typ ≤ 1 && t.typ ≤ 1 then (match d.cosJoin g s t with | some c => cosHalfDegree ≤ c | none => false)
  else false

/-- Positions, velocities and accelerations of the members at distance `b` of the 2d of a blend (R116): with x = b / 2d,
P0 + b·r_in + 2d(r_out − r_in)(2.5x⁴ − 3x⁵ + x⁶). -/
def Dev.blendAt (d : Dev) (g : Nat) (s t : Segment) (dd b : Nat) (v : Int) : List Int × List Int × List Int :=
  let l1 := max 1 (d.lineLen g s)
  let l2 := max 1 (d.lineLen g t)
  let w : Int := 2 * dd
  let x : Int := b
  let l : Nat := l1 * l2
  let each' (f : Int → Int → Int) : List Int := (List.range 8).map fun i =>
    let r1 := s.disp i * l2
    f r1 (t.disp i * l1 - r1)
  (((List.range 8).map fun i => at0 s.ends i).zipWith (· + ·) (each' fun r1 dr =>
      roundDiv ((x - dd) * r1 * 2 * w ^ 5 + dr * (5 * x ^ 4 * w ^ 2 - 6 * x ^ 5 * w + 2 * x ^ 6)) (l * 2 * (2 * dd) ^ 5)),
   each' fun r1 dr => roundDiv (v * (r1 * w ^ 5 + dr * (10 * x ^ 3 * w ^ 2 - 15 * x ^ 4 * w + 6 * x ^ 5))) (l * (2 * dd) ^ 5),
   each' fun _ dr => roundDiv (v * v * 256 * dr * (30 * x ^ 2 * w ^ 2 - 60 * x ^ 3 * w + 30 * x ^ 4)) (l * (2 * dd) ^ 5))

/-! ### PVT (R113, R114) -/

/-- The coefficients of the fifth-order polynomial of one member, × 2·10^18, in powers of t/T. -/
def pvtCoeffs (p0 v0 a0 p1 v1 a1 : Int) (dur : Nat) : List Int :=
  let n : Int := 2 * 10 ^ 18
  let dp := (p1 - p0) * n
  let v (x : Int) : Int := x * 256 * dur * 2 * 10 ^ 9
  let a (x : Int) : Int := x * 256 * dur * dur * 2
  [p0 * n, v v0, a a0 / 2,
   10 * dp - 6 * v v0 - 4 * v v1 - (3 * a a0 - a a1) / 2,
   -15 * dp + 8 * v v0 + 7 * v v1 + (3 * a a0 - 2 * a a1) / 2,
   6 * dp - 3 * v v0 - 3 * v v1 - (a a0 - a a1) / 2]

/-- Position, velocity and acceleration of one member of a segment of `dur` ns at `num / den` of it. -/
def pvtEval (p0 v0 a0 p1 v1 a1 : Int) (dur num den : Nat) : Int × Int × Int :=
  let c := pvtCoeffs p0 v0 a0 p1 v1 a1 dur
  let sum (f : Nat → Int) (j : Nat) : Int :=
    (List.range 6).foldl (fun n k => if k < j then n else n + f k * at0 c k * (num : Int) ^ (k - j) * (den : Int) ^ (5 + j - k)) 0
  (roundDiv (sum (fun _ => 1) 0) (den ^ 5 * (2 * 10 ^ 18)),
   roundDiv (sum (fun k => k) 1) (den ^ 5 * dur * (2 * 10 ^ 9) * 256),
   roundDiv (sum (fun k => k * (k - 1)) 2) (den ^ 5 * dur * dur * 2 * 256))

/-- The members of a PVT segment at segment time `e` / 20,000 ns. -/
def Segment.pvtAt (s : Segment) (e : Nat) : List (Int × Int × Int) :=
  (List.range 8).map fun i =>
    pvtEval (at0 s.starts i) (at0 s.startV i) (at0 s.startA i) (at0 s.ends i) (at0 s.endV i) (at0 s.endA i) s.dur (min e (s.dur * 20000))
      (s.dur * 20000)

/-- How fast the time-scale factor moves, in 0.01 % a second (R119). -/
def Dev.scaleSlope (d : Dev) (g : Nat) : Int :=
  let x := d.grp g
  let ramp := 1000000 * d.fg (R.INTERP_GRP_OVR g) F.INTERP_GRP_OVR_RAMP
  if x.rampNs < ramp then ((x.scaleTo : Int) - x.scaleFrom) * 10 ^ 9 / (ramp : Int) else 0

/-- The members take the set points of a segment whose time runs at `k` of 10,000 (R119). -/
def Dev.putScaled (d : Dev) (g : Nat) (l : List (Int × Int × Int)) (k : Nat) : Dev :=
  let dk := d.scaleSlope g
  d.putExact g (l.map (·.1)) (l.map fun x => roundDiv (x.2.1 * k) 10000)
    (l.map fun x => roundDiv (x.2.2 * k * k) (10 ^ 8) + roundDiv (x.2.1 * dk) 10000)

/-! ### Start conditions (R122–R124) -/

/-- A start condition is met at the decision instant of a tick; a flag that a start has consumed at that same instant is still seen (R124). -/
def Dev.condMet (d : Dev) (c : StartCond) (tick : Nat) : Bool :=
  match c.start with
  | 0 => true
  | 1 => c.metAt.isSome
  | 2 => c.metAt.isSome
  | 3 => d.bit R.TRV_RX_FLAGS c.source
  | _ => d.bit R.INTERP_SYNC c.source || (d.ip.usedAt = tick && d.ip.used.contains c.source)

/-- A start on a sync flag with CONSUME clears the flag. -/
def Dev.consume (d : Dev) (c : StartCond) (tick : Nat) : Dev :=
  if c.start = 4 && c.consume then
    let used := c.source :: (if d.ip.usedAt = tick then d.ip.used else [])
    { d.setBit R.INTERP_SYNC c.source false with ip := { d.ip with used := used, usedAt := tick } }
  else d

/-- An edge condition records the first event after its arming point. -/
def StartCond.note (c : StartCond) (kind src inst : Nat) : StartCond :=
  if c.start = kind && c.source = src && c.armed && c.metAt.isNone then { c with metAt := some inst } else c

/-- A fix event (kind 1) or a firing of a source (kind 2) is registered in the interpolator (R122). -/
def Dev.startEvent (d : Dev) (kind src inst : Nat) : Dev :=
  let d := d.each (List.range 16) fun d g =>
    if (d.grp g).queue.any fun s => s.cond.note kind src inst ≠ s.cond then
      d.modGrp g fun x => { x with queue := x.queue.map fun s => { s with cond := s.cond.note kind src inst } }
    else d
  d.each (List.range 64) fun d a =>
    match (d.ax a).waiting with
    | some p =>
      if p.cond.note kind src inst ≠ p.cond then
        d.modAx a fun x => { x with waiting := some { p with cond := p.cond.note kind src inst } }
      else d
    | none => d

/-- The elapsed time from the event of an edge condition to a start tick (R123); a level condition has no event instant, and gives 0
(DESIGN CHOICE, assumption log 52). -/
def StartCond.lat (c : StartCond) (tick : Nat) : Nat := match c.metAt with | some t => tick - t | none => 0

/-- The curves of a PTP segment by member (R114): independent, or with SYNC_END stretched to the duration of the slowest. -/
def Dev.ptpCurves (d : Dev) (g : Nat) (s : Segment) : List SCurve :=
  let cs := (List.range 8).map fun i =>
    let a := d.member g i
    let lim (r : Int) (pct : Nat) : Int := r * pct / 10000
    curveOf (at0 s.starts i) (at0 s.ends i) (lim (d.vmaxOf a) s.velPct) (lim (d.rdS (R.INTERP_AXLIM_AMAX a)) s.accPct)
      (d.rdS (R.INTERP_AXLIM_JMAX a))
  let slow := cs.foldl (fun n c => max n c.total) 0
  if s.syncEnd then cs.map fun c => if c.total = 0 then c else { c with total := slow } else cs

/-- The head segment of a group starts at distance `dist` (R123, R124); from its start on, an EARLY successor is armed. -/
def Dev.startHead (d : Dev) (g : Nat) (s : Segment) (dist tick : Nat) : Dev :=
  let lat := s.cond.lat tick
  let cs := if s.typ = 3 then d.ptpCurves g s else []
  let d := d.modGrp g fun x => { x with active := true, dist := dist, elapsed := 0, blend := none, curves := cs }
  let d := d.fs (R.INTERP_GRP_STATUS g) F.INTERP_GRP_STATUS_SEG_TAG s.tag
  let v := if lat / 10 < 65536 then lat / 10 else Config.freeNat d.fresh
  let d := if s.cond.start = 0 then d else d.nextFresh.fs (R.INTERP_GRP_FILL g) F.INTERP_GRP_FILL_START_LAT v
  (d.consume s.cond tick).modGrp g fun x => { x with queue := x.queue.mapIdx fun i t =>
    if i = 1 && t.cond.early then { t with cond := { t.cond with armed := true } } else t }

/-- The path rests at the start point of its head segment, which is the arming point of a condition with EARLY at 0 (R122). -/
def Dev.armHead (d : Dev) (g : Nat) : Dev :=
  d.modGrp g fun x => { x with queue := x.queue.mapIdx fun i t => if i = 0 then { t with cond := { t.cond with armed := true } } else t }

/-- The path has come to rest at the start point of a head segment that waits on its condition (R107, R122). -/
def Dev.toWaiting (d : Dev) (g : Nat) : Dev := ((d.armHead g).membersMoving g).setGrpState g 2

/-! ### What the planner sees (R109, R118) -/

/-- The segments that the planner sees: at most 64, each from 10 µs after its acceptance on, and under a flush those that are kept. -/
def Dev.seen (d : Dev) (g : Nat) : List Segment :=
  let x := d.grp g
  let q := (x.queue.take 64).takeWhile fun s => s.accNs + 10000 ≤ d.ns
  if x.flush && d.grpState g ≠ 3 then q.take x.keep else q

/-! ### Limits of a path (R111, R116, R119) -/

/-- The largest path rate at which a limit of every member holds: `f` gives the limit of an axis. -/
def Dev.pathBound (d : Dev) (g : Nat) (s : Segment) (len : Nat) (f : Nat → Int) : Int :=
  (List.range 8).foldl (fun m i =>
    let a := d.member g i
    if 64 ≤ a then m
    else if s.typ = 1 && (i = s.ax1 || i = s.ax2) then min m (f a * 65536 / (max 1 (d.scaleOf g i) : Nat))
    else if s.disp i = 0 then m
    else min m (f a * len / ((s.disp i).natAbs : Int))) (2 ^ 100)

/-- The smaller radius of a circle. -/
def Dev.minRadius (d : Dev) (g : Nat) (s : Segment) : Nat := let c := d.circle g s; max 1 (min c.1 c.2.1)

/-- AMAX of an axis. -/
def Dev.amaxOf (d : Dev) (a : Nat) : Int := d.rdS (R.INTERP_AXLIM_AMAX a)

/-- The path speed that the members' limits allow on a segment (R111): VMAX, and on a circle AMAX for the centripetal acceleration. -/
def Dev.memberSpeed (d : Dev) (g : Nat) (s : Segment) (len : Nat) : Int :=
  let v := d.pathBound g s len d.vmaxOf
  if s.typ = 1 then min v (isqrt 128 ((d.pathBound g { s with ends := s.starts } len d.amaxOf).toNat * d.minRadius g s / 256) : Nat) else v

/-- OVR of a group. -/
def Dev.ovr (d : Dev) (g : Nat) : Nat := d.fg (R.INTERP_GRP_OVR g) F.INTERP_GRP_OVR_OVR

/-- The target path speed of a segment, FEED × k (R119), within the members' limits. -/
def Dev.speedCap (d : Dev) (g : Nat) (s : Segment) (len : Nat) : Int := min (s.feed * d.ovr g / 10000) (d.memberSpeed g s len)

/-- The path acceleration on a segment at speed `v`: ACC, and what AMAX leaves beside the centripetal acceleration (R111). -/
def Dev.accCap (d : Dev) (g : Nat) (s : Segment) (len : Nat) (v : Int) : Int :=
  let a := min s.acc (d.pathBound g s len d.amaxOf)
  if s.typ = 1 then
    let am := d.pathBound g { s with ends := s.starts } len d.amaxOf
    let cent := v * v * 256 / (d.minRadius g s : Int)
    min a (isqrt 128 (am * am - cent * cent).toNat : Nat)
  else a

/-- The blend speed limit of a corner: √(2·d·AMAX / (1.875·|r_out − r_in|)) over the members (R116). -/
def Dev.blendCap (d : Dev) (g : Nat) (s t : Segment) (dd : Nat) : Int :=
  let l1 := d.lineLen g s
  let l2 := d.lineLen g t
  (List.range 8).foldl (fun m i =>
    let a := d.member g i
    let dr := (t.disp i * l1 - s.disp i * l2).natAbs
    if 64 ≤ a || dr = 0 then m else min m (isqrt 160 (2 * dd * (d.amaxOf a).toNat * 8 * l1 * l2 / (15 * 256 * dr)) : Nat)) (2 ^ 100)

/-- The segment whose join with `s` R117 judges: a SYNC segment that waits on nothing does not halt the path. -/
def skipSync : List Segment → List Segment
  | [] => []
  | t :: r => if t.typ = 5 && t.cond.start = 0 then skipSync r else t :: r

/-- The distance that the path needs, at acceleration `acc` and jerk `jerk`, to come from a speed and acceleration down to a speed. -/
def slowDist (v a target acc jerk : Int) : Int :=
  let j := (max 1 jerk)
  let ac := (max 1 acc)
  let a := max 0 a
  let v1 := v + a * a / (2 * j)
  let s0 := (v * a * 256) / j + (a * a / j) * a * 256 / (3 * j)
  let dv := v1 - target
  if dv ≤ 0 then 0 else
  -- the duration of the fall in units of 2^−16 s
  let t : Int := if ac * ac ≤ dv * j then dv * 65536 / ac + ac * 65536 / j else (2 * isqrt 128 (dv.toNat * 2 ^ 32 / j.toNat) : Nat)
  s0 + (v1 + target) * t / 512 + 1

/-- The largest speed, below 2^48, from which the path can slow for every point that lies `off` or more ahead of it. -/
def maxEntry (pts : List (Nat × Int × Bool)) (off : Nat) (acc jerk : Int) : Int :=
  (List.range 48).foldl (fun (r : Int) i =>
    let t := r + 2 ^ (47 - i)
    if pts.all fun p => slowDist t 0 p.2.1 acc jerk + off ≤ p.1 then t else r) 0

/-- The points ahead at which the path speed is bounded: their distance, the bound, and that the point is the end of the last segment seen;
`base` is the distance to the end of `s`. -/
def Dev.pointsFrom (d : Dev) (g base : Nat) (s : Segment) (rest : List Segment) (sync : Bool) : List (Nat × Int × Bool) :=
  match rest with
  | [] => [(base, 0, true)]
  | t :: r =>
    if t.typ = 5 && t.cond.start = 0 then d.pointsFrom g base s r true
    else
      let len := d.segLen g t
      match if sync then none else d.blendOf g s t with
      | some dd =>
        let more := d.pointsFrom g (base + len) t r false
        -- the speed stays constant up to the end of the blend
        (base - dd, min (min (d.speedCap g t len) (d.blendCap g s t dd)) (maxEntry more (base + dd) t.acc t.jerk), false) :: more
      | none => if t.typ ≤ 1 && d.passes g s t then (base, d.speedCap g t len, false) :: d.pointsFrom g (base + len) t r false else [(base, 0, false)]

/-- The distances to the ends of the segment `s` and of those that the path passes into after it. -/
def Dev.endsFrom (d : Dev) (g base : Nat) (s : Segment) (rest : List Segment) (sync : Bool) : List Nat :=
  match rest with
  | [] => [base]
  | t :: r =>
    if t.typ = 5 && t.cond.start = 0 then base :: d.endsFrom g base s r true
    else if t.typ ≤ 1 && (d.passes g s t || (!sync && (d.blendOf g s t).isSome)) then base :: d.endsFrom g (base + d.segLen g t) t r false
    else [base]

/-! ### The advance of a path (R107–R120) -/

/-- The path leaves its head segment: SEG_DONE for NOTIFY (R112). -/
def Dev.leaveHead (d : Dev) (g : Nat) : Dev :=
  match (d.grp g).queue with
  | [] => d
  | s :: rest =>
    let d := d.setQueue g rest
    let d := d.modGrp g fun x => { x with active := false, dist := 0, elapsed := 0, blend := none, curves := [], keep := x.keep - 1 }
    if s.notify then d.grpEvent g F.INTERP_GRP_EVENT_SEG_DONE else d

/-- The largest fall of the time-scale factor in `dt` ns, in 0.01 %, that keeps each member of a stopping group within the deceleration of its
class (R99). -/
def Dev.stopDecel (d : Dev) (g a : Nat) : Int :=
  if (d.grp g).stopCls = 2 then d.rdS (R.AXIS_DECEL_NORMAL a) else d.rdS (R.AXIS_DECEL_QUICK a)

/-- The time-scale factor of a group after another `dt` ns, and the integral of the factor over them, × 20,000 (R119): it moves linearly to
OVR, or to 0 under a hold, over RAMP; under a stop it falls as fast as the members' velocities `vel` allow. -/
def Dev.scaleStep (d : Dev) (g dt : Nat) (vel : List Int) : Dev × Nat :=
  let x := d.grp g
  let st := d.grpState g
  let (k1, area, x) : Nat × Nat × GroupSt :=
    if st = 5 then
      let fall := (List.range 8).foldl (fun (m : Nat) i =>
        let a := d.member g i
        let v := (at0 vel i).natAbs
        if 64 ≤ a || v = 0 then m else min m (10000 * (d.stopDecel g a).toNat * dt / (10 ^ 9 * v))) 20000
      let k1 := x.scale - max 1 fall
      (k1, dt * (x.scale + k1), x)
    else
      let dest := if st = 3 ∨ st = 4 then 0 else d.ovr g
      let x := if x.scaleTo = dest then x else { x with scaleFrom := x.scale, scaleTo := dest, rampNs := 0 }
      let ramp := 1000000 * d.fg (R.INTERP_GRP_OVR g) F.INTERP_GRP_OVR_RAMP
      let t1 := min ramp (x.rampNs + dt)
      let at' (t : Nat) : Nat :=
        if ramp = 0 then dest else ((x.scaleFrom : Int) + ((dest : Int) - x.scaleFrom) * (t : Int) / (ramp : Int)).toNat
      let k1 := if ramp ≤ x.rampNs + dt then dest else at' t1
      let ramped := t1 - x.rampNs
      (k1, ramped * (x.scale + k1) + (dt - ramped) * 2 * k1, { x with rampNs := t1 })
  let d := d.modGrp g fun y => { y with rampNs := x.rampNs, scaleFrom := x.scaleFrom, scaleTo := x.scaleTo, scale := k1 }
  (d.fs (R.INTERP_GRP_STATUS g) F.INTERP_GRP_STATUS_EFF_OVR (k1 / 100), area)

/-- One step of a path at a rate: speed, acceleration and distance after `dt` ns. -/
def pathStep (v a1 v1 : Int) (dt : Nat) : Int × Int × Nat := (v1, a1, ((v + v1) * 128 * dt / 10 ^ 9).toNat)

/-- The path slows as hard as `acc` and `jerk` allow. -/
def brakeStep (v a acc jerk : Int) (dt : Nat) : Int × Int × Nat :=
  let b := min acc (isqrt 128 (2 * jerk * v).toNat : Nat)
  let a1 := max (-b) (a - jerk * dt / 10 ^ 9)
  let v1 := max 0 (v + (a + a1) * dt / (2 * 10 ^ 9))
  pathStep v (if v1 = 0 then 0 else a1) v1 dt

/-- What the planner does within `dt` ns on the active LINEAR or CIRCULAR segment: speed, acceleration, distance, and that the end of the
last segment seen alone makes the path slow (R118). `base` is the distance to the end of `s`, or of its successor in a blend, `cap` the
speed allowed here, and `slow` the acceleration and jerk that every segment seen allows. A jerk is chosen freely among those that keep the
path within ACC, JERK and the speed allowed and able to slow for every point ahead; where the one chosen does not, the path slows. The
path arrives at a point of rest when what is left can be covered within ACC. -/
def Dev.plan (d : Dev) (g dt : Nat) (cap acc jerk : Int) (slow : Int × Int) (pts : List (Nat × Int × Bool)) : Int × Int × Nat × Bool :=
  let x := d.grp g
  let v := x.spd
  let a := x.pacc
  if dt = 0 then (v, a, 0, false) else
  let j := d.freeIn (-jerk) jerk
  let a1 := clampI (-acc) acc (a + j * dt / 10 ^ 9)
  let v1 := v + (a + a1) * dt / (2 * 10 ^ 9)
  let ok (p : Nat × Int × Bool) : Bool :=
    let s : Int := (v + v1) * 128 * dt / 10 ^ 9
    slowDist v1 a1 p.2.1 slow.1 slow.2 + s ≤ p.1
  match pts.find? fun p => p.2.1 = 0 && (p.1 : Int) * 10 ^ 9 ≤ 256 * (v * dt + acc * dt * dt / 10 ^ 9) && v * 10 ^ 9 ≤ acc * dt with
  | some p => (0, 0, p.1, false)
  | none =>
    if 0 ≤ v1 && v1 ≤ cap && pts.all ok then let s := pathStep v a1 v1 dt; (s.1, s.2.1, s.2.2, false)
    else
      let s := brakeStep v a acc jerk dt
      (s.1, s.2.1, s.2.2, 0 ≤ v1 && v1 ≤ cap && 0 < v && (pts.filter fun p => !ok p).all (·.2.2))

/-- The members take the set points of the active LINEAR or CIRCULAR segment, or of its blend. -/
def Dev.putPath (d : Dev) (g : Nat) (s : Segment) (len : Nat) : Dev :=
  let x := d.grp g
  match x.blend, x.queue with
  | some (b, dd), _ :: t :: _ => let y := d.blendAt g s t dd b x.spd; d.putExact g y.1 y.2.1 y.2.2
  | _, _ =>
    if s.typ = 1 then let y := d.circleAt g s len x.dist x.spd x.pacc; d.putExact g y.1 y.2.1 y.2.2
    else d.putExact g (lineAt s len x.dist) (lineRate s len x.spd) (lineRate s len x.pacc)

/-- The speed, acceleration and distance of the next `dt` ns on the active LINEAR or CIRCULAR segment: the planner's while the group runs,
braking at ACC and JERK under a hold (R120), and under a stop at the largest rate that keeps every member within its deceleration (R99).
Through a blend the speed stays constant (R116). -/
def Dev.nextStep (d : Dev) (g : Nat) (s : Segment) (len dt : Nat) : Int × Int × Nat × Bool :=
  let x := d.grp g
  let acc := d.accCap g s len x.spd
  let slow := ((d.seen g).filter fun t => t.typ ≤ 1).foldl (fun (m : Int × Int) t => (min m.1 t.acc, min m.2 t.jerk)) (acc, s.jerk)
  match d.grpState g with
  | 3 => let r := brakeStep x.spd x.pacc acc s.jerk dt; (r.1, r.2.1, r.2.2, false)
  | 5 =>
    let rate := d.pathBound g s len (d.stopDecel g)
    let v1 := max 0 (x.spd - rate * dt / 10 ^ 9)
    let r := pathStep x.spd (if v1 = 0 then 0 else -rate) v1 dt
    (r.1, r.2.1, r.2.2, false)
  | _ =>
    match x.blend, d.seen g with
    | some (b, dd), _ :: t :: rest =>
      if 0 < x.spd then let r := pathStep x.spd 0 x.spd dt; (r.1, r.2.1, r.2.2, false)
      else
        let len2 := d.segLen g t
        d.plan g dt (min (d.speedCap g s len) (min (d.speedCap g t len2) (d.blendCap g s t dd))) acc s.jerk slow
          (d.pointsFrom g (2 * dd - b + (len2 - dd)) t rest false)
    | _, _ :: rest => d.plan g dt (d.speedCap g s len) acc s.jerk slow (d.pointsFrom g (len - x.dist) s rest false)
    | _, [] => let r := brakeStep x.spd x.pacc acc s.jerk dt; (r.1, r.2.1, r.2.2, false)

/-- The path of a group advances by `dt` ns of real time, `area` of which / 20,000 is segment time (R119); `moving` says that it passes
into its head segment without coming to rest, and `left` how much of that it has covered already; `n` bounds the segments that it passes. -/
def Dev.advance (d : Dev) (g dt area tick : Nat) (moving : Bool) (left : Nat) (n : Nat) : Dev :=
  match n with
  | 0 => d
  | n + 1 =>
    let x := d.grp g
    -- the path has reached the end point of its head segment `s`; `past` has been covered beyond it
    let passOn (d : Dev) (s : Segment) (past area : Nat) : Dev :=
      let pass := match skipSync ((d.seen g).tail) with | t :: _ => d.passes g s t | [] => false
      let d := d.leaveHead g
      if pass then d.advance g 0 area tick true past n
      else ((d.modGrp g fun x => { x with spd := 0, pacc := 0 }).putRest g s.ends).advance g 0 0 tick false 0 n
    match d.seen g with
    | [] =>
      if x.queue.isEmpty && d.grpState g = 1 && !x.flush then
        (d.membersDrained g).fsb (R.INTERP_GRP_STATUS g) F.INTERP_GRP_STATUS_DRAINED true
      else if !x.active then d.armHead g else d
    | s :: rest =>
      if !x.active then
        if moving then (d.startHead g s left tick).advance g 0 area tick true left n
        else if s.cond.start = 0 && (d.grpState g = 1 || s.typ = 5) then
          (((d.fsb (R.INTERP_GRP_STATUS g) F.INTERP_GRP_STATUS_DRAINED false).membersMoving g).startHead g s 0 tick).advance g 0 0 tick false 0 n
        else if d.grpState g = 1 then (d.fsb (R.INTERP_GRP_STATUS g) F.INTERP_GRP_STATUS_DRAINED false).toWaiting g
        else d.armHead g
      else
        match s.typ with
        | 5 => ((d.setBit R.INTERP_SYNC s.flag (!s.clear)).leaveHead g).advance g 0 area tick moving left n
        | 4 =>
          let e := if d.grpState g = 1 then x.elapsed + 20000 * dt else x.elapsed
          let d := d.putRest g s.ends
          if s.dur * 20000000 ≤ e then (d.leaveHead g).advance g 0 0 tick false 0 n
          else d.modGrp g fun x => { x with elapsed := e }
        | 2 =>
          let d := d.fsb (R.INTERP_GRP_STATUS g) F.INTERP_GRP_STATUS_LIMITED false
          let e := x.elapsed + area
          if s.dur * 20000 ≤ e then passOn d s 0 (e - s.dur * 20000)
          else (d.putScaled g (s.pvtAt e) x.scale).modGrp g fun x => { x with elapsed := e }
        | 3 =>
          let cap := (x.curves.mapIdx fun i c => let a := d.member g i; c.cap (d.vmaxOf a) (d.amaxOf a) (d.rdS (R.INTERP_AXLIM_JMAX a))).foldl min 20000
          let e := x.elapsed + min area (2 * cap * dt)
          let d := d.fsb (R.INTERP_GRP_STATUS g) F.INTERP_GRP_STATUS_LIMITED (cap < x.scale)
          if x.curves.all fun c => c.total * 20000 ≤ e then passOn d s 0 0
          else (d.putScaled g (x.curves.map fun c => c.at' e 20000) (min x.scale cap)).modGrp g fun x => { x with elapsed := e }
        | _ =>
          let len := d.segLen g s
          let (v1, a1, ds, under) := d.nextStep g s len dt
          let d := d.nextFresh.fsb (R.INTERP_GRP_STATUS g) F.INTERP_GRP_STATUS_LIMITED (d.memberSpeed g s len < s.feed * d.ovr g / 10000)
          let d := if under && ((d.seen g).getLast?.map (·.blend)).getD false then d.grpEvent g F.INTERP_GRP_EVENT_UNDERRUN else d
          let d := d.modGrp g fun x => { x with spd := v1, pacc := a1 }
          match x.blend, rest with
          | some (b, dd), t :: _ =>
            if 2 * dd ≤ b + ds then ((d.leaveHead g).startHead g t (dd + (b + ds - 2 * dd)) tick).advance g 0 0 tick false 0 n
            else (d.modGrp g fun x => { x with blend := some (b + ds, dd) }).putPath g s len
          | _, _ =>
            let dist := x.dist + ds
            match rest.head?.bind (d.blendOf g s) with
            | some dd =>
              if len - dd ≤ dist then
                (d.modGrp g fun x => { x with dist := len - dd, blend := some (dist - (len - dd), dd) }).putPath g s len
              else (d.modGrp g fun x => { x with dist := dist }).putPath g s len
            | none => if len ≤ dist then passOn d s (dist - len) 0 else (d.modGrp g fun x => { x with dist := dist }).putPath g s len

/-- The members' velocities of an active PVT or PTP segment in segment time. -/
def Dev.segVel (d : Dev) (g : Nat) : List Int :=
  let x := d.grp g
  match x.queue with
  | s :: _ => if s.typ = 2 then (s.pvtAt x.elapsed).map (·.2.1) else x.curves.map fun c => (c.at' x.elapsed 20000).2.1
  | [] => []

/-- The tick number that a group's reply carries (R134). -/
def Dev.startWords (d : Dev) (g : Nat) : List Word :=
  match d.grpLane g with | some n => words64 (d.rd64 (R.SYS_TICK_COUNT n) + 1) | none => []

/-- One group at a decision instant of its reference lane, for the tick `tick` that ends `dt` ns: its time-scale factor moves, and a path that
runs, holds or stops advances. -/
def Dev.groupAdvance (d : Dev) (g dt tick : Nat) : Dev :=
  let st := d.grpState g
  let (d, area) := d.scaleStep g dt (if st = 5 then d.segVel g else [])
  if st = 1 ∨ st = 3 ∨ st = 5 then
    let d := d.advance g dt area tick false 0 300
    if st = 1 then d.resolve ⟨.groupStart, g⟩ 0 0 (d.startWords g) else d
  else d

/-- A waiting group whose condition is met starts its head segment at the tick (R107, R123): its time origin is the tick, or the event
instant with ANCHOR at 1. -/
def Dev.groupConditions (d : Dev) (g tick : Nat) : Dev :=
  if d.grpState g = 2 then
    match d.seen g with
    | [] => d
    | s :: _ =>
      if d.condMet s.cond tick then
        let t0 := if s.cond.anchor then s.cond.lat tick else 0
        let d := (d.setGrpState g 1).startHead g s 0 tick
        let d := d.advance g t0 (t0 * 2 * (d.grp g).scale) tick false 0 300
        d.resolve ⟨.groupStart, g⟩ 0 0 (d.startWords g)
      else d
  else d

/-- The conditions of some groups at one instant: a flag that one of them sets is seen by every other (R124). -/
def Dev.conditionRounds (d : Dev) (gs : List Nat) (tick : Nat) (n : Nat) : Dev :=
  match n with
  | 0 => d
  | n + 1 =>
    let waiting (d : Dev) : Nat := (gs.filter fun g => d.grpState g = 2).length
    let d' := d.each gs fun d g => d.groupConditions g tick
    if waiting d' = waiting d then d' else d'.conditionRounds gs tick n

/-- The path of a group is at rest: it has no active segment, or one on which nothing moves. -/
def Dev.pathRest (d : Dev) (g : Nat) : Bool :=
  let x := d.grp g
  match x.queue with
  | [] => true
  | s :: _ => !x.active || (match s.typ with | 0 => x.spd = 0 | 1 => x.spd = 0 | 2 => x.scale = 0 | 3 => x.scale = 0 | _ => true)

/-- How many segments of its queue a running path must still enter in order to come to rest within its limits (R120). -/
def Dev.mustKeep (d : Dev) (g : Nat) : Nat :=
  let x := d.grp g
  match x.active, d.seen g with
  | true, s :: rest =>
    match s.typ with
    | 0 | 1 =>
      let len := d.segLen g s
      let need := (slowDist x.spd x.pacc 0 (d.accCap g s len x.spd) s.jerk).toNat
      let (n, ends) := match x.blend, rest with
        | some (b, dd), t :: r => (1, d.endsFrom g (2 * dd - b + (d.segLen g t - dd)) t r false)
        | _, _ => (0, d.endsFrom g (len - x.dist) s rest false)
      n + match ends.findIdx? (need ≤ ·) with | some i => i + 1 | none => ends.length
    | 2 => (((s :: rest).takeWhile fun t => t.typ = 2).findIdx? fun t => t.endV.all (· = 0)).elim
        ((s :: rest).takeWhile fun t => t.typ = 2).length (· + 1)
    | _ => 1
  | _, _ => 0

end Sys2Proof.Machine
end

