-- ==== Sys2Proof/Machine/InterpOps.lean ====
section
/-!
DEFINITION. The operations of followers, profiles and stop ramps (04): master values, gear, clutch and cam steps, MOVE_AXIS profiles, homing
searches, ramps, and gantry coupling.
-/

namespace Sys2Proof.Machine

open Sys2Proof

/-- The change of position, in 2^−24 counts, at a speed (2^−16 counts/s) within `dt` ns. -/
def travel (v : Int) (dt : Nat) : Int := v * 256 * dt / 1000000000

/-! ### Masters and followers (R126–R132) -/

/-- The state of a virtual master at an instant: its velocity moves towards INTERP_VM_VEL at INTERP_VM_ACC (R128). -/
def Dev.vmAt (d : Dev) (v t : Nat) : Vm :=
  let x : Vm := tabGet d.ip.vms v
  let target := d.rdS (R.INTERP_VM_VEL v)
  let acc := d.rdS (R.INTERP_VM_ACC v)
  let dt : Int := (t : Int) - x.at'
  let dv := target - x.vel
  if acc ≤ 0 ∨ dv = 0 then { x with pos := x.pos + roundDiv (x.vel * 256 * dt) 1000000000, at' := t }
  else
    let need := (dv.natAbs : Int) * 1000000000   -- need / acc is the duration of the ramp in ns
    if dt * acc ≤ need then
      let dvt := signI dv * acc * dt
      { pos := x.pos + roundDiv ((2 * x.vel * 1000000000 + dvt) * 256 * dt) (2 * 1000000000 * 1000000000)
        vel := x.vel + dvt / 1000000000, at' := t }
    else
      -- ramp of need/acc ns at the mean velocity, then the target velocity
      { pos := x.pos + roundDiv (256 * ((x.vel + target) * need + 2 * target * (dt * acc - need))) (2 * 1000000000 * acc.toNat)
        vel := target, at' := t }

/-- A virtual master starts a new piece of its path at an instant. -/
def Dev.vmRebase (d : Dev) (v t : Nat) : Dev := { d with ip := { d.ip with vms := tabSet d.ip.vms v (d.vmAt v t) } }

/-- The velocity of an encoder master for EXTRAP: that between the two latest samples of its port, 2^−16 counts/s; R128 does not say how it is
taken (DESIGN CHOICE, assumption log 52). -/
def Dev.portVel (d : Dev) (e : Nat) : Int :=
  match (d.port e).hist with
  | y :: z :: _ => if z.time < y.time then roundDiv ((y.pos - z.pos) * 1000000000) (256 * (y.time - z.time)) else 0
  | _ => 0

/-- The value and velocity of a master for a tick instant (R128). -/
def Dev.master (d : Dev) (kind idx : Nat) (extrap : Bool) (tick : Nat) : Int × Int :=
  let ex (p v : Int) (from' : Nat) : Int := if extrap then p + roundDiv (v * 256 * ((tick : Int) - from')) 1000000000 else p
  match kind with
  | 0 =>
    let x := d.ax idx
    (ex x.pCmd x.vCmd (tabGet d.ip.tickNs (laneOf idx)), x.vCmd)
  | 1 =>
    let e := d.portOf idx
    (ex (d.actual idx) (d.portVel e) (d.rd64 (R.ENC_TIME e)), d.portVel e)
  | 2 => (ex (d.rdS (R.ENC_POS idx)) (d.portVel idx) (d.rd64 (R.ENC_TIME idx)), d.portVel idx)
  | 3 => let v := d.vmAt idx tick; (v.pos, v.vel)
  | _ =>
    let v := d.rdS (R.TRV_RXVEL idx)
    (d.rdS (R.TRV_RXPOS idx) + roundDiv (v * 256 * ((tick : Int) - d.rd64 (R.TRV_RXTIME idx))) 1000000000, v)

/-- How deep an axis lies in a chain of followers: 0 for no follower, at most `n` (R129). -/
def Dev.depthOf (d : Dev) (a : Nat) (n : Nat) : Nat :=
  match n with
  | 0 => 0
  | n + 1 =>
    let of (f : Option Follower) : Nat := match f with
      | none => 0
      | some f => 1 + (if f.kind ≤ 1 then d.depthOf f.index n else 0)
    max (of (d.ax a).fol) (of (d.ax a).folNext)

/-- The commanded position of a cam follower at master value `m` (R131), without the follower offset; and its slope as a fraction of
follower travel over master travel. -/
def Dev.camAt (d : Dev) (prof : Nat) (mOff m : Int) : Int × Int × Nat :=
  let l := (d.rdS (R.INTERP_CAM_LEN prof)).toNat
  let cnt := d.fg (R.INTERP_CAM_PROF prof) F.INTERP_CAM_PROF_COUNT
  let first := d.fg (R.INTERP_CAM_PROF prof) F.INTERP_CAM_PROF_FIRST
  let cyc := d.fb (R.INTERP_CAM_PROF prof) F.INTERP_CAM_PROF_CYCLIC
  if l = 0 ∨ cnt < 2 then (0, 0, 1) else
  let n := cnt - 1
  let x0 := m - mOff
  let q := Int.fdiv x0 l
  let x := if cyc then x0 - q * l else clampI 0 l x0
  let outside := !cyc && (x0 < 0 || (l : Int) < x0)
  let i := min ((x * n / l).toNat) (n - 1)
  let r := x * n - (i : Int) * l
  let y0 := d.rdS (R.CAM_Y (first + i))
  let y1 := d.rdS (R.CAM_Y (first + i + 1))
  let s0 := d.rdS (R.CAM_S (first + i))
  let s1 := d.rdS (R.CAM_S (first + i + 1))
  let li : Int := l
  let a := (2 * r ^ 3 - 3 * r ^ 2 * li + li ^ 3) * y0 + (-2 * r ^ 3 + 3 * r ^ 2 * li) * y1
  let b := (r ^ 3 - 2 * r ^ 2 * li + r * li ^ 2) * s0 + (r ^ 3 - r ^ 2 * li) * s1
  let carry := if cyc && d.fb (R.INTERP_CAM_PROF prof) F.INTERP_CAM_PROF_CARRY then
      q * (d.rdS (R.CAM_Y (first + n)) - d.rdS (R.CAM_Y first)) else 0
  let y := roundDiv (a * n * 2 ^ 40 + li * b) (l ^ 3 * n * 2 ^ 40)
  let da := (6 * r ^ 2 - 6 * r * li) * (y0 - y1)
  let db := (3 * r ^ 2 - 4 * r * li + li ^ 2) * s0 + (3 * r ^ 2 - 2 * r * li) * s1
  let slope := if outside then 0 else da * n * 2 ^ 40 + li * db
  (y + carry, slope, l ^ 3 * 2 ^ 40)

/-- The clutch of a follower ends at master value `m` (R127): exact ratio from now on; where the division leaves a half unit, the remainder is
rounded down (DESIGN CHOICE, assumption log 52). -/
def Follower.clutchDone (f : Follower) (m : Int) : Follower × Int :=
  let x := m - f.m0
  let acc := f.n * (2 * x - signI x * f.len)
  let q := Int.fdiv acc (2 * f.d)
  ({ f with phase := 2, rem := Int.fdiv (acc - q * (2 * f.d)) 2, mPrev := m }, f.p0 + q)

/-- The master has travelled L or more since the clutch started. -/
def Follower.clutchEnds (f : Follower) (m : Int) : Bool := f.len ≤ ((m - f.m0).natAbs : Int)

/-- The master crosses the engage position between two ticks (R127). -/
def Follower.crosses (f : Follower) (m : Int) : Bool :=
  (f.mPrev < f.engPos && f.engPos ≤ m) || (f.engPos < f.mPrev && m ≤ f.engPos)

/-- The cyclic master value of a cam wraps between two ticks (R132). -/
def Dev.camWraps (d : Dev) (f : Follower) (m : Int) : Bool :=
  let l := d.rdS (R.INTERP_CAM_LEN f.prof)
  0 < l && d.fb (R.INTERP_CAM_PROF f.prof) F.INTERP_CAM_PROF_CYCLIC && Int.fdiv (m - f.mOff) l ≠ Int.fdiv (f.mPrev - f.mOff) l

/-- INTERP_FOLLOW_STATUS of an engaged follower. -/
def Dev.followStatus (d : Dev) (a : Nat) (f : Follower) : Dev :=
  let r := R.INTERP_FOLLOW_STATUS a
  (((d.fs r F.INTERP_FOLLOW_STATUS_KIND (if f.cam then 2 else 1)).fsb r F.INTERP_FOLLOW_STATUS_CLUTCHING (f.phase = 1)).fs r
    F.INTERP_FOLLOW_STATUS_MASTER_KIND f.kind).fs r F.INTERP_FOLLOW_STATUS_MASTER_INDEX f.index

/-- An engagement takes effect at a tick whose count is `count`: the axis is MOVING under it, and the reply gives the tick. -/
def Dev.engaged (d : Dev) (a : Nat) (f : Follower) : Dev :=
  let d := (d.modAx a fun x => { x with fol := some f, folNext := none, motion := .follower }).followStatus a f
  let d := d.fsb (R.INTERP_FOLLOW_STATUS a) F.INTERP_FOLLOW_STATUS_MASTER_LOST false
  (d.setState a 3).resolve ⟨.engage, a⟩ 0 0 (words64 (d.rd64 (R.SYS_TICK_COUNT (laneOf a)) + 1))

/-- A gear starts at master value `m` (R126, R127). -/
def Dev.gearStart (d : Dev) (a : Nat) (f : Follower) (m : Int) : Dev :=
  d.engaged a { f with phase := if f.mode = 0 then 2 else 1, p0 := d.setPoint a, m0 := m, mPrev := m, rem := 0 }

/-- A cam engages at master value `m`, or the engagement is abandoned, and one that runs goes on (R132). -/
def Dev.camStart (d : Dev) (a : Nat) (f : Follower) (m : Int) : Dev :=
  let p := (d.camAt f.prof f.mOff m).1 + f.fOff
  if d.rdS R.INTERP_ENGAGE_TOL < ((p - d.setPoint a).natAbs : Int) then
    (d.modAx a fun x => { x with folNext := none }).resolve ⟨.engage, a⟩ 0x0205 0 []
  else d.engaged a { f with phase := 2, mPrev := m }

/-- A waiting profile switch of a cam takes effect (R132). -/
def Dev.camSwitch (d : Dev) (a : Nat) (f : Follower) : Dev :=
  match f.nextProf with
  | some (p, mo, fo) => d.engaged a { f with prof := p, mOff := mo, fOff := fo, nextProf := none }
  | none => d

/-- An accepted engagement at a decision instant (R126, R127, R132): it takes effect, or waits for the crossing or wrap of its master. -/
def Dev.engageStep (d : Dev) (a tick : Nat) : Dev :=
  match (d.ax a).folNext with
  | none => d
  | some f =>
    let m := (d.master f.kind f.index f.extrap tick).1
    let wait (d : Dev) : Dev := d.modAx a fun x => { x with folNext := some { f with phase := 0, mPrev := m } }
    if f.phase = 3 then
      if f.mode = 2 ∨ (f.cam ∧ f.mode = 1) then wait d
      else if f.cam then d.camStart a f m else d.gearStart a f m
    else if f.cam then (if d.camWraps f m then d.camStart a f m else wait d)
    else if f.crosses m then d.gearStart a f m else wait d

/-- One follower at a decision instant: an accepted engagement takes effect or waits, and the engaged follower takes its position command
from its master (R126–R132). -/
def Dev.followerStep (d : Dev) (a tick : Nat) : Dev :=
  if (d.ax a).stop.isSome then d else
  let d := d.engageStep a tick
  match (d.ax a).fol with
  | none => d
  | some f =>
    let (m, v) := d.master f.kind f.index f.extrap tick
    let d := if f.cam && f.nextProf.isSome && d.camWraps f m then d.camSwitch a f else d
    let f := ((d.ax a).fol).getD f
    let put (d : Dev) (f : Follower) (p vel : Int) : Dev :=
      d.nextFresh.modAx a fun x => { x with fol := some f, pCmd := p, gCorr := 0, vCmd := vel, aCmd := Config.freeInt d.fresh }
    if f.cam then
      let (y, num, den) := d.camAt f.prof f.mOff m
      put d { f with mPrev := m } (y + f.fOff) (roundDiv (num * v) den)
    else if f.phase = 1 then
      if f.clutchEnds m then
        let (f', p) := f.clutchDone m
        (put d f' p (roundDiv (f.n * v) f.d)).followStatus a f'
      else
        let x := m - f.m0
        put d f (f.p0 + roundDiv (f.n * x * (x.natAbs : Int)) (2 * f.len.toNat * f.d)) (roundDiv (f.n * v * (x.natAbs : Int)) (f.d * f.len.toNat))
    else if f.phase = 2 then
      let acc := (m - f.mPrev) * f.n + f.rem
      let step := Int.fdiv acc f.d
      put d { f with rem := acc - step * f.d, mPrev := m } (d.setPoint a + step) (roundDiv (f.n * v) f.d)
    else d

/-! ### Profiles, homing, stop ramps (R125, R96, R91) -/

/-- The move of a profile from the present set point (R125): to a target position, or to a target velocity within VMAX (assumption log 52). -/
def Dev.planMove (d : Dev) (a : Nat) (p : Profile) : Move :=
  let x := d.ax a
  if p.mode = 2 then moveOf (d.setPoint a) x.vCmd x.aCmd (clampI (-p.vmax) p.vmax p.target) none p.vmax p.amax p.jmax
  else moveOf (d.setPoint a) x.vCmd x.aCmd 0 (some p.target) p.vmax p.amax p.jmax

/-- A MOVE_AXIS profile whose condition is met at the decision instant of `tick` starts and replaces the running one (R125); its time origin is
the tick, or the event instant with ANCHOR at 1 (R123); its reply has waited under number `w`. -/
def Dev.profileTake (d : Dev) (a w tick : Nat) (p : Option Profile) : Dev :=
  match p with
  | none => d
  | some p =>
    if (d.ax a).stop.isNone && d.condMet p.cond tick && (d.axState a = 2 ∨ (d.axState a = 3 ∧ (d.ax a).motion = .profile)) then
      let d := if (d.ax a).running.isSome then d.resolve ⟨.profile, a⟩ 0x0306 0 [] else d
      let d := (d.rewait ⟨.profile, w⟩ ⟨.profile, a⟩).consume p.cond tick
      let p := if p.mode = 1 then { p with mode := 0, target := d.setPoint a + p.target } else p
      let p := { p with move := d.planMove a p, elapsed := if p.cond.anchor then p.cond.lat tick else 0 }
      (d.modAx a fun x => { x with
        running := some p, next := if w < 128 then x.next else none, waiting := if w < 128 then none else x.waiting
        motion := .profile }).setState a 3
    else d

/-- The IMMEDIATE profile of an axis starts, and then the one whose start condition is met (R109, R125). -/
def Dev.profileStart (tick : Nat) (d : Dev) (a : Nat) : Dev :=
  let d := d.profileTake a (128 + a) tick (d.ax a).next
  d.profileTake a (64 + a) tick (d.ax a).waiting

/-- A running profile gives its set point (R125), and its time goes on by `dt` ns. -/
def Dev.profileStep (d : Dev) (a dt : Nat) : Dev :=
  match (d.ax a).running with
  | none => d
  | some p =>
    let y := p.move.at' p.elapsed
    d.modAx a fun x => { x with
      running := some { p with elapsed := p.elapsed + dt }, pCmd := y.1, gCorr := 0, vCmd := y.2.1, aCmd := y.2.2 }

/-- A homing search moves in the direction DIR at the speed in AXIS_HOME_VEL (R96), from its first tick on (assumption log 51). -/
def Dev.homeStep (d : Dev) (a dt : Nat) : Dev :=
  let v := d.rdS (R.AXIS_HOME_VEL a)
  let v := if d.fb (R.AXIS_HOME_CFG a) F.AXIS_HOME_CFG_DIR then -v else v
  let m := d.fg (R.AXIS_HOME_CFG a) F.AXIS_HOME_CFG_METHOD
  if m = 0 ∨ 4 < m then d else
  d.modAx a fun x => { x with pCmd := x.pCmd + x.gCorr + travel v dt, gCorr := 0, vCmd := v, aCmd := 0 }

/-- A ramp at constant deceleration (R91): the velocity command falls towards zero and the position command follows the integrated
velocity. -/
def Dev.rampStep (d : Dev) (a dt : Nat) (decel : Int) : Dev :=
  let x := d.ax a
  let v := (x.vCmd.natAbs : Int)
  let dv := decel * dt / 1000000000
  let sg := signI x.vCmd
  if v = 0 then d
  else if decel ≤ 0 then d.modAx a fun x => { x with pCmd := x.pCmd + sg * travel v dt }
  else if v ≤ dv then
    d.modAx a fun x => { x with pCmd := x.pCmd + sg * roundDiv (v * v * 256) (2 * decel.toNat), vCmd := 0, aCmd := 0 }
  else
    d.modAx a fun x => { x with
      pCmd := x.pCmd + sg * roundDiv ((2 * v - dv) * 256 * dt) 2000000000, vCmd := sg * (v - dv), aCmd := -sg * decel }

/-- What drives one axis of a lane gives its set point, groups and followers excepted. -/
def Dev.axisStep (d : Dev) (a dt : Nat) : Dev :=
  let x := d.ax a
  match x.stop, d.axState a with
  | some r, _ =>
    if d.active a && d.axState a ≠ 1 && r.ramp && rankClass r.rank ≠ 0 && !d.fb (R.CE_AX_STATUS a) F.CE_AX_STATUS_HSG then
      d.rampStep a dt (if rankClass r.rank = 2 then d.rdS (R.AXIS_DECEL_NORMAL a) else d.rdS (R.AXIS_DECEL_QUICK a))
    else d
  | none, 3 =>
    match x.motion with
    | .profile => d.profileStep a dt
    | .home => d.homeStep a dt
    | .rampDown => d.rampStep a dt (d.rdS (R.AXIS_DECEL_NORMAL a))
    | _ => d
  | _, _ => d

/-! ### Gantry (R133) -/

/-- The enabled gantry pairs whose leader lies in a lane. -/
def Dev.gantries (d : Dev) (n : Nat) : List Nat :=
  (List.range 8).filter fun j => d.fb (R.INTERP_GANTRY_CFG j) F.INTERP_GANTRY_CFG_EN &&
    laneOf (d.fg (R.INTERP_GANTRY_CFG j) F.INTERP_GANTRY_CFG_LEADER) = n

/-- The gantry step of pair j at a tick (R133): both commands from the leader's set point, and FOLLOW on both beyond LIMIT; an axis that the
hardware stop generator drives takes no gantry command (R174). -/
def Dev.gantryStep (d : Dev) (j : Nat) : Dev :=
  let c := R.INTERP_GANTRY_CFG j
  let l := d.fg c F.INTERP_GANTRY_CFG_LEADER
  let p := d.fg c F.INTERP_GANTRY_CFG_PARTNER
  let ofs := d.rdS (R.INTERP_GANTRY_OFFSET j)
  let e := d.actual l - d.actual p - ofs
  let d := d.wrS (R.INTERP_GANTRY_YAW j) e
  let lim : Int := (d.fg (R.INTERP_GANTRY_LIMIT j) F.INTERP_GANTRY_LIMIT_LIMIT : Int) * 2 ^ 24
  let cl : Int := (d.fg (R.INTERP_GANTRY_LIMIT j) F.INTERP_GANTRY_LIMIT_CLAMP : Int) * 2 ^ 24
  let corr := clampI (-cl) cl (roundDiv ((d.fg c F.INTERP_GANTRY_CFG_KY : Int) * e) 32768)
  let h := roundDiv corr 2
  if d.active l && d.active p then
    let s := d.setPoint l
    let v := (d.ax l).vCmd
    let acc := (d.ax l).aCmd
    let free (d : Dev) (a : Nat) : Bool := !d.fb (R.CE_AX_STATUS a) F.CE_AX_STATUS_HSG
    let d := if free d l then d.modAx l fun x => { x with pCmd := s - h, gCorr := h } else d
    let d := if free d p then d.modAx p fun x => { x with pCmd := s - ofs + h, vCmd := v, aCmd := acc } else d
    if lim < (e.natAbs : Int) then (d.axisFault l 3).axisFault p 3 else d
  else d

end Sys2Proof.Machine
end

