-- ==== Sys2Proof/Machine/Interp.lean ====
section
/-!
DEFINITION. Path interpolation, gearing and cams (04): the decision instant, the opcodes of families 0x03 and 0x04, and
the events of groups, profiles and followers.
-/

namespace Sys2Proof.Machine

open Sys2Proof

/-! ### Shared checks -/

/-- A value has the velocity format of R4: bits [63:48] equal bit 47 (R5); `hi` is its upper word. -/
def velFormat (hi : Word) : Bool := wbits hi 31 15 = 0 || wbits hi 31 15 = 2 ^ 17 - 1

/-- The SS1 delay runs on the bank of an axis (R441). -/
def Dev.inSs1 (d : Dev) (a : Nat) : Bool := d.safety.ss1Banks.contains (laneOf a)

/-- The axis is the partner of a coupled gantry pair (R133). -/
def Dev.isPartner (d : Dev) (a : Nat) : Bool :=
  (List.range 8).any fun j => d.fb (R.INTERP_GANTRY_CFG j) F.INTERP_GANTRY_CFG_EN && d.fg (R.INTERP_GANTRY_CFG j) F.INTERP_GANTRY_CFG_PARTNER = a

/-- The axis is a member of a group that is not IDLE. -/
def Dev.inStartedGroup (d : Dev) (a : Nat) : Bool :=
  match d.groupOf a with | some g => d.grpState g ≠ 0 | none => false

/-- Lane rate, position-loop divider, tick phase and discipline of two lanes are equal (R105). -/
def Dev.lanesEqual (d : Dev) (m n : Nat) : Bool :=
  d.fg (R.CE_LANE_CFG m) F.CE_LANE_CFG_RATE = d.fg (R.CE_LANE_CFG n) F.CE_LANE_CFG_RATE
  && d.fg (R.CE_LANE_CFG m) F.CE_LANE_CFG_PDIV = d.fg (R.CE_LANE_CFG n) F.CE_LANE_CFG_PDIV
  && d.fg (R.SYS_TICK_CTRL m) F.SYS_TICK_CTRL_PHASE = d.fg (R.SYS_TICK_CTRL n) F.SYS_TICK_CTRL_PHASE
  && d.fg (R.SYS_TICK_CTRL m) F.SYS_TICK_CTRL_DISCIPLINE = d.fg (R.SYS_TICK_CTRL n) F.SYS_TICK_CTRL_DISCIPLINE

/-- An axis limit is unset (R111). -/
def Dev.noLimits (d : Dev) (a : Nat) : Bool :=
  d.rdS (R.INTERP_AXLIM_VMAX a) = 0 || d.rdS (R.INTERP_AXLIM_AMAX a) = 0 || d.rdS (R.INTERP_AXLIM_JMAX a) = 0

/-- The start condition of W3 and W4 (R112). -/
def startCond (p : Packet) : StartCond :=
  { start := pb p 3 23 20, source := pb p 4 15 0, timeout := pb p 4 31 20, early := wbit (pw p 4) 19
    anchor := wbit (pw p 3) 26, consume := wbit (pw p 3) 25 }

/-- The checks of W3 and W4 that SEGMENT and MOVE_AXIS share (R112, R123); `types` is the number of valid TYPE or MODE codes. -/
def startCheck (p : Packet) (types : Nat) : Option (Nat × Nat) :=
  let c := startCond p
  if types ≤ pb p 3 31 28 ∨ 4 < c.start ∨ pb p 3 19 16 ≠ 0 then some (0x0201, 3)
  else if c.anchor ∧ c.start ≠ 1 ∧ c.start ≠ 2 then some (0x0201, 3)
  else if pb p 4 18 16 ≠ 0 ∨ [0, 15, 639, 63, 63].getD c.start 0 < c.source then some (0x0201, 4)
  else none

/-- The first of some optional failures. -/
def firstFail (l : List (Option (Nat × Nat))) : Option (Nat × Nat) := l.findSome? id

/-- A velocity parameter at word `k` that must be positive: R5 gives 0x0207, the range 0x0201. -/
def posVel (p : Packet) (k : Nat) : Option (Nat × Nat) :=
  if !velFormat (pw p (k + 1)) then some (0x0207, k) else if pS p k ≤ 0 then some (0x0201, k) else none

/-- A velocity parameter at word `k` of any sign. -/
def anyVel (p : Packet) (k : Nat) : Option (Nat × Nat) := if velFormat (pw p (k + 1)) then none else some (0x0207, k)

/-! ### SEGMENT (R106, R112–R115) -/

/-- The members of the mask, in member order. -/
def maskBits (m : Nat) : List Nat := (List.range 8).filter fun i => m.testBit i

/-- The first word of the end positions of a segment, and the words each member takes. -/
def segBase (typ : Nat) : Nat × Nat := match typ with | 0 => (12, 2) | 1 => (16, 2) | 2 => (7, 6) | _ => (7, 2)

/-- The number of parameter words of a SEGMENT packet (R113). -/
def segLenWords (p : Packet) : Nat :=
  let n := (maskBits (pb p 5 7 0)).length
  match pb p 3 31 28 with
  | 0 => 9 + 2 * n
  | 1 => 13 + 2 * n
  | 2 => 4 + 6 * n
  | 3 => 4 + 2 * n
  | 4 => 3
  | 5 => 3
  | _ => p.params.length

/-- The segment that a packet describes for a group, from the start point of R114. -/
def Dev.segOf (d : Dev) (g : Nat) (p : Packet) : Segment :=
  let typ := pb p 3 31 28
  let last := (d.grp g).queue.getLast?
  let starts := match last with | some s => s.ends | none => d.memberPos g
  let mask := maskBits (pb p 5 7 0)
  let rel := typ ≠ 2 && typ ≠ 4 && typ ≠ 5 && wbit (pw p 5) 8
  let (b, w) := segBase typ
  let moves := typ < 4
  let val (i k : Nat) (dflt : Int) : Int :=
    match mask.findIdx? (· == i) with
    | some j => if moves then pS p (b + w * j + 2 * k) else dflt
    | none => dflt
  let ends := (List.range 8).map fun i =>
    if moves && mask.contains i then (if rel then at0 starts i + val i 0 0 else val i 0 0) else at0 starts i
  let pvt := typ = 2
  -- a SYNC segment in between does not halt the path
  let before := (skipSync (d.grp g).queue.reverse).head?
  let prev := match before with | some s => s.typ = 2 && (startCond p).start = 0 | none => false
  let cond := startCond p
  -- the arming point of an EARLY segment whose predecessor has started, or been left, lies in the past
  let cond := { cond with armed := cond.early && ((d.grp g).queue.length = 0 || ((d.grp g).queue.length = 1 && (d.grp g).active)) }
  { typ := typ, blend := wbit (pw p 3) 27, notify := wbit (pw p 3) 24, cond := cond, tag := pb p 3 15 0
    axmask := pb p 5 7 0
    feed := if typ ≤ 1 then pS p 6 else 0, acc := if typ ≤ 1 then pS p 8 else 0, jerk := if typ ≤ 1 then pS p 10 else 0
    starts := starts, ends := ends
    startV := (List.range 8).map fun i => if pvt && prev then at0 ((before.map (·.endV)).getD []) i else 0
    startA := (List.range 8).map fun i => if pvt && prev then at0 ((before.map (·.endA)).getD []) i else 0
    endV := (List.range 8).map fun i => if pvt then val i 1 0 else 0
    endA := (List.range 8).map fun i => if pvt then val i 2 0 else 0
    dur := if typ = 2 then (pw p 6).toNat else if typ = 4 then (pw p 5).toNat else 0
    velPct := pb p 6 15 0, accPct := pb p 6 31 16, syncEnd := wbit (pw p 5) 16
    dir := typ = 1 && wbit (pw p 5) 9, ax1 := pb p 5 12 10, ax2 := pb p 5 15 13, turns := if typ = 1 then pb p 5 19 16 else 0
    c1 := if typ = 1 then pS p 12 else 0
    c2 := if typ = 1 then pS p 14 else 0
    flag := pb p 5 5 0, clear := wbit (pw p 5) 8, accNs := d.ns }

/-- The slots that a group can still draw from the pool (R106). -/
def Dev.poolRoom (d : Dev) (g : Nat) : Bool :=
  let res (h : Nat) := d.fg (R.INTERP_GRP_CFG h) F.INTERP_GRP_CFG_RESERVE
  let fill (h : Nat) := (d.grp h).queue.length
  fill g < res g || (List.range 16).foldl (fun n h => n + max (fill h) (res h)) 0 < 4096

/-- SEGMENT's checks. -/
def Dev.segCheck (d : Dev) (p : Packet) : Option (Nat × Nat) :=
  let g := tix p
  let typ := pb p 3 31 28
  let w5 := (pw p 5).toNat
  let mask := maskBits (pb p 5 7 0)
  let resv : Nat := [0xFFFFFE00, 0xFFF00000, 0xFFFFFF00, 0xFFFEFE00, 0, 0xFFFFFEC0].getD typ 0
  let s := d.segOf g p
  let a := d.radius g s s.starts
  let b := d.radius g s s.ends
  let ra := vecLen a
  let rb := vecLen b
  firstFail [
    startCheck p 6,
    if w5 &&& resv ≠ 0 ∨ (typ = 4 ∧ w5 = 0) then some (0x0201, 5) else none,
    if typ ≤ 1 then firstFail [posVel p 6, posVel p 8, posVel p 10] else none,
    if typ = 2 ∧ ((pw p 6).toNat < 1000 ∨ 4000000000 < (pw p 6).toNat) then some (0x0201, 6) else none,
    if typ = 3 ∧ (pb p 6 15 0 = 0 ∨ 10000 < pb p 6 15 0 ∨ pb p 6 31 16 = 0 ∨ 10000 < pb p 6 31 16) then some (0x0201, 6) else none,
    if typ = 2 then firstFail ((List.range mask.length).flatMap fun j => [anyVel p (9 + 6 * j), anyVel p (11 + 6 * j)]) else none,
    if typ < 4 ∧ mask.any (fun i => d.member g i = 0xFF) then some (0x0205, 5) else none,
    if typ = 1 ∧ (s.ax1 = s.ax2 ∨ !mask.contains s.ax1 ∨ !mask.contains s.ax2 ∨ d.scaleOf g s.ax1 = 0 ∨ d.scaleOf g s.ax2 = 0)
      then some (0x0205, 5) else none,
    if typ = 1 ∧ (ra < 1000 * (max ra rb - min ra rb)) then some (0x0205, 12) else none,
    if (d.members g).any d.inSs1 then some (0x0603, 0) else none,
    if d.fg (R.INTERP_GRP_CFG g) F.INTERP_GRP_CFG_QDEPTH ≤ (d.grp g).queue.length then some (0x0401, 0) else none,
    if !d.poolRoom g then some (0x0402, 0) else none]

/-- SEGMENT queues a path segment; the members of a chain enter the queue at one instant (R115). -/
def specSegment : OpSpec where
  len p := segLenWords p
  check d p := d.segCheck p
  run d p :=
    let g := tix p
    let d := d.setQueue g ((d.grp g).queue ++ [d.segOf g p])
    .done d 0 0 [toW (d.fg (R.INTERP_GRP_CFG g) F.INTERP_GRP_CFG_QDEPTH - (d.grp g).queue.length), toW (d.fg R.INTERP_POOL F.INTERP_POOL_FREE)]

/-! ### Group commands (R105–R108, R119–R121) -/

/-- GROUP_START starts the path of an idle group; R105 gives no status for an empty member 0, here 0x0205 (DESIGN CHOICE, assumption
log 52). -/
def specGroupStart : OpSpec where
  len _ := 0
  check d p :=
    let g := tix p
    let ms := d.members g
    firstFail [
      if d.member g 0 = 0xFF then some (0x0205, 0) else none,
      if ms.any (fun a => !d.lanesEqual (laneOf (d.member g 0)) (laneOf a) || d.noLimits a) then some (0x0205, 0) else none,
      if d.grpState g ≠ 0 then some (0x0301, d.grpState g) else none,
      if ms.any (fun a => d.follows a || d.isPartner a || (d.ax a).running.isSome) then some (0x0303, 0) else none,
      if ms.any (fun a => d.axState a ≠ 2) then some (0x0301, d.grpState g) else none,
      if ms.any d.inSs1 then some (0x0603, 0) else none]
  run d p :=
    let g := tix p
    let d := d.each (d.members g) fun d a => d.modAx a fun x => { x with motion := .group }
    let wait : Bool := match (d.grp g).queue with | s :: _ => decide (s.cond.start ≠ 0) | [] => false
    let d := if wait then d.toWaiting g
      else
        let d := d.setGrpState g 1
        if (d.grp g).queue.isEmpty then d.fsb (R.INTERP_GRP_STATUS g) F.INTERP_GRP_STATUS_DRAINED true else d.membersMoving g
    .wait d [⟨.groupStart, g⟩] []

/-- GROUP_HOLD holds or releases a group's path by the table of R121. -/
def specGroupHold : OpSpec where
  len _ := 1
  check d p :=
    let st := d.grpState (tix p)
    if pb p 3 31 1 ≠ 0 then some (0x0201, 3)
    else if st = 0 ∨ st = 5 then some (0x0301, st) else none
  run d p :=
    let g := tix p
    let hold := wbit (pw p 3) 0
    match d.grpState g with
    | 1 => if hold then
        let d := (d.fsb (R.INTERP_GRP_STATUS g) F.INTERP_GRP_STATUS_DRAINED false).membersMoving g
        .wait (d.setGrpState g 3) [⟨.groupHeld, g⟩] [] else .done d 0 0 []
    | 2 => if hold then .done (d.setGrpState g 4) 0 0 [] else .done d 0 0 []
    | 3 => if hold then .wait d [⟨.groupHeld, g⟩] [] else .done ((d.resolve ⟨.groupHeld, g⟩ 0 0 []).setGrpState g 1) 0 0 []
    | 4 =>
      if hold then .done d 0 0 []
      else
        let waits := match (d.grp g).queue with | s :: _ => s.cond.start ≠ 0 && !(d.grp g).active | [] => false
        .done (if waits then d.toWaiting g else d.setGrpState g 1) 0 0 []
    | _ => .done d 0 0 []

/-- OVERRIDE writes INTERP_GRP_OVR on the group's reference lane (R119, R134). -/
def specOverride : OpSpec where
  len _ := 1
  check _ p := if 20000 < pb p 3 15 0 ∨ 1000 < pb p 3 31 16 then some (0x0201, 3) else none
  run d p :=
    let g := tix p
    let ramp := pb p 3 31 16
    let m : Word := if ramp = 0 then 0x0000FFFF#32 else 0xFFFFFFFF#32
    let (d, gid) := d.queueWrites [(R.INTERP_GRP_OVR g, m, pw p 3)] (d.grpLane g)
    .wait d [⟨.write, gid⟩] []

/-- FLUSH_GROUP discards queued segments and brings the group to IDLE (R120).  In IDLE the queue is discarded and the reply comes at once, and
in STOPPING the command waits for IDLE: R120 names neither state (DESIGN CHOICE, assumption log 52). -/
def specFlushGroup : OpSpec where
  len _ := 0
  check _ _ := none
  run d p :=
    let g := tix p
    let q := (d.grp g).queue
    match d.grpState g with
    | 0 => .done (d.setQueue g []) 0 0 [toW q.length]
    | 1 =>
      if q.isEmpty then .done (d.groupToIdle g) 0 0 [0]
      else
        let keep := d.mustKeep g
        .wait ((d.setQueue g (q.take keep)).modGrp g fun x => { x with flush := true, keep := keep, dropped := q.length - keep }) [⟨.groupIdle, g⟩] []
    | 2 => .done (d.groupToIdle g) 0 0 [toW q.length]
    | 4 => .done (d.groupToIdle g) 0 0 [toW q.length]
    | 3 => .wait (d.modGrp g fun x => { x with flush := true }) [⟨.groupIdle, g⟩] []
    | _ => .wait d [⟨.groupIdle, g⟩] []

/-! ### MOVE_AXIS (R125) -/

/-- MOVE_AXIS starts or replaces a single-axis profile. -/
def specMoveAxis : OpSpec where
  len _ := 10
  check d p :=
    let a := tix p
    let st := d.axState a
    firstFail [
      startCheck p 3,
      if pb p 3 31 28 = 2 then anyVel p 5 else none,
      posVel p 7, posVel p 9, posVel p 11,
      if d.noLimits a then some (0x0205, 0) else none,
      if d.follows a ∨ d.isPartner a ∨ d.inStartedGroup a then some (0x0303, 0) else none,
      if st = 2 ∨ (st = 3 ∧ (d.ax a).motion = .profile) then none else some (0x0301, st),
      if d.inSs1 a then some (0x0603, 0) else none]
  run d p :=
    let a := tix p
    let prof : Profile :=
      { cond := { startCond p with armed := true }, tag := pb p 3 15 0, mode := pb p 3 31 28, target := pS p 5
        vmax := pS p 7, amax := pS p 9, jmax := pS p 11 }
    if prof.cond.start = 0 then
      .wait ((d.resolve ⟨.profile, 128 + a⟩ 0x0306 0 []).modAx a fun x => { x with next := some prof }) [⟨.profile, 128 + a⟩] []
    else
      .wait ((d.resolve ⟨.profile, 64 + a⟩ 0x0306 0 []).modAx a fun x => { x with waiting := some prof }) [⟨.profile, 64 + a⟩] []

/-! ### Gears and cams (R126–R135) -/

/-- The master and age checks that GEAR_ENGAGE and CAM_ENGAGE share (R135). -/
def masterCheck (p : Packet) : Option (Nat × Nat) :=
  let kind := pb p 3 31 28
  if 4 < kind ∨ 2 < pb p 3 26 24 ∨ [64, 64, 64, 8, 32].getD kind 0 ≤ pb p 3 7 0 ∨ ((kind = 4) = (pb p 3 15 8 = 0)) then some (0x0201, 3) else none

/-- The axis may not be engaged now: its state, its group, its profile, its gantry, SS1. -/
def Dev.engageState (d : Dev) (a : Nat) : Option (Nat × Nat) :=
  let st := d.axState a
  firstFail [
    if st = 2 ∨ (st = 3 ∧ (d.ax a).motion = .follower) then none else some (0x0301, st),
    if d.isPartner a ∨ d.inStartedGroup a then some (0x0303, 0) else none,
    if d.inSs1 a then some (0x0603, 0) else none]

/-- A follower record would make a chain deeper than 4 or an axis its own master (R129). -/
def Dev.chainTooDeep (d : Dev) (a : Nat) (f : Follower) : Bool :=
  let d := d.modAx a fun x => { x with folNext := some f }
  (List.range 64).any fun b => 4 < d.depthOf b 6

/-- An accepted engagement replaces a waiting one, whose reply carries 0x0306; one that runs goes on until the new one takes effect. -/
def Dev.takeFollower (d : Dev) (a : Nat) (f : Follower) : Dev :=
  ((d.resolve ⟨.engage, a⟩ 0x0306 0 []).modAx a fun x => { x with fol := x.fol.map fun y => { y with nextProf := none } }).modAx a fun x =>
    { x with folNext := some f }

/-- The follower that a GEAR_ENGAGE packet describes. -/
def gearOf (p : Packet) : Follower :=
  { cam := false, phase := 3, mode := pb p 3 26 24, kind := pb p 3 31 28, extrap := wbit (pw p 3) 27, index := pb p 3 7 0
    maxAge := pb p 3 15 8, n := toS 32 (pw p 4).toNat, d := (pw p 5).toNat, len := pS p 6, engPos := pS p 8 }

/-- GEAR_ENGAGE engages an axis as a gear follower. -/
def specGearEngage : OpSpec where
  len _ := 7
  check d p :=
    let a := tix p
    firstFail [
      masterCheck p,
      if pw p 5 = 0 then some (0x0201, 5) else none,
      if pb p 3 26 24 ≠ 0 ∧ pS p 6 ≤ 0 then some (0x0201, 6) else none,
      if d.chainTooDeep a (gearOf p) then some (0x0205, 3) else none,
      d.engageState a]
  run d p := .wait (d.takeFollower (tix p) (gearOf p)) [⟨.engage, tix p⟩] []

/-- GEAR_DISENGAGE ends a gear or cam, and the follower ramps to rest (R132). -/
def specGearDisengage : OpSpec where
  len _ := 0
  check d p := if !d.follows (tix p) then some (0x0301, d.axState (tix p)) else none
  run d p :=
    let a := tix p
    let moving := d.axState a = 3
    let d := d.disengage a
    if moving then .wait (d.modAx a fun x => { x with motion := .rampDown }) [⟨.rest, a⟩] [] else .done d 0 0 []

/-- A profile that no engagement may name: COUNT below 2 or points beyond the table, or no length (R130). -/
def Dev.badProfile (d : Dev) (p : Nat) : Bool :=
  let c := R.INTERP_CAM_PROF p
  d.fg c F.INTERP_CAM_PROF_COUNT < 2 || 4096 < d.fg c F.INTERP_CAM_PROF_FIRST + d.fg c F.INTERP_CAM_PROF_COUNT
    || d.rdS (R.INTERP_CAM_LEN p) ≤ 0

/-- A cyclic profile without CARRY must end where it starts (R131). -/
def Dev.openCycle (d : Dev) (p : Nat) : Bool :=
  let c := R.INTERP_CAM_PROF p
  d.fb c F.INTERP_CAM_PROF_CYCLIC && !d.fb c F.INTERP_CAM_PROF_CARRY &&
    d.rdS (R.CAM_Y (d.fg c F.INTERP_CAM_PROF_FIRST)) ≠ d.rdS (R.CAM_Y (d.fg c F.INTERP_CAM_PROF_FIRST + d.fg c F.INTERP_CAM_PROF_COUNT - 1))

/-- The follower that a CAM_ENGAGE packet describes. -/
def camOf (p : Packet) : Follower :=
  { cam := true, phase := 3, mode := pb p 3 26 24, kind := pb p 3 31 28, extrap := wbit (pw p 3) 27, index := pb p 3 7 0
    maxAge := pb p 3 15 8, prof := pb p 3 21 16, mOff := pS p 4, fOff := pS p 6 }

/-- CAM_ENGAGE engages an axis as a cam follower or switches its profile. -/
def specCamEngage : OpSpec where
  len _ := 5
  check d p :=
    let a := tix p
    let sw := pb p 3 26 24 = 2
    firstFail [
      masterCheck p,
      if d.badProfile (pb p 3 21 16) then some (0x0201, 3) else none,
      if d.openCycle (pb p 3 21 16) then some (0x0205, 3) else none,
      if !sw ∧ d.chainTooDeep a (camOf p) then some (0x0205, 3) else none,
      if sw ∧ !(match (d.ax a).fol with | some f => f.cam && f.phase = 2 | none => false) then some (0x0301, d.axState a) else none,
      d.engageState a]
  run d p :=
    let a := tix p
    match (d.ax a).fol with
    | some f =>
      if pb p 3 26 24 = 2 then
        .wait ((d.resolve ⟨.engage, a⟩ 0x0306 0 []).modAx a fun x =>
          { x with fol := some { f with nextProf := some (pb p 3 21 16, pS p 4, pS p 6) }, folNext := none }) [⟨.engage, a⟩] []
      else .wait (d.takeFollower a (camOf p)) [⟨.engage, a⟩] []
    | none => .wait (d.takeFollower a (camOf p)) [⟨.engage, a⟩] []

/-- A point lies in the span of a profile that a follower is engaged on. -/
def Dev.camInUse (d : Dev) (first n : Nat) : Bool :=
  (List.range 64).any fun a =>
    match (d.ax a).fol with
    | some f => f.cam && f.phase = 2 &&
        let c := R.INTERP_CAM_PROF f.prof
        let lo := d.fg c F.INTERP_CAM_PROF_FIRST
        first < lo + d.fg c F.INTERP_CAM_PROF_COUNT && lo < first + n
    | none => false

/-- CAM_LOAD writes points into the cam point table (R130, R134). -/
def specCamLoad : OpSpec where
  len p := if wbit (pw p 3) 31 then 3 else 3 + 4 * (pw p 4).toNat
  check d p :=
    let st := wbit (pw p 3) 31
    let first := pb p 3 11 0
    let n := (pw p 4).toNat
    firstFail [
      if pb p 3 30 12 ≠ 0 then some (0x0201, 3) else none,
      if n = 0 ∨ (if st then 4096 else 14) < n ∨ 4096 < first + n then some (0x0201, 4) else none,
      if st ∧ ((pw p 5).toNat % 16 ≠ 0 ∨ 2 ^ 24 < (pw p 5).toNat + 16 * n) then some (0x0201, 5) else none,
      if d.camInUse first n ∨ (st ∧ d.stagingBusy) then some (0x0303, 0) else none]
  run d p :=
    let st := wbit (pw p 3) 31
    let first := pb p 3 11 0
    let n := (pw p 4).toNat
    let base := stagingBase + (pw p 5).toNat
    .done (d.each (List.range (4 * n)) fun d k =>
      d.wr (R.CAM_Y first + 4 * k) (if st then d.bulkWord (base + 4 * k) else pw p (6 + k))) 0 0 []

/-! ### Events -/

/-- The position-loop period of a lane in ns (R25, R144). -/
def Dev.loopNs (d : Dev) (n : Nat) : Nat := d.tickCounts n * 2 ^ d.fg (R.CE_LANE_CFG n) F.CE_LANE_CFG_PDIV * 5 / 2

/-- The next tick of lane `n` is a position-loop tick (R144). -/
def Dev.loopNext (d : Dev) (n : Nat) : Bool := (d.rd64 (R.SYS_TICK_COUNT n) + 1) % 2 ^ d.fg (R.CE_LANE_CFG n) F.CE_LANE_CFG_PDIV = 0

/-- DECISION_INSTANT: 2.0 µs before a position-loop tick of lane `n` the interpolator computes every set point (R109).  What waits in a
lane whose decision lies at the same instant and came before sees the flags of this one (R124), and a follower there takes the values of
its masters in this one (R128). -/
def Dev.decision (d : Dev) (n : Nat) : Dev :=
  if d.ce.stopped || !d.loopNext n then d else
  let tick := d.ns + 2000
  let dt := d.loopNs n
  let d := if n = 0 then d.each (List.range 8) fun d v => d.wrS (R.INTERP_VM_POS v) (d.vmAt v tick).pos else d
  let gs := (List.range 16).filter fun g => d.grpLane g = some n
  let d := d.each gs fun d g => d.groupAdvance g dt tick
  let done := (List.range 4).filter fun m => m ≠ n && tabGet d.ip.tickNs m = tick
  let all := (List.range 16).filter fun g => match d.grpLane g with | some m => m = n || done.contains m | none => false
  let d := d.conditionRounds all tick 17
  let d := d.each (done.flatMap laneAxes) fun d a =>
    let d' := d.profileStart tick a
    if (d'.ax a).running = (d.ax a).running then d' else d'.profileStep a (d.loopNs (laneOf a))
  let d := d.each (laneAxes n) fun d a => (d.profileStart tick a).axisStep a dt
  let late := (done.flatMap laneAxes).filter fun a => match (d.ax a).fol with | some f => f.kind = 0 | none => false
  let d := d.each [1, 2, 3, 4] fun d k => d.each ((laneAxes n ++ late).filter fun a => d.depthOf a 6 = k) fun d a => d.followerStep a tick
  let d := d.each ((n :: done).flatMap d.gantries) Dev.gantryStep
  { d with ip := { d.ip with tickNs := tabSet d.ip.tickNs n tick } }

/-- DECISION_INSTANT of a lane. -/
def execDecisionInstant (n : Fin 4) (s : State) : Out := s.onDev fun d => d.decision n

/-- START_CONDITION_TIMEOUT: TIMEOUT has passed while a group waits (R122). -/
def execStartConditionTimeout (g : Fin 16) (s : State) : Out := s.onDev fun d =>
  match (d.grp g).queue with
  | sg :: _ => if (d.grpState g = 2 ∨ d.grpState g = 4) ∧ !(d.grp g).active ∧ sg.cond.start ≠ 0 ∧ sg.cond.timeout ≠ 0 then
      d.grpEvent g F.INTERP_GRP_EVENT_WAIT_TIMEOUT else d
  | [] => d

/-- The members of a group are at rest where they are. -/
def Dev.groupRest (d : Dev) (g : Nat) : Dev :=
  d.each (d.members g) fun d a =>
    if (d.ax a).motion = .group then d.modAx a fun x => { x with vCmd := 0, aCmd := 0 } else d

/-- HOLD_COMPLETE: the path of a HOLDING group is at rest (R120); a flush during the hold discards every segment. -/
def execHoldComplete (g : Fin 16) (s : State) : Out := s.onDev fun d =>
  if d.grpState g = 3 && d.pathRest g then
    let d := (d.groupRest g).modGrp g fun x => { x with pacc := 0, scale := 0, scaleFrom := 0, scaleTo := 0 }
    let d := (d.setGrpState g 4).resolve ⟨.groupHeld, g⟩ 0 0 []
    if (d.grp g).flush then d.groupToIdle g else d
  else d

/-- GROUP_STOP_COMPLETE: a path that decelerated under a stop is at rest (R99). -/
def execGroupStopComplete (g : Fin 16) (s : State) : Out := s.onDev fun d =>
  if d.grpState g = 5 && d.pathRest g then (d.groupRest g).groupToIdle g else d

/-- FLUSH_COMPLETE: the path of a flushed group rests at the end of the last segment kept (R120). -/
def execFlushComplete (g : Fin 16) (s : State) : Out := s.onDev fun d =>
  if d.grpState g = 1 && (d.grp g).flush && (d.grp g).keep = 0 then (d.groupRest g).groupToIdle g else d

/-- PROFILE_COMPLETE: the set point of a profile is at its target position, and the axis is READY, or at its target velocity (R125). -/
def execProfileComplete (a : Fin 64) (s : State) : Out := s.onDev fun d =>
  match (d.ax a).running with
  | none => d
  | some p =>
    if d.axState a ≠ 3 || p.elapsed < p.move.total || p.reached then d
    else if p.mode = 2 ∧ p.target ≠ 0 then
      (d.modAx a fun x => { x with running := some { p with reached := true } }).resolve ⟨.profile, a⟩ 0 0 []
    else
      let d := d.modAx a fun x => { x with
        running := none, motion := .hold, pCmd := (p.move.at' p.move.total).1 - x.gCorr, vCmd := 0, aCmd := 0 }
      (d.setState a 2).resolve ⟨.profile, a⟩ 0 0 []

/-- FOLLOWER_RAMP_END: a disengaged follower is at rest and READY (R132). -/
def execFollowerRampEnd (a : Fin 64) (s : State) : Out := s.onDev fun d =>
  if d.axState a = 3 ∧ (d.ax a).motion = .rampDown ∧ (d.ax a).vCmd = 0 ∧ (d.ax a).stop.isNone then
    ((d.modAx a fun x => { x with motion := .hold, aCmd := 0 }).setState a 2).resolve ⟨.rest, a⟩ 0 0 []
  else d

/-- The master value of an engaged follower now. -/
def Dev.masterNow (d : Dev) (f : Follower) : Int := (d.master f.kind f.index f.extrap d.ns).1

/-- CLUTCH_START: in mode 2 the master crosses the engage position (R127). -/
def execClutchStart (a : Fin 64) (s : State) : Out := s.onDev fun d =>
  match (d.ax a).folNext with
  | some f => if (d.ax a).stop.isNone && !f.cam && f.phase = 0 && f.crosses (d.masterNow f) then d.gearStart a f (d.masterNow f) else d
  | none => d

/-- CLUTCH_COMPLETE: the master travel has reached L, and the exact ratio holds (R127). -/
def execClutchComplete (a : Fin 64) (s : State) : Out := s.onDev fun d =>
  match (d.ax a).fol with
  | some f =>
    if !f.cam && f.phase = 1 && f.clutchEnds (d.masterNow f) then
      let (f', p) := f.clutchDone (d.masterNow f)
      (d.modAx a fun x => { x with fol := some f', pCmd := p, gCorr := 0 }).followStatus a f'
    else d
  | none => d

/-- A follower's master is lost (R129). -/
def Dev.masterLost (d : Dev) (f : Follower) : Bool :=
  (f.kind = 2 && d.fb (R.ENC_STATUS f.index) F.ENC_STATUS_FAILED)
  || (f.kind = 4 && f.maxAge < d.fg (R.TRV_RXAGE f.index) F.TRV_RXAGE_AGE)

/-- MASTER_LOST: the follower is disengaged and runs a class 2 stop (R129); an engagement that waits for a lost master ends. -/
def execMasterLost (a : Fin 64) (s : State) : Out := s.onDev fun d =>
  let lost (f : Option Follower) : Bool := match f with | some f => d.masterLost f | none => false
  let flag (d : Dev) : Dev := d.fsb (R.INTERP_FOLLOW_STATUS a) F.INTERP_FOLLOW_STATUS_MASTER_LOST true
  if lost (d.ax a).fol then (flag d).stopAxis a 5 2
  else if lost (d.ax a).folNext then ((flag d).modAx a fun x => { x with folNext := none }).resolve ⟨.engage, a⟩ 0x0306 0 []
  else d

/-- CAM_WRAP_ENGAGE: the cyclic master wraps, and a waiting engagement or profile switch takes effect (R132). -/
def execCamWrapEngage (a : Fin 64) (s : State) : Out := s.onDev fun d =>
  let wraps (f : Follower) : Bool := f.cam && d.camWraps f (d.masterNow f)
  if (d.ax a).stop.isSome then d else
  match (d.ax a).folNext, (d.ax a).fol with
  | some f, _ => if f.phase = 0 && wraps f then d.camStart a f (d.masterNow f) else d
  | none, some f => if f.nextProf.isSome && wraps f then d.camSwitch a f else d
  | none, none => d

end Sys2Proof.Machine
end

