-- ==== Sys2Proof/Machine/Axis.lean ====
section
/-!
DEFINITION. Axis slots (03): the opcodes of family 0x02 and the events of enabling, stopping, homing and the host
watchdog.
-/

namespace Sys2Proof.Machine

open Sys2Proof

/-! ### Enabling: causes and lane budget (R88, R166, R167, R195, R218, R233, R568) -/

/-- The clock bits of CFE_CLK_STATUS that concern the inputs of an axis are set. -/
def Dev.clockFault (d : Dev) (a : Nat) : Bool :=
  if d.fb R.CFE_CLK_CFG F.CFE_CLK_CFG_EXT then d.fb R.CFE_CLK_STATUS F.CFE_CLK_STATUS_EXT_LOST
  else (d.curIns a).any fun i => d.bit R.CFE_CLK_STATUS (5 * (i / 40) + d.fg (R.CFE_SD_CFG i) F.CFE_SD_CFG_CLKSEL)

/-- Hook `h` of an axis is enabled and no core is bound to it. -/
def Dev.hookUnbound (d : Dev) (a h : Nat) : Bool :=
  d.bit (R.CE_AX_HOOK a) h && !(List.range 4).any fun c => d.bit (R.TD_HOOK_MASK c h) a

/-- The causes of R568 for one axis, in the order of their codes. -/
def Dev.enableCauses (d : Dev) (a : Nat) : List Bool :=
  let ins := d.curIns a
  let cfg (i : Nat) (f : Fld) := d.fg (R.CFE_SD_CFG i) f
  let differ (f : Fld) : Bool := match ins with | [i, j] => cfg i f ≠ cfg j f | _ => false
  [!d.bound a,
   d.axType a ≤ 1 && d.rd (R.AXIS_COMMUT a) == 0,
   d.rdS (R.AXIS_DECEL_NORMAL a) ≤ 0 || d.rdS (R.AXIS_DECEL_QUICK a) ≤ 0,
   d.rdS (R.AXIS_DECEL_QUICK a) < d.rdS (R.AXIS_DECEL_NORMAL a),
   d.fg (R.AXIS_COMM_CFG a) F.AXIS_COMM_CFG_COMM_SRC = 1 && d.fg (R.AXIS_COMM_CFG a) F.AXIS_COMM_CFG_ALIGN_T = 0,
   (d.rd (R.CE_AX_PARAM a 6)).toNat % 2 ^ 31 = 0,
   d.hookUnbound a 0 || d.hookUnbound a 4,
   ins.any fun i => cfg i F.CFE_SD_CFG_EN = 0,
   differ F.CFE_SD_CFG_CLKSEL || differ F.CFE_SD_CFG_OSR,
   !d.fb R.CFE_CLK_CFG F.CFE_CLK_CFG_EXT &&
     ins.any fun i => d.fg (R.CFE_SDCK_CFG (5 * (i / 40) + cfg i F.CFE_SD_CFG_CLKSEL)) F.CFE_SDCK_CFG_EN = 0,
   d.clockFault a,
   ins.any fun i => d.fb (R.CFE_SD_STATUS i) F.CFE_SD_STATUS_FILLING,
   (d.axisTrips a).any d.latched,
   d.frameTooLong (d.portOf a)]

/-- The lowest cause code of R568 that holds for some of the axes. -/
def Dev.enableCause (d : Dev) (l : List Nat) : Option Nat :=
  let cs := l.map d.enableCauses
  ((List.range 14).find? fun k => cs.any fun c => c.getD k false).map (· + 1)

/-- The axes of a lane that count against its budget: the active ones and those whose ENABLE waits for its tick. -/
def Dev.counted (d : Dev) (n : Nat) (more : List Nat) : List Nat :=
  (laneAxes n).filter fun a => d.active a || (d.ax a).enab == .pending || more.contains a

/-- The lane admits some further axes (R166). -/
def Dev.admits (d : Dev) (n : Nat) (more : List Nat) : Bool :=
  let l := d.counted n more
  let nm := nMax (d.tickCounts n) (d.tMod n l)
  l.length ≤ 16 && l.length * (400000000 / d.tickCounts n) ≤ 1280000 &&
  (List.range 4).all fun ph => (l.filter fun a => d.fg (R.CE_AX_CFG a) F.CE_AX_CFG_SPH = ph).length ≤ nm

/-- Why ENABLE fails on an axis and its coupled mate (R88, R133, R166, R441), in SERVO_OFF (R513) and during a thermal stop (R527). -/
def Dev.enableFail (d : Dev) (l : List Nat) : Option (Nat × Nat) :=
  match d.enableCause l with
  | some k => some (0x0205, k)
  | none =>
    if l.any fun a => d.axState a = 6 then some (0x0305, 0)
    else match l.find? fun a => d.axState a ≠ 0 with
      | some a => some (0x0301, d.axState a)
      | none =>
        if d.fg R.PWR_STATUS F.PWR_STATUS_STATE = 1 then some (0x0301, 0)
        else if d.fg R.THERMAL_STATUS F.THERMAL_STATUS_LEVEL = 3 then some (0x0303, 0)
        else if l.any d.inSs1 then some (0x0603, 0)
        else if l.any fun a => !d.admits (laneOf a) (l.filter fun b => laneOf b = laneOf a) then some (0x0403, 0)
        else none

/-- An ENABLE is accepted for one axis: WD_EXPIRED, SAT, the largest issue delay and the counters of its legs clear (R103,
R142, R171), and the enabling sequence waits for the lane's next tick. -/
def Dev.enableAccept (d : Dev) (a : Nat) : Dev :=
  let d := d.modAx a fun x => { x with enab := .pending }
  let d := (d.fsb (R.AXIS_STATUS a) F.AXIS_STATUS_WD_EXPIRED false).fsb (R.CE_AX_STATUS a) F.CE_AX_STATUS_SAT false
  (d.fs (R.CE_AX_DELAY a) F.CE_AX_DELAY_MAX 0).each (d.legsOf a) Dev.clearLegCount

/-- What a command on several axes has gathered: what it waits for, and the first failure with its axis (R104). -/
structure MultiEnd where
  waits  : List Wait := []
  status : Nat := 0
  detail : Nat := 0
  failIx : Nat := 0
  deriving DecidableEq, Repr, Inhabited

/-- A target has failed. -/
def MultiEnd.fail (m : MultiEnd) (st det a : Nat) : MultiEnd :=
  if m.status = 0 then { m with status := st, detail := det, failIx := a } else m

/-- The target axes of a packet (R104, R133). -/
def Dev.targetAxes (d : Dev) (p : Packet) : List Nat :=
  if p.tclass = 0xFF then (List.range 64).filter d.bound
  else if p.tclass = 0x02 then (((d.members (tix p)).flatMap d.withMate).eraseDups).filter d.active
  else d.withMate (tix p)

/-- The end of a command on several axes. -/
def multiEnd (d : Dev) (m : MultiEnd) (n : Nat) : OpEnd := .waitAll d m.waits m.status m.detail m.failIx (d.tickWords n)

/-- The lane whose tick number a reply carries when the command has nothing to wait for. -/
def replyLane (l : List Nat) : Nat := laneOf (l.getLastD 0)

/-- One target of ENABLE with TCLASS 0xFF. -/
def enableOne (x : Dev × MultiEnd) (a : Nat) : Dev × MultiEnd :=
  let (d, m) := x
  if m.waits.contains ⟨.enable, a⟩ then x else
  let l := d.withMate a
  match d.enableFail l with
  | some (st, det) => (d, m.fail st det a)
  | none => (d.each l Dev.enableAccept, { m with waits := m.waits ++ l.map fun b => ⟨.enable, b⟩ })

/-- ENABLE checks the axis and the lane budget and starts the enabling sequence. -/
def specEnable : OpSpec where
  len _ := 0
  check d p := if p.tclass = 0xFF then none else d.enableFail (d.withMate (tix p))
  run d p :=
    let l := d.targetAxes p
    let (d, m) := l.foldl enableOne (d, {})
    multiEnd d m (replyLane l)

/-- ENABLE (R88). -/
def execEnable (p : Packet) (s : State) : Out := s.onDev fun d => d.runOp 0x0200 specEnable p

/-! ### DISABLE and STOP (R53, R91–R93, R98–R100, R104) -/

/-- A wait concerns one of some axes. -/
def Wait.onAxis (w : Wait) (l : List Nat) : Bool :=
  [WaitKind.enable, .final, .home, .profile, .engage, .rest].contains w.kind && l.contains (w.ix % 64)

/-- A STOP or DISABLE from Q0 ends every started Q1 command that waits on an affected axis (R53). -/
def Dev.endQ1 (d : Dev) (l : List Nat) : Dev :=
  (d.cmd.accepted.filter fun a => a.pkt.q = 1 && a.started && a.waits.any fun w => w.onAxis l).foldl
    (fun d a => d.finish a.pkt 0x0306 0 []) d

/-- The axes on which a stop of severity `rank` takes effect: a less severe stop than the running one has no effect but its
answer (R92). -/
def Dev.stopped (d : Dev) (rank : Nat) (l : List Nat) : List Nat :=
  l.filter fun a => match (d.ax a).stop with | some r => rank ≤ r.rank | none => true

/-- One target of a stop of severity `rank` that ends in `final`.  R98 and R91 name no answer in SAFE_OFF, FAULTED and DISABLED: here it is
0x0305, 0x0301 with detail 5, and 0x0000 at once (DESIGN CHOICE, assumption log 51). -/
def stopOne (rank final : Nat) (x : Dev × MultiEnd) (a : Nat) : Dev × MultiEnd :=
  let (d, m) := x
  match d.axState a with
  | 6 => (d, m.fail 0x0305 0 a)
  | 5 => (d, m.fail 0x0301 5 a)
  | _ =>
    let less : Bool := match (d.ax a).stop with | some r => r.rank < rank | none => false
    let d := d.stopAxis a rank final
    (d, if (d.ax a).stop.isSome then { m with waits := m.waits ++ [⟨.final, if less then 64 + a else a⟩] } else m)

/-- A device-wide STOP from Q0 on one axis that the hardware stop generator ramps (R93): class 0 turns the legs off, class 1
lets the ramp run, class 2 keeps DECEL_QUICK and ends in READY, where no other stop has come to the axis. -/
def stopWide (cls : Nat) (x : Dev × MultiEnd) (a : Nat) : Dev × MultiEnd :=
  let (d, m) := x
  if cls = 0 && d.active a then (d.cutAxis a, m)
  else if cls = 2 && d.fb (R.CE_AX_STATUS a) F.CE_AX_STATUS_HSG && (d.ceAx a).hsgOwn then
    let d := (d.modAx a fun x => { x with stop := x.stop.map fun r => { r with rank := 5, final := 2, quick := true } }).modCe a fun x =>
      { x with hsgOwn := false }
    (d, { m with waits := m.waits ++ [⟨.final, a⟩] })
  else stopOne ([2, 4, 5].getD cls 5) (if cls = 2 then 2 else 0) x a

/-- DISABLE runs a class 1 stop to DISABLED, or aborts an enabling sequence. -/
def specDisable : OpSpec where
  len _ := 0
  check _ _ := none
  run d p :=
    let l := d.targetAxes p
    let d := if p.q = 0 then d.endQ1 (d.stopped 4 l) else d
    let (d, m) := l.foldl (stopOne 4 0) (d, {})
    multiEnd d m (replyLane l)

/-- DISABLE (R98). -/
def execDisable (p : Packet) (s : State) : Out := s.onDev fun d => d.runOp 0x0201 specDisable p

/-- STOP runs a stop of class 0, 1 or 2 on an axis, on a group or on every axis. -/
def specStop : OpSpec where
  len _ := 1
  check _ p := if 2 < (pw p 3).toNat then some (0x0201, 3) else none
  run d p :=
    let cls := (pw p 3).toNat
    let l := d.targetAxes p
    let d := if p.q = 0 then d.endQ1 (d.stopped ([2, 4, 5].getD cls 5) l) else d
    let d := if p.tclass = 0x02 then d.groupStop (tix p) cls else d
    let one := if p.q = 0 && p.tclass = 0xFF then stopWide cls
      else stopOne ([2, 4, 5].getD cls 5) (if cls = 2 then 2 else 0)
    let (d, m) := l.foldl one (d, {})
    multiEnd d.hsgUpdate m (replyLane l)

/-- STOP (R91). -/
def execStop (p : Packet) (s : State) : Out := s.onDev fun d => d.runOp 0x0202 specStop p

/-! ### HOME (R96, R97, R229, R244, R250) -/

/-- METHOD of an axis. -/
def Dev.homeMethod (d : Dev) (a : Nat) : Nat := d.fg (R.AXIS_HOME_CFG a) F.AXIS_HOME_CFG_METHOD

/-- SWITCH of an axis. -/
def Dev.homeSwitch (d : Dev) (a : Nat) : Nat := d.fg (R.AXIS_HOME_CFG a) F.AXIS_HOME_CFG_SWITCH

/-- The homing switch is a fix input. -/
def Dev.homeByFix (d : Dev) (a : Nat) : Bool := d.fb (R.AXIS_HOME_CFG a) F.AXIS_HOME_CFG_SRC_KIND

/-- HOME starts the search that AXIS_HOME_CFG.METHOD names. -/
def specHome : OpSpec where
  len _ := 0
  check d p :=
    let a := tix p
    let m := d.homeMethod a
    let fx := R.FIX_CFG (d.homeSwitch a)
    firstFail [
      if 1 ≤ m ∧ m ≤ 4 ∧ d.rdS (R.AXIS_HOME_VEL a) = 0 then some (0x0205, 0) else none,
      if (m = 1 ∨ m = 2) ∧ d.encMode (d.portOf a) ≠ 1 then some (0x0205, 0) else none,
      if d.homeByFix a ∧ !(d.fb fx F.FIX_CFG_EN && d.fg fx F.FIX_CFG_SRC = 0) then some (0x0205, 0) else none,
      if d.axState a ≠ 2 then some (0x0301, d.axState a) else none,
      if d.inStartedGroup a || d.follows a || d.isPartner a
          || (List.range 16).any (fun o => d.pcoOn o && d.pcoAxis o = a) then some (0x0303, 0) else none,
      if d.inSs1 a then some (0x0603, 0) else none]
  run d p :=
    let a := tix p
    let m := d.homeMethod a
    if m = 5 ∧ d.encMode (d.portOf a) = 1 then .done (d.axisFault a 6) 0x0306 0 []
    else
      let ph : HomePhase := match m with | 1 => .toZ | 2 => .toSwitch | 3 => .toSwitch | 4 => .hardStop | _ => .found
      let lvl := d.bit R.FIELD_IN (d.homeSwitch a)
      let here := d.actual a
      let d := (d.resolve ⟨.profile, 64 + a⟩ 0x0306 0 []).resolve ⟨.profile, 128 + a⟩ 0x0306 0 []
      let d := d.modAx a fun x => { x with
        motion := .home, home := ph, homeStart := here, homeRef := here, homeLvl := lvl, homeStamp := none, hsNs := none
        running := none, next := none, waiting := none }
      .wait (d.setState a 3) [⟨.home, a⟩] []

/-- HOME (R96). -/
def execHome (p : Packet) (s : State) : Out := s.onDev fun d => d.runOp 0x0203 specHome p

/-- The actual and commanded positions of an axis shift by the same amount (R97), and so does the earlier actual position that the velocity
loop keeps (R146). -/
def Dev.shiftAxis (by' : Int) (d : Dev) (a : Nat) : Dev :=
  (d.modAx a fun x => { x with shift := x.shift + by', pCmd := x.pCmd + by' }).modCe a fun c => { c with
    pPrev := c.pPrev + by', due := c.due.map fun e => { e with pCmd := e.pCmd + by' } }

/-- HOME_REFERENCE: the position is redefined at the reference point and a class 2 stop runs (R97); a coupled pair shifts equally
(R133). -/
def execHomeReference (a : Fin 64) (s : State) : Out := s.onDev fun d =>
  if (d.ax a).home ≠ .found ∨ d.axState a ≠ 3 ∨ (d.ax a).stop.isSome then d else
  let d := d.each (d.withMate a) (Dev.shiftAxis (d.rdS (R.AXIS_HOME_OFFSET a) - (d.ax a).homeRef))
  let d := (d.fsb (R.AXIS_STATUS a) F.AXIS_STATUS_HOMED true).fs (R.AXIS_STATUS a) F.AXIS_STATUS_STOP_CLASS 2
  (d.modAx a fun x => { x with home := .after, motion := .rampDown, stop := some { rank := 5, ramp := true, final := 2 } }).setState a 4

/-- The current magnitude of an axis has exceeded HS_CURRENT for HS_TIME (R96). -/
def Dev.hardStop (d : Dev) (a : Nat) : Bool :=
  match (d.ax a).hsNs with | some t => t + d.fg (R.AXIS_HOME_CFG a) F.AXIS_HOME_CFG_HS_TIME * 1000000 ≤ d.ns | none => false

/-- HARD_STOP_DWELL_END: the position at this tick is the reference point of method 4 (R96). -/
def execHardStopDwellEnd (a : Fin 64) (s : State) : Out := s.onDev fun d =>
  if (d.ax a).home = .hardStop && d.hardStop a then d.modAx a fun x => { x with home := .found, homeRef := d.actual a } else d

/-- HOME_TRAVEL_LIMIT: a search for a Z pulse has travelled 2^31 counts (R97). -/
def execHomeTravelLimit (a : Fin 64) (s : State) : Out := s.onDev fun d =>
  if ((d.ax a).home = .toZ ∨ ((d.ax a).home = .toSwitch ∧ d.homeMethod a = 2)) ∧ 2 ^ 55 ≤ (d.actual a - (d.ax a).homeStart).natAbs then
    d.axisFault a 6
  else d

/-! ### RESET_FAULT and BIND_AXIS (R82, R95, R219) -/

/-- The over-current, stuck, alternating or clock condition of an axis is still present. -/
def Dev.ocPresent (d : Dev) (a : Nat) : Bool :=
  (d.curIns a).any fun i =>
    d.inputHolds i ||
    (if d.fb R.CFE_CLK_CFG F.CFE_CLK_CFG_EXT then d.cfe.extNow
     else d.cfe.sdckNow.contains (5 * (i / 40) + d.fg (R.CFE_SD_CFG i) F.CFE_SD_CFG_CLKSEL))

/-- The causes of an axis that are still present, as AXIS_FAULT bits (R95, R219, R236): a guarding latch whose filtered input is
active, an over-current condition, a FAILED port. -/
def Dev.presentCauses (d : Dev) (a : Nat) : Nat :=
  let trip := (d.axisTrips a).any fun t => d.latched t && d.fb (R.PWM_TRIP_STATUS t) F.PWM_TRIP_STATUS_LEVEL
  let oc := d.bit (R.AXIS_FAULT a) 1 && d.ocPresent a
  let enc := d.bound a && d.fb (R.ENC_STATUS (d.portOf a)) F.ENC_STATUS_FAILED
  (if trip then 1 else 0) + (if oc then 2 else 0) + (if enc then 4 else 0)

/-- A trip latch clears (R219). -/
def Dev.unlatch (d : Dev) (t : Nat) : Dev := d.fsb (R.PWM_TRIP_STATUS t) F.PWM_TRIP_STATUS_LATCHED false

/-- RESET_FAULT clears AXIS_FAULT when no cause is still present. -/
def specResetFault : OpSpec where
  len _ := 0
  check d p := if d.axState (tix p) ≠ 5 then some (0x0301, d.axState (tix p)) else none
  run d p :=
    let a := tix p
    let c := d.presentCauses a
    if c ≠ 0 then
      let latchBit := if (d.axisTrips a).any d.latched then 1 else 0
      let keep := c ||| latchBit
      .done ((d.wr (R.AXIS_FAULT a) (d.rd (R.AXIS_FAULT a) &&& toW keep)).levelFell d false (64 + a)) 0x0301 5 []
    else
      let d := d.each ((d.axisTrips a).filter d.latched) Dev.unlatch
      .done (((d.wr (R.AXIS_FAULT a) 0).levelFell d false (64 + a)).setState a 0) 0 0 []

/-- RESET_FAULT (R95). -/
def execResetFault (p : Packet) (s : State) : Out := s.onDev fun d => d.runOp 0x0204 specResetFault p

/-- The checks 2 to 5 of R82 on the images of AXIS_BIND and AXIS_BIND_IN of axis `a`, with R199 and R215; `d` gives every other
register.  `w3` and `w4` are the word indices that a failure reports. -/
def Dev.bindCheck (d : Dev) (a : Nat) (b i : Word) (w3 w4 : Nat) : Option (Nat × Nat) :=
  if !wbit b 31 then none else
  let typ := wbits b 25 24
  let first := wbits b 23 16
  let enc := wbits b 15 8
  let trip := wbits b 7 0
  let last := first + typeLegs typ - 1
  let n := laneOf a
  let (ins, dcl) := bindInputs i
  let legs := (List.range (typeLegs typ)).map (first + ·)
  let others := (laneAxes n).filter fun o => o ≠ a && d.bound o
  let oIns (o : Nat) := bindInputs (d.rd (R.AXIS_BIND_IN o))
  let hostLeg (l : Nat) := d.fb (R.PWM_LEG_CFG l) F.PWM_LEG_CFG_HOST
  firstFail [
    if typ = 3 ∨ 191 < last ∨ 63 < enc ∨ (63 < trip ∧ trip ≠ 255) then some (0x0201, w3) else none,
    if (ins ++ dcl).any (159 < ·) then some (0x0201, w4) else none,
    if first / 48 ≠ n ∨ last / 48 ≠ n ∨ enc / 16 ≠ n ∨ (trip ≠ 255 ∧ trip / 16 ≠ n) then some (0x0206, w3) else none,
    if (ins ++ dcl).any (· / 40 ≠ n) then some (0x0206, w4) else none,
    if wbits i 7 0 = 255 ∨ (typ = 2 ↔ wbits i 15 8 ≠ 255) then some (0x0205, w4) else none,
    if legs.any hostLeg ∨ (trip ≠ 255 ∧ (List.range 48).any fun l => hostLeg (48 * n + l) && d.fg (R.PWM_LEG_CFG (48 * n + l)) F.PWM_LEG_CFG_TRIP = trip)
      ∨ others.any (fun o => (d.legsOf o).any legs.contains || d.portOf o = enc
          || (trip ≠ 255 && d.fg (R.AXIS_BIND o) F.AXIS_BIND_TRIP = trip)) then some (0x0205, w3) else none,
    if !(ins ++ dcl).Nodup ∨ others.any (fun o => ins.any ((oIns o).1 ++ (oIns o).2).contains || dcl.any (oIns o).1.contains)
      then some (0x0205, w4) else none]

/-- BOUND of the legs of a bank follows the bindings (R198). -/
def Dev.boundBits (d : Dev) (n : Nat) : Dev :=
  d.each ((List.range 48).map (48 * n + ·)) fun d l => d.fsb (R.PWM_LEG_CFG l) F.PWM_LEG_CFG_BOUND (d.legOwner l).isSome

/-- AXIS_BIND and AXIS_BIND_IN of an axis take new values (R82, R97); where neither changes, nothing happens. -/
def Dev.applyBind (d : Dev) (a : Nat) (b i : Word) : Dev :=
  if d.rd (R.AXIS_BIND a) = b ∧ d.rd (R.AXIS_BIND_IN a) = i then d
  else ((((d.wr (R.AXIS_BIND a) b).wr (R.AXIS_BIND_IN a) i).boundBits (laneOf a)).rebound a)

/-- BIND_AXIS binds an axis slot to its legs, inputs, port and trip, or unbinds it; its first check is the state (R82). -/
def specBindAxis : OpSpec where
  len _ := 2
  check d p :=
    if d.axState (tix p) ≠ 0 then some (0x0301, d.axState (tix p))
    else d.bindCheck (tix p) (pw p 3) (pw p 4) 3 4
  run d p := .done (d.applyBind (tix p) (pw p 3 &&& 0x83FFFFFF) (pw p 4)) 0 0 []

/-- BIND_AXIS (R82). -/
def execBindAxis (p : Packet) (s : State) : Out := s.onDev fun d => d.runOp 0x0205 specBindAxis p

/-! ### Events of enabling and stopping (R89–R91) -/

/-- ALIGNMENT_COMPLETE: the measured offset is stored and the brake step follows (R89). -/
def execAlignmentComplete (a : Fin 64) (s : State) : Out := s.onDev fun d =>
  if d.axState a = 1 ∧ (d.ax a).enab = .align ∧ (d.ax a).stop.isNone then
    ((d.wrS (R.AXIS_COMM_MEAS a) (d.actual a)).fsb (R.AXIS_STATUS a) F.AXIS_STATUS_ALIGNED true).enableBrake a
  else d

/-- BRAKE_RELEASE_WAIT_END: BRAKE_T after the release the axis enters READY (R89). -/
def execBrakeReleaseWaitEnd (a : Fin 64) (s : State) : Out := s.onDev fun d =>
  if d.axState a = 1 ∧ (d.ax a).enab = .brake ∧ (d.ax a).stop.isNone then d.toReady a else d

/-- ENABLE_FAIL_TIMEOUT: the axis is still ENABLING when the time of R90 has passed. -/
def execEnableFailTimeout (a : Fin 64) (s : State) : Out := s.onDev fun d =>
  if d.axState a = 1 then d.axisFault a 5 else d

/-- A stop ramp of class `cls` has reached zero velocity (R91): class 2 ends in READY; otherwise the brake output switches off and
BRAKE_T runs. -/
def Dev.rampDone (d : Dev) (a cls : Nat) : Dev :=
  if cls = 2 then d.endStop a 2
  else (d.brake a false).modAx a fun x => { x with stop := x.stop.map fun r => { r with ramp := false }, vCmd := 0, aCmd := 0 }

/-- STOP_RAMP_COMPLETE: a ramp that the firmware's stop runs is at zero velocity (R91). -/
def execStopRampComplete (a : Fin 64) (s : State) : Out := s.onDev fun d =>
  match d.axState a, (d.ax a).stop with
  | 4, some r =>
    if r.ramp ∧ (d.ax a).vCmd = 0 ∧ !d.fb (R.CE_AX_STATUS a) F.CE_AX_STATUS_HSG then d.rampDone a (rankClass r.rank) else d
  | _, _ => d

/-- BRAKE_ENGAGE_WAIT_END: BRAKE_T after zero velocity the legs go high-impedance and the axis enters its final state (R91). -/
def execBrakeEngageWaitEnd (a : Fin 64) (s : State) : Out := s.onDev fun d =>
  match d.axState a, (d.ax a).stop with
  | 4, some r => if r.ramp then d else d.endStop a r.final
  | _, _ => d

/-! ### Host watchdog (R101–R103) -/

/-- An axis's host watchdog expires (R102): WD_EXPIRED is set, source a raised, and the stop of WD_CLASS runs on that axis alone; an
ENABLING axis, which the generator does not take over, is aborted. -/
def Dev.wdExpire (d : Dev) (a : Nat) : Dev :=
  let d := (d.fsb (R.AXIS_STATUS a) F.AXIS_STATUS_WD_EXPIRED true).raise a
  let cls := d.fg (R.AXIS_REACT a) F.AXIS_REACT_WD_CLASS
  if cls = 3 then d
  else if d.axState a = 1 then d.stopAxis a ([2, 4, 5].getD cls 5) 0
  else d.hsgStart [a] 3 cls true

/-- The time since the last life sign exceeds WD_TIMEOUT of an axis that the watchdog guards (R101, R102). -/
def Dev.wdDue (d : Dev) (a : Nat) : Bool :=
  let t := d.fg (R.AXIS_REACT a) F.AXIS_REACT_WD_TIMEOUT
  d.active a && t ≠ 0 && d.cmd.lastLife + t * 1000000 * 2 ^ 32 < d.time

/-- HOST_WATCHDOG_EXPIRY: the CE compares the time since the last life sign with WD_TIMEOUT (R102); during a motion-domain halt the
watchdog does not act (R511). -/
def execHostWatchdogExpiry (a : Fin 64) (s : State) : Out := s.onDev fun d => if d.wdDue a && !d.pwm.halted then d.wdExpire a else d

end Sys2Proof.Machine
end

