-- ==== Sys2Proof/Machine/Enc.lean ====
section
/-!
DEFINITION. Encoder ports and the Fix unit (08): edges and serial frames, failed ports, fix events and records, the
compare outputs, and the opcodes of family 0x05.
-/

namespace Sys2Proof.Machine

open Sys2Proof

/-! ### Quadrature (R227–R229) -/

/-- The step of the 4x decoder when one of A and B changes (R227): +1 while A leads B. -/
def quadStep (a0 a1 b1 : Bool) : Int := if (a0 != a1) = (a1 != b1) then 1 else -1

/-- QUADRATURE_EDGE: the filters of a MODE 1 port take new levels of A and B in one clock (R227, R228); at a port in another mode the levels
at the balls are new, and are its accepted ones when MODE 1 takes effect. -/
def execQuadratureEdge (e : Fin 64) (a b : Bool) (s : State) : Out := s.onDev fun d =>
  let x := d.port e
  if d.encMode e ≠ 1 then d.modPort e fun x => { x with a := a, b := b }
  else if x.a = a ∧ x.b = b then d
  else if x.a ≠ a ∧ x.b ≠ b then (d.encFlag e F.ENC_STATUS_QERR).modPort e fun x => { x with a := a, b := b, qerr := true }
  else
    let st := quadStep x.a a b
    let st := if d.fb (R.ENC_CFG e) F.ENC_CFG_DIR then -st else st
    let d := d.modPort e fun x => { x with a := a, b := b, counter := toS 40 (ofS 40 (x.counter + st)) }
    d.each (d.portOutputs e false) Dev.pcoReturn

/-- ZGATE admits the filtered levels of A and B (R229). -/
def zGate (g : Nat) (a b : Bool) : Bool :=
  match g with | 0 => true | 1 => a && b | 2 => a | _ => b

/-- Z_EDGE: a filtered rising edge of Z; a qualified one copies the counter and gives homing methods 1 and 2 their reference
(R229). -/
def execZEdge (e : Fin 64) (s : State) : Out := s.onDev fun d =>
  let x := d.port e
  if d.encMode e ≠ 1 || !zGate (d.fg (R.ENC_CFG e) F.ENC_CFG_ZGATE) x.a x.b then d else
  let p := wrap64 (x.counter * 2 ^ 24)
  let d := (d.wrS (R.ENC_ZPOS e) p).fsb (R.ENC_STATUS e) F.ENC_STATUS_ZSEEN true
  d.each (d.portAxes e) fun d a =>
    if (d.ax a).home = .toZ then d.modAx a fun x => { x with home := .found, homeRef := p + x.shift } else d

/-! ### Serial frames (R230–R238) -/

/-- SERIAL_FRAME_START: a frame that the last tick has made due starts, with the level of SL (R230, R235, R238). -/
def execSerialFrameStart (e : Fin 64) (slHigh : Bool) (s : State) : Out := s.onDev fun d =>
  if d.encMode e < 2 || !(d.port e).due || (d.port e).running then d
  else if slHigh then d.modPort e fun x => { x with due := false, running := true, startNs := d.ns }
  else ((d.encFlag e F.ENC_STATUS_NOT_IDLE).modPort e fun x => { x with due := false }).deliver e
    (d.ns + d.fg (R.ENC_DLY e) F.ENC_DLY_LATCH_DLY) none true

/-- The check bits, in order, that the words of a frame give (R230, R231, R235): parity, CRC, error bit; and the data bits. -/
def Dev.frameChecks (d : Dev) (e raw : Nat) : List Fld × Nat :=
  let n := d.fg (R.ENC_SER e) F.ENC_SER_DATA_BITS + 1
  if d.encMode e = 2 then
    if d.fb (R.ENC_CFG e) F.ENC_CFG_PARITY then
      (if popcount (n + 1) raw % 2 = 1 then [F.ENC_STATUS_PARITY] else [], raw / 2 % 2 ^ n)
    else ([], raw % 2 ^ n)
  else
    let len := d.fg (R.ENC_CRC e) F.ENC_CRC_CRC_LEN
    let data := raw / 2 ^ len % 2 ^ n
    let crc := if len = 0 then [] else
      if raw % 2 ^ len = 2 ^ len - 1 - bissCrc len (d.fg (R.ENC_CRC e) F.ENC_CRC_CRC_POLY) n data then [] else [F.ENC_STATUS_CRC]
    let err := if d.fb (R.ENC_CFG e) F.ENC_CFG_ERRBIT_EN && !data.testBit 1 then [F.ENC_STATUS_ERRBIT] else []
    (crc ++ err, data)

/-- The position word of a frame's data bits (R232). -/
def Dev.posWord (d : Dev) (e data : Nat) : Nat :=
  let width := d.fg (R.ENC_SER e) F.ENC_SER_WIDTH
  let w := data / 2 ^ d.fg (R.ENC_SER e) F.ENC_SER_POS_LSB % 2 ^ width
  if d.fb (R.ENC_CFG e) F.ENC_CFG_GRAY then grayDecode width w else w

/-- SERIAL_FRAME_COMPLETE: the frame's last bit, or the end of TMO (R230–R235).  `bits` are the data bits with the parity or CRC
bits after them, first bit the most significant; none where no start bit came in time; `late` says that SL did not return
high within TMO, `maFault` that the readback of MA failed. -/
def execSerialFrameComplete (e : Fin 64) (bits : Option Nat) (late maFault : Bool) (s : State) : Out := s.onDev fun d =>
  if !(d.port e).running then d else
  let time := (d.port e).startNs + d.fg (R.ENC_DLY e) F.ENC_DLY_LATCH_DLY
  let d := d.modPort e fun x => { x with running := false }
  let d := if bits.isNone || late then d.encFlag e F.ENC_STATUS_TIMEOUT else d
  let d := if maFault then d.encFlag e F.ENC_STATUS_MA_FAULT else d
  match bits with
  | none => d.deliver e time none true
  | some raw =>
    let (causes, data) := d.frameChecks e raw
    let d := if d.encMode e = 3 && d.fb (R.ENC_CFG e) F.ENC_CFG_ERRBIT_EN then
        d.fsb (R.ENC_STATUS e) F.ENC_STATUS_WARN (!data.testBit 0) else d
    let d := causes.foldl (fun d f => d.encFlag e f) d
    let w := d.posWord e data
    let p := d.wordPos e w
    let d := d.deliver e time (some p) (late || maFault || !causes.isEmpty)
    match (d.port e).hist with
    | x :: _ => if x.good then d.modPort e fun y => { y with ref := some (w, p) } else d
    | [] => d

/-- ENCODER_FAILED: the run of bad samples exceeds BAD_N (R236, R249). -/
def execEncoderFailed (e : Fin 64) (s : State) : Out := s.onDev fun d =>
  if d.encMode e = 0 || (d.port e).badRun ≤ d.fg (R.ENC_CFG e) F.ENC_CFG_BAD_N || d.fb (R.ENC_STATUS e) F.ENC_STATUS_FAILED then d
  else
    let d := d.encFlag e F.ENC_STATUS_FAILED
    let d := d.each (d.portAxes e) fun d a => d.axisFault a 2
    d.each (d.portOutputs e false ++ d.portOutputs e true) fun d o => (d.pcoStop o).raise (160 + o)

/-- ENCODER_FAILED_CLEAR: 16 consecutive good samples (R236). -/
def execEncoderFailedClear (e : Fin 64) (s : State) : Out := s.onDev fun d =>
  if d.fb (R.ENC_STATUS e) F.ENC_STATUS_FAILED && 16 ≤ (d.port e).goodRun then
    (d.fsb (R.ENC_STATUS e) F.ENC_STATUS_FAILED false).levelFell d true (192 + e)
  else d

/-! ### Fix inputs and records (R239–R244, R251) -/

/-- The edge is one that the input stamps (R239). -/
def Dev.fixWants (d : Dev) (i : Nat) (rising : Bool) : Bool :=
  d.fb (R.FIX_CFG i) F.FIX_CFG_BOTH || rising != d.fb (R.FIX_CFG i) F.FIX_CFG_EDGE

/-- A record starts (R242): SEQ becomes odd, the stamp is written, and the entries of bound axes with an enabled port wait for their
samples. -/
def Dev.fixRecord (d : Dev) (i stamp : Nat) : Dev :=
  let live := (List.range 64).filter fun a => d.bound a && d.encMode (d.portOf a) ≠ 0
  let d := (d.wrapInc (R.FIX_REC_HDR i) F.FIX_REC_HDR_SEQ).fs (R.FIX_REC_HDR i) F.FIX_REC_HDR_SRC (d.fg (R.FIX_CFG i) F.FIX_CFG_SRC)
  let d := (d.wr64 (R.FIX_REC_STAMP i) stamp).wr64 (R.FIX_REC_VALID i) 0
  let d := d.each ((List.range 64).filter fun a => !live.contains a) fun d a => d.wr64 (R.FIX_REC_POS i a) 0
  let d := d.modFix i fun x => { x with ofs := d.fgS (R.FIX_OFS i) F.FIX_OFS_OFS, need := live }
  let d := d.fsb (R.FIX_STATUS i) F.FIX_STATUS_FORMING true
  let d := if d.fb (R.FIX_STATUS i) F.FIX_STATUS_CONT then d else d.fsb (R.FIX_STATUS i) F.FIX_STATUS_ARMED false
  d.fixEntries i

/-- A stamped edge is a fix event (R239, R240): it is registered in the interpolator and starts a record on an armed input. -/
def Dev.fixEvent (d : Dev) (i stamp : Nat) : Dev :=
  let d := (d.modFix i fun x => { x with last := some stamp }).wrapInc (R.FIX_STATUS i) F.FIX_STATUS_EVENTS
  let d := d.startEvent 1 i stamp
  if d.fb (R.FIX_STATUS i) F.FIX_STATUS_FORMING then d.satInc (R.FIX_STATUS i) F.FIX_STATUS_MISSED
  else if d.fb (R.FIX_STATUS i) F.FIX_STATUS_ARMED then d.fixRecord i stamp
  else d

/-- The homing searches that wait for this edge of a fix input latch it (R244). -/
def Dev.homeEdge (d : Dev) (i : Nat) (rising : Bool) (stamp : Nat) : Dev :=
  d.each ((List.range 64).filter fun a =>
      (d.ax a).home = .toSwitch && d.fb (R.AXIS_HOME_CFG a) F.AXIS_HOME_CFG_SRC_KIND && d.fg (R.AXIS_HOME_CFG a) F.AXIS_HOME_CFG_SWITCH = i
      && (d.ax a).homeStamp.isNone && rising != d.fb (R.AXIS_HOME_CFG a) F.AXIS_HOME_CFG_EDGE) fun d a =>
    if d.fg (R.AXIS_HOME_CFG a) F.AXIS_HOME_CFG_METHOD = 2 then d.modAx a fun x => { x with home := .toZ }
    else (d.modAx a fun x => { x with homeStamp := some stamp }).homeFix a

/-- FIX_EVENT: an edge at fix input `i`, with its stamp in ns; with SRC at 1 the edge and stamp are those of PCOi (R239). -/
def execFixEvent (i : Fin 16) (rising : Bool) (stamp : Nat) (s : State) : Out := s.onDev fun d =>
  if !d.fb (R.FIX_CFG i) F.FIX_CFG_EN then d else
  let near (t : Nat) : Bool := match (d.fix i).last with | some l => t < l + 20 | none => false
  if d.fb (R.FIX_CFG i) F.FIX_CFG_SRC then
    match (d.fix i).pco with
    | none => d
    | some t =>
      let d := d.modFix i fun x => { x with pco := none }
      if near t then d.satInc (R.FIX_STATUS i) F.FIX_STATUS_MISSED else d.fixEvent i t
  else if near stamp then (if d.fixWants i rising then d.satInc (R.FIX_STATUS i) F.FIX_STATUS_MISSED else d)
  else
    let e := d.homeEdge i rising stamp
    if d.fixWants i rising then e.fixEvent i stamp else e

/-- FIX_RECORD_COMPLETE: the last entry that the record needs has been written (R242); an axis that has been unbound, or whose port has been
disabled, since the stamp has the entry 0 (R241). -/
def execFixRecordComplete (i : Fin 16) (s : State) : Out := s.onDev fun d =>
  if d.fb (R.FIX_STATUS i) F.FIX_STATUS_FORMING && (d.fix i).need.all fun a => !(d.bound a && d.encMode (d.portOf a) ≠ 0) then
    let d := (d.each (d.fix i).need fun d a => (d.wr64 (R.FIX_REC_POS i a) 0).setBit (R.FIX_REC_VALID i) a false).modFix i fun x => { x with need := [] }
    ((d.wrapInc (R.FIX_REC_HDR i) F.FIX_REC_HDR_SEQ).fsb (R.FIX_STATUS i) F.FIX_STATUS_FORMING false).raise (144 + i)
  else d

/-- FIX_ARM arms a fix input once or continuously, or disarms it, at the global application point (R240). -/
def specFixArm : OpSpec where
  len _ := 1
  check _ p := if 2 < (pw p 3).toNat then some (0x0201, 3) else none
  run d p :=
    let m := (pw p 3).toNat
    let bits (a c : Bool) : Word := toW ((if a then 2 ^ F.FIX_STATUS_ARMED.lo else 0) + if c then 2 ^ F.FIX_STATUS_CONT.lo else 0)
    let (d, gid) := d.queueWrites [(R.FIX_STATUS (tix p), bits true true, bits (m ≠ 0) (m = 2))] none
    .wait d [⟨.write, gid⟩] []

/-! ### Compare outputs (R245–R250, R251) -/

/-- The entries of the compare table that an output's list uses: the first and their number. -/
def Dev.pcoSpan (d : Dev) (o : Nat) : Nat × Nat :=
  (d.fg (R.PCO_LIST o) F.PCO_LIST_FIRST, if d.fb (R.PCO_CFG o) F.PCO_CFG_MODE then 2 else d.targets o)

/-- COMPARE_LOAD writes entries into the compare table. -/
def specCompareLoad : OpSpec where
  len p := if wbit (pw p 3) 31 then 3 else 3 + 2 * (pw p 4).toNat
  check d p :=
    let st := wbit (pw p 3) 31
    let first := pb p 3 9 0
    let n := (pw p 4).toNat
    firstFail [
      if pb p 3 30 10 ≠ 0 then some (0x0201, 3) else none,
      if n = 0 ∨ (if st then 1024 else 28) < n ∨ 1024 < first + n then some (0x0201, 4) else none,
      if st ∧ ((pw p 5).toNat % 8 ≠ 0 ∨ 2 ^ 24 < (pw p 5).toNat + 8 * n) then some (0x0201, 5) else none,
      if (List.range 16).any (fun o => d.pcoOn o && first < (d.pcoSpan o).1 + (d.pcoSpan o).2 && (d.pcoSpan o).1 < first + n)
        ∨ (st ∧ d.stagingBusy) then some (0x0303, 0) else none]
  run d p :=
    let st := wbit (pw p 3) 31
    let base := stagingBase + (pw p 5).toNat
    .done (d.each (List.range (2 * (pw p 4).toNat)) fun d k =>
      d.wr (R.COMPARE (pb p 3 9 0) + 4 * k) (if st then d.bulkWord (base + 4 * k) else pw p (6 + k))) 0 0 []

/-- The list of an output is strictly monotonic in its sense, or its step positive (R250). -/
def Dev.listOk (d : Dev) (o : Nat) : Bool :=
  if d.fb (R.PCO_CFG o) F.PCO_CFG_MODE then 0 < d.rdS (R.COMPARE ((d.pcoSpan o).1 + 1))
  else (List.range (d.targets o - 1)).all fun m =>
    if d.fb (R.PCO_CFG o) F.PCO_CFG_DIR then d.target o (m + 1) < d.target o m else d.target o m < d.target o (m + 1)

/-- An applied enable (R249): the targets that the position has passed are skipped, and the first one ahead is armed. -/
def Dev.pcoEnable (d : Dev) (o : Nat) : Dev :=
  let r := R.PCO_STATUS o
  let m := d.firstAhead o (d.pcoPos o) 0 (d.targets o)
  let all := d.targets o ≤ m
  let rep := d.fb (R.PCO_CFG o) F.PCO_CFG_REPEAT
  let d := ((d.fsb r F.PCO_STATUS_ENABLED true).fsb r F.PCO_STATUS_DONE false).fs r F.PCO_STATUS_NEXT (if all then 0 else m)
  (d.modPco o fun x => { x with armed := !all, back := all && rep, pred := none }).pcoPredict o

/-- The targets that an enable has skipped (R249): those before the armed one, or all. -/
def Dev.pcoSkipped (d : Dev) (o : Nat) : Nat := if (d.pco o).armed then d.fg (R.PCO_STATUS o) F.PCO_STATUS_NEXT else d.targets o

/-- ENABLED of an output has been applied (R249). -/
def Dev.pcoApplied (d : Dev) (o : Nat) : Dev := if d.pcoOn o then d.pcoEnable o else d.pcoStop o

/-- COMPARE_ENABLE enables or disables a compare output at the global application point. -/
def specCompareEnable : OpSpec where
  len _ := 1
  check d p :=
    let o := tix p
    let a := d.pcoAxis o
    if 1 < (pw p 3).toNat then some (0x0201, 3)
    else if pw p 3 = 0 then none
    else if !d.bound a || d.encMode (d.portOf a) = 0
      || (!d.fb (R.PCO_CFG o) F.PCO_CFG_SRC && d.encMode (d.portOf a) ≠ 1)
      || 1024 < (d.pcoSpan o).1 + (d.pcoSpan o).2 || !d.listOk o then some (0x0205, 3)
    else none
  run d p :=
    let en : Word := toW (2 ^ F.PCO_STATUS_ENABLED.lo)
    let (d, gid) := d.queueWrites [(R.PCO_STATUS (tix p), en, if pw p 3 = 0 then 0 else en)] none
    .wait d [⟨.write, gid⟩] []

/-- COMPARE_COUNTER_FIRE: with SRC 0 the counter has reached the armed target (R246). -/
def execCompareCounterFire (o : Fin 16) (s : State) : Out := s.onDev fun d =>
  if d.pcoOn o && (d.pco o).armed && !d.fb (R.PCO_CFG o) F.PCO_CFG_SRC
    && d.reached o (d.pcoPos o) (d.target o (d.fg (R.PCO_STATUS o) F.PCO_STATUS_NEXT)) then d.pcoFire o
  else d

/-- COMPARE_PREDICT_FIRE: with SRC 1 the predicted instant has come (R247). -/
def execComparePredictFire (o : Fin 16) (s : State) : Out := s.onDev fun d =>
  if d.pcoOn o && (d.pco o).armed && d.fb (R.PCO_CFG o) F.PCO_CFG_SRC && (d.pco o).pred.isSome then d.pcoFire o else d

/-- PCO_PULSE_END: WIDTH after the last firing the output returns to its inactive level (R248). -/
def execPcoPulseEnd (o : Fin 16) (s : State) : Out := s.onDev fun d => d.modPco o fun x => { x with active := false }

end Sys2Proof.Machine
end

