-- ==== Sys2Proof/Machine/Evr.lean ====
section
/-!
DEFINITION. The Event Router's events and the host's accesses to it (12).
-/

namespace Sys2Proof.Machine

open Sys2Proof

/-- A source fires: the Event Router takes it, and with EN at 1 the start conditions and the Barograph that name it see it
(R122, R320, R339). -/
def Dev.sourceFires (d : Dev) (n : Nat) : Dev :=
  if !d.srcEn n then d else
  let d := (d.fire n).startEvent 2 n d.ns
  { d with trace := { d.trace with fired := if d.trace.fired.contains n then d.trace.fired else d.trace.fired ++ [n] } }

/-- EVR_SOURCE_FIRING: a raised source arrives after its crossing (R20, R339); in DOZE it is lost (R515), and an unassigned or
reserved number never fires (R336). -/
def execEvrSourceFiring (n : Fin 640) (s : State) : Out := s.onDev fun d =>
  if !d.raised.contains n.val then d else
  let d := { d with raised := d.raised.erase n.val }
  if d.dozing || 630 ≤ n.val then d else d.sourceFires n

/-- The detail of the event packet of a source (R343). -/
def Dev.evrDetail (d : Dev) (n : Nat) : Nat :=
  (if d.levelHigh n then 2 ^ 15 else 0) + (if (d.src n).rep then 2 ^ 14 else 0) + (if (d.src n).rehomed then 2 ^ 13 else 0) + d.srcPrio n

/-- EVR_HOST_POST: the device posts the packet of the host's next pending source, which claims it (R342, R343). -/
def execEvrHostPost (s : State) : Out := s.onDev fun d =>
  if d.asleep 0 || d.dozing then d else
  match d.nextFor 0 with
  | none => d
  | some n =>
    let det := d.evrDetail n
    let pay := words64 (d.src n).pendNs
    let vec := d.srcVector n
    (d.claim n 0).postEvent n det pay vec

/-- SUPERVISOR_CLAIM: the firmware claims the supervisor's next pending source and completes it (R342). -/
def execSupervisorClaim (s : State) : Out := s.onDev fun d =>
  if d.dozing then d else
  match d.nextFor 5 with
  | none => d
  | some n => (d.claim n 5).complete n 5

/-- EVR_HOST_COMPLETE: a host write of a source number (R342). -/
def execEvrHostComplete (w : Word) (s : State) : Out := s.onDev fun d => d.complete (wbits w 9 0) 0

/-- EVR_HOST_IDLE: a host write of IDLE (R347). -/
def execEvrHostIdle (w : Word) (s : State) : Out := s.onDev fun d => d.fsb R.EVR_HOST_IDLE F.EVR_HOST_IDLE_IDLE (wbit w 0)

/-- MODERATION_RELEASE: the hold-off timer of a unit with a counted delivery ends (R346). -/
def execModerationRelease (u : Fin 68) (s : State) : Out := s.onDev fun d =>
  if (tabGet d.evr.units u).timer && !d.dozing then d.unitRelease u else d

/-- A delivery is redirected (R350): to FALLBACK, or to the supervisor when FALLBACK is asleep with WAKE at 0. -/
def Dev.rehome (d : Dev) (n : Nat) : Dev :=
  let t := d.srcTarget n
  let first := d.fg (R.EVR_SRC_CFG n) F.EVR_SRC_CFG_TARGET
  let fb := d.fg (R.EVR_TGT_CFG t) F.EVR_TGT_CFG_FALLBACK
  let dest := if d.asleep fb && !d.wakeOf fb then 5 else fb
  let d := d.modSrc n fun x => { x with dest := some dest, rehomed := true }
  let d := d.satInc R.EVR_COUNTS F.EVR_COUNTS_REHOMED
  let d := ((d.fs R.EVR_LAST F.EVR_LAST_REHOME_SRC n).fs R.EVR_LAST F.EVR_LAST_FROM first).fs R.EVR_LAST F.EVR_LAST_TO dest
  let d := d.logFault [n]
  let d := if 1 ≤ t ∧ t ≤ 4 then d.lineUpdate (t - 1) else d
  (d.countPending n).releasePins

/-- REHOME_TIMEOUT: a source has waited REHOME ms on a sleeping target with WAKE at 0, its own or one that it has been redirected to
(R350). -/
def execRehomeTimeout (n : Fin 640) (s : State) : Out := s.onDev fun d =>
  let t := d.srcTarget n
  if d.srcState n = 1 && t ≤ 4 && d.asleep t && !d.wakeOf t && !d.dozing then d.rehome n else d

/-- An applied change of EVR_SRC_CFG (R348, R349, R352): EN at 0 makes a pending source inactive, EN at 1 fires a level source whose
level is high, a pending source moves to a new TARGET once, and the pins follow a change of VECTOR. -/
def Dev.srcCfgApplied (d : Dev) (n : Nat) (old : Word) : Dev :=
  let wasEn := fldGet old F.EVR_SRC_CFG_EN == 1
  let t0 := fldGet old F.EVR_SRC_CFG_TARGET
  let was := (d.src n).dest.getD t0
  let line (d : Dev) : Dev := if 1 ≤ was ∧ was ≤ 4 then d.lineUpdate (was - 1) else d
  let d :=
    if wasEn && !d.srcEn n then
      if d.srcState n = 1 then line (d.setSrcState n 0) else d
    else if !wasEn && d.srcEn n then
      if isLevelSource n && d.levelHigh n then d.sourceFires n else d
    else if t0 ≠ d.fg (R.EVR_SRC_CFG n) F.EVR_SRC_CFG_TARGET && d.srcState n = 1 then
      (line (d.modSrc n fun x => { x with dest := none })).countPending n
    else d
  d.releasePins

end Sys2Proof.Machine
end

