-- ==== Sys2Proof/Machine/Can.lean ====
section
/-!
DEFINITION. The CAN FD channels (14): transmit entries, arbitration, fault confinement, the receive ring, and timestamps.
The counting rules of ISO 11898-1 that R389 refers to are those of assumption log 20 (PRESUMED).
-/

namespace Sys2Proof.Machine

open Sys2Proof

def Dev.canCh (d : Dev) (c : Nat) : CanSt := tabGet d.can c
def Dev.modCan (d : Dev) (c : Nat) (f : CanSt → CanSt) : Dev := { d with can := tabMod d.can c f }
def Dev.canState (d : Dev) (c : Nat) : Nat := d.fg (R.CAN_STATUS c) F.CAN_STATUS_STATE
def Dev.setCanState (d : Dev) (c st : Nat) : Dev := d.fs (R.CAN_STATUS c) F.CAN_STATUS_STATE st

/-- The channel runs: it is RUNNING, or it listens in a STANDBY whose partner runs it (R464, R469). -/
def Dev.canRuns (d : Dev) (c : Nat) : Bool := d.canState c = 2 || (d.canState c = 3 && (d.canCh c).shadowRun)

/-- Source 384 + 16 × c + j (R402). -/
def canSrc (c j : Nat) : Nat := 384 + 16 * c + j

/-- Word `k` of transmit entry `x`, and of receive entry `r`. -/
def canTx (c x k : Nat) : Nat := 0xC1000 + 0x8000 * c + 0x50 * x + 4 * k
def canRx (c r k : Nat) : Nat := 0xC3000 + 0x8000 * c + 0x50 * r + 4 * k

/-- The data bytes of a frame by FDF, RTR and DLC (R386). -/
def canBytes (fdf rtr : Bool) (dlc : Nat) : Nat :=
  if rtr then 0
  else if dlc ≤ 8 then dlc
  else if !fdf then 8
  else [12, 16, 20, 24, 32, 48, 64].getD (dlc - 9) 64

/-- A frame that can stand on the bus: no remote FD frame, BRS only in FD, a base identifier of 11 bits, and the bytes that its
DLC says. -/
def canFrameOk (f : CanFrame) : Bool :=
  !(f.rtr && f.fdf) && (!f.brs || f.fdf) && (f.ide || f.id.toNat < 0x800) && f.data.length = canBytes f.fdf f.rtr f.dlc

/-! ### Fault confinement (R389) -/

/-- TEC and REC take new values: WARN, ERR_STATE and their events follow. -/
def Dev.canCounts (d : Dev) (c tec rec : Nat) : Dev :=
  let st := R.CAN_STATUS c
  let warn := 96 ≤ tec || 96 ≤ rec
  let was := d.fb st F.CAN_STATUS_WARN
  let err := if 127 < tec || 127 < rec then 1 else 0
  let old := d.fg st F.CAN_STATUS_ERR_STATE
  let d := ((d.fs st F.CAN_STATUS_TEC tec).fs st F.CAN_STATUS_REC rec).fsb st F.CAN_STATUS_WARN warn
  let d := if warn && !was then (d.fsb (R.CAN_ERR c) F.CAN_ERR_WARN_HIT true).raise (canSrc c 5) else d
  let d := d.fs st F.CAN_STATUS_ERR_STATE err
  if err = 1 && old ≠ 1 then (d.fsb (R.CAN_ERR c) F.CAN_ERR_PASSIVE true).raise (canSrc c 6) else d

def Dev.canTec (d : Dev) (c : Nat) : Nat := d.fg (R.CAN_STATUS c) F.CAN_STATUS_TEC
def Dev.canRec (d : Dev) (c : Nat) : Nat := d.fg (R.CAN_STATUS c) F.CAN_STATUS_REC

/-- The bit of CAN_ERR of an error. -/
def canErrBit (e : CanErrKind) : Nat :=
  match e with | .bit => 0 | .stuff => 1 | .form => 2 | .crc => 3 | .ack => 4

/-- An error is detected: its bit, source j = 9, and ERRORS. -/
def Dev.canError (d : Dev) (c : Nat) (e : CanErrKind) : Dev :=
  (d.setFlag (R.CAN_ERR c) (canErrBit e) (canSrc c 9)).satInc (R.CAN_COUNTS c) F.CAN_COUNTS_ERRORS

/-- The channel enters BUS_OFF (R389, R390): recovery starts when AUTO_REC is 1, and the entry being sent is held (R394). -/
def Dev.canBusOff (d : Dev) (c tec : Nat) : Dev :=
  let st := R.CAN_STATUS c
  let auto := d.fb (R.CAN_CFG c) F.CAN_CFG_AUTO_REC
  let d := match (d.canCh c).sending with
    | some x => (d.fsb st F.CAN_STATUS_HELD true).fs st F.CAN_STATUS_HELD_IDX x
    | none => d
  let d := (d.canCounts c tec 0).fs st F.CAN_STATUS_ERR_STATE 2
  let d := (d.setCanState c 4).modCan c fun x => { x with sending := none, recovering := auto }
  (d.setFlag (R.CAN_ERR c) F.CAN_ERR_BUSOFF.lo (canSrc c 7)).satInc (R.CAN_COUNTS c) F.CAN_COUNTS_BUSOFFS

/-! ### Transmit entries (R391–R395) -/

/-- Entry `x` ends with a RESULT (R391); an ABORT that waits for it is answered (R395), and a held condition ends (R394). -/
def Dev.canEnd (d : Dev) (c x result : Nat) : Dev :=
  let st := R.CAN_STATUS c
  let d := d.setBit (R.CAN_TX_PEND c) x false
  let d := d.fs (canTx c x 2) ⟨28, 4⟩ result
  let d := d.modCan c fun s =>
    { s with order := s.order.filter (· ≠ x), aborts := s.aborts.filter (· ≠ x), sending := if s.sending = some x then none else s.sending
             abN := if result = 3 then s.abN + 1 else s.abN }
  let d := if d.fb st F.CAN_STATUS_HELD && d.fg st F.CAN_STATUS_HELD_IDX = x then
      (d.fsb st F.CAN_STATUS_HELD false).fs st F.CAN_STATUS_HELD_IDX 0 else d
  let d := d.setFlag (R.CAN_TX_DONE c) x (canSrc c 3)
  let d := if result = 1 then d else d.raise (canSrc c 4)
  d.resolve ⟨.canTx, 64 * c + x⟩ 0 0 [toW x]

/-- The arbitration key of a pending entry (R392): base identifier, format, extension, remote. -/
def Dev.canKey (d : Dev) (c x : Nat) : Nat :=
  let w0 := d.rd (canTx c x 0)
  let id := wbits (d.rd (canTx c x 1)) 28 0
  let ide := wbit w0 28
  let base := if ide then id / 2 ^ 18 else id
  let ext := if ide then id % 2 ^ 18 else 0
  base * 2 ^ 20 + ide.toNat * 2 ^ 19 + ext * 2 + (wbit w0 27).toNat

/-- The entry that comes first among some in arbitration (R392). -/
def Dev.canFirst (d : Dev) (c : Nat) (l : List Nat) : Option Nat :=
  l.foldl (fun best x => match best with
    | none => some x
    | some b => if d.canKey c x < d.canKey c b then some x else some b) none

/-- The entry chosen at an arbitration (R392). -/
def Dev.canChoice (d : Dev) (c : Nat) : Option Nat :=
  if d.fb (R.CAN_STATUS c) F.CAN_STATUS_HELD then some (d.fg (R.CAN_STATUS c) F.CAN_STATUS_HELD_IDX)
  else d.canFirst c (d.canCh c).order

/-- The frame of entry `x` starts, and its SOF is stamped (R398); `again` says that it is sent once more before its entry ends (R533). -/
def Dev.canSof (d : Dev) (c x : Nat) (stamp : Word) (again : Bool) : Dev :=
  (d.modCan c fun s => { s with sending := some x, again := again }).wr (canTx c x 3) stamp

/-- CAN_TX_COMPLETE: the frame being sent succeeds (R391, R395). -/
def execCanTxComplete (c : Fin 2) (s : State) : Out := s.onDev fun d =>
  match (d.canCh c).sending with
  | none => d
  | some x =>
    let d := d.canCounts c (d.canTec c - 1) (d.canRec c)
    if (d.canCh c).again then d.modCan c fun s => { s with again := false } else d.canEnd c x 1

/-- A failed attempt that has not led to BUS_OFF is counted, and the entry ends when it has been aborted or has failed 1 + RETRY
times (R393, R395, R401). -/
def Dev.canAttempt (d : Dev) (c x : Nat) : Dev :=
  let d := d.satInc (canTx c x 2) ⟨16, 5⟩
  let n := d.fg (canTx c x 2) ⟨16, 5⟩
  let r := d.fg (canTx c x 0) ⟨20, 5⟩
  let s := d.canCh c
  let d := d.modCan c fun s => { s with sending := none }
  if s.aborts.contains x || s.disabling then d.canEnd c x 3
  else if r ≤ 15 && 1 + r ≤ n then d.canEnd c x 2
  else d

/-- The frame of entry `x` meets an error (R389, R393, R394). -/
def Dev.canTxError (d : Dev) (c x : Nat) (k : CanErrKind) (exempt : Bool) : Dev :=
  let d := d.canError c k
  let tec := d.canTec c + (if exempt then 0 else 8)
  if 255 < tec then
    let ends := (d.canCh c).aborts.contains x || (d.canCh c).disabling
    let d := d.canBusOff c tec
    if ends then d.canEnd c x 3 else d
  else (d.canCounts c tec (d.canRec c)).canAttempt c x

/-- CAN_TX_ATTEMPT_FAIL: the frame being sent loses arbitration (no error) or meets an error; `exempt` says that ISO 11898-1
exempts the error from raising TEC (R389, R393, R394). -/
def execCanTxAttemptFail (c : Fin 2) (e : Option CanErrKind) (exempt : Bool) (s : State) : Out := s.onDev fun d =>
  match (d.canCh c).sending with
  | none => d
  | some x =>
    match e with
    | none => (d.satInc (R.CAN_COUNTS c) F.CAN_COUNTS_ARB_LOST).canAttempt c x
    | some k => d.canTxError c x k exempt

/-- CAN_ARBITRATION: the channel chooses an entry and starts its frame (R392); the Squall injector may withhold the frame, meet it with a bit
error, have it sent twice, or let the next choice go first (R533). -/
def execCanArbitration (c : Fin 2) (stamp : Word) (s : State) : Out := s.onDev fun d =>
  if d.dozing || !d.canRuns c || (d.canCh c).sending.isSome || (d.canCh c).disabling then d else
  match d.canChoice c with
  | none => d
  | some x =>
    let (d, hit) := d.squall 2 1 [c] (wbits (d.rd (canTx c x 1)) 28 0)
    match hit with
    | some (_, 0) => d
    | some (_, 1) => (d.canSof c x stamp false).canTxError c x .bit false
    | some (_, 2) => d.canSof c x stamp true
    | some (_, 3) => (match d.canFirst c ((d.canCh c).order.filter (· ≠ x)) with | some y => d.canSof c y stamp false | none => d)
    | _ => d.canSof c x stamp false

/-- CAN_RECEIVE_ERROR: an error detected while receiving; `more` adds the 8 of a dominant bit after the error flag (R389). -/
def execCanReceiveError (c : Fin 2) (e : CanErrKind) (more : Bool) (s : State) : Out := s.onDev fun d =>
  if d.dozing || (d.canState c ≠ 2 && d.canState c ≠ 3) || (d.canCh c).sending.isSome then d else
  (d.canError c e).canCounts c (d.canTec c) (min 255 (d.canRec c + (if more then 9 else 1)))

/-! ### Receive ring (R396, R397) -/

/-- A filter matches a frame (R396). -/
def Dev.canMatches (d : Dev) (c k : Nat) (f : CanFrame) : Bool :=
  let r := R.CAN_FLT c k
  let m := BitVec.ofNat 29 (d.fg r F.CAN_FLT_MASK)
  d.fb r F.CAN_FLT_EN && d.fb r F.CAN_FLT_IDE == f.ide && (f.id &&& m == BitVec.ofNat 29 (d.fg r F.CAN_FLT_ID) &&& m)

/-- The fate of a frame: the filter that decides (0xFF the default) and its ACTION (2 rejects). -/
def Dev.canFate (d : Dev) (c : Nat) (f : CanFrame) : Nat × Nat :=
  match (List.range 128).find? fun k => d.canMatches c k f with
  | some k => (k, d.fg (R.CAN_FLT c k) F.CAN_FLT_ACTION)
  | none => (0xFF, if d.fb (R.CAN_CFG c) F.CAN_CFG_DEF_REJECT then 2 else 0)

/-- Word `k` of the data words of a byte list. -/
def dataWord (l : List Byte) (k : Nat) : Word :=
  toW ((l.getD (4 * k) 0).toNat + (l.getD (4 * k + 1) 0).toNat * 2 ^ 8 + (l.getD (4 * k + 2) 0).toNat * 2 ^ 16
    + (l.getD (4 * k + 3) 0).toNat * 2 ^ 24)

/-- Word 0 of a receive entry. -/
def canRxHead (f : CanFrame) (flt : Nat) : Word :=
  toW (f.fdf.toNat * 2 ^ 30 + f.brs.toNat * 2 ^ 29 + f.ide.toNat * 2 ^ 28 + f.rtr.toNat * 2 ^ 27 + f.esi.toNat * 2 ^ 26
    + f.dlc.val * 2 ^ 16 + flt)

/-- The entries between CONS and PROD. -/
def Dev.canFill (d : Dev) (c : Nat) : Nat :=
  (d.fg (R.CAN_RX_PTR c) F.CAN_RX_PTR_PROD + 65536 - d.fg (R.CAN_RX_PTR c) F.CAN_RX_PTR_CONS) % 65536

/-- An accepted frame is stored, or dropped where the ring is full (R397). -/
def Dev.canStore (d : Dev) (c : Nat) (f : CanFrame) (stamp : Word) (flt action : Nat) : Dev :=
  if d.canFill c = 128 then
    (d.setFlag (R.CAN_ERR c) F.CAN_ERR_RX_OVR.lo (canSrc c 2)).satInc (R.CAN_COUNTS c) F.CAN_COUNTS_RX_DROP
  else
    let r := d.fg (R.CAN_RX_PTR c) F.CAN_RX_PTR_PROD % 128
    let n := ((d.canCh c).stored + 1) % 65536
    let d := d.modCan c fun s => { s with stored := n }
    let d := (((d.wr (canRx c r 0) (canRxHead f flt)).wr (canRx c r 1) (f.id.setWidth 32)).wr (canRx c r 2) stamp).wr (canRx c r 3) (toW n)
    let d := d.each (List.range 16) fun d k => d.wr (canRx c r (4 + k)) (dataWord f.data k)
    let d := (d.wrapInc (R.CAN_RX_PTR c) F.CAN_RX_PTR_PROD).raise (canSrc c 0)
    if action = 1 then d.raise (canSrc c 1) else d

/-- REC after a frame received without error (ISO 11898-1): one less, or a value from 119 to 127 that the standard leaves open. -/
def Dev.canRecOk (d : Dev) (c : Nat) : Dev :=
  let r := d.canRec c
  if r = 0 then d
  else if r ≤ 127 then d.canCounts c (d.canTec c) (r - 1)
  else d.nextFresh.canCounts c (d.canTec c) (119 + Config.freeNat d.fresh % 9)

/-- A frame that the Squall injector has held back is stored after the next one (R533). -/
def Dev.canLate (d : Dev) (c : Nat) : Dev :=
  match (d.canCh c).late with
  | some (f, stamp, flt, action) => (d.modCan c fun x => { x with late := none }).canStore c f stamp flt action
  | none => d

/-- CAN_FRAME_RECEIVE: a valid frame from another node, with the stamp of its SOF (R396–R398), or as the Squall injector has it (R533). -/
def execCanFrameReceive (c : Fin 2) (f : CanFrame) (stamp : Word) (s : State) : Out :=
  if !canFrameOk f then .fault (.illFormed "CAN_FRAME_RECEIVE") else s.onDev fun d =>
  if d.dozing || (d.canState c ≠ 2 && d.canState c ≠ 3) || (d.canCh c).sending.isSome then d else
  let (d, hit) := d.squall 2 0 [c.val] f.id.toNat
  if hit.any fun h => h.2 = 1 then (d.canError c .crc).canCounts c (d.canTec c) (min 255 (d.canRec c + 1)) else
  let d := d.canRecOk c
  let (flt, action) := d.canFate c f
  if action = 2 then d else
  match hit with
  | some (_, 0) => d
  | some (_, 2) => ((d.canStore c f stamp flt action).canStore c f stamp flt action).canLate c
  | some (_, 3) =>
    if (d.canCh c).late.isNone then d.modCan c fun x => { x with late := some (f, stamp, flt, action) }
    else (d.canStore c f stamp flt action).canLate c
  | _ => (d.canStore c f stamp flt action).canLate c

/-- CAN_RX_DOORBELL: a host write of a consumer index (R397). -/
def execCanRxDoorbell (c : Fin 2) (w : Word) (s : State) : Out := s.onDev fun d =>
  let cons := d.fg (R.CAN_RX_PTR c) F.CAN_RX_PTR_CONS
  let v := wbits w 15 0
  if (v + 65536 - cons) % 65536 ≤ d.canFill c then d.fs (R.CAN_RX_PTR c) F.CAN_RX_PTR_CONS v
  else d.fsb (R.CAN_ERR c) F.CAN_ERR_DB_BAD true

/-- CAN_TX_ENTRY_FREE: a host write of 1 to a DONE bit (R391). -/
def execCanTxEntryFree (c : Fin 2) (x : Fin 64) (s : State) : Out := s.onDev fun d =>
  (d.setBit (R.CAN_TX_DONE c) x false).levelFell d false (canSrc c 3)

/-! ### Correlation (R399) -/

/-- CAN_CORR_LATCH: the previous pair moves to index 1, and the counter and device time are latched. -/
def execCanCorrLatch (c : Fin 2) (s : State) : Out := s.onDev fun d =>
  if d.dozing then d else
  let seq := d.fg (R.CAN_CORR_TS c 0) F.CAN_CORR_TS_SEQ
  let d := (d.wr64 (R.CAN_CORR_TIME c 1) (d.rd64 (R.CAN_CORR_TIME c 0))).wr64 (R.CAN_CORR_TS c 1) (d.rd64 (R.CAN_CORR_TS c 0))
  let d := (d.wr64 (R.CAN_CORR_TIME c 0) d.ns).wr64 (R.CAN_CORR_TS c 0) ((seq + 1) % 65536 * 2 ^ 48 + d.canTsc)
  d.raise (canSrc c 10)

/-! ### Channel states and commands (R387, R389, R390, R400, R401) -/

/-- The bit timing of a channel meets R387. -/
def Dev.canTimingOk (d : Dev) (c : Nat) : Bool :=
  let n := R.CAN_NBT c
  let b := R.CAN_DBT c
  let brp := d.fg n F.CAN_NBT_BRP + 1
  let t1 := d.fg n F.CAN_NBT_TSEG1 + 1
  let t2 := d.fg n F.CAN_NBT_TSEG2 + 1
  let dbrp := d.fg b F.CAN_DBT_DBRP + 1
  let d1 := d.fg b F.CAN_DBT_DTSEG1 + 1
  let d2 := d.fg b F.CAN_DBT_DTSEG2 + 1
  let nb := brp * (1 + t1 + t2)
  let db := dbrp * (1 + d1 + d2)
  (80 ≤ nb && nb ≤ 640 && 8 ≤ 1 + t1 + t2) && (10 ≤ db && db ≤ nb && 5 ≤ 1 + d1 + d2)
    && (d.fg n F.CAN_NBT_SJW + 1 ≤ t2 && d.fg b F.CAN_DBT_DSJW + 1 ≤ d2)

/-- CAN_ENABLE (R400). -/
def specCanEnable : OpSpec where
  len _ := 1
  check d p :=
    let c := tix p
    let st := d.canState c
    if pb p 3 31 2 ≠ 0 then some (0x0201, 3) else
    match pb p 3 1 0 with
    | 0 => if st = 0 then some (0x0301, st) else none
    | 3 => if st ≠ 4 || (d.canCh c).recovering then some (0x0301, st) else none
    | _ => if st ≠ 0 then some (0x0301, st) else if !d.canTimingOk c then some (0x0205, 3) else none
  run d p :=
    let c := tix p
    match pb p 3 1 0 with
    | 0 => .wait (d.modCan c fun s => if s.disabling then s else { s with disabling := true, abN := 0 }) [⟨.can, 2 + c⟩] []
    | 3 => .wait (d.modCan c fun s => { s with recovering := true }) [⟨.can, c⟩] []
    | op => .wait ((d.setCanState c 1).modCan c fun s => { s with listen := op == 2, stored := 0 }) [⟨.can, c⟩] []

/-- CAN_ENABLE. -/
def execCanEnable (p : Packet) (s : State) : Out := s.onDev fun d => d.runOp 0x0A02 specCanEnable p

/-- CAN_INTEGRATION: 11 consecutive recessive bits (R389). -/
def execCanIntegration (c : Fin 2) (s : State) : Out := s.onDev fun d =>
  if d.dozing || d.canState c ≠ 1 then d else
  let d := if (d.canCh c).listen || d.muted then
      (d.setCanState c 3).modCan c fun s => { s with shadowRun := !s.listen }
    else d.setCanState c 2
  d.resolve ⟨.can, c⟩ 0 0 []

/-- CAN_RECOVERY_COMPLETE: 128 sequences of 11 recessive bits (R389, R390, R402). -/
def execCanRecoveryComplete (c : Fin 2) (s : State) : Out := s.onDev fun d =>
  if d.dozing || d.canState c ≠ 4 || !(d.canCh c).recovering then d else
  let d := (d.canCounts c 0 0).setCanState c (if d.muted then 3 else 2)
  let d := (d.modCan c fun s => { s with recovering := false, shadowRun := d.muted }).raise (canSrc c 8)
  d.resolve ⟨.can, c⟩ 0 0 []

/-- CAN_DISABLE_COMPLETE: no frame is on the bus any more (R401). -/
def execCanDisableComplete (c : Fin 2) (s : State) : Out := s.onDev fun d =>
  if d.dozing || !(d.canCh c).disabling || (d.canCh c).sending.isSome then d else
  let d := d.each (d.canCh c).order fun d x => d.canEnd c x 3
  let n := (d.canCh c).abN
  let d := (d.canCounts c 0 0).setCanState c 0
  let d := d.modCan c fun s => { s with disabling := false, recovering := false, abN := 0, shadowRun := false }
  (d.resolve ⟨.can, c⟩ 0x0306 0 []).resolve ⟨.can, 2 + c.val⟩ 0 0 [toW n]

/-- The lowest free transmit entry (R391). -/
def Dev.canFree (d : Dev) (c : Nat) : Option Nat :=
  (List.range 64).find? fun x => !d.bit (R.CAN_TX_PEND c) x && !d.bit (R.CAN_TX_DONE c) x

/-- The data words of a CAN_SEND. -/
def canSendWords (p : Packet) : Nat := (canBytes (pb p 3 30 30 = 1) (pb p 3 27 27 = 1) (pb p 3 19 16) + 3) / 4

/-- CAN_SEND (R400). -/
def specCanSend : OpSpec where
  len p := if pb p 3 31 31 = 1 then 1 else 2 + canSendWords p
  check d p :=
    let c := tix p
    let st := d.canState c
    let abort := pb p 3 31 31 = 1
    let fdf := pb p 3 30 30 = 1
    failOf [
      (abort && pb p 3 30 6 ≠ 0, 0x0201, 3),
      (!abort && (pb p 3 26 25 ≠ 0 || (pb p 3 27 27 = 1 && fdf) || (pb p 3 29 29 = 1 && !fdf) || (8 < pb p 3 19 16 && !fdf)
        || (16 ≤ pb p 3 24 20 && pb p 3 24 20 ≠ 31)), 0x0201, 3),
      (!abort && (pb p 4 31 29 ≠ 0 || (pb p 3 28 28 = 0 && 0x7FF < pb p 4 28 0)), 0x0201, 4),
      (st ≠ 1 && !d.canRuns c && st ≠ 4, 0x0301, st),
      (st = 4 && !d.fb (R.CAN_CFG c) F.CAN_CFG_AUTO_REC && !(d.canCh c).recovering, 0x0802, 0),
      (abort && !d.bit (R.CAN_TX_PEND c) (pb p 3 5 0), 0x0301, st),
      (!abort && (d.canFree c).isNone, 0x0303, 0)]
  run d p :=
    let c := tix p
    if pb p 3 31 31 = 1 then
      let x := pb p 3 5 0
      if (d.canCh c).sending = some x then
        .wait (d.modCan c fun s => { s with aborts := if s.aborts.contains x then s.aborts else s.aborts ++ [x] }) [⟨.canTx, 64 * c + x⟩] []
      else .done (d.canEnd c x 3) 0 0 [toW x]
    else match d.canFree c with
      | none => .done d 0x0303 0 []
      | some x =>
        let n := canBytes (pb p 3 30 30 = 1) (pb p 3 27 27 = 1) (pb p 3 19 16)
        let bytes := (((p.params.drop 2).flatMap wordBytes)).take n
        let d := ((d.wr (canTx c x 0) (pw p 3)).wr (canTx c x 1) (pw p 4)).wr (canTx c x 2) 0
        let d := (d.wr (canTx c x 3) 0).each (List.range 16) fun d k => d.wr (canTx c x (4 + k)) (dataWord bytes k)
        let d := (d.setBit (R.CAN_TX_PEND c) x true).modCan c fun s => { s with order := s.order ++ [x] }
        .done d 0 0 [toW x]

/-- CAN_SEND. -/
def execCanSend (p : Packet) (s : State) : Out := s.onDev fun d => d.runOp 0x0A03 specCanSend p

end Sys2Proof.Machine
end

