-- ==== Sys2Proof/Machine/Bfp.lean ====
section
/-!
DEFINITION. The number formats of the Control Engine (R4, R6, R140–R143): BFP24 values, their 48-bit products and sums,
and conversion from and to binary32.  Each value is a block of its own, sums are formed in the order in which their
formula is written, and bits shifted out of 48 bits are dropped (assumption log 7).
-/

namespace Sys2Proof.Machine

open Sys2Proof

/-- The number of binary digits of `n`, at most `k`. -/
def bitLen (k n : Nat) : Nat :=
  match k with
  | 0 => 0
  | k + 1 => if 2 ^ k ≤ n then k + 1 else bitLen k n

/-- A 48-bit intermediate of the cascade: its value is m × 2^(e − 46). -/
structure Wide where
  m : Int := 0
  e : Int := -128
  deriving DecidableEq, Repr, Inhabited

/-- The rounding of m × 2^x to 24 bits (R140, R141): mantissa and exponent, before the range of the exponent is judged. -/
def round24 (m x : Int) : Int × Int :=
  if m = 0 then (0, -128) else
  let s : Int := (bitLen 1200 m.natAbs : Int) - 23
  let q := if 0 < s then roundDiv m (2 ^ s.toNat) else m * 2 ^ (-s).toNat
  if q.natAbs = 2 ^ 23 then (q / 2, x + s + 24) else (q, x + s + 23)

/-- BFP24 from a rounded mantissa and exponent: saturated above exponent 127, zero below −128 (R142). -/
def bfpClip (r : Int × Int) : Bfp :=
  if 127 < r.2 then { m := signI r.1 * (2 ^ 23 - 1), e := 127 }
  else if r.2 < -128 then {}
  else { m := r.1, e := if r.1 = 0 then -128 else r.2 }

/-- m × 2^x as BFP24. -/
def bfpOf (m x : Int) : Bfp := bfpClip (round24 m x)

/-- A 48-bit result is stored as BFP24 (R141). -/
def Wide.store (w : Wide) : Bfp := bfpOf w.m (w.e - 46)

/-- Storing the result saturates it (R142). -/
def Wide.overflows (w : Wide) : Bool := 127 < (round24 w.m (w.e - 46)).2

/-- A BFP24 value as an operand of a sum. -/
def Bfp.wide (b : Bfp) : Wide := { m := b.m * 2 ^ 23, e := b.e }

/-- The exact product of two BFP24 values (R141). -/
def Bfp.mul (a b : Bfp) : Wide := if a.m = 0 ∨ b.m = 0 then {} else { m := a.m * b.m, e := a.e + b.e }

/-- The sum of two intermediates: the operand with the smaller exponent is shifted to the larger one (R141). -/
def Wide.add (a b : Wide) : Wide :=
  if a.m = 0 then b else if b.m = 0 then a
  else if a.e ≤ b.e then { m := Int.fdiv a.m (2 ^ (b.e - a.e).toNat) + b.m, e := b.e }
  else { m := a.m + Int.fdiv b.m (2 ^ (a.e - b.e).toNat), e := a.e }

def Wide.neg (a : Wide) : Wide := { a with m := -a.m }
def Bfp.neg (a : Bfp) : Bfp := { a with m := -a.m }

/-- `a − b`. -/
def Bfp.sub (a b : Bfp) : Wide := a.wide.add b.neg.wide

/-- The product of two values, stored. -/
def Bfp.mulB (a b : Bfp) : Bfp := (a.mul b).store

/-- The value with another sign when `s` is −1, zero when `s` is 0. -/
def Bfp.signed (a : Bfp) (s : Int) : Bfp := { a with m := s * a.m }

/-- The value, at the common scale 2^−151, for comparisons. -/
def Bfp.key (a : Bfp) : Int := a.m * 2 ^ (a.e + 128).toNat

/-- Half of a value. -/
def Bfp.half (a : Bfp) : Bfp := if a.m = 0 then a else if a.e = -128 then {} else { a with e := a.e - 1 }

/-- A value held between −lim and +lim, and whether that changed it. -/
def Bfp.clamp (a lim : Bfp) : Bfp × Bool :=
  if lim.key < a.key then (lim, true) else if a.key < -lim.key then (lim.neg, true) else (a, false)

/-- The quotient num / den before it is stored; `den` is positive. -/
def ratWide (num : Int) (den : Nat) : Wide :=
  if num = 0 ∨ den = 0 then {} else
  let k : Int := 26 + (bitLen 1200 den : Int) - bitLen 1200 num.natAbs
  let n := if 0 ≤ k then num * 2 ^ k.toNat else num
  let dn := if 0 ≤ k then den else den * 2 ^ (-k).toNat
  let q := Int.fdiv n dn
  let sticky := if q * dn = n then 0 else 1
  { m := 2 * q + sticky, e := 45 - k }

/-- The rounded quotient num / den as BFP24. -/
def ratBfp (num : Int) (den : Nat) : Bfp := (ratWide num den).store

/-- Storing some of the results saturates them (R142). -/
def anySat (l : List Wide) : Bool := l.any Wide.overflows

/-- The quotient of two values; `b` is positive. -/
def Bfp.div (a b : Bfp) : Bfp := ratBfp a.key b.key.toNat

/-- The square root of an intermediate, 0 for a negative one. -/
def Wide.sqrt (w : Wide) : Bfp :=
  if w.m ≤ 0 then {} else
  let t : Nat := 70 - bitLen 70 w.m.toNat
  let t := if (w.e - 46 - t) % 2 = 0 then t else t + 1
  let n := w.m.toNat * 2 ^ t
  let r := (List.range 40).foldl (fun r i => let c := r + 2 ^ (39 - i); if c * c ≤ n then c else r) 0
  bfpOf (2 * r + (if r * r = n then 0 else 1)) ((w.e - 46 - t) / 2 - 1)

/-! ### binary32 (R6, R143) -/

/-- A finite binary32 value as sign-carrying mantissa and power of two. -/
def f32Parts (w : Word) : Int × Int :=
  let ex := wbits w 30 23
  let fr := wbits w 22 0
  let m : Int := if ex = 0 then fr else 2 ^ 23 + fr
  (if wbit w 31 then -m else m, if ex = 0 then -149 else (ex : Int) - 150)

/-- The word is neither a NaN nor an infinity. -/
def f32Finite (w : Word) : Bool := wbits w 30 23 ≠ 255

/-- binary32 converted to BFP24 (R143). -/
def f32Bfp (w : Word) : Bfp := let p := f32Parts w; bfpOf p.1 p.2

/-- A finite binary32 value times 2^149, an integer. -/
def f32Key149 (w : Word) : Int := let p := f32Parts w; p.1 * 2 ^ (p.2 + 149).toNat

/-- BFP24 converted to binary32 (R6): exact, but for results in the subnormal range. -/
def Bfp.f32 (b : Bfp) : Word :=
  if b.m = 0 then 0 else
  let (m, x) := round24 b.m (b.e - 23)
  let n := m.natAbs
  let biased : Int := x + 126
  let sign := if b.m < 0 then 2 ^ 31 else 0
  if 1 ≤ biased then toW (sign + biased.toNat * 2 ^ 23 + (2 * n - 2 ^ 23))
  else toW (sign + (roundDiv ((2 * n : Nat) : Int) (2 ^ (1 - biased).toNat)).toNat)

/-- An integer quotient as binary32, rounded to nearest. -/
def ratF32 (num : Int) (den : Nat) : Word :=
  if num ≤ 0 ∨ den = 0 then 0 else
  let k : Int := 26 + (bitLen 1200 den : Int) - bitLen 1200 num.natAbs
  let n := if 0 ≤ k then num * 2 ^ k.toNat else num
  let dn := if 0 ≤ k then den else den * 2 ^ (-k).toNat
  let q := Int.fdiv n dn
  let q2 := (2 * q + (if q * dn = n then 0 else 1)).toNat
  let s := bitLen 60 q2 - 24
  let r := (roundDiv (q2 : Int) (2 ^ s)).toNat
  let (r, s) := if r = 2 ^ 24 then (2 ^ 23, s + 1) else (r, s)
  let biased : Int := (s : Int) - k - 1 + 23 + 127
  toW (biased.toNat * 2 ^ 23 + (r - 2 ^ 23))

end Sys2Proof.Machine
end

