-- ==== Sys2Proof/Machine/CfeOps.lean ====
section
/-!
DEFINITION. The current front end's arithmetic (06): the sinc3 and sinc2 filters over a window of captured bits, and the
correction of a word.
-/

namespace Sys2Proof.Machine

open Sys2Proof

def Dev.sd (d : Dev) (i : Nat) : SdIn := tabGet d.cfe.sd i
def Dev.modSd (d : Dev) (i : Nat) (f : SdIn → SdIn) : Dev := { d with cfe := { d.cfe with sd := tabMod d.cfe.sd i f } }

/-- n(n + 1)/2, 0 for a number below 1. -/
def tri (n : Int) : Int := if n < 1 then 0 else n * (n + 1) / 2

/-- The weight of the bit that is `k` bits old in a sinc3 filter of length `n` (R182); the weights sum to n³. -/
def sinc3Weight (n k : Int) : Int := tri (k + 1) - 3 * tri (k + 1 - n) + 3 * tri (k + 1 - 2 * n)

/-- A captured bit counts +1 or −1 (R181). -/
def bitValue (bits k : Nat) : Int := if bits.testBit k then 1 else -1

/-- The output of the sinc3 filter over its last 3 × OSR − 2 bits, newest in bit 0, as a Q1.23 word (R182). -/
def sinc3 (osr bits : Nat) : Int :=
  let s := (List.range (3 * osr - 2)).foldl (fun (n : Int) (k : Nat) => n + sinc3Weight osr k * bitValue bits k) 0
  min (2 ^ 23 - 1) (roundDiv (s * 2 ^ 23) (osr ^ 3))

/-- The output of the sinc2 filter with OSR 8 over its last 15 bits, from bit `ofs` on, in Q1.15, whose largest value is 32,767 (R186). -/
def sinc2 (bits ofs : Nat) : Int :=
  min 32767 <| (List.range 15).foldl (fun (n : Int) (k : Nat) => n + (if k < 8 then (k : Int) + 1 else 15 - k) * bitValue bits (ofs + k)) 0 * 512

/-- The corrected word (w − OFFSET) × GAIN × bank gain in Q1.23, saturated to ±(1 − 2^−23) (R185). -/
def Dev.sdCorrect (d : Dev) (i : Nat) (w : Int) : Int :=
  let n := i / 40
  let g := f32Parts (d.rd (R.CFE_SD_GAIN i))
  let b := if d.fb (R.CFE_SD_CFG i) F.CFE_SD_CFG_GAIN_APPLY && d.fb (R.CFE_BANK_CAL n) F.CFE_BANK_CAL_REF_EN
    then f32Parts (d.rd (R.CFE_BANK_GAIN n)) else (1, 0)
  let x := (w - d.fgS (R.CFE_SD_OFFSET i) F.CFE_SD_OFFSET_OFFSET) * g.1 * b.1
  let sh := g.2 + b.2
  clampI (-(2 ^ 23 - 1)) (2 ^ 23 - 1) (if 0 ≤ sh then x * 2 ^ sh.toNat else roundDiv x (2 ^ (-sh).toNat))

/-- The corrected sample word of an input as BFP24 of full scale. -/
def Dev.sampleBfp (d : Dev) (i : Nat) : Bfp := bfpOf (d.sdCorrect i (d.sd i).sample) (-23)

/-! ### Clocks and refills (R177–R184, R194) -/

/-- The modulator clock of an input: SDCK output 0–19, or 20 for SDCLK_IN (R177, R179). -/
def Dev.sdClock (d : Dev) (i : Nat) : Nat :=
  if d.fb R.CFE_CLK_CFG F.CFE_CLK_CFG_EXT then 20 else 5 * (i / 40) + d.fg (R.CFE_SD_CFG i) F.CFE_SD_CFG_CLKSEL

/-- A modulator clock runs: it is enabled and its check does not fail at present. -/
def Dev.clockRuns (d : Dev) (k : Nat) : Bool :=
  if k = 20 then !d.cfe.extNow else d.fb (R.CFE_SDCK_CFG k) F.CFE_SDCK_CFG_EN && !d.cfe.sdckNow.contains k

/-- An input takes a new sample word, unless none is delivered, the decimator refills, or its clock has stopped (R183, R184). -/
def Dev.takeSample (d : Dev) (i : Nat) (bits : Option Nat) : Dev :=
  match bits with
  | some b =>
    if i < 160 && d.fb (R.CFE_SD_CFG i) F.CFE_SD_CFG_EN && !d.fb (R.CFE_SD_STATUS i) F.CFE_SD_STATUS_FILLING && d.clockRuns (d.sdClock i) then
      d.modSd i fun x => { x with sample := sinc3 (d.osr i) b }
    else d
  | none => d

/-- The running average of an input starts anew. -/
def Dev.calRestart (d : Dev) (i : Nat) : Dev := d.modSd i fun x => { x with calSum := 0, calN := 0, calBad := false }

/-- The decimator of an enabled input starts to refill (R184); the words of a running average would no longer be consecutive (R189). -/
def Dev.refill (d : Dev) (i : Nat) : Dev :=
  let d := if (d.sd i).calN < 4096 then d.calRestart i else d
  d.fsb (R.CFE_SD_STATUS i) F.CFE_SD_STATUS_FILLING (d.fb (R.CFE_SD_CFG i) F.CFE_SD_CFG_EN)

/-- The inputs on a modulator clock. -/
def Dev.clockInputs (d : Dev) (k : Nat) : List Nat := (List.range 160).filter fun i => d.sdClock i = k

/-- The bound axis that has the input as a current input. -/
def Dev.currentAxis (d : Dev) (i : Nat) : Option Nat := (laneAxes (i / 40)).find? fun a => (d.curIns a).contains i

/-- A cause bit of CFE_SD_STATUS is set, and source 260 + n raised (R196). -/
def Dev.sdFlag (d : Dev) (i : Nat) (f : Fld) : Dev := d.setFlag (R.CFE_SD_STATUS i) f.lo (260 + i / 40)

/-- The running average of an input spans a range, stuck or clock event (R189). -/
def Dev.calSpoil (d : Dev) (i : Nat) : Dev := d.modSd i fun x => { x with calBad := x.calBad || decide (x.calN < 4096) }

/-- A condition of R187 or R194 on an input trips the active axis that has it as a current input. -/
def Dev.inputTrip (d : Dev) (i : Nat) : Dev :=
  match d.currentAxis i with
  | some a => if d.active a then d.ocTrip a else d
  | none => d

end Sys2Proof.Machine
end

