-- ==== Sys2Proof/Machine/PairOps.lean ====
section
/-!
DEFINITION. The pair's states and what they do to the outputs (17): entering a state, becoming a standby, resigning, and the
conditions of STANDBY_READY.
-/

namespace Sys2Proof.Machine

open Sys2Proof

def Dev.pairState (d : Dev) : Nat := d.fg R.PAIR_STATUS F.PAIR_STATUS_STATE
/-- A state is entered; the ACTIVE is its own time reference, so that its ERR is 0 (R458, R460). -/
def Dev.setPairState (d : Dev) (st : Nat) : Dev :=
  let d := d.fs R.PAIR_STATUS F.PAIR_STATUS_STATE st
  if st = 2 ∨ st = 3 then (d.fs R.PAIR_TIME F.PAIR_TIME_ERR 0).fsb R.PAIR_STATUS F.PAIR_STATUS_TIME_OK true else d
def Dev.pairEn (d : Dev) : Bool := d.fb R.PAIR_CFG F.PAIR_CFG_EN
def Dev.modPair (d : Dev) (f : PairSt → PairSt) : Dev := { d with pair := f d.pair }

/-- The device is the ACTIVE of a pair (R458). -/
def Dev.pairActive (d : Dev) : Bool := d.pairEn && (d.pairState = 2 || d.pairState = 3)

/-- Every leg goes high-impedance (R464); a frozen leg leaves its condition as well. -/
def Dev.legsOff (d : Dev) : Dev := d.each (List.range 192) fun d l => if (d.leg l).cond = .hiz then d else d.legHiz l

/-- LISTEN of a port in MODE 2 or 3 becomes 1 or 0 (R463, R469). -/
def Dev.setListen1 (on : Bool) (d : Dev) (e : Nat) : Dev :=
  if 2 ≤ d.fg (R.ENC_CFG e) F.ENC_CFG_MODE then d.fsb (R.ENC_CFG e) F.ENC_CFG_LISTEN on else d

/-- LISTEN of the serial ports becomes 1 or 0 (R463, R469). -/
def Dev.setListen (d : Dev) (on : Bool) : Dev := d.each (List.range 64) (Dev.setListen1 on)

/-- A write of ENC_CFG has been applied: in a STANDBY the port listens, in the ACTIVE of a pair it does not (R463). -/
def Dev.listenFollow (d : Dev) (e : Nat) : Dev :=
  if !d.pairEn then d
  else if d.pairState = 4 || d.pairState = 5 then d.setListen1 true e
  else if d.pairState = 2 || d.pairState = 3 then d.setListen1 false e
  else d

/-- The level that a compare output drives on its ball, as active or not; none while the ball is high-impedance (R245, R464). -/
def Dev.pcoDriven (d : Dev) (o : Nat) : Option Bool := if d.muted then none else some (tabGet d.enc.pco o).active

/-- The CAN channels that run go on listening only (R464), or those that listen for the partner's sake run (R469). -/
def Dev.canListen (d : Dev) : Dev :=
  d.each [0, 1] fun d c =>
    if d.fg (R.CAN_STATUS c) F.CAN_STATUS_STATE = 2 then
      { d.fs (R.CAN_STATUS c) F.CAN_STATUS_STATE 3 with can := tabMod d.can c fun s => { s with shadowRun := true, sending := none } }
    else d
def Dev.canResume (d : Dev) : Dev :=
  d.each [0, 1] fun d c =>
    if (tabGet d.can c).shadowRun then
      { d.fs (R.CAN_STATUS c) F.CAN_STATUS_STATE 2 with can := tabMod d.can c fun s => { s with shadowRun := false, sending := none } }
    else d

/-- The outputs of R464 go high-impedance: legs, CAN, Traverse. -/
def Dev.pairMute (d : Dev) : Dev := (d.legsOff.canListen).fsb R.PAIR_STATUS F.PAIR_STATUS_TRV_MUTED true

/-- The ACTIVE of a pair resigns (R467): its outputs go high-impedance, RESIGN is sent with the cause when the partner is STANDBY_READY,
and it enters RESIGNED. -/
def Dev.resign (d : Dev) (cause : Nat) : Dev :=
  if !d.pairActive then d else
  let d := if d.pairState = 3 then d.sendTie 8 [toW cause] else d
  let d := d.pairMute.setPairState 6
  (d.fsb R.PAIR_EVENT F.PAIR_EVENT_RESIGNED true).raise 566

end Sys2Proof.Machine
end

