-- ==== Sys2Proof/Machine/Ce.lean ====
section
/-!
DEFINITION. The Control Engine (05): one evaluation of the cascade, hooks, following-error and overrun faults, and the
hardware stop generator.
-/

namespace Sys2Proof.Machine

open Sys2Proof

/-! ### Parameters and constants -/

/-- Parameter k of an axis (R143). -/
def Dev.ceP (d : Dev) (a k : Nat) : Bfp := f32Bfp (d.rd (R.CE_AX_PARAM a k))

/-- One. -/
def bfpOne : Bfp := bfpOf 1 0

/-- 0.5, the duty of zero voltage. -/
def bfpHalf : Bfp := bfpOf 1 (-1)

/-- 1/√3 and √3/2, correctly rounded from 2^60 fixed point. -/
def invSqrt3 : Bfp := bfpOf 665639541039271463 (-60)
def halfSqrt3 : Bfp := bfpOf 998459311558907194 (-60)

/-- The tick period of a lane in seconds, times 2^k. -/
def Dev.tickBfp (d : Dev) (n k : Nat) : Bfp := ratBfp (d.tickCounts n * 25 * 2 ^ k : Nat) (10 ^ 10)

/-- A free BFP24 value. -/
def freeBfp (n : Nat) : Bfp := bfpOf (Config.freeInt n) (Config.freeInt (n + 1) % 256)

/-! ### Hooks (R161, R162) -/

def Dev.hook (d : Dev) (a h : Nat) : Hook := tabGet d.ce.hooks (5 * a + h)
def Dev.modHook (d : Dev) (a h : Nat) (f : Hook → Hook) : Dev := { d with ce := { d.ce with hooks := tabMod d.ce.hooks (5 * a + h) f } }

/-- A hook is absent (R162): it has reached STALE_LIMIT consecutive stale reads, and no fresh write has come since. -/
def Dev.hookAbsent (d : Dev) (a h : Nat) : Bool :=
  let lim := d.fg (R.CE_AX_HOOK a) F.CE_AX_HOOK_STALE_LIMIT
  lim ≠ 0 && lim ≤ (d.hook a h).stale && !(d.hook a h).fresh

/-- An evaluation reads a hook (R162): the value of an enabled one that is not absent, as a Q1.31 integer. -/
def Dev.readHook (d : Dev) (a h : Nat) : Dev × Option Int :=
  if !d.bit (R.CE_AX_HOOK a) h then (d, none) else
  let x := d.hook a h
  let v := toS 32 x.value.toNat
  if x.fresh then (d.modHook a h fun x => { x with fresh := false, stale := 0 }, some v)
  else
    let absent := d.hookAbsent a h
    (d.modHook a h fun x => { x with stale := x.stale + 1 }, if absent then none else some v)

/-- A hook value as BFP24. -/
def hookBfp (v : Int) : Bfp := bfpOf v (-31)

/-! ### Notch filters (R153–R155) -/

/-- The coefficients b0, b1, b2, a1, a2 of notch `i` of an axis; none with MODE 0 (R154).  Where a change of the lane rate has left the
formulas without a value (tan at a quarter turn, a norm of 0) they are free. -/
def Dev.notchCoeffs (d : Dev) (a i : Nat) : Option (List Bfp) :=
  let w (j : Nat) := d.rd (R.CE_AX_NOTCHP a (5 * i + j))
  match d.fg (R.CE_AX_NOTCH_CFG a) (if i = 0 then F.CE_AX_NOTCH_CFG_MODE0 else F.CE_AX_NOTCH_CFG_MODE1) with
  | 1 =>
    let fs := 400000000 / d.tickCounts (laneOf a)
    let f0 := f32Key149 (w 0)
    let bw := f32Key149 (w 1)
    let depth := f32Key149 (w 2)
    -- tan(π f0 / fs) × 2^60
    let ang := Int.fdiv (f0 * 2 ^ 39) (fs * 2 ^ 149)
    let co := cosTurn ang
    let k := Int.fdiv (sinTurn ang * 2 ^ 60) co
    let one : Int := 2 ^ 60
    let kk := Int.fdiv (k * k) one
    let zpk2 := Int.fdiv (bw * k) f0
    let zzk2 := Int.fdiv (depth * zpk2) (2 ^ 149)
    let norm := one + zpk2 + kk
    if co = 0 ∨ f0 = 0 ∨ norm ≤ 0 then some ((List.range 5).map fun j => freeBfp (2 * (5 * a + j))) else
    let b1 := ratBfp (2 * (kk - one)) norm.toNat
    some [ratBfp (one + zzk2 + kk) norm.toNat, b1, ratBfp (one - zzk2 + kk) norm.toNat, b1, ratBfp (one - zpk2 + kk) norm.toNat]
  | 2 => some ((List.range 5).map fun j => f32Bfp (w j))
  | _ => none

/-- One notch (R154): its output, the delay line after it, and whether its output saturated. -/
def notchStep (c : Option (List Bfp)) (n : Notch) (x : Bfp) : Bfp × Notch × Bool :=
  match c with
  | none => (x, n, false)
  | some l =>
    let g (j : Nat) := l.getD j {}
    let w := ((((g 0).mul x).add ((g 1).mul n.x1)).add ((g 2).mul n.x2)).add (((g 3).mul n.y1).neg) |>.add (((g 4).mul n.y2).neg)
    (w.store, { x1 := x, x2 := n.x1, y1 := w.store, y2 := n.y1 }, w.overflows)

/-! ### The motion side of the cascade: stages 2 to 7 (R145–R155) -/

/-- What stages 2 to 7 hand on: the axis's evaluation state, y_out, the status bits, and the signals that they latch. -/
structure MotionOut where
  ce      : CeAxis := {}
  y       : Bfp := {}
  winner  : Nat := 0
  floored : Bool := false
  ivClamp : Bool := false
  ifClamp : Bool := false
  imaxClamp : Bool := false
  sat     : Bool := false
  sigs    : List (Nat × Bfp) := []
  deriving DecidableEq, Repr, Inhabited

/-- The position loop at a position-loop tick (R145, R147), on the set points of its tick: e_p, v_ref, and the run of ticks beyond
FE_LIMIT. -/
def Dev.positionLoop (d : Dev) (a : Nat) (e : EvalDue) (x : CeAxis) : CeAxis × List (Nat × Bfp) × Bool :=
  let err := e.pCmd - d.actual a
  let ep := bfpOf err (-24)
  let w := ((d.ceP a 0).mul ep).add ((d.ceP a 1).mul (bfpOf e.vCmd (-16)))
  let lim := d.fg (R.CE_AX_FE a) F.CE_AX_FE_FE_LIMIT
  let beyond := lim ≠ 0 && lim * 2 ^ 24 < err.natAbs
  ({ x with vRef := w.store, feN := if beyond then x.feN + 1 else 0 }, [(0, ep), (1, w.store)], w.overflows)

/-- The velocity loop at a velocity-loop tick (R146): v_act and u_v; the answer has e_v. -/
def Dev.velocityLoop (d : Dev) (a : Nat) (e : EvalDue) (h0 h2 : Option Int) (x : CeAxis) : CeAxis × Bfp × List (Nat × Bfp) × Bool :=
  let n := laneOf a
  let p := d.actual a
  let tv := 25 * d.tickCounts n * 2 ^ d.fg (R.CE_LANE_CFG n) F.CE_LANE_CFG_VDIV
  let va := match h0 with
    | some v => (hookBfp v).mul (d.ceP a 26)
    | none => ratWide ((p - x.pPrev) * 10 ^ 10) (2 ^ 24 * tv)
  let ev := x.vRef.sub va.store
  let w := (((d.ceP a 2).mul ev.store).add x.iv.wide).add ((d.ceP a 4).mul (bfpOf e.aCmd (-16)))
  let w := match h2 with | some v => w.add ((hookBfp v).mul (d.ceP a 6)) | none => w
  ({ x with vAct := va.store, uv := w.store, pPrev := p }, ev.store, [(2, va.store), (3, w.store)], anySat [va, ev, w])

/-- The present candidates of the competition by index (R148), and whether storing one saturated. -/
def Dev.candidates (d : Dev) (a : Nat) (x : CeAxis) (s : Int) (force : Bfp) (h1 : Option Int) : List (Nat × Bfp) × Bool :=
  let dir : Int := if d.fb (R.CE_AX_CFG a) F.CE_AX_CFG_DIR_F then -1 else 1
  let ef := (d.ceP a 7).sub force
  let w1 := ((d.ceP a 8).mul ef.store).add x.iF.wide
  let (c1, o1) := match d.fg (R.CE_AX_CFG a) F.CE_AX_CFG_FMODE with
    | 1 => if s = dir then ([(1, w1.store.signed dir)], anySat [ef, w1]) else ([], false)
    | 2 => ([(1, (d.ceP a 11).signed s)], false)
    | _ => ([], false)
  let (c2, o2) := match h1 with
    | some v => let w := (hookBfp v).mul (d.ceP a 6); ([(2, w.store)], w.overflows)
    | none => ([], false)
  ((0, x.uv) :: (c1 ++ c2), o1 || o2)

/-- The winner: the smallest projection, the lowest index on a tie (R150). -/
def pickWinner (s : Int) (l : List (Nat × Bfp)) : Nat × Bfp :=
  l.foldl (fun best c => if (c.2.signed s).key < (best.2.signed s).key then c else best) (l.headD (0, {}))

/-- The increment gain × e × t of an integrator, and whether storing it saturated. -/
def increment (gain e t : Bfp) : Bfp × Bool :=
  let g := gain.mul e
  let w := g.store.mul t
  (w.store, anySat [g, w])

/-- An integrator of the winning loop takes an increment, unless it is blocked; then its limit holds (R151). -/
def integrate (i : Bfp) (inc : Bfp × Bool) (lim : Bfp) (update : Bool) : Bfp × Bool × Bool :=
  let w := i.wide.add inc.1.wide
  let v := if update then w.store else i
  let (c, acted) := v.clamp lim
  (c, acted, update && (inc.2 || w.overflows))

/-- Stages 2 to 7 of an axis in READY, MOVING or STOPPING (R139). -/
def Dev.motionStages (d : Dev) (a : Nat) (e : EvalDue) (pos vel : Bool) (force : Bfp) (h0 h1 h2 h3 : Option Int) : MotionOut :=
  let n := laneOf a
  let x := d.ceAx a
  let (x, sg1, o1) := if pos then d.positionLoop a e x else (x, [], false)
  let (x, ev, sg2, o2) := if vel then d.velocityLoop a e h0 h2 x else (x, {}, [], false)
  let s := if x.uv.m = 0 then x.s else signI x.uv.m
  let (cands, o7) := d.candidates a x s force h1
  let (idx, c) := pickWinner s cands
  let low := (c.signed s).key < 0
  let floored := d.fb (R.CE_AX_CFG a) F.CE_AX_CFG_FLOOR && low
  let u := if floored then {} else c
  let (y0, n0, o3) := notchStep (d.notchCoeffs a 0) x.n0 u
  let (y1, n1, o4) := notchStep (d.notchCoeffs a 1) x.n1 y0
  let wz := match h3 with | some v => y1.wide.add ((hookBfp v).mul (d.ceP a 6)) | none => y1.wide
  let z := wz.store
  let (y, clamped) := z.clamp (d.ceP a 6)
  let dir : Int := if d.fb (R.CE_AX_CFG a) F.CE_AX_CFG_DIR_F then -1 else 1
  let fmode := d.fg (R.CE_AX_CFG a) F.CE_AX_CFG_FMODE
  let blocked (inc : Bfp) (sg : Int) : Bool :=
    (clamped && sg * signI inc.m = signI z.m) || (floored && s * sg * signI inc.m < 0)
  let incV := increment (d.ceP a 3) ev (d.tickBfp n (d.fg (R.CE_LANE_CFG n) F.CE_LANE_CFG_VDIV))
  let (iv, ivc, o5) := integrate x.iv incV (d.ceP a 5) (vel && idx = 0 && !blocked incV.1 1)
  let incF := increment (d.ceP a 9) ((d.ceP a 7).sub force).store (d.tickBfp n 0)
  let (iF, ifc, o6) := integrate x.iF incF (d.ceP a 10) (idx = 1 && fmode = 1 && !blocked incF.1 dir)
  let cand (k : Nat) : Bfp := ((cands.find? fun c => c.1 = k).map (·.2)).getD {}
  { ce := { x with s := s, n0 := n0, n1 := n1, iv := iv, iF := iF }
    y := y, winner := idx, floored := floored, ivClamp := ivc, ifClamp := ifc, imaxClamp := clamped
    sat := o1 || o2 || o3 || o4 || o5 || o6 || o7 || wz.overflows
    sigs := sg1 ++ sg2 ++ [(4, cand 1), (5, cand 2), (6, u), (7, y)] }

/-! ### Angle, currents, voltages: stages 8 to 11 (R156–R160) -/

/-- The electrical angle of R84 in 2^−40 turns; for TYPE 2, where the device ignores ECYCLE, and with ECYCLE at 0 it is a free value
(assumption log 53). -/
def Dev.theta0 (d : Dev) (a : Nat) : Int :=
  let ofs := d.rdS (if d.fg (R.AXIS_COMM_CFG a) F.AXIS_COMM_CFG_COMM_SRC = 1 then R.AXIS_COMM_MEAS a else R.AXIS_COMM_OFFSET a)
  let ec := (d.rd (R.AXIS_COMMUT a)).toNat
  if d.axType a = 2 ∨ ec = 0 then Config.freeInt (d.fresh + 2) else Int.fdiv ((d.actual a - ofs) * 2 ^ 24) ec

/-- The electrical rate in turns/s as a fraction: v_act / ECYCLE, or the H4-derived rate of R161; a free value where neither is defined
(assumption log 53). -/
def Dev.elecRate (d : Dev) (a : Nat) (h4 : Option Int) (tRef : Nat) (x : CeAxis) : Int × Nat :=
  let free : Int × Nat := (Config.freeInt (d.fresh + 3), Config.freeNat (d.fresh + 3) + 1)
  match h4 with
  | none => if d.axType a = 2 then free else (x.vAct.key * 256, (d.rd (R.AXIS_COMMUT a)).toNat * 2 ^ 151)
  | some v =>
    match x.h4Prev with
    | some (th, t) => (toS 40 (ofS 40 (v * 2 ^ 8 - th)) * 10 ^ 10, (tRef - t) * 2 ^ 40)
    | none => free

/-- The advance, in 2^−40 turns, at a rate over `dt` units of 0.1 ns. -/
def advanceTurns (r : Int × Nat) (dt : Int) : Int := if r.2 = 0 then 0 else Int.fdiv (r.1 * dt * 2 ^ 40) (r.2 * 10 ^ 10)

/-- The cosine and sine of an angle in 2^−40 turns. -/
def cosB (t : Int) : Bfp := bfpOf (cosTurn t) (-60)
def sinB (t : Int) : Bfp := bfpOf (sinTurn t) (-60)

/-- A vector turned by an angle, x cos − y sin and x sin + y cos, before it is stored. -/
def turned (x y : Bfp) (t : Int) : Wide × Wide :=
  ((x.mul (cosB t)).add (y.mul (sinB t)).neg, (x.mul (sinB t)).add (y.mul (cosB t)))

/-- A vector turned by an angle, and whether storing it saturated. -/
def rotate (x y : Bfp) (t : Int) : Bfp × Bfp × Bool :=
  let w := turned x y t
  (w.1.store, w.2.store, anySat [w.1, w.2])

/-- The current-loop integrator (R157): what it becomes, whether its limit acted, and whether a result saturated. -/
def loopInt (j ki e t lim pre : Bfp) (limited : Bool) : Bfp × Bool × Bool :=
  let inc := increment ki e t
  let w := j.wide.add inc.1.wide
  if limited && signI inc.1.m = signI pre.m then (j, true, false)
  else let c := w.store.clamp lim; (c.1, c.2, inc.2 || w.overflows)

/-- The duties of the legs of an axis from the voltages in its axes (R158). -/
def duties (typ : Nat) (sine : Bool) (va vb vdc : Bfp) : List Bfp :=
  let half := bfpHalf
  let twice : Bfp := if vdc.m = 0 then vdc else { vdc with e := vdc.e + 1 }
  match typ with
  | 0 =>
    let hv := va.half.neg
    let w := vb.mul halfSqrt3
    let vs := [va, (hv.wide.add w).store, (hv.wide.add w.neg).store]
    let mx := vs.foldl (fun m v => if m.key < v.key then v else m) va
    let mn := vs.foldl (fun m v => if v.key < m.key then v else m) va
    let z := if sine then {} else ((mx.wide.add mn.wide).store.div twice).neg
    vs.map fun v => ((half.wide.add (v.div vdc).wide).add z.wide).store
  | 1 =>
    let qa := va.div twice
    let qb := vb.div twice
    [(half.wide.add qa.wide).store, (half.sub qa).store, (half.wide.add qb.wide).store, (half.sub qb).store]
  | _ =>
    let q := vb.div twice
    [(half.wide.add q.wide).store, (half.sub q).store]

/-- The compare value of a duty in sixteenths (R204). -/
def dutyCompare (duty : Bfp) (counts : Nat) : Nat := (roundDiv (duty.m * 2 ^ (duty.e + 128).toNat * (16 * counts)) (2 ^ 151)).toNat

/-- What stages 1 and 8 to 11 hand on. -/
structure PowerOut where
  jd : Bfp := {}
  jq : Bfp := {}
  viClamp : Bool := false
  sat : Bool := false
  theta : Int := 0
  duty : List Bfp := []
  sigs : List (Nat × Bfp) := []
  deriving DecidableEq, Repr, Inhabited

/-- The d-axis current demand: ID_REF, or during ENABLING the alignment ramp of R89; before it is stored. -/
def Dev.idDemand (d : Dev) (a : Nat) : Wide :=
  if d.axState a = 1 then
    let c := R.AXIS_COMM_CFG a
    if d.fg c F.AXIS_COMM_CFG_COMM_SRC = 1 ∧ (d.ax a).enab = .align then
      let full := (ratBfp (d.fg c F.AXIS_COMM_CFG_ALIGN_I) 256).mul (d.ceP a 6)
      let quarter := d.fg c F.AXIS_COMM_CFG_ALIGN_T * 250000
      let t := d.ns - (d.ax a).enabNs
      if quarter ≤ t then full else full.store.mul (ratBfp (t : Int) quarter)
    else {}
  else if d.axType a = 2 then {} else (d.ceP a 22).wide

/-- Stages 1 and 8 to 11 (R156–R159). -/
def Dev.powerStages (d : Dev) (a : Nat) (x : EvalIn) (ce : CeAxis) (y : Bfp) (h4 : Option Int) : PowerOut :=
  let typ := d.axType a
  let b := R.AXIS_BIND_IN a
  let cur (f : Fld) : Wide := (d.sampleBfp (d.fg b f)).mul (d.ceP a 13)
  let w1 := cur F.AXIS_BIND_IN_CUR_A
  let w2 : Wide := if typ = 2 then {} else cur F.AXIS_BIND_IN_CUR_B
  let i1 := w1.store
  let i2 := w2.store
  let dcIn := d.fg b F.AXIS_BIND_IN_DCLINK_IN
  let wdc := if dcIn = 255 then (d.ceP a 23).wide else (d.sampleBfp dcIn).mul (d.ceP a 25)
  let vdc := wdc.store
  let wsum := i1.wide.add { i2.wide with e := if i2.m = 0 then i2.e else i2.e + 1 }
  let wbe := wsum.store.mul invSqrt3
  let ibe := if typ = 0 then wbe.store else i2
  let rate := d.elecRate a h4 x.tRef ce
  let tEnc := d.rd64 (R.ENC_TIME (d.portOf a)) * 10
  let h := if d.fb (R.CE_AX_CFG a) F.CE_AX_CFG_ADV_HALF then (d.tickCounts (laneOf a) * 25 / 2 : Nat) else 0
  let adv := advanceTurns rate ((x.dp : Int) + h + d.fgS (R.CE_AX_ADV a) F.CE_AX_ADV_ADV_TRIM * 10)
  let thP := match h4 with | some v => v * 2 ^ 8 | none => d.theta0 a + advanceTurns rate ((x.tRef : Int) - tEnc)
  let thO := thP + adv
  let (id, iq, o1) := if typ = 2 then ({}, i1, false) else rotate i1 ibe (-thP)
  let wid := d.idDemand a
  let t := d.tickBfp (laneOf a) 0
  let dec := d.fb (R.CE_AX_CFG a) F.CE_AX_CFG_DECOUPLE
  let we := ratWide (rate.1 * 2 * pi60) (rate.2 * 2 ^ 60)
  let wel := we.store.mul (d.ceP a 20)
  let wpsi := ((d.ceP a 19).mul id).add (d.ceP a 21).wide
  let wed := wid.store.sub id
  let weq := y.sub iq
  let wd := ((d.ceP a 14).mul wed.store).add ce.jd.wide
  let wd := if dec then wd.add (wel.store.mul iq).neg else wd
  let wq := ((d.ceP a 16).mul weq.store).add ce.jq.wide
  let wq := if dec then wq.add (we.store.mul wpsi.store) else wq
  let dead := vdc.m ≤ 0
  let wm := (d.ceP a 24).mul vdc
  let vm := wm.store
  let vmax := if dead then {} else if typ = 0 then (if d.fb (R.CE_AX_CFG a) F.CE_AX_CFG_MOD then vm.half else vm.mulB invSqrt3) else vm
  let (vd, cd) := if typ = 2 then ({}, false) else wd.store.clamp vmax
  let vqLim := ((vmax.mul vmax).add (vd.mul vd).neg).sqrt
  let (vq, cq) := wq.store.clamp vqLim
  let (jd, kd, o2) := if typ = 2 then (ce.jd, false, false) else loopInt ce.jd (d.ceP a 15) wed.store t (d.ceP a 18) wd.store cd
  let (jq, kq, o3) := loopInt ce.jq (d.ceP a 17) weq.store t (d.ceP a 18) wq.store cq
  let (va, vb, o4) := if typ = 2 then ({}, vq, false) else rotate vd vq thO
  let sat := anySat [w1, w2, wdc, weq, wq, wm] || (typ = 0 && anySat [wsum, wbe]) || (typ ≠ 2 && anySat [wid, wed, wd])
    || (dec && anySat [we, wel, wpsi]) || o1 || o2 || o3 || o4
  { jd := jd, jq := jq, viClamp := dead || cd || cq || kd || kq, sat := sat
    theta := thP
    duty := if dead then (List.range (typeLegs typ)).map fun _ => bfpHalf
      else duties typ (d.fb (R.CE_AX_CFG a) F.CE_AX_CFG_MOD) va vb vdc
    sigs := [(8, id), (9, iq), (10, vd), (11, vq), (12, bfpOf (ofS 40 thP) (-40)), (14, vdc)] }

/-! ### AXIS_EVALUATION -/

/-- A tick of a lane, by its count, is a position-loop or velocity-loop tick (R144). -/
def Dev.loopAt (d : Dev) (n count : Nat) (f : Fld) : Bool := count % 2 ^ d.fg (R.CE_LANE_CFG n) f = 0

/-- The lane's present tick is such a tick. -/
def Dev.loopTick (d : Dev) (n : Nat) (f : Fld) : Bool := d.loopAt n (d.rd64 (R.SYS_TICK_COUNT n)) f

/-- The signals of an evaluation are latched as binary32 (stage 9). -/
def Dev.putSigs (d : Dev) (a : Nat) (l : List (Nat × Bfp)) : Dev := l.foldl (fun d x => d.wr (R.CE_AX_SIG a x.1) x.2.f32) d

/-- The evaluation takes its inputs: the sample words that are delivered. -/
def Dev.intake (d : Dev) (a : Nat) (x : EvalIn) : Dev :=
  let b := R.AXIS_BIND_IN a
  (((d.takeSample (d.fg b F.AXIS_BIND_IN_CUR_A) x.curA).takeSample (d.fg b F.AXIS_BIND_IN_CUR_B) x.curB).takeSample
    (d.fg b F.AXIS_BIND_IN_FORCE_IN) x.force).takeSample (d.fg b F.AXIS_BIND_IN_DCLINK_IN) x.dc

/-- The force in newtons before it is stored: the input word × FSCALE (R148); without a force input it is a free value. -/
def Dev.forceOf (d : Dev) (a : Nat) : Wide :=
  let i := d.fg (R.AXIS_BIND_IN a) F.AXIS_BIND_IN_FORCE_IN
  if i = 255 then (freeBfp d.fresh).wide else (d.sampleBfp i).mul (d.ceP a 12)

/-- A BFP24 word of an AXIS_MIRROR (R461). -/
def Bfp.word (b : Bfp) : Word := toW (ofS 24 b.m * 2 ^ 8 + ofS 8 b.e)

/-- The 28 words of an AXIS_MIRROR (R461); the places of the bits of word 2 are assumption log 22. -/
def Dev.mirrorWords (d : Dev) (a : Nat) : List Word :=
  let x := d.ax a
  let c := d.ceAx a
  let st := R.CE_AX_STATUS a
  let w2 := d.axState a + d.fg (R.AXIS_STATUS a) F.AXIS_STATUS_LAST_STATE * 2 ^ 3 + (if c.s < 0 then 2 ^ 6 else 0)
    + d.fg st F.CE_AX_STATUS_WINNER * 2 ^ 8 + (d.fb st F.CE_AX_STATUS_FLOORED).toNat * 2 ^ 12 + (d.fb st F.CE_AX_STATUS_HSG).toNat * 2 ^ 13
    + d.fg (R.AXIS_STATUS a) F.AXIS_STATUS_STOP_CLASS * 2 ^ 14 + (d.fb (R.AXIS_STATUS a) F.AXIS_STATUS_BRAKE_RELEASED).toNat * 2 ^ 16
  words64 (d.rd64 (R.SYS_TICK_COUNT (laneOf a))) ++ [toW w2] ++ words64 (ofS 64 x.pCmd) ++ words64 (ofS 64 x.vCmd) ++ words64 (ofS 64 x.aCmd)
    ++ [c.vRef, c.uv, c.iv, c.iF, c.jd, c.jq, c.n0.x1, c.n0.x2, c.n0.y1, c.n0.y2, c.n1.x1, c.n1.x2, c.n1.y1, c.n1.y2].map Bfp.word
    ++ (List.range 5).map fun h => (d.hook a h).value

/-- The ACTIVE of a pair sends an AXIS_MIRROR at the end of an evaluation (R457). -/
def Dev.sendMirror (d : Dev) (a : Nat) : Dev := d.sendTie 2 (d.mirrorWords a)

/-- The current magnitude that method 4 of HOME watches (R96): that of i_q, and for TYPE 1 that of the current vector; `hsNs` keeps the
tick from which it has exceeded HS_CURRENT. -/
def Dev.hardStopSense (d : Dev) (a : Nat) (id iq : Bfp) : Dev :=
  if (d.ax a).home ≠ .hardStop then d else
  let lim := ((ratBfp (d.fg (R.AXIS_HOME_CFG a) F.AXIS_HOME_CFG_HS_CURRENT) 128).mulB (d.ceP a 6)).key
  let m2 := iq.key * iq.key + (if d.axType a = 1 then id.key * id.key else 0)
  d.modAx a fun x => { x with
    hsNs := if lim * lim < m2 then some (x.hsNs.getD (tabGet d.servoNs (laneOf a))) else none }

/-- One evaluation of an active axis for a tick (R139): its state, signals and status, and the compare values on their way to its legs. -/
def Dev.evaluate (d : Dev) (a : Nat) (e : EvalDue) (x : EvalIn) : Dev :=
  let n := laneOf a
  let d := (d.intake a x).modCe a fun c => { c with due := c.due.drop 1 }
  let d := { d with ce := { d.ce with evals := tabMod d.ce.evals n (· + 1) } }
  let enabling := d.axState a = 1
  let pos := d.loopAt n e.tick F.CE_LANE_CFG_PDIV
  let vel := d.loopAt n e.tick F.CE_LANE_CFG_VDIV
  let wf := d.forceOf a
  let force := wf.store
  let hsg := d.fb (R.CE_AX_STATUS a) F.CE_AX_STATUS_HSG
  let read (d : Dev) (on : Bool) (h : Nat) : Dev × Option Int := if on then d.readHook a h else (d, none)
  let (d, h0) := read d (!enabling && vel) 0
  let (d, h2) := read d (!enabling && vel) 2
  let (d, h1) := read d (!enabling) 1
  let (d, h3) := read d (!enabling) 3
  let (d, h4) := read d true 4
  let m : MotionOut := if enabling then
      { ce := { d.ceAx a with pPrev := if vel then d.actual a else (d.ceAx a).pPrev } }
    else d.motionStages a e pos vel force h0 h1 (if hsg then none else h2) h3
  let p := d.powerStages a x m.ce m.y h4
  let seq := toW e.tick &&& 0x7FFFFFFF#32
  let d := d.modCe a fun _ => { m.ce with jd := p.jd, jq := p.jq, h4Prev := h4.map fun v => (v * 2 ^ 8, x.tRef) }
  let d := d.modCe a fun y => { y with seq := seq }
  let st := R.CE_AX_STATUS a
  let d := if m.sat || p.sat || wf.overflows then d.fsb st F.CE_AX_STATUS_SAT true else d
  let d := if enabling then d else
    ((((d.fs st F.CE_AX_STATUS_WINNER m.winner).fsb st F.CE_AX_STATUS_FLOORED m.floored).fsb st F.CE_AX_STATUS_IV_CLAMP m.ivClamp).fsb
      st F.CE_AX_STATUS_IF_CLAMP m.ifClamp).fsb st F.CE_AX_STATUS_IMAX_CLAMP m.imaxClamp
  let d := d.fsb st F.CE_AX_STATUS_VI_CLAMP p.viClamp
  let d := d.putSigs a (m.sigs ++ p.sigs ++ [(13, force)])
  let dl := R.CE_AX_DELAY a
  let d := (d.fs dl F.CE_AX_DELAY_LAST x.delay).fs dl F.CE_AX_DELAY_MAX (max (d.fg dl F.CE_AX_DELAY_MAX) (x.delay % 65536))
  let d := d.wr (R.CE_AX_SIG a 15) (ratBfp (x.delay : Int) 1000).f32
  let t := d.tickCounts n
  let d := ((d.legsOf a).zip p.duty).foldl (fun d lc => d.modLeg lc.1 fun y =>
    let c := dutyCompare lc.2 t
    { y with last := some c, issued := if y.cond = .switching then y.issued ++ [c] else [] }) d
  let d := ((d.sampleSigs a e.tick).sampleIssue (d.legsOf a) n e.tick).sendMirror a
  let d := d.hardStopSense a ((p.sigs.find? fun x => x.1 = 8).map (·.2) |>.getD {}) ((p.sigs.find? fun x => x.1 = 9).map (·.2) |>.getD {})
  { d with fresh := d.fresh + 4 }

/-- AXIS_EVALUATION: the lane runs the oldest evaluation that a tick has made due for an active axis (R137). -/
def execAxisEvaluation (a : Fin 64) (x : EvalIn) (s : State) : Out := s.onDev fun d =>
  match (d.ceAx a).due with
  | e :: _ => if d.active a && !d.ce.stopped then d.evaluate a e x else d
  | [] => d

/-! ### Faults and hooks of the lane (R147, R162, R172, R176) -/

/-- FOLLOWING_ERROR_FAULT: |e_p| has exceeded FE_LIMIT on FE_TIME consecutive position-loop ticks (R147). -/
def execFollowingErrorFault (a : Fin 64) (s : State) : Out := s.onDev fun d =>
  if 2 ≤ d.axState a && d.active a && d.fg (R.CE_AX_FE a) F.CE_AX_FE_FE_LIMIT ≠ 0 && d.fg (R.CE_AX_FE a) F.CE_AX_FE_FE_TIME ≤ (d.ceAx a).feN
    && 0 < (d.ceAx a).feN then
    d.axisFault a 3 else d

/-- HOOK_ABSENT: a hook has reached STALE_LIMIT consecutive stale reads (R162, R176). -/
def execHookAbsent (a : Fin 64) (h : Fin 5) (s : State) : Out := s.onDev fun d =>
  if d.bit (R.CE_AX_HOOK a) h && d.hookAbsent a h && !d.bit (R.CE_AX_STATUS a) (16 + h) then
    (d.setBit (R.CE_AX_STATUS a) (16 + h) true).setFlag (R.CE_LANE_EVENT (laneOf a)) 1 (265 + 2 * laneOf a)
  else d

/-- LANE_OVERRUN: the evaluation of an axis for a tick has not started when its sample for the next tick is ready, so that both are due: the
late one is skipped (R172); the ACTIVE of a pair resigns (R467). -/
def execLaneOverrun (a : Fin 64) (s : State) : Out := s.onDev fun d =>
  if d.active a && 2 ≤ (d.ceAx a).due.length then
    let n := laneOf a
    let d := (d.ceAx a).due.head?.elim d fun e => d.sampleSigs a e.tick
    let d := d.modCe a fun c => { c with due := c.due.drop 1 }
    let d := (d.satInc (R.CE_LANE_OVR_COUNT n) F.CE_LANE_OVR_COUNT_COUNT).setFlag (R.CE_LANE_EVENT n) 0 (264 + 2 * n)
    (d.axisFault a 4).resign 2
  else d

/-! ### The hardware stop generator (R173–R175) -/

/-- One position-loop tick of a ramp of the generator (R174): DECEL_NORMAL in a class 2 stop of the watchdog, DECEL_QUICK otherwise and
once a more severe stop has come (R92). -/
def Dev.hsgStep (d : Dev) (a : Nat) : Dev :=
  if !(d.ceAx a).hsgRamp then d else
  let n := laneOf a
  let tp := d.tickCounts n * 2 ^ d.fg (R.CE_LANE_CFG n) F.CE_LANE_CFG_PDIV * 25   -- units of 0.1 ns
  let v := (d.ax a).vCmd
  let r := (d.ax a).stop.getD {}
  if rankClass r.rank = 0 then d else
  let decel := if r.rank = 5 && !r.quick then d.rdS (R.AXIS_DECEL_NORMAL a) else d.rdS (R.AXIS_DECEL_QUICK a)
  let dv := min (v.natAbs : Int) (decel * tp / 10 ^ 10)
  let v1 := v - signI v * dv
  d.modAx a fun x => { x with
    pCmd := x.pCmd + roundDiv ((v + v1) * 128 * tp) (10 ^ 10), vCmd := v1
    aCmd := -(signI v * dv * 10 ^ 10 / tp) }

/-- HSG_AXIS_AT_ZERO: an axis driven by the generator has reached zero velocity (R175). -/
def execHsgAxisAtZero (a : Fin 64) (s : State) : Out := s.onDev fun d =>
  match (d.ax a).stop with
  | some r =>
    if (d.ceAx a).hsgRamp ∧ (d.ax a).vCmd = 0 ∧ d.axState a = 4 ∧ rankClass r.rank ≠ 0 then
      ((d.modCe a fun x => { x with hsgRamp := false }).rampDone a (rankClass r.rank)).hsgUpdate
    else d
  | none => d

/-- SYS_STOP_DOORBELL: a write of KEY 0x3C5A makes a device-wide start (R173, R530). -/
def execSysStopDoorbell (w : Word) (s : State) : Out := s.onDev fun d =>
  if wbits w 15 0 = 0x3C5A then d.hsgAll 1 else d

end Sys2Proof.Machine
end

