-- ==== Sys2Proof/Machine/SafetyOps.lean ====
section
/-!
DEFINITION. The operations of the two safety channels (16): the safety set, faults, decisions and their application, cycle messages
and their exchange.
-/

namespace Sys2Proof.Machine

open Sys2Proof

/-! ### The safety set (R446, R447) -/

/-- Entry `p` of the pairs of a set, `f` of its functions, `x` of its safe outputs. -/
def setPair (s : List Word) (p : Nat) : Word := s.getD (4 + p) 0
def setFn (s : List Word) (f : Nat) : Word := s.getD (12 + f) 0
def setSo (s : List Word) (x : Nat) : Word := s.getD (20 + x) 0

/-- Pair `p` is used. -/
def pairUsed (s : List Word) (p : Nat) : Bool := wbit (setPair s p) 31

/-- The TP that input `i` names, 0xF none. -/
def inputTp (s : List Word) (i : Nat) : Nat :=
  if i % 2 = 0 then wbits (setPair s (i / 2)) 23 20 else wbits (setPair s (i / 2)) 19 16

/-- The bank mask of a function. -/
def fnBanks (s : List Word) (f : Nat) : Nat := wbits (setFn s f) 23 20

/-- An entry of a set fails R447; an entry whose used bit is 0 is not checked further (assumption log 21). -/
def setWordBad (s : List Word) (k : Nat) : Bool :=
  let w := s.getD k 0
  if k = 0 then w ≠ 0x53465836
  else if k = 1 then w ≠ 0x00010000
  else if k = 2 then wbits w 31 16 ≠ 0
  else if k = 3 then w ≠ 0
  else if k < 12 then
    wbit w 31 && (wbits w 29 24 ≠ 0 || wbits w 15 8 = 0 || 16 < wbits w 15 8 || wbits w 7 0 = 0
      || (3 < wbits w 23 20 && wbits w 23 20 ≠ 15) || (3 < wbits w 19 16 && wbits w 19 16 ≠ 15)
      || (wbits w 23 20 = wbits w 19 16 && wbits w 23 20 ≠ 15)
      || !(List.range 8).any fun f => wbit (setFn s f) 31 && wbits (setFn s f) 26 24 = k - 4)
  else if k < 20 then
    wbit w 31 && ((wbits w 30 28 ≠ 1 && wbits w 30 28 ≠ 2) || !pairUsed s (wbits w 26 24)
      || (if wbits w 30 28 = 1 then wbits w 15 0 ≠ 0 else wbits w 15 0 < 10 || 30000 < wbits w 15 0)
      || (wbit w 27 && pairUsed s (wbits w 19 16 / 2)))
  else if k < 22 then
    wbit w 31 && ((wbits w 30 28 ≠ 1 && wbits w 30 28 ≠ 2) || wbits w 27 24 = 0 || wbits w 23 22 ≠ 0 || wbits w 15 0 ≠ 0
      || (wbits w 30 28 = 1 && wbits w 21 16 ≠ 0))
  else if k < 31 then w ≠ 0
  else false

/-- The index of the first word of a set that fails R447. -/
def setFailWord (s : List Word) : Option Nat := (List.range 31).find? (setWordBad s)

/-- The CRC of a set matches (R446). -/
def setCrcOk (s : List Word) : Bool := s.length = 32 && crcWords (s.take 31) = s.getD 31 0

/-! ### Channels -/

/-- The bits of a mask below `n`. -/
def maskList (n m : Nat) : List Nat := (List.range n).filter fun i => m.testBit i

/-- The mask of the numbers below `n` that satisfy a test. -/
def maskOf (n : Nat) (f : Nat → Bool) : Nat := (List.range n).foldl (fun m i => m + (if f i then 2 ^ i else 0)) 0

/-- The bits of `a` that are not in `b`. -/
def andNot (a b : Nat) : Nat := a ^^^ (a &&& b)

/-- Channel A, or channel B. -/
def Dev.chan (d : Dev) (b : Bool) : SChan := if b then d.safety.b else d.safety.a

def Dev.modChan (d : Dev) (b : Bool) (f : SChan → SChan) : Dev :=
  if b then { d with safety := { d.safety with b := f d.safety.b } } else { d with safety := { d.safety with a := f d.safety.a } }

def Dev.modSafety (d : Dev) (f : SafetySt → SafetySt) : Dev := { d with safety := f d.safety }

/-- The levels of STOEN_A3–STOEN_A0 follow channel A's banks, its fault-free running and the governor's hold (R440, R527); they are low
until the boot has configured the PWM generator (R36). -/
def Dev.stoenA (d : Dev) : Dev :=
  let c := d.safety.a
  d.fs R.SAFETY_OUT F.SAFETY_OUT_STOEN_A (if c.on && !d.safety.thermal && d.pwmConfigured then 15 - c.sto % 16 else 0)

/-- The levels of STOEN_B3–STOEN_B0 (R433), low until the boot has configured the PWM generator (R36). -/
def Dev.stoenB (d : Dev) (v : Nat) : Dev := d.fs R.SAFETY_OUT F.SAFETY_OUT_STOEN_B (if d.pwmConfigured then v else 0)

/-- A safe output's switch in a channel may be on while a mask of banks is held (R442). -/
def soOn (s : Option (List Word)) (sto cmd x : Nat) : Bool :=
  match s with
  | none => false
  | some s =>
    let w := setSo s x
    wbit w 31 && sto &&& wbits w 27 24 = 0 && (wbits w 30 28 = 1 || cmd.testBit x)

/-- Channel A's command of SOx: the brake-release command of the axis of an SBC output (R442). -/
def Dev.soCmdA (d : Dev) : Nat :=
  maskOf 2 fun x => match d.safety.a.set with
    | none => false
    | some s => wbit (setSo s x) 31 && wbits (setSo s x) 30 28 = 2 &&
        d.fb (R.AXIS_STATUS (wbits (setSo s x) 21 16)) F.AXIS_STATUS_BRAKE_RELEASED

/-- The commands of the switches SO0A, SO0B, SO1A, SO1B as the motion die knows them. -/
def Dev.soRegs (d : Dev) : Dev :=
  let a := d.safety.a.so
  let b := d.safety.b.so
  d.fs R.SAFETY_OUT F.SAFETY_OUT_SO_CMD (a % 2 + 2 * (b % 2) + 4 * (a / 2 % 2) + 8 * (b / 2 % 2))

/-- The STO state of channel A becomes `m`: source 544, the time, a strobe, and the axes of each bank that changes (R440, R443, R453).
A bank newly held puts its bound axes into SAFE_OFF; a bank released lets them leave it. -/
def Dev.stoApply (d : Dev) (m : Nat) : Dev :=
  let old := d.fg R.SAFETY_STATUS F.SAFETY_STATUS_STO
  if old = m then d else
  let d := d.fs R.SAFETY_STATUS F.SAFETY_STATUS_STO m
  let d := (d.wr64 R.SAFETY_EVENT_TIME d.ns).raise 544
  let d := if d.fb R.SNAP_CFG F.SNAP_CFG_SAFETY then d.strobe 3 0 else d
  let d := d.each (maskList 4 (andNot m old)) fun d n => d.each (laneAxes n) Dev.safeOff
  d.each (maskList 4 (andNot old m)) fun d n => d.each (laneAxes n) Dev.safeRelease

/-- A channel holds STO on the banks `m`, with the safe-output switches `so` (R440, R442). -/
def Dev.chanApply (d : Dev) (b : Bool) (m so : Nat) : Dev :=
  let d := d.modChan b fun c => { c with sto := m, next := c.next ||| m, so := so }
  let d := d.soRegs
  if b then d else (d.stoApply m).stoenA

/-- The fault bits that channel A shows in SAFETY_FAULT (R444, R453); FIRST keeps the first since the last acknowledge. -/
def Dev.showFaults (d : Dev) : Dev :=
  let f := d.safety.a.faults
  let d := d.each (maskList 8 f) fun d k =>
    let d := if d.rd R.SAFETY_FAULT &&& 0xFF = 0 then d.fs R.SAFETY_FAULT F.SAFETY_FAULT_FIRST k else d
    d.setFlag R.SAFETY_FAULT k 545
  d.fsb R.SAFETY_STATUS F.SAFETY_STATUS_FAULT (f ≠ 0)

/-- A channel takes fault bit `k`, by itself or from the other's message: it holds STO on every bank and turns every switch off
(R444). -/
def Dev.chanFault (d : Dev) (b : Bool) (k : Nat) : Dev :=
  let d := d.modChan b fun c => { c with faults := c.faults ||| 2 ^ k, next := 15, soNext := 0, starts := 0 }
  let d := d.chanApply b 15 0
  if b then d else d.showFaults

/-! ### Messages (R430–R432) -/

/-- The own message of cycle `k` of a channel. -/
def SChan.msgOf (c : SChan) (k : Nat) : Option SMsg :=
  match c.cur with
  | some m => if m.cycle = k % 65536 then some m else
    (match c.prev with | some p => if p.cycle = k % 65536 then some p else none | none => none)
  | none => none

/-- A channel takes fragment `j` of a message (R431). -/
def SChan.take (c : SChan) (m : SMsg) (j : Nat) : SChan :=
  let got := if c.rx.cycle = m.cycle then c.got ||| 2 ^ j else 2 ^ j
  if got = 7 then { c with rx := m, got := got, peer := some m } else { c with rx := m, got := got }

/-- What channel A shows of channel B's latest complete message. -/
def Dev.showPeer (d : Dev) : Dev :=
  match d.safety.a.peer with
  | some m => d.fs R.SAFETY_IN F.SAFETY_IN_CH_B m.filt
  | none => d

/-- The faults of the other channel's latest complete message act on a channel as well (R444). -/
def Dev.peerFaults (d : Dev) (b : Bool) : Dev :=
  match (d.chan b).peer with
  | some m => d.each (maskList 8 (andNot m.faults (d.chan b).faults)) fun d k => d.chanFault b k
  | none => d

/-- A channel receives fragment `j` of the other's message in a good frame. -/
def Dev.chanTake (d : Dev) (b : Bool) (m : SMsg) (j : Nat) : Dev :=
  if !(d.chan b).on then d else
  let was := (d.chan b).peer
  let d := d.modChan b fun c => c.take m j
  if (d.chan b).peer = was then d
  else
    let d := d.peerFaults b
    if b then d else d.showPeer

/-- The own message of a channel after its decision. -/
def Dev.ownMsg (d : Dev) (b : Bool) : SMsg :=
  let c := d.chan b
  { cycle := d.safety.cyc % 65536, filt := c.lat, pd := c.pd, demf := c.demf, sto := c.next, so := if b then c.so else d.soCmdA
    tpf := c.tpf, disc := c.disc, pend := c.pend, faults := c.faults
    crc := match c.set with | some s => s.getD 31 0 | none => 0
    loaded := match d.safety.loaded with | some s => s.getD 31 0 &&& 0xFFFF | none => 0 }

/-! ### Pairs, functions, start-up (R436, R443, R449) -/

/-- Input `i` demands in a channel whose inputs are `v` (R436, R439). -/
def SChan.inDemands (c : SChan) (v i : Nat) : Bool :=
  match c.set with
  | none => false
  | some s => c.tpf.testBit i || (if i % 2 = 1 && wbit (setPair s (i / 2)) 30 then v.testBit i else !v.testBit i)

/-- A channel starts (R449): it holds STO on every bank with its switches off, and nothing received or counted is left. -/
def Dev.chanStart (d : Dev) (b : Bool) (set : Option (List Word)) : Dev :=
  let d := d.modChan b fun _ => { on := true, startup := true, set := set }
  let d := d.chanApply b 15 0
  if b then d else
  let d := (d.fsb R.SAFETY_STATUS F.SAFETY_STATUS_CH_A_RUN true).fsb R.SAFETY_STATUS F.SAFETY_STATUS_STARTUP true
  let d := d.fsb R.SAFETY_STATUS F.SAFETY_STATUS_SET_VALID set.isSome
  let d := d.wr R.SAFETY_SET_CRC (match set with | some s => s.getD 31 0 | none => 0)
  let d := d.wr R.SAFETY_SET_ID (match set with | some s => toW (wbits (s.getD 2 0) 15 0) | none => 0)
  d.wr R.SAFETY_CYCLE 0

/-- A channel is absent (R450): its switches are off; without channel A the STOEN_A pins are low. -/
def Dev.chanStop (d : Dev) (b : Bool) : Dev :=
  let d := (d.modChan b fun c => { faults := c.faults }).soRegs
  if b then d else (d.stoApply 15).stoenA |>.fsb R.SAFETY_STATUS F.SAFETY_STATUS_CH_A_RUN false

/-- The boot set as a starting channel finds it (R449): none where it is absent or fails; with the policy bit SAFETY its signature is
verified again (R505). -/
def Dev.bootSet (d : Dev) : Option (List Word) :=
  match d.safety.boot with
  | some s =>
    let signed := !(d.secured && d.fb R.SEC_LC F.SEC_LC_SAFETY) || (d.blockOk (s.flatMap wordBytes ++ d.safety.bootSig) false).isSome
    if setCrcOk s && (setFailWord s).isNone && signed then some s else none
  | none => none

/-- Channel A starts; channel B receives the set from it while it has none.  Channel B starts with the set that channel A has. -/
def Dev.safetyStart (d : Dev) (b : Bool) : Dev :=
  if b then d.chanStart true (if d.safety.a.on then d.safety.a.set else none)
  else
    let set := d.bootSet
    let d := (d.chanStart false set).modSafety fun s => { s with loaded := none, commit := false }
    if d.safety.b.on && d.safety.b.set.isNone then d.modChan true fun c => { c with set := set, startup := true } else d

end Sys2Proof.Machine
end

