-- ==== Sys2Proof/Machine/Field.lean ====
section
/-!
DEFINITION. The field dies and their isolation links (15): frames, staleness and fallback, supplies, inputs, outputs and their
diagnosis, and the safety exchange that die A's frames carry (R430, R431).
-/

namespace Sys2Proof.Machine

open Sys2Proof

def Dev.die (d : Dev) (k : Nat) : FieldDie := tabGet d.field.dies k
def Dev.modDie (d : Dev) (k : Nat) (f : FieldDie → FieldDie) : Dev :=
  { d with field := { d.field with dies := tabMod d.field.dies k f } }
def Dev.modField (d : Dev) (f : FieldSt → FieldSt) : Dev := { d with field := f d.field }

/-- The die of an output, of a group, of an input (R404). -/
def outDie (o : Nat) : Nat := if o < 16 then 0 else 1
def grpDie (g : Nat) : Nat := if g < 2 then 0 else 1
def inDie (i : Nat) : Nat := if i < 24 then 0 else 1

/-- The outputs of a die, its groups, its inputs. -/
def dieOuts (k : Nat) : List Nat := (List.range 48).filter fun o => outDie o = k
def dieIns (k : Nat) : List Nat := (List.range 64).filter fun i => inDie i = k
def grpOuts (g : Nat) : List Nat := (List.range 8).map (8 * g + ·)

/-- A configuration word as the die holds it (R422). -/
def Dev.dieCfg (d : Dev) (off : Nat) : Word := tabGetD resetWord d.field.cfg off
def Dev.dieFld (d : Dev) (off : Nat) (f : Fld) : Nat := fldGet (d.dieCfg off) f

/-! ### Outputs (R405, R413–R417) -/

/-- The command that an output follows: an odd output of a pair follows the even one (R416). -/
def Dev.outCmd (d : Dev) (o : Nat) : Bool :=
  let c := (d.die (outDie o)).cmd
  if o % 2 = 1 && d.dieFld (R.FIELD_OUT_CFG (o - 1)) F.FIELD_OUT_CFG_PAIR = 1 then c.testBit (o - 1) else c.testBit o

/-- A group supplies its outputs: enabled and above undervoltage. -/
def Dev.grpOn (d : Dev) (g : Nat) : Bool :=
  d.fb (R.FIELD_GROUP_STATUS g) F.FIELD_GROUP_STATUS_EN && !d.fb (R.FIELD_GROUP_STATUS g) F.FIELD_GROUP_STATUS_UV

/-- The switch of an output is on. -/
def Dev.outOn (d : Dev) (o : Nat) : Bool :=
  let k := d.die (outDie o)
  k.on && d.grpOn (o / 8) && d.outCmd o && !k.hot.contains o

/-- The CLASS of an output (R415). -/
def Dev.outClass (d : Dev) (o : Nat) : Nat :=
  let k := d.die (outDie o)
  if !d.grpOn (o / 8) || d.fb (R.FIELD_GROUP_STATUS (o / 8)) F.FIELD_GROUP_STATUS_OC then 7
  else if k.hot.contains o then 6
  else if k.ovl.contains o then 5
  else if d.outOn o then 1
  else match tabGet k.cond o with
    | 3 => 3
    | 4 => 4
    | 2 => 2
    | _ => 0

/-- FIELD_OUT_DIAG.CLASS of some outputs follows their conditions; an output that is off is no longer in overload, and one that is on
has no condition of an off output. -/
def Dev.reclass (d : Dev) (l : List Nat) : Dev :=
  d.each l fun d o =>
    let on := d.outOn o
    let d := d.modDie (outDie o) fun k =>
      { k with ovl := if on then k.ovl else k.ovl.filter (· ≠ o), cond := if on then tabSet k.cond o 0 else k.cond }
    d.fs (R.FIELD_OUT_DIAG o) F.FIELD_OUT_DIAG_CLASS (d.outClass o)

/-- Command bits of a die clear at once, in the motion die and in the die. -/
def Dev.dropCmds (d : Dev) (l : List Nat) : Dev :=
  d.each l fun d o => (d.setBit R.FIELD_OUT_CMD o false).modDie (outDie o) fun k =>
    { k with cmd := andNot k.cmd (2 ^ o), lastCmd := andNot k.lastCmd (2 ^ o) }

/-- GROUP_UNDERVOLTAGE: the supply of a group falls below 17.0 V (R405). -/
def execGroupUndervoltage (g : Fin 6) (s : State) : Out := s.onAll fun d =>
  let r := R.FIELD_GROUP_STATUS g
  ((d.fsb r F.FIELD_GROUP_STATUS_UV true).setFlag r F.FIELD_GROUP_STATUS_UV_HIT.lo (532 + g)).reclass (grpOuts g)

/-- GROUP_UV_RECOVER: it rises above 18.0 V, and the outputs take their command bits again (R405). -/
def execGroupUvRecover (g : Fin 6) (s : State) : Out := s.onAll fun d =>
  (d.fsb (R.FIELD_GROUP_STATUS g) F.FIELD_GROUP_STATUS_UV false).reclass (grpOuts g)

/-- GROUP_OVERCURRENT: the group is switched off, its command bits clear, and it is disabled with OC (R406). -/
def execGroupOvercurrent (g : Fin 6) (s : State) : Out := s.onAll fun d =>
  let r := R.FIELD_GROUP_STATUS g
  let d := (d.dropCmds (grpOuts g)).fsb r F.FIELD_GROUP_STATUS_EN false
  (d.setFlag r F.FIELD_GROUP_STATUS_OC.lo (538 + g)).reclass (grpOuts g)

/-- A group is enabled or disabled at its application point (R425). -/
def Dev.groupApply (d : Dev) (g : Nat) (en : Bool) : Dev :=
  let r := R.FIELD_GROUP_STATUS g
  if en then (d.fsb r F.FIELD_GROUP_STATUS_EN true).reclass (grpOuts g)
  else
    let d := (grpOuts g).foldl (fun d o => d.setBit R.FIELD_OUT_CMD o false) d
    let d := (((d.fsb r F.FIELD_GROUP_STATUS_EN false).fsb r F.FIELD_GROUP_STATUS_OC false)).levelFell d false (538 + g)
    d.reclass (grpOuts g)

/-- OUTPUT_OVERLOAD: the current limit of an output has acted for 2 ms (R413). -/
def execOutputOverload (o : Fin 48) (s : State) : Out := s.onAll fun d =>
  if !d.outOn o then d else
  let d := d.setFlag (R.FIELD_OUT_DIAG o) F.FIELD_OUT_DIAG_OVERLOAD.lo (480 + o)
  (d.modDie (outDie o) fun k => { k with ovl := if k.ovl.contains o.val then k.ovl else k.ovl ++ [o.val] }).reclass [o.val]

/-- OUTPUT_THERMAL_OFF: an output channel reaches 160 °C and switches off (R413). -/
def execOutputThermalOff (o : Fin 48) (s : State) : Out := s.onAll fun d =>
  if !(d.die (outDie o)).on then d else
  let d := d.setFlag (R.FIELD_OUT_DIAG o) F.FIELD_OUT_DIAG_THERMAL.lo (480 + o)
  (d.modDie (outDie o) fun k => { k with hot := if k.hot.contains o.val then k.hot else k.hot ++ [o.val] }).reclass [o.val]

/-- OUTPUT_THERMAL_RESTART: with RESTART at 0, a channel that has cooled below 145 °C switches on again (R413). -/
def execOutputThermalRestart (o : Fin 48) (s : State) : Out := s.onAll fun d =>
  if d.dieFld (R.FIELD_OUT_CFG o) F.FIELD_OUT_CFG_RESTART = 1 then d else
  (d.modDie (outDie o) fun k => { k with hot := k.hot.filter (· ≠ o.val) }).reclass [o.val]

/-- The other output of a declared pair (R416). -/
def Dev.outMate (d : Dev) (o : Nat) : Option Nat :=
  if d.dieFld (R.FIELD_OUT_CFG (o - o % 2)) F.FIELD_OUT_CFG_PAIR = 1 then some (if o % 2 = 0 then o + 1 else o - 1) else none

/-- OUTPUT_OFF_DIAGNOSIS: the voltage of an off output has stood for 1 ms, 0 below 2 V, 1 at 2–8 V, 2 above 12 V (R414–R417). -/
def execOutputOffDiagnosis (o : Fin 48) (v : Fin 3) (s : State) : Out := s.onAll fun d =>
  let k := d.die (outDie o)
  if !k.on || d.outOn o then d else
  let set (d : Dev) (o c : Nat) : Dev := (d.modDie (outDie o) fun k => { k with cond := tabSet k.cond o c }).reclass [o]
  let off := d.setFlag (R.FIELD_OUT_DIAG o) F.FIELD_OUT_DIAG_VOLT_OFF.lo (480 + o)
  match v.val with
  | 2 =>
    if d.muted && d.bit R.FIELD_OUT_CMD o then set d o 4
    else match d.outMate o with
      | some m => if d.outOn m then set d o 4
        else set (set (off.setFlag (R.FIELD_OUT_DIAG m) F.FIELD_OUT_DIAG_VOLT_OFF.lo (480 + m)) o 3) m 3
      | none => set off o 3
  | 1 =>
    if d.dieFld (R.FIELD_OUT_CFG o) F.FIELD_OUT_CFG_OL_EN = 1 then
      set (d.setFlag (R.FIELD_OUT_DIAG o) F.FIELD_OUT_DIAG_OPEN.lo (480 + o)) o 2
    else set d o 0
  | _ => set d o 0

/-! ### Inputs (R408–R411) -/

/-- FIELD_INPUT_CHANGE: the filtered level of an input changes in its die (R408). -/
def execFieldInputChange (i : Fin 64) (level : Bool) (s : State) : Out := s.onAll fun d =>
  if !(d.die (inDie i)).on || d.field.levels.testBit i == level then d else
  d.modField fun f => { f with levels := f.levels ^^^ 2 ^ i.val, chg := f.chg ||| 2 ^ i.val }

/-- The wire-break bits of a die's inputs reach the motion die (R409, R410): a changed bit fires the source when WB_EN is 1, and a
break makes the level read 0. -/
def Dev.wbSync (d : Dev) (k : Nat) : Dev :=
  if d.fb (R.FIELD_LINK_STATUS k) F.FIELD_LINK_STATUS_STALE then d else
  d.each (dieIns k) fun d i =>
    let b := d.field.wb.testBit i
    if d.bit R.FIELD_IN_WB i == b then d else
    let d := d.setBit R.FIELD_IN_WB i b
    let d := if b then d.setBit R.FIELD_IN i false else d
    if d.fb (R.FIELD_IN_CFG i) F.FIELD_IN_CFG_WB_EN then d.raise (416 + i) else d

/-- WIRE_BREAK: the current of an input has stayed below the threshold for 10 ms (R409). -/
def execWireBreak (i : Fin 64) (s : State) : Out := s.onAll fun d =>
  if !(d.die (inDie i)).on || d.dieFld (R.FIELD_IN_CFG i) F.FIELD_IN_CFG_WB_EN = 0 then d else
  (d.modField fun f => { f with wb := f.wb ||| 2 ^ i.val }).wbSync (inDie i)

/-- WIRE_BREAK_CLEAR: it has stayed above the threshold for 10 ms (R409). -/
def execWireBreakClear (i : Fin 64) (s : State) : Out := s.onAll fun d =>
  if !(d.die (inDie i)).on then d else
  (d.modField fun f => { f with wb := andNot f.wb (2 ^ i.val) }).wbSync (inDie i)

/-- One input in a good upstream frame (R410, R411): its level, and the edges that EDGE selects; `again` is the first good frame
after staleness, which gives one edge at most. -/
def Dev.inputFrame (again : Bool) (d : Dev) (i : Nat) : Dev :=
  let new := d.field.levels.testBit i && !d.field.wb.testBit i
  let old := d.bit R.FIELD_IN i
  let two := new == old && d.field.chg.testBit i && !again && !d.field.wb.testBit i
  let e := d.fg (R.FIELD_IN_CFG i) F.FIELD_IN_CFG_EDGE
  let hit := if two then e ≠ 0 else if new == old then false else if new then e % 2 = 1 else 2 ≤ e
  let d := d.setBit R.FIELD_IN i new
  if hit then d.raise (416 + i) else d

/-! ### Frames (R419–R423, R430–R433) -/

/-- The configuration word of an input or output goes to its die (R422). -/
def Dev.sendCfg (d : Dev) (k off : Nat) : Dev :=
  d.modDie k fun x => { x with cfgQ := x.cfgQ.filter (fun c => c.1 ≠ off) ++ [(off, d.rd off)] }

/-- The commands that a downstream frame carries: a device that does not drive the outputs of a pair sends none (R417, R464). -/
def Dev.downCmds (d : Dev) (k : Nat) : Nat :=
  if d.muted then 0 else (dieOuts k).foldl (fun m o => if d.bit R.FIELD_OUT_CMD o then m + 2 ^ o else m) 0

/-- The message that frame `i` carries (R431): in frame 0 the downstream frame starts before the latch, the upstream one after. -/
def Dev.frameMsg (d : Dev) (b : Bool) (i : Nat) : Option SMsg :=
  let k := d.safety.cyc
  let c := d.chan b
  if !c.on then none
  else if 6 ≤ i || (i = 0 && !b) then c.msgOf k
  else c.msgOf (k + 65535)

/-- A downstream frame goes out to its die, or as the Squall injector has it (R533): not at all, with a bit inverted, the previous one in its
place, or exchanged with the next, which takes the later SEQ (assumption log 31). -/
def Dev.downOut (d : Dev) (k : Nat) (f : DownFrame) : Dev :=
  match (d.die k).swapDown with
  | some g => d.modDie k fun x => { x with down := some g, lastDown := some g, swapDown := none }
  | none =>
    let (d, hit) := d.squall 3 1 [k] 0
    let d := d.modDie k fun x => { x with dnSeq := f.seq }
    match hit with
    | some (_, 0) => d.modDie k fun x => { x with down := none }
    | some (_, 1) => d.modDie k fun x => { x with down := some { f with bad := true }, lastDown := some f }
    | some (_, 2) => d.modDie k fun x => { x with down := x.lastDown }
    | some (_, 3) =>
      let g := { f with seq := (f.seq + 1) % 256 }
      d.modDie k fun x => { x with dnSeq := g.seq, down := some g, lastDown := some g, swapDown := some f }
    | _ => d.modDie k fun x => { x with down := some f, lastDown := some f }

/-- DOWNSTREAM_FRAME_SEND: every 10 µs the motion die starts a downstream frame to each die (R420). -/
def execDownstreamFrameSend (s : State) : Out := s.onDev fun d =>
  let i := d.safety.downIdx
  let msg := d.frameMsg false i
  let so := if d.safety.a.on then d.soCmdA else 0
  let d := d.each [0, 1] fun d k =>
    let x := d.die k
    let f : DownFrame :=
      { seq := (x.dnSeq + 1) % 256, cmds := d.downCmds k, cfg := x.cfgQ.head?
        ix := if k = 0 then i else 0, msg := if k = 0 then msg else none, so := if k = 0 then so else 0 }
    d.downOut k f
  d.modSafety fun s => { s with downIdx := (i + 1) % 25 }

/-- A die takes a configuration word from a good frame (R422); with WB_EN at 0 no break is reported. -/
def Dev.takeCfg (d : Dev) (k : Nat) (c : Option (Nat × Word)) : Dev :=
  match c with
  | none => d
  | some (off, w) =>
    let d := d.modField fun f => { f with cfg := tabSetD resetWord f.cfg off w }
    let d := d.modDie k fun x => { x with cfgQ := x.cfgQ.filter (· ≠ (off, w)) }
    match (List.range 64).find? fun i => R.FIELD_IN_CFG i = off with
    | some i => if fldGet w F.FIELD_IN_CFG_WB_EN = 0 then d.modField fun f => { f with wb := andNot f.wb (2 ^ i) } else d
    | none => d

/-- The commands of a die become `c` (R413, R416): with RESTART at 1 an output whose command bit is 0 may be switched on again. -/
def Dev.dieCmds (d : Dev) (k c : Nat) : Dev :=
  let d := d.modDie k fun x => { x with cmd := c }
  let d := d.modDie k fun x =>
    { x with hot := x.hot.filter fun o => d.outCmd o || d.dieFld (R.FIELD_OUT_CFG o) F.FIELD_OUT_CFG_RESTART = 0 }
  d.reclass (dieOuts k)

/-- FIELD_DIE_DOWNSTREAM_RECEIVE: a die takes the downstream frame on its link; `crcOk` and `safeOk` say whether its link CRC and its
safety CRC match (R421–R423, R430, R431). -/
def execFieldDieDownstreamReceive (k : Fin 2) (crcOk safeOk : Bool) (s : State) : Out := s.onAll fun d =>
  let x := d.die k
  match x.down with
  | none => d
  | some f =>
    let d := d.modDie k fun x => { x with down := none }
    if !x.on then d else
    let crcOk := crcOk && !f.bad
    let good := crcOk && f.seq = (x.rxSeq + 1) % 256
    let d := if crcOk then d.modDie k fun x => { x with rxSeq := f.seq } else d
    let d :=
      if good then
        let d := d.modDie k fun x => { x with bad := 0, good := x.good + 1, lastBad := false, lastCmd := f.cmds }
        let d := if x.fallback then d else d.dieCmds k f.cmds
        d.takeCfg k f.cfg
      else d.modDie k fun x => { x with bad := x.bad + 1, good := 0, lastBad := true }
    if k.val = 0 && crcOk && safeOk && d.safety.b.on then
      let d := d.modChan true fun c => { c with cmd := f.so }
      match f.msg with
      | some m => d.chanTake true m (f.ix % 3)
      | none => d
    else d

/-- An upstream frame is bad or missing (R421, R433). -/
def Dev.upstreamBad (d : Dev) (k : Nat) : Dev :=
  let d := (d.satInc (R.FIELD_LINK_COUNT k) F.FIELD_LINK_COUNT_UP).fsb (R.FIELD_LINK_STATUS k) F.FIELD_LINK_STATUS_BAD true
  d.modDie k fun x => { x with upBad := x.upBad + 1, upGood := 0 }

/-- The safety part of a die A upstream frame (R430, R431, R433). -/
def Dev.upstreamSafety (d : Dev) (good : Bool) : Dev :=
  let i := d.safety.upIdx
  let msg := d.frameMsg true i
  let d := d.modSafety fun s => { s with upIdx := i + 1, upBad := if good then 0 else min 3 (s.upBad + 1) }
  if !good then d else
  let d := d.stoenB (if d.safety.b.on then 15 - d.safety.b.sto % 16 else 0)
  match msg with
  | some m => d.chanTake false m (i % 3)
  | none => d

/-- An upstream frame of a running or stopped die does not arrive. -/
def Dev.upstreamMissing (d : Dev) (k : Nat) : Dev :=
  let d := if (d.die k).on then d.modDie k fun x => { x with upSeq := (x.upSeq + 1) % 256 } else d
  let d := d.modField fun f =>
    { f with chg := if (d.die k).on then andNot f.chg (maskOf 64 fun i => inDie i = k) else f.chg }
  let d := d.upstreamBad k
  if k = 0 then d.upstreamSafety false else d

/-- The motion die takes an upstream frame with a SEQ, after which the die's last SEQ is `last` (R410, R411, R421, R423). -/
def Dev.upstream (d : Dev) (k seq last : Nat) (crcOk safeOk : Bool) (act : UpSample) (cur : Option (Fin 6 × BitVec 12)) :
    Dev :=
  let x := d.die k
  let st := R.FIELD_LINK_STATUS k
  let good := crcOk && seq = (d.fg st F.FIELD_LINK_STATUS_RX_SEQ + 1) % 256
  let d := d.modDie k fun x => { x with upSeq := last % 256 }
  let d := if crcOk then d.fs st F.FIELD_LINK_STATUS_RX_SEQ seq else d
  let d :=
    if !good then d.upstreamBad k else
    let d := (d.fsb st F.FIELD_LINK_STATUS_SUPPLY true).fsb st F.FIELD_LINK_STATUS_FALLBACK x.fallback
    let d := if x.lastBad then
        (d.satInc (R.FIELD_LINK_COUNT k) F.FIELD_LINK_COUNT_DOWN).fsb st F.FIELD_LINK_STATUS_BAD true else d
    let d := d.modDie k fun x => { x with upBad := 0, upGood := x.upGood + 1, lastBad := false, resync := false }
    let d := d.each (dieOuts k) fun d o => d.setBit R.FIELD_OUT_ACT o (act.act.getLsbD o)
    let d := match cur with
      | some (g, w) => if grpDie g = k then d.fs (R.FIELD_GROUP_STATUS g) F.FIELD_GROUP_STATUS_CURRENT w.toNat else d
      | none => d
    let d := d.reclass (dieOuts k)
    if d.fb st F.FIELD_LINK_STATUS_STALE then d
    else ((d.wbSync k).each (dieIns k) (Dev.inputFrame x.resync))
  let d := d.modField fun f => { f with chg := andNot f.chg (maskOf 64 fun i => inDie i = k) }
  if k = 0 then (if good && safeOk then d.modField fun f => { f with sin := act.sin.toNat } else d).upstreamSafety (good && safeOk) else d

/-- UPSTREAM_FRAME_RECEIVE: the die sends an upstream frame, with the output states that it has measured, a group's current where the
diagnosis word carries one, and for die A the samples of SIN15–SIN0 (R430); the Squall injector may drop it, invert a bit, repeat the
previous one or exchange it with the next (R533). -/
def execUpstreamFrameReceive (k : Fin 2) (crcOk safeOk : Bool) (act : UpSample) (cur : Option (Fin 6 × BitVec 12)) (s : State) :
    Out := s.onDev fun d =>
  let x := d.die k
  let n := x.upSeq
  if !x.on then d
  else if x.upSwap then (d.modDie k fun x => { x with upSwap := false }).upstream k ((n + 255) % 256) n crcOk safeOk act cur
  else
    let (d, hit) := d.squall 3 0 [k.val] 0
    match hit with
    | some (_, 0) => d.upstreamMissing k
    | some (_, 1) => d.upstream k ((n + 1) % 256) (n + 1) false safeOk act cur
    | some (_, 2) => d.upstream k n (n + 1) crcOk safeOk act cur
    | some (_, 3) => (d.modDie k fun x => { x with upSwap := true }).upstream k ((n + 2) % 256) (n + 2) crcOk safeOk act cur
    | _ => d.upstream k ((n + 1) % 256) (n + 1) crcOk safeOk act cur

/-- LINK_FRAME_MISSING: a frame is not complete 8 µs after its expected start, upstream or downstream (R421). -/
def execLinkFrameMissing (k : Fin 2) (up : Bool) (s : State) : Out := s.onAll fun d =>
  if up then d.upstreamMissing k
  else if (d.die k).on then
    d.modDie k fun x => { x with bad := x.bad + 1, good := 0, lastBad := true, down := none }
  else d.modDie k fun x => { x with down := none }

/-- LINK_STALE: after three consecutive bad upstream frames the inputs of the die are stale and the command bits of its FB 0 outputs
clear (R423). -/
def execLinkStale (k : Fin 2) (s : State) : Out := s.onDev fun d =>
  let st := R.FIELD_LINK_STATUS k
  if (d.die k).upBad < 3 || d.fb st F.FIELD_LINK_STATUS_STALE then d else
  let d := (d.fsb st F.FIELD_LINK_STATUS_STALE true).setFlag st F.FIELD_LINK_STATUS_STALE_HIT.lo (528 + k)
  d.each ((dieOuts k).filter fun o => !d.fb (R.FIELD_OUT_CFG o) F.FIELD_OUT_CFG_FB) fun d o => d.setBit R.FIELD_OUT_CMD o false

/-- FIELD_DIE_FALLBACK: after three consecutive bad downstream frames the die holds FB 1 outputs and puts the others off (R423). -/
def execFieldDieFallback (k : Fin 2) (s : State) : Out := s.onAll fun d =>
  let x := d.die k
  if !x.on || x.bad < 3 || x.fallback then d else
  let keep := maskOf 48 fun o => x.cmd.testBit o && d.dieFld (R.FIELD_OUT_CFG o) F.FIELD_OUT_CFG_FB = 1
  (d.modDie k fun x => { x with fallback := true }).dieCmds k keep

/-- LINK_RECOVER: after two consecutive good frames the motion die clears staleness, or the die leaves fallback (R423). -/
def execLinkRecover (k : Fin 2) (dieSide : Bool) (s : State) : Out := s.onAll fun d =>
  let x := d.die k
  let st := R.FIELD_LINK_STATUS k
  if dieSide then
    if x.on && x.fallback && 2 ≤ x.good then (d.modDie k fun x => { x with fallback := false }).dieCmds k x.lastCmd else d
  else if d.fb st F.FIELD_LINK_STATUS_STALE && 2 ≤ x.upGood then
    (d.fsb st F.FIELD_LINK_STATUS_STALE false).modDie k fun x => { x with resync := true }
  else d

/-! ### Logic supply (R15, R405, R423) -/

/-- FIELD_LOGIC_SUPPLY_LOSS: LPLUS0 or LPLUS2 falls below 15.0 V, and the die stops; with die A channel B stops (R15). -/
def execFieldLogicSupplyLoss (k : Fin 2) (s : State) : Out := s.onAll fun d =>
  let st := R.FIELD_LINK_STATUS k
  if !(d.die k).on then d else
  let d := d.modDie k fun x => { x with on := false, down := none, cmd := 0, lastCmd := 0, hot := [], ovl := [], cond := [], fallback := false }
  let d := if d.fb st F.FIELD_LINK_STATUS_SUPPLY then
      (d.fsb st F.FIELD_LINK_STATUS_SUPPLY false).setFlag st F.FIELD_LINK_STATUS_SUPPLY_LOST.lo (530 + k) else d
  if k.val = 0 then d.chanStop true else d

/-- The configuration words of a die that differ from their reset values. -/
def Dev.dieWords (d : Dev) (k : Nat) : List (Nat × Word) :=
  (((dieIns k).map R.FIELD_IN_CFG ++ (dieOuts k).map R.FIELD_OUT_CFG).filter fun o => d.rd o ≠ resetWord o).map fun o => (o, d.rd o)

/-- FIELD_LOGIC_SUPPLY_RETURN: the die starts with every output off, its configuration is sent again, and with die A channel B starts
(R423, R449). -/
def execFieldLogicSupplyReturn (k : Fin 2) (s : State) : Out := s.onAll fun d =>
  if (d.die k).on then d else
  let w := d.dieWords k
  let d := d.modDie k fun x =>
    { x with on := true, upSeq := 0, rxSeq := 0, bad := 0, good := 0, lastBad := false, cfgQ := w }
  let d := d.modField fun f =>
    let ins := maskOf 64 fun i => inDie i = k.val
    { f with cfg := f.cfg.filter (fun c => !((dieIns k).any fun i => R.FIELD_IN_CFG i = c.1) && !((dieOuts k).any fun o => R.FIELD_OUT_CFG o = c.1))
             levels := andNot f.levels ins, chg := andNot f.chg ins, wb := andNot f.wb ins }
  if k.val = 0 then d.safetyStart true else d

/-! ### Commands (R424, R425) -/

/-- An output belongs to a bound axis as its brake output (R418). -/
def Dev.isBrakeOut (d : Dev) (o : Nat) : Bool :=
  (List.range 64).any fun a => d.bound a && d.fb (R.AXIS_REACT a) F.AXIS_REACT_BRAKE_EN && d.fg (R.AXIS_REACT a) F.AXIS_REACT_BRAKE_OUT = o

/-- The first group, in number order, that is disabled and that some value sets an output of. -/
def Dev.disabledGroup (d : Dev) (set : Nat) : Option Nat :=
  (List.range 6).find? fun g => !d.fb (R.FIELD_GROUP_STATUS g) F.FIELD_GROUP_STATUS_EN && (grpOuts g).any set.testBit

/-- OUTPUT_WRITE (R424): the masked command bits wait for the global application point. -/
def specOutputWrite : OpSpec where
  len _ := 4
  check d p :=
    let mask := pair64 (pw p 3) (pw p 4)
    let set := mask &&& pair64 (pw p 5) (pw p 6)
    let g := d.disabledGroup set
    failOf [
      (pb p 4 31 16 ≠ 0, 0x0201, 4),
      (pb p 6 31 16 ≠ 0, 0x0201, 6),
      ((maskList 48 mask).any d.isBrakeOut, 0x0303, 0),
      (g.isSome, 0x0301, g.getD 0)]
  run d p :=
    let (d, gid) := d.queueWrites [(R.FIELD_OUT_CMD, pw p 3, pw p 5), (R.FIELD_OUT_CMD + 4, pw p 4, pw p 6)] none
    .wait d [⟨.write, gid⟩] []

/-- OUTPUT_WRITE. -/
def execOutputWrite (p : Packet) (s : State) : Out := s.onDev fun d => d.runOp 0x0800 specOutputWrite p

/-- OUTPUT_GROUP_ENABLE (R424, R425): the groups' EN bits wait for the global application point. -/
def specOutputGroupEnable : OpSpec where
  len _ := 1
  check _ p :=
    if pb p 3 30 6 ≠ 0 || pb p 3 5 0 = 0 then some (0x0201, 3) else none
  run d p :=
    let en : Word := if wbit (pw p 3) 31 then 0x80000000 else 0
    let (d, gid) := d.queueWrites ((maskList 6 (pb p 3 5 0)).map fun g => (R.FIELD_GROUP_STATUS g, 0x80000000, en)) none
    .wait d [⟨.write, gid⟩] []

/-- OUTPUT_GROUP_ENABLE. -/
def execOutputGroupEnable (p : Packet) (s : State) : Out := s.onDev fun d => d.runOp 0x0801 specOutputGroupEnable p

end Sys2Proof.Machine
end

