-- ==== Sys2Proof/Machine/Pair.lean ====
section
/-!
DEFINITION. The hot-standby pair over the Tie link (17): frames, states, shadow tracking, failure detection, takeover and switchover.
-/

namespace Sys2Proof.Machine

open Sys2Proof

/-- The device follows its partner in shadow (R459). -/
def Dev.standby (d : Dev) : Bool := d.pairState = 4 || d.pairState = 5

/-! ### The Tie link (R456) -/

/-- A frame arrives: a good one is taken; a bad one, or one whose SEQ does not follow, is discarded and counted, and a frame that fails on
its SEQ only sets the new base (R456). -/
def Dev.tieRx (d : Dev) (h : TieHead) (f : Dev → Dev) : Dev :=
  let good := h.ok && h.seq % 256 = (d.pair.rxSeq + 1) % 256
  let d := if h.ok then d.modPair fun p => { p with rxSeq := h.seq % 256 } else d
  if good then f (d.modPair fun p => { p with goodRun := p.goodRun + 1, badRun := 0 })
  else (d.satInc R.PAIR_COUNTS F.PAIR_COUNTS_LINK_ERR).modPair fun p => { p with goodRun := 0, badRun := p.badRun + 1 }

/-- A frame of a KIND is received, or as the Squall injector has it (R533): not at all, with a bit inverted, twice, or after the next. -/
def Dev.tieTake (d : Dev) (kind : Nat) (h : TieHead) (f : Dev → Dev) : Dev :=
  let late (d : Dev) : Dev := match d.pair.lateRx with
    | some g => (d.modPair fun p => { p with lateRx := none }).tieRx g id
    | none => d
  let (d, hit) := d.squall 4 0 [0, kind] 0
  match hit with
  | some (_, 0) => d
  | some (_, 1) => late (d.tieRx { h with ok := false } f)
  | some (_, 2) => late ((d.tieRx h f).tieRx h id)
  | some (_, 3) => if d.pair.lateRx.isNone then d.modPair fun p => { p with lateRx := some h } else late (d.tieRx h f)
  | _ => late (d.tieRx h f)

/-! ### The configuration CRC (R463) -/

/-- The CP bits of a register that the configuration CRC takes in: not LISTEN, and nothing of PAIR_CFG, DEBUG_CFG and RTC_SET. -/
def cfgMask (off : Nat) (r : RegRow) (w : Nat) : Nat :=
  let m := if w = 0 then r.cp % 2 ^ 32 else r.cp / 2 ^ 32
  if off = R.PAIR_CFG || off = R.DEBUG_CFG || off = R.RTC_SET || off = R.RTC_SET + 4 then 0
  else if r.base = R.ENC_CFG 0 then andNot m (2 ^ F.ENC_CFG_LISTEN.lo) else m

/-- The CRC over every CP field that is not at its reset value, each with its offset; how the CRC lists the fields is assumption
log 23. -/
def Dev.cfgCrc (d : Dev) : Word :=
  crcWords (d.regs.flatMap fun x =>
    match findReg x.1 with
    | none => []
    | some (r, _, _, w) =>
      let m := toW (cfgMask x.1 r w)
      if x.2 &&& m = resetWord x.1 &&& m then [] else [toW x.1, x.2 &&& m])

/-! ### Taking over, going to standby (R458, R464, R469) -/

/-- The device drives the outputs of R464 again: LISTEN clears, Traverse sends, CAN channels run, and its own hook values reach the
cascade (R469). -/
def Dev.pairDrive (d : Dev) : Dev :=
  let d := ((d.setListen false).fsb R.PAIR_STATUS F.PAIR_STATUS_TRV_MUTED false).canResume
  let d := d.pair.hooks.foldl (fun d x => match x.2 with
    | some v => { d with ce := { d.ce with hooks := tabSet d.ce.hooks x.1 { value := v, fresh := true, stale := 0 } } }
    | none => d) d
  d.modPair fun p => { p with hooks := [] }

/-- The device becomes a STANDBY (R458, R463, R464). -/
def Dev.toStandby (d : Dev) : Dev :=
  ((d.setPairState 4).pairMute.setListen true).modPair fun p =>
    { p with bulk := false, div := [], stoDiff := 0, unposted := [], posted := [], alone := false }

/-- The device leaves SEEKING as ACTIVE_ALONE; LISTEN of its serial ports clears (R458, R463). -/
def Dev.seekAlone (d : Dev) : Dev := ((d.setPairState 2).setListen false).modPair fun p => { p with alone := true }

/-- Every axis is DISABLED (R458). -/
def Dev.allDisabled (d : Dev) : Dev := d.each (List.range 64) fun d a => if d.active a then d.cutAxis a else d

/-- The device, which posted nothing in shadow, posts the replies that the ACTIVE had not posted (R469). -/
def Dev.postShadow (d : Dev) : Dev :=
  let l := d.pair.unposted
  let d := d.modPair fun p => { p with unposted := [] }
  l.foldl (fun d x =>
    let r := { x.1 with esn := d.cmd.nextEsn }
    let d := d.journal r
    if x.2 then d.sendReply none false r else d) d

/-- A scheduled switchover fails, and the roles stay as they are (R471). -/
def Dev.switchFail (d : Dev) (code : Nat) : Dev :=
  if d.pair.switch then (d.modPair fun p => { p with switch := false }).resolve ⟨.switchover, 0⟩ code 0 [] else d

/-- Takeover (R469, R470): the STANDBY_READY device becomes ACTIVE_ALONE and drives the machine; on Traverse it
sends from 2 µs after the decision on. -/
def Dev.takeover (d : Dev) (cause : Nat) (gapFrom : Option Nat) : Dev :=
  let d := d.setPairState 2
  let d := ((d.wr R.PAIR_TAKEOVER 0).fs R.PAIR_TAKEOVER F.PAIR_TAKEOVER_CAUSE cause).wr64 R.PAIR_TAKEOVER_TIME d.ns
  let d := (d.fsb R.PAIR_EVENT F.PAIR_EVENT_TOOK_OVER true).raise 560
  let d := (d.modPair fun p => { p with gapFrom := gapFrom, trvFrom := d.ns + 2000 }).pairDrive
  let d := if d.session = some .spi then d.fsb R.CMDQ_SESSION F.CMDQ_SESSION_ATTACHED false else d
  d.postShadow

/-- The partner is lost (R468): a STANDBY_READY device takes over, a STANDBY_SYNC device works alone with every axis DISABLED and no
session, an ACTIVE works alone. -/
def Dev.partnerLost (d : Dev) (cause : Nat) : Dev :=
  let st := d.pairState
  let d := d.setFlag R.PAIR_EVENT F.PAIR_EVENT_PARTNER_LOST.lo 561
  let d := d.switchFail 0x0303
  if st = 5 then d.takeover cause (some d.pair.hbNs)
  else if st = 4 then
    (((d.setPairState 2).pairDrive.allDisabled).fsb R.CMDQ_SESSION F.CMDQ_SESSION_ATTACHED false).modPair fun p => { p with unposted := [] }
  else if st = 3 then d.setPairState 2
  else d

/-! ### STANDBY_READY (R463) -/

/-- The conditions of R463. -/
def Dev.readyNow (d : Dev) : Bool :=
  let s := R.PAIR_STATUS
  d.fb s F.PAIR_STATUS_LINK_UP && d.fb s F.PAIR_STATUS_HB_TIE && d.fb s F.PAIR_STATUS_HB_PIN && d.pair.bulk
    && d.fb s F.PAIR_STATUS_CFG_MATCH && d.fb s F.PAIR_STATUS_SAFE_MATCH && d.fb s F.PAIR_STATUS_TIME_OK
    && (List.range 4).all (fun n => !(laneAxes n).any d.active || d.fb (R.SYS_TICK_STATUS n) F.SYS_TICK_STATUS_LOCKED)
    && (List.range 64).all (fun a => tabGet d.pair.div a < 8) && d.pair.stoDiff < 8

/-- A STANDBY enters or leaves STANDBY_READY by the conditions of R463. -/
def Dev.pairReview (d : Dev) : Dev :=
  if d.pairState = 4 && d.readyNow then
    ((d.setPairState 5).fsb R.PAIR_EVENT F.PAIR_EVENT_READY true).raise 562
  else if d.pairState = 5 && !d.readyNow then (d.switchFail 0x0303).setPairState 4
  else d

/-! ### Heartbeats (R457, R458, R460, R467, R468) -/

/-- A cause for which the ACTIVE resigns is present: CE_LOCK or PWM_LOCK at 0 (R467). -/
def Dev.lockLost (d : Dev) : Bool :=
  !d.fb R.SYS_CLOCK_STATUS F.SYS_CLOCK_STATUS_CE_LOCK || !d.fb R.SYS_CLOCK_STATUS F.SYS_CLOCK_STATUS_PWM_LOCK

/-- The device sends heartbeats on both paths: it is paired and has not resigned. -/
def Dev.beats (d : Dev) : Bool := d.pairEn && 1 ≤ d.pairState && d.pairState ≤ 5

/-- HEARTBEAT_SEND: every 5 µs (R457, R467); a period without a good HEARTBEAT of the partner counts.  What the health mask holds is not
said, so that it is free (assumption log 24). -/
def execHeartbeatSend (s : State) : Out := s.onDev fun d =>
  if !d.beats then d
  else if d.pairActive && d.lockLost then d.resign 4
  else
    let d := if d.pair.heardNow then d else d.satInc R.PAIR_COUNTS F.PAIR_COUNTS_HB_MISSED
    let pay := [toW d.pairState, Config.freeWord d.fresh] ++ words64 d.ns ++ [d.cfgCrc, d.rd R.SAFETY_SET_CRC] ++ words64 (d.rd64 (R.SYS_TICK_COUNT 0))
    (d.nextFresh.modPair fun p => { p with heardNow := false }).tieFrame 1 pay

/-- PAIR_HBO_TOGGLE: every 2.5 µs (R467). -/
def execPairHboToggle (s : State) : Out := s.onDev fun d =>
  if !d.beats then d
  else if d.pairActive && d.lockLost then d.resign 4
  else d.modPair fun p => { p with hbo := !p.hbo }

/-- What a good HEARTBEAT does to the state of a device (R458); a SECONDARY that has left SEEKING in the heartbeat period in which the PRIMARY
left it becomes a STANDBY (assumption log 47). -/
def Dev.heartbeatState (d : Dev) (st : Nat) : Dev :=
  match d.pairState with
  | 1 =>
    if st = 2 ∨ st = 3 then d.toStandby
    else if st = 1 && !d.fb R.PAIR_STATUS F.PAIR_STATUS_ROLE then d.seekAlone
    else d
  | 2 =>
    if st = 5 then ((d.setPairState 3).fsb R.PAIR_EVENT F.PAIR_EVENT_READY true).raise 562
    else if d.pair.alone && (st = 2 || st = 3) && d.fb R.PAIR_STATUS F.PAIR_STATUS_ROLE then d.toStandby
    else d.modPair fun p => { p with alone := false }
  | 3 => if st = 5 then d else
    (d.switchFail 0x0303).setPairState 2
  | _ => d

/-- CFG_MATCH and SAFE_MATCH from a HEARTBEAT; MISMATCH is set when either is 0 (R463). -/
def Dev.heartbeatMatch (d : Dev) (b : Heartbeat) : Dev :=
  let c := d.cfgCrc = b.cfgCrc
  let f := d.rd R.SAFETY_SET_CRC = b.safeCrc
  let d := (d.fsb R.PAIR_STATUS F.PAIR_STATUS_CFG_MATCH c).fsb R.PAIR_STATUS F.PAIR_STATUS_SAFE_MATCH f
  if c && f then d else d.setFlag R.PAIR_EVENT F.PAIR_EVENT_MISMATCH.lo 564

/-- A STANDBY disciplines its device time to the ACTIVE's (R460): the error is shown, and added back over the next heartbeat period. -/
def Dev.heartbeatTime (d : Dev) (b : Heartbeat) : Dev :=
  if !d.standby then d.fs R.PAIR_TIME F.PAIR_TIME_RTT (min b.rtt 65535) else
  let e : Int := (d.ns : Int) - ((b.time + b.rtt / 2 : Nat) : Int)
  let d := (d.fs R.PAIR_TIME F.PAIR_TIME_ERR (ofS 16 (clampI (-32768) 32767 e))).fs R.PAIR_TIME F.PAIR_TIME_RTT (min b.rtt 65535)
  let d := d.fsb R.PAIR_STATUS F.PAIR_STATUS_TIME_OK (-10 ≤ e && e ≤ 10)
  { d with trv := { d.trv with oLeft := -e * 2 ^ 32, oClocks := 2000 } }

/-- HEARTBEAT_RECEIVE (R458, R460, R463). -/
def execHeartbeatReceive (h : TieHead) (b : Heartbeat) (s : State) : Out := s.onDev fun d =>
  if !d.beats then d else
  d.tieTake 1 h fun d =>
    let d := d.modPair fun p => { p with heard := true, heardNow := true, health := b.health, hbNs := d.ns }
    let d := (d.fsb R.PAIR_STATUS F.PAIR_STATUS_HB_TIE true).fs R.PAIR_STATUS F.PAIR_STATUS_PARTNER b.state
    let d := ((d.heartbeatMatch b).heartbeatTime b).heartbeatState b.state
    d.pairReview

/-- PAIR_HBI_EDGE: an edge at PAIR_HBI (R468). -/
def execPairHbiEdge (s : State) : Out := s.onDev fun d =>
  if !d.beats then d else
  ((d.fsb R.PAIR_STATUS F.PAIR_STATUS_HB_PIN true).modPair fun p => { p with hbNs := d.ns }).pairReview

/-- HEARTBEAT_PATH_LOST: one path alone has been silent for HB_MISS × 5 µs + 1 µs (R468). -/
def execHeartbeatPathLost (pin : Bool) (s : State) : Out := s.onDev fun d =>
  (d.fsb R.PAIR_STATUS (if pin then F.PAIR_STATUS_HB_PIN else F.PAIR_STATUS_HB_TIE) false).pairReview

/-- PARTNER_LOST: both paths have been silent at the same instant (R468). -/
def execPartnerLost (s : State) : Out := s.onDev fun d =>
  if !d.beats || d.pairState = 1 || !d.pair.heard then d else
  let d := (d.fsb R.PAIR_STATUS F.PAIR_STATUS_HB_TIE false).fsb R.PAIR_STATUS F.PAIR_STATUS_HB_PIN false
  (d.partnerLost 1).modPair fun p => { p with heard := false }

/-- PAIR_BOOT_WAIT_EXPIRY: no partner heartbeat has come in SEEKING (R458). -/
def execPairBootWaitExpiry (s : State) : Out := s.onDev fun d =>
  if d.pairEn && d.pairState = 1 && !d.pair.heard then d.seekAlone else d

/-- PAIR_WATCHDOG_EXPIRY: the supervisor has not served the pair watchdog for 2 ms (R467). -/
def execPairWatchdogExpiry (s : State) : Out := s.onDev fun d => d.resign 3

/-- RESIGN_RECEIVE (R468, R473). -/
def execResignReceive (h : TieHead) (cause : Fin 8) (s : State) : Out := s.onDev fun d =>
  if !d.beats then d else
  d.tieTake 8 h fun d =>
    if cause.val = 5 then
      if d.standby then d.setPairState 6 else d
    else if d.pairState = 1 then d
    else (d.modPair fun p => { p with hbNs := d.ns }).partnerLost 2

/-! ### Mirror frames (R459, R461, R462) -/

/-- A BFP24 word as the value it holds (R461). -/
def wordBfp (w : Word) : Bfp := { m := toS 24 (wbits w 31 8), e := toS 8 (wbits w 7 0) }

/-- The stop of an axis and its generator follow the mirrored state (R461): an axis that the ACTIVE stops has a stop of the mirrored class
here as well, and the generator drives it while its HSG shows and it moves. -/
def Dev.mirrorStop (d : Dev) (a : Nat) (m : AxisMirror) : Dev :=
  let d := d.modCe a fun c => { c with hsgRamp := m.hsg && m.state = 4 && (m.vCmd ≠ 0 || c.hsgRamp) }
  if m.state = 4 && (d.ax a).stop.isNone then
    d.modAx a fun x => { x with stop := some { rank := [2, 4, 5].getD m.stopClass 5, final := if m.stopClass = 2 then 2 else 0 } }
  else d

/-- The standby's values of an axis are replaced by the mirrored ones (R459, R461). -/
def Dev.mirrorAxis (d : Dev) (a : Nat) (m : AxisMirror) : Dev :=
  let b (k : Nat) : Bfp := wordBfp (m.bfp.getD k 0)
  let notch (k : Nat) : Notch := { x1 := b k, x2 := b (k + 1), y1 := b (k + 2), y2 := b (k + 3) }
  let d := d.modAx a fun x => { x with pCmd := m.pCmd, vCmd := m.vCmd, aCmd := m.aCmd }
  let d := d.modCe a fun c => { c with s := if m.negative then -1 else 1, vRef := b 0, uv := b 1, iv := b 2, iF := b 3, jd := b 4, jq := b 5
                                       n0 := notch 6, n1 := notch 10 }
  let d := d.each (List.range 5) fun d h =>
    { d with ce := { d.ce with hooks := tabMod d.ce.hooks (5 * a + h) fun x => { x with value := m.hooks.getD h 0 } } }
  let st := R.AXIS_STATUS a
  let d := ((d.fs st F.AXIS_STATUS_STATE m.state).fs st F.AXIS_STATUS_LAST_STATE m.lastState).fs st F.AXIS_STATUS_STOP_CLASS m.stopClass
  let d := d.brake a m.brake
  let c := R.CE_AX_STATUS a
  let d := ((d.fs c F.CE_AX_STATUS_WINNER m.winner).fsb c F.CE_AX_STATUS_FLOORED m.floored).fsb c F.CE_AX_STATUS_HSG m.hsg
  (d.mirrorStop a m).laneUpdate (laneOf a)

/-- AXIS_MIRROR_RECEIVE: the record of tick k, in time before the evaluation of tick k + 1 starts, is compared and replaces the own
values; a later one is dropped (R459, R463). -/
def execAxisMirrorReceive (h : TieHead) (a : Fin 64) (m : AxisMirror) (s : State) : Out := s.onDev fun d =>
  if !d.standby then d else
  d.tieTake 2 h fun d =>
    let n := d.rd64 (R.SYS_TICK_COUNT (laneOf a))
    if m.tick = n || (m.tick + 1 = n && (d.ceAx a).due.any fun e => e.tick = n) then
      let lim : Int := (d.fg R.PAIR_CFG F.PAIR_CFG_DIV_LIM : Int) * 2 ^ 24
      let e := (d.ax a).pCmd - m.pCmd
      let off := lim < e || e < -lim || d.axState a ≠ m.state.val
      let d := if off then d.satInc R.PAIR_COUNTS F.PAIR_COUNTS_DIVERGE else d
      let d := d.modPair fun p => { p with div := tabSet p.div a (if off then min 8 (tabGet p.div a + 1) else 0) }
      d.mirrorAxis a m
    else d.satInc R.PAIR_COUNTS F.PAIR_COUNTS_MIRROR_LATE

/-- PAIR_DIVERGENCE: an axis has diverged on 8 consecutive ticks (R463). -/
def execPairDivergence (a : Fin 64) (s : State) : Out := s.onDev fun d =>
  if d.standby && 8 ≤ tabGet d.pair.div a then (d.setFlag R.PAIR_EVENT F.PAIR_EVENT_DIVERGE.lo 565).pairReview else d

/-- LANE_MIRROR_RECEIVE: the frame waits for the lane's next position-loop tick (R459). -/
def execLaneMirrorReceive (h : TieHead) (n : Fin 4) (m : LaneMirror) (s : State) : Out := s.onDev fun d =>
  if !d.standby then d else
  d.tieTake 3 h fun d => d.modPair fun p => { p with laneMir := tabSet p.laneMir n (some m) }

/-- COMMAND_MIRROR_RECEIVE: the STANDBY takes the packet as accepted and executes it in shadow (R462). -/
def execCommandMirrorReceive (h : TieHead) (p : Packet) (s : State) : Out := s.onDev fun d =>
  if !d.standby then d else
  d.tieTake 4 h fun d =>
    let ch := match (d.cmd.accepted.filter fun a => a.pkt.q = p.q).getLast? with | some a => a.pkt.chain | none => false
    let d := (d.wr (R.CMDQ_ACCEPTED p.q) p.csn).fs (R.CMDQ_FETCH p.q) F.CMDQ_FETCH_FILL (d.fg (R.CMDQ_FETCH p.q) F.CMDQ_FETCH_FILL + 1)
    let d := d.fs R.CMDQ_SESSION F.CMDQ_SESSION_EPOCH p.epoch.toNat
    let d := d.wrapInc (R.CMDQ_FETCH p.q) F.CMDQ_FETCH_FETCH
    { d with cmd := { d.cmd with
        accepted := d.cmd.accepted ++ [{ pkt := p, inChain := p.chain || ch, closed := true }]
        cache := tabMod d.cmd.cache p.q fun l => ({ csn := p.csn, crc := p.crc } :: l).take 64 } }

/-- The record of a POST frame (R462, R469): the reply that the STANDBY has computed itself enters its journal; one that it has not computed
yet is kept in mind, so that it is not posted again. -/
def Dev.postMirror (d : Dev) (m : PostMirror) : Dev :=
  let d := match d.pair.unposted.find? fun x => m.kind.val ≠ 1 && x.1.csn = m.csn && x.1.kind = m.kind.val with
    | some x =>
      let d := d.modPair fun p => { p with unposted := p.unposted.erase x }
      { d with cmd := { d.cmd with nextEsn := m.esn } }.journal { x.1 with esn := m.esn }
    | none =>
      let d := if m.kind.val ≠ 1 && d.cmd.accepted.any (fun a => a.pkt.csn = m.csn) then
          d.modPair fun p => { p with posted := p.posted ++ [(m.csn, m.esn, m.kind.val)] }
        else d
      { d with cmd := { d.cmd with nextEsn := m.esn } }.journal { csn := m.csn, esn := m.esn, kind := m.kind.val }
  { d with cmd := { d.cmd with replyProd := m.replyProd % 65536, eventProd := m.eventProd % 65536 } }

/-- POST_MIRROR_RECEIVE: the STANDBY records the ESN, the CSN and the ring producer indices (R462). -/
def execPostMirrorReceive (h : TieHead) (m : PostMirror) (s : State) : Out := s.onDev fun d =>
  if !d.standby then d else d.tieTake 5 h fun d => d.postMirror m

/-- SAFETY_FRAME_RECEIVE: the partner's STO banks are compared with the own (R466). -/
def execSafetyFrameReceive (h : TieHead) (sto : BitVec 4) (s : State) : Out := s.onDev fun d =>
  if !d.beats then d else
  d.tieTake 6 h fun d =>
    let n := if sto.toNat = d.fg R.SAFETY_STATUS F.SAFETY_STATUS_STO then 0 else min 8 (d.pair.stoDiff + 1)
    (d.modPair fun p => { p with stoDiff := n }).pairReview

/-- SAFETY_DIFF: the banks have differed for 8 consecutive safety cycles (R466). -/
def execSafetyDiff (s : State) : Out := s.onDev fun d =>
  if d.beats && 8 ≤ d.pair.stoDiff then (d.setFlag R.PAIR_EVENT F.PAIR_EVENT_SAFETY_DIFF.lo 567).pairReview else d

/-- STROBE_RECEIVE: a strobe of the partner (R330). -/
def execStrobeReceive (h : TieHead) (s : State) : Out := s.onDev fun d =>
  d.tieTake 7 h fun d => if d.fb R.SNAP_CFG F.SNAP_CFG_TIE_IN then d.strobe 5 0 else d

/-- A word of the ACTIVE's state (R463, assumption log 24): that of a register that holds no CP field; of TRV_STATUS the node ID alone, since
the Traverse controller synchronises for itself (R460). -/
def Dev.bulkTake (d : Dev) (x : Nat × Word) : Dev :=
  if x.1 = R.TRV_STATUS then d.fs R.TRV_STATUS F.TRV_STATUS_NODE (fldGet x.2 F.TRV_STATUS_NODE) else
  match findReg x.1 with
  | some (r, _, _, _) => if r.cp = 0 && !(R.PAIR_CFG ≤ x.1 && x.1 ≤ R.PAIR_TIME) then d.wr x.1 x.2 else d
  | none => d

/-- BULK_RECEIVE: a segment of the ACTIVE's state (R463). -/
def execBulkReceive (h : TieHead) (ws : List (Nat × Word)) (s : State) : Out := s.onDev fun d =>
  if d.pairState ≠ 4 then d else d.tieTake 9 h fun d => ws.foldl Dev.bulkTake d

/-- BULK_COPY_COMPLETE (R463). -/
def execBulkCopyComplete (s : State) : Out := s.onDev fun d =>
  if d.pairState = 4 && d.fb R.PAIR_STATUS F.PAIR_STATUS_LINK_UP then (d.modPair fun p => { p with bulk := true }).pairReview else d

/-! ### Link state (R456) -/

/-- TIE_LINK_UP: 8 consecutive good frames (R456). -/
def execTieLinkUp (s : State) : Out := s.onDev fun d =>
  if 8 ≤ d.pair.goodRun && d.pairState ≠ 0 then (d.fsb R.PAIR_STATUS F.PAIR_STATUS_LINK_UP true).pairReview else d

/-- The link goes down (R456): a scheduled switchover fails (R471), and the state copy has to be made again. -/
def Dev.tieDown (d : Dev) : Dev :=
  let d := (d.fsb R.PAIR_STATUS F.PAIR_STATUS_LINK_UP false).setFlag R.PAIR_EVENT F.PAIR_EVENT_LINK_DOWN.lo 563
  let d := d.switchFail 0x0902
  (d.modPair fun p => { p with goodRun := 0, bulk := false }).pairReview

/-- TIE_LINK_DOWN: 4 consecutive discarded frames, or 1 µs without a valid character (R456). -/
def execTieLinkDown (silent : Bool) (s : State) : Out := s.onDev fun d =>
  if !d.fb R.PAIR_STATUS F.PAIR_STATUS_LINK_UP || !(silent || 4 ≤ d.pair.badRun) then d else d.tieDown

/-! ### Switchover, pairing (R458, R471, R473) -/

/-- SWITCHOVER_TICK: the tick of CE0, 1 ms or more after acceptance, at which the roles change (R471): the ACTIVE becomes a standby; the
STANDBY_READY device takes over and posts the reply. -/
def execSwitchoverTick (s : State) : Out := s.onDev fun d =>
  if !d.pair.switch || (d.pairState = 3 && d.ns < d.pair.switchAt + 1000000) then d else
  let d := d.modPair fun p => { p with switch := false }
  let pay := words64 (d.rd64 (R.SYS_TICK_COUNT 0))
  if d.pairState = 3 then
    let d := d.wr64 R.PAIR_TAKEOVER_TIME d.ns
    d.toStandby.resolve ⟨.switchover, 0⟩ 0 0 pay
  else if d.pairState = 5 then (d.takeover 3 none).resolve ⟨.switchover, 0⟩ 0 0 pay
  else d

/-- PAIR_EN_SET: an applied EN of 1 starts pairing (R458). -/
def execPairEnSet (s : State) : Out := s.onDev fun d =>
  if d.pairEn && d.pairState = 0 then
    (((d.setPairState 1).fs R.PAIR_STATUS F.PAIR_STATUS_PARTNER 7).modPair fun p => { p with heard := false, bulk := false }).allDisabled
  else d

/-- PAIR_EN_CLEAR: an applied EN of 0 ends pairing; from ACTIVE_PAIRED the device sends RESIGN with cause RELEASE (R473). -/
def execPairEnClear (s : State) : Out := s.onDev fun d =>
  if !d.pairEn && (d.pairState = 2 || d.pairState = 3) then
    let d := if d.pairState = 3 then d.sendTie 8 [5] else d
    (d.setPairState 0).modPair fun p => { p with heard := false, switch := false }
  else d

/-! ### Commands (R473) -/

/-- PAIR_STATUS. -/
def specPairStatus : OpSpec where
  len _ := 0
  check _ _ := none
  run d _ := .done d 0 0 ([d.rd R.PAIR_STATUS, (d.pair.health &&& 0x1FFFFFFF) ||| toW (d.fg R.PAIR_STATUS F.PAIR_STATUS_PARTNER * 2 ^ 29)]
    ++ words64 (d.rd64 R.PAIR_TAKEOVER_TIME) ++ [d.rd R.PAIR_TAKEOVER])

/-- PAIR_STATUS (R473). -/
def execPairStatus (p : Packet) (s : State) : Out := s.onDev fun d => d.runOp 0x0D00 specPairStatus p

/-- PAIR_SWITCHOVER. -/
def specPairSwitchover : OpSpec where
  len _ := 0
  check d _ := failOf [
    (!d.pairEn, 0x0205, 0),
    (!d.shadow && !d.fb R.PAIR_STATUS F.PAIR_STATUS_LINK_UP, 0x0902, 0),
    (!d.shadow && (d.pairState ≠ 3 || d.fg R.PAIR_STATUS F.PAIR_STATUS_PARTNER ≠ 5), 0x0303, 0),
    (!d.shadow && !(d.fb R.PAIR_STATUS F.PAIR_STATUS_CFG_MATCH && d.fb R.PAIR_STATUS F.PAIR_STATUS_SAFE_MATCH), 0x0903, 0)]
  run d _ := .wait (d.modPair fun p => { p with switch := true, switchAt := d.ns }) [⟨.switchover, 0⟩] []

/-- PAIR_SWITCHOVER (R471, R473). -/
def execPairSwitchover (p : Packet) (s : State) : Out := s.onDev fun d => d.runOp 0x0D01 specPairSwitchover p

end Sys2Proof.Machine
end

