-- ==== Sys2Proof/Machine/StoreOps.lean ====
section
/-!
DEFINITION. The Logbook store's operations (18): the mounted part, partitions and objects, wear budget, bad blocks, the journal, and the
checks that store writes share.
-/

namespace Sys2Proof.Machine

open Sys2Proof

def Dev.modStore (d : Dev) (f : StoreSt → StoreSt) : Dev := { d with store := f d.store }
def Dev.modBg (d : Dev) (f : BgSt → BgSt) : Dev := { d with bg := f d.bg }
def Dev.modBoot (d : Dev) (f : BootSt → BootSt) : Dev := { d with boot := f d.boot }

/-! ### The mounted part (R477, R478) -/

/-- The part is mounted. -/
def Dev.mounted (d : Dev) : Bool := d.fb R.STORE_STATUS F.STORE_STATUS_MOUNTED

/-- The bytes of a block. -/
def blockBytes (p : NandPart) : Nat := 2 ^ (p.pageLog + p.ppbLog)

/-- The usable capacity U with `bad` bad blocks (R478). -/
def nandUsable (p : NandPart) (bad : Nat) : Nat := (p.blocks - bad) * blockBytes p * 93 / 100

/-- The page size and spare area fit (R477). -/
def nandGeometryOk (p : NandPart) : Bool :=
  p.crcOk && 11 ≤ p.pageLog && p.pageLog ≤ 14 && 72 * 2 ^ (p.pageLog - 10) + 2 ≤ p.spare

/-- The sizes of the partitions 1–10 in 64 KiB units (R478). -/
def fixedSize (p : Nat) : Nat := [0, 256, 256, 64, 64, 64, 16, 128, 128, 64, 128].getD p 0

/-- What the partitions 1–10 take of U with their copies, in 64 KiB units. -/
def fixedTotal : Nat := (List.range 11).foldl (fun n p => n + fixedSize p * (if p = 6 ∨ p = 9 then 2 else 1)) 0

/-- The space of an object in 64 KiB units (assumption log 26). -/
def spaceOf (bytes : Nat) : Nat := (bytes + 65535) / 65536

/-- The object of a partition under a number; the boot safety set is object 0 of partition 6. -/
def Dev.object (d : Dev) (part num : Nat) : Option StoreObj :=
  if part = 6 then
    if num = 0 then d.safety.boot.map fun s => { part := 6, num := 0, seq := 0, bytes := s.flatMap wordBytes } else none
  else d.store.objs.find? fun o => o.part = part && o.num = num

/-- The space in use in a partition. -/
def Dev.usedOf (d : Dev) (part : Nat) : Nat :=
  if part = 6 then (if d.safety.boot.isSome then 1 else 0)
  else (d.store.objs.filter fun o => o.part = part).foldl (fun n o => n + spaceOf o.bytes.length) 0

/-- A write of `n` bytes to an object fits into its partition beside the other objects (R479). -/
def Dev.fits (d : Dev) (part num n : Nat) : Bool :=
  let old := match d.object part num with | some o => spaceOf o.bytes.length | none => 0
  d.usedOf part - old + spaceOf n ≤ d.fg (R.STORE_PART part) F.STORE_PART_SIZE

/-- STORE_PART.USED follows the objects. -/
def Dev.partRegs (d : Dev) (part : Nat) : Dev := d.fs (R.STORE_PART part) F.STORE_PART_USED (d.usedOf part)

/-! ### Wear governor (R485, R486) -/

/-- The rated cycles N (R485). -/
def Dev.ratedCycles (d : Dev) : Nat :=
  let n := d.fg R.STORE_PE F.STORE_PE_RATING
  if n ≠ 0 then n else match d.store.part with | some p => p.endurance | none => 0

/-- What the budget gains each second: R in units of 1/6,311,520,000 byte (R485). -/
def Dev.wearGain (d : Dev) : Nat :=
  match d.store.part with
  | some p => (p.blocks - d.store.bad.length) * blockBytes p * d.ratedCycles * 9
  | none => 0

/-- The depth of the budget. -/
def Dev.wearDepth (d : Dev) : Nat := d.wearGain * 86400 * d.fg R.STORE_CFG F.STORE_CFG_BURST_DAYS

/-- R in whole bytes per second, to the nearest: DEDUCED from the example of R487, whose R is 45,484.9 and reads 45,485. -/
def Dev.wearRate (d : Dev) : Nat := (d.wearGain + 3155760000) / 6311520000

/-- STORE_BUDGET, STORE_WEAR and RATING_LOW follow the budget, the erase counts and N (R485, R487). -/
def Dev.wearRegs (d : Dev) : Dev :=
  if !d.mounted then d else
  let depth := d.wearDepth
  let b := d.store.budget
  let d := d.fs R.STORE_BUDGET F.STORE_BUDGET_RATE d.wearRate
  let d := d.fsb R.STORE_BUDGET F.STORE_BUDGET_DEBT (decide (b < 0))
  let d := d.fs R.STORE_BUDGET F.STORE_BUDGET_LEVEL (if b < 0 ∨ depth = 0 then 0 else min 100 (b.toNat * 100 / depth))
  let d := d.fsb R.STORE_STATUS F.STORE_STATUS_RATING_LOW (decide (d.ratedCycles < 10000))
  match d.store.part with
  | none => d
  | some p =>
    let good := d.store.erases.filter fun e => !d.store.bad.contains e.1
    let hi := good.foldl (fun m e => max m e.2) 0
    let lo := if good.length < p.blocks - d.store.bad.length then 0 else good.foldl (fun m e => min m e.2) hi
    (d.fs R.STORE_WEAR F.STORE_WEAR_MAX hi).fs R.STORE_WEAR F.STORE_WEAR_MIN lo

/-- The good block with the lowest erase count, the first of several (R483). -/
def Dev.leastBlock (d : Dev) (p : NandPart) : Option Nat :=
  ((List.range p.blocks).filter fun b => !d.store.bad.contains b).foldl (fun (m : Option Nat) b =>
    match m with
    | some k => if tabGet d.store.erases b < tabGet d.store.erases k then some b else m
    | none => some b) none

/-- The governor accepts a write of a class (R486). -/
def Dev.wearAdmits (d : Dev) (cls : Nat) : Bool :=
  let b := d.store.budget
  let depth : Int := (d.wearDepth : Nat)
  match cls with
  | 0 => true
  | 1 => 0 ≤ b
  | 2 => depth ≤ 4 * b
  | _ => depth ≤ 2 * b

/-- Physical bytes are drawn from the budget, which does not fall below −depth (R486). -/
def Dev.wearDraw (d : Dev) (bytes : Nat) : Dev :=
  let depth : Int := (d.wearDepth : Nat)
  (d.modStore fun s => { s with budget := max (-depth) (s.budget - (bytes * 6311520000 : Nat)) }).wearRegs

/-- Wear levelling (R483): when the erase counts of the good blocks spread over more than 2 % of the rated cycles, the data of the
least-erased one move, a write of class 0, and the block is free after its erase.  DESIGN CHOICE: one block moves after each erase that finds
the spread (assumption log 61). -/
def Dev.levelWear (d : Dev) : Dev :=
  match d.store.part with
  | none => d
  | some p =>
    let spread := d.fg R.STORE_WEAR F.STORE_WEAR_MAX - d.fg R.STORE_WEAR F.STORE_WEAR_MIN
    if 50 * spread ≤ d.ratedCycles then d else
    match d.leastBlock p with
    | none => d
    | some b => (d.modStore fun s => { s with erases := tabMod s.erases b (· + 1) }).wearDraw (blockBytes p)

/-- The level of NAND_WPn: high only during a program or erase that the device issues (R476). -/
def Dev.nandWpn (d : Dev) : Bool := d.store.flush || (match d.store.ops with | o :: _ => o.kind ≠ .read | [] => false)

/-- The governor class of a partition (R478). -/
def storeClass (part : Nat) : Nat :=
  if part = 3 ∨ part = 4 ∨ part = 5 ∨ part = 9 then 1 else if part = 10 then 2 else if part = 11 then 3 else 0

/-- A full partition and a refusal of the governor are recorded (R479, R486): FULL with source 584, THROTTLED with source 580. -/
def Dev.storeRefuse (d : Dev) (st : Nat) : Dev :=
  if st = 0x0701 then d.setFlag R.STORE_ERR F.STORE_ERR_FULL.lo 584
  else if st = 0x0702 then d.setFlag R.STORE_ERR F.STORE_ERR_THROTTLED.lo 580
  else d

/-- Why a write of `n` bytes to an object is refused. -/
def Dev.writeFail (d : Dev) (part num n : Nat) : Option (Nat × Nat) :=
  failOf [(!d.mounted || !d.fits part num n, 0x0701, 0), (!d.wearAdmits (storeClass part), 0x0702, 0)]

/-! ### Operations, bad blocks (R479–R482) -/

/-- A Logbook operation starts behind the running ones; the answer has its number. -/
def Dev.startStore (d : Dev) (o : StoreOp) : Dev × Nat :=
  let id := d.store.nextId
  (d.modStore fun s => { s with ops := s.ops ++ [{ o with id := id }], nextId := id + 1 }, id)

/-- A block is retired (R482): BAD counts it, source 582 is raised, and above 2 % BAD_WARN is set. -/
def Dev.retire (d : Dev) (b : Nat) : Dev :=
  if d.store.bad.contains b then d else
  let d := d.modStore fun s => { s with bad := s.bad ++ [b], refresh := s.refresh.filter (· ≠ b) }
  let n := d.store.bad.length
  let d := ((d.fs R.STORE_STATUS F.STORE_STATUS_BAD n).fsb R.STORE_ERR F.STORE_ERR_RETIRED true).raise 582
  let total := match d.store.part with | some p => p.blocks | none => 0
  let d := if total < 50 * n then d.setFlag R.STORE_ERR F.STORE_ERR_BAD_WARN.lo 585 else d
  d.wearRegs

/-- A counter of STORE_COUNTS goes up by `n`, held at its largest value. -/
def Dev.storeCount (d : Dev) (f : Fld) (n : Nat) : Dev := d.fs R.STORE_COUNTS f (min (2 ^ f.w - 1) (d.fg R.STORE_COUNTS f + n))

/-- A read has corrected `bits` bits of a block, `worst` of them in one codeword (R481, R482): at REFRESH_THR the block is queued for
refresh, and at a second time within one scrub period it is retired. -/
def Dev.corrected (d : Dev) (block bits worst : Nat) : Dev :=
  let d := d.storeCount F.STORE_COUNTS_CORRECTED bits
  if worst < d.fg R.STORE_CFG F.STORE_CFG_REFRESH_THR then d
  else if d.store.hits.contains block then d.retire block
  else d.modStore fun s => { s with hits := s.hits ++ [block]
                                    refresh := if s.refresh.contains block then s.refresh else s.refresh ++ [block] }

/-- An object becomes what was written for it (R479). -/
def Dev.commitObject (d : Dev) (o : StoreOp) : Dev :=
  let n := d.store.seq
  (d.modStore fun s => { s with
      objs := s.objs.filter (fun x => !(x.part = o.part && x.num = o.num)) ++ [{ part := o.part, num := o.num, seq := n, bytes := o.bytes }]
      seq := n + 1 }).partRegs o.part

/-! ### The journal (R489, R491) -/

/-- BAK_OK and JOURNAL_ARMED follow the backup supply and the slots (R489). -/
def Dev.armRegs (d : Dev) : Dev :=
  let ok := d.fb R.POWER_STATUS F.POWER_STATUS_BAK_OK
  d.fsb R.POWER_STATUS F.POWER_STATUS_JOURNAL_ARMED (ok && d.mounted && (List.range 16).any fun i => (tabGet d.store.slots i).isNone)

/-- The charger runs or not (R489): with CHG_EN at 1, from VAUX, until VBAK has reached CHG_V. -/
def Dev.chargeRegs (d : Dev) : Dev :=
  let full := 3000 + 100 * d.fg R.POWER_CFG F.POWER_CFG_CHG_V ≤ d.fg R.POWER_VOLT F.POWER_VOLT_VBAK
  d.fsb R.POWER_STATUS F.POWER_STATUS_CHARGING
    (d.fb R.POWER_CFG F.POWER_CFG_CHG_EN && !d.fb R.POWER_STATUS F.POWER_STATUS_ON_VBAK && !full)

/-- The snapshot banks as the journal copies them (R491). -/
def Dev.bankCopy (d : Dev) : Tab Word := d.regs.filter fun e => 0x130000 ≤ e.1 && e.1 < 0x138000

/-- The content of the journal SRAM. -/
def Dev.journalNow (d : Dev) : Journal :=
  { seq := d.store.jseq, rtc := d.rd64 R.RTC_TIME, unwarned := d.fb R.POWER_STATUS F.POWER_STATUS_UNWARNED
    budget := d.store.saved.getD d.store.budget, snaps := d.bankCopy, log := d.faultLog }

end Sys2Proof.Machine
end

