-- ==== Sys2Proof/Machine/Reset.lean ====
section
/-!
DEFINITION. The resets (01, R34–R37): what a cold, a warm and a function level reset set to its reset value and what they keep.
-/

namespace Sys2Proof.Machine

open Sys2Proof

/-- The registers that keep their whole value over every reset: those of the persistence island. -/
def islandReg (off : Nat) : Bool :=
  (R.POWER_PF_TIME ≤ off && off < R.POWER_PF_TIME + 8) || off == R.POWER_FLUSH || (R.RTC_TIME ≤ off && off < R.RTC_TIME + 8)

/-- The registers that keep their whole value over a warm reset: snapshot banks, SNAP_STATUS and SNAP_CFG (R332), learned offsets
(R189) and EVR_WAKE_LATCH (R352). -/
def warmReg (off : Nat) : Bool :=
  islandReg off || (0x130000 ≤ off && off < 0x138000) || off == R.SNAP_CFG || off == R.SNAP_STATUS
  || (R.EVR_WAKE_LATCH ≤ off && off < R.EVR_WAKE_LATCH + 8)
  || (0x71010 ≤ off && off < 0x71010 + 0x20 * 160 && (off - 0x71010) % 0x20 == 0)

/-- Fields that are kept out of the old registers: a reset register file with some fields of `old`. -/
def keepBits (old new : Dev) (l : List (Nat × Nat)) : Dev :=
  l.foldl (fun (d : Dev) x => d.wr x.1 ((d.rd x.1 &&& ~~~(toW x.2)) ||| (old.rd x.1 &&& toW x.2))) new

/-- The fields kept over every reset: the island's bits of POWER_STATUS, and the failures that the persistent counters hold (R510). -/
def keptBits : List (Nat × Nat) := [(R.POWER_STATUS, 0x03800000), (R.SEC_COUNTS, 0xFF000000)]

/-- The fields kept over a warm reset besides: the latched straps (R34), SYS_WEDGE 31:24, PAIR_EVENT.RESIGNED, and the largest
temperatures since the cold reset. -/
def warmBits : List (Nat × Nat) :=
  [(R.SYS_BOOT_STATUS, 0x038F0000), (R.SYS_WEDGE, 0xFF000000), (R.PAIR_EVENT, 2 ^ F.PAIR_EVENT_RESIGNED.lo)]
  ++ (List.range 6).map fun k => (R.TELEM_TEMP k, 0xFFFF0000)

/-- What the motion die holds of a field die, after a reset of the motion die: the die itself keeps running (R35). -/
def dieKept (x : FieldDie) : FieldDie := { x with dnSeq := 0, upBad := 0, upGood := 0, resync := false, down := none, cfgQ := [] }

/-- SEC_LC, SEC_KEYS and DEBUG_STATUS as OTP gives them at a reset (R500, R508). -/
def Dev.otpRegs (d : Dev) : Dev :=
  let o := d.sec.otp
  let d := ((d.wr R.SEC_LC 0).fs R.SEC_LC F.SEC_LC_STATE o.lc).fs R.SEC_LC F.SEC_LC_SVN o.svn
  let d := ((d.fsb R.SEC_LC F.SEC_LC_CFG o.pCfg).fsb R.SEC_LC F.SEC_LC_SAFETY o.pSafe).fsb R.SEC_LC F.SEC_LC_DSP o.pDsp
  let d := ((d.wr R.SEC_KEYS 0x10).fsb R.SEC_KEYS F.SEC_KEYS_SLOT0 !o.hash0.isEmpty).fsb R.SEC_KEYS F.SEC_KEYS_SLOT1 !o.hash1.isEmpty
  let d := (d.fsb R.SEC_KEYS F.SEC_KEYS_REV0 o.rev0).fsb R.SEC_KEYS F.SEC_KEYS_REV1 o.rev1
  d.wr R.DEBUG_STATUS (if o.lc = 2 then 0 else 0xE0000000#32)

/-- The registers that a reset fills in from the latched straps (R34): PAIR_STATUS.ROLE and TRV_STATUS.NODE. -/
def Dev.strapRegs (d : Dev) : Dev :=
  (d.fsb R.PAIR_STATUS F.PAIR_STATUS_ROLE (d.fb R.SYS_BOOT_STATUS F.SYS_BOOT_STATUS_PAIR_ROLE)).fs R.TRV_STATUS F.TRV_STATUS_NODE
    (d.fg R.SYS_BOOT_STATUS F.SYS_BOOT_STATUS_NODE_ID)

/-- The motion die after a reset that keeps some registers, fields and bytes of BULKWIN; the ACTIVE of a pair resigns first (R467), and
safety channel A is absent (R36, R450).  Over a warm reset a running snapshot goes on (R332; assumption log 41). -/
def Dev.motionReset (d : Dev) (regs : Nat → Bool) (bits : List (Nat × Nat)) (bulk : Nat → Bool) (lockstep : Bool) (cause : Nat) : Dev :=
  let old := d.resign 1
  let d := old.chanStop false
  let new : Dev :=
    { regs := old.regs.filter fun e => regs e.1
      fresh := d.fresh
      cmd := { bootCfg := d.cmd.bootCfg }
      evr := { msiSent := d.evr.msiSent, msiLast := d.evr.msiLast }
      faultLog := d.faultLog
      bulk := d.bulk.filter fun e => bulk e.1
      snap := if lockstep then { old.snap with clock := none } else {}
      safety := { d.safety with
        a := { faults := if lockstep then d.safety.a.faults &&& 64 else 0 }, loaded := none, commit := false, thermal := false, ss1Banks := [] }
      field := { d.field with dies := tabSet (tabSet d.field.dies 0 (dieKept (d.die 0))) 1 (dieKept (d.die 1)) }
      store := { d.store with ops := [], part := none }
      sec := { otp := d.sec.otp, lockout := d.sec.lockout }
      boot := { staged := d.boot.staged, svn := none, held := d.boot.held } }
  let new := keepBits old new (bits ++ keptBits)
  (new.fs R.SYS_BOOT_STATUS F.SYS_BOOT_STATUS_RESET_CAUSE cause).otpRegs.strapRegs

/-- A warm reset (R35): everything of the motion die but the PCIe link; the trace SRAM and the staging regions keep their contents (R40,
R328). -/
def Dev.warmReset (d : Dev) (cause : Nat) : Dev :=
  d.motionReset warmReg warmBits (fun _ => true) true cause

/-- A cold reset (R34, R35) with the lost-clock bits that it keeps (R21, R22): the straps are latched again at its release. -/
def Dev.coldReset (d : Dev) (straps : Straps) (cause : Nat) (lost : Nat) : Dev :=
  let d := (d.modBoot fun b => { b with staged := none }).motionReset islandReg [(R.SYS_CLOCK_STATUS, lost)] (fun _ => false) false cause
  let d := d.fs R.SYS_BOOT_STATUS F.SYS_BOOT_STATUS_BOOT_SRC straps.bootsel
  let d := d.fsb R.SYS_BOOT_STATUS F.SYS_BOOT_STATUS_PAIR_ROLE straps.role
  (d.fs R.SYS_BOOT_STATUS F.SYS_BOOT_STATUS_NODE_ID straps.node).strapRegs

/-- A function level reset (R35, R37): PCIe function state, MSI-X table and ring pointers are reset, the host session is detached, and the
host watchdog of every axis expires; the sources that are active on the host are completed (R344). -/
def Dev.flr (d : Dev) : Dev :=
  let d := d.forceComplete 0
  let d := { d with evr := { d.evr with unmasked := [], msiPend := [], msix := [] } }
  let d := { d with cmd := { d.cmd with rings := {}, ringProd := [], replyRing := [], eventRing := [], replyProd := 0, replyCons := 0,
                                        eventProd := 0, eventCons := 0, gap := none, attachLow := 0, attachDue := none, wb := {} } }
  let d := d.each (List.range 4) fun d q => d.fs (R.CMDQ_FETCH q) F.CMDQ_FETCH_FETCH 0
  let d := d.fsb R.CMDQ_SESSION F.CMDQ_SESSION_ATTACHED false
  d.each (List.range 64) fun d a => if d.fg (R.AXIS_REACT a) F.AXIS_REACT_WD_TIMEOUT = 0 then d else d.wdExpire a

/-! ### Axes and legs of special conditions -/

/-- Every leg that is host-driven and not high-impedance goes HIGH-Z (R513, R527). -/
def Dev.hostLegsOff (d : Dev) : Dev :=
  d.each (List.range 192) fun d l => if (d.legOwner l).isNone && (d.leg l).cond ≠ .hiz then d.legHiz l else d

/-- A host-driven leg switches. -/
def Dev.hostSwitching (d : Dev) : Bool := (List.range 192).any fun l => (d.legOwner l).isNone && (d.leg l).cond = .switching

/-- A host-driven leg has RUN at 1. -/
def Dev.hostRun (d : Dev) : Bool :=
  (List.range 192).any fun l => d.fb (R.PWM_LEG_CFG l) F.PWM_LEG_CFG_HOST && d.fb (R.PWM_LEG_CFG l) F.PWM_LEG_CFG_RUN

/-- The lowest-numbered active axis. -/
def Dev.firstActive (d : Dev) : Option Nat := (List.range 64).find? d.active

end Sys2Proof.Machine
end

