-- ==== Sys2Proof/Machine/SafetyFn.lean ====
section
/-!
DEFINITION. The safety cycle of the two channels (16): latch, decision, inputs, test pulses, faults and start-up.  A decision is
computed by SAFETY_DECISION and applied at the next SAFETY_LATCH (R429).
-/

namespace Sys2Proof.Machine

open Sys2Proof

/-- A mask with bit `i` set to a Bool. -/
def putBit (m i : Nat) (b : Bool) : Nat := if m.testBit i = b then m else if b then m + 2 ^ i else m - 2 ^ i

/-! ### Inputs (R434–R437) -/

/-- SAFETY_INPUT_FILTER: the filtered state of an input changes in a channel (R435). -/
def execSafetyInputFilter (chB : Bool) (i : Fin 16) (level : Bool) (s : State) : Out := s.onAll fun d =>
  if !(d.chan chB).on then d else
  let d := d.modChan chB fun c => { c with filt := putBit c.filt i level }
  if chB then d else d.fs R.SAFETY_IN F.SAFETY_IN_CH_A d.safety.a.filt

/-- PAIR_DISCREPANCY: one input has demanded alone for longer than DISC (R436). -/
def execPairDiscrepancy (chB : Bool) (p : Fin 8) (s : State) : Out := s.onAll fun d =>
  let c := d.chan chB
  let used := match c.set with | some w => pairUsed w p | none => false
  if !c.on || !used || c.disc.testBit p || c.inDemands c.filt (2 * p) == c.inDemands c.filt (2 * p + 1) then d else
  let d := d.modChan chB fun c => { c with disc := c.disc + 2 ^ p.val, both := putBit c.both p false }
  if chB then d else d.setFlag R.SAFETY_PAIR (F.SAFETY_PAIR_DISC.lo + p) 546

/-- RESET_INPUT_PULSE: the falling edge of a reset pulse of 0.1–3.0 s on an input (R437). -/
def execResetInputPulse (chB : Bool) (i : Fin 16) (s : State) : Out := s.onAll fun d =>
  if (d.chan chB).on then d.modChan chB fun c => { c with resets := putBit c.resets i true } else d

/-! ### Test pulses and readback (R438, R439, R442) -/

/-- The checks of one pulse in a channel (R439): `hi` are the inputs that read high, `lo` those that read low, in some sample of its
window.  An input is checked while its filtered state is high. -/
def SChan.pulse (c : SChan) (k hi lo : Nat) : SChan :=
  match c.set with
  | none => c
  | some s =>
    let named := maskOf 16 fun i => pairUsed s (i / 2) && inputTp s i ≠ 15 && c.filt.testBit i
    let bad := maskOf 16 fun i => named.testBit i && (if inputTp s i = k then hi.testBit i else lo.testBit i)
    { c with tpSeen := c.tpSeen ||| named, tpBad := c.tpBad ||| bad, tpf := c.tpf ||| bad }

/-- The end of a test period: an input that has passed both checks in 2 consecutive periods loses its fault (R439). -/
def SChan.periodEnd (c : SChan) : SChan :=
  let ok := (List.range 16).foldl (fun t i =>
    if c.tpBad.testBit i then tabSet t i 0 else if c.tpSeen.testBit i then tabSet t i (min 2 (tabGet t i + 1)) else t) c.tpOk
  { c with tpOk := ok, tpf := maskOf 16 (fun i => c.tpf.testBit i && !(2 ≤ tabGet ok i)), tpBad := 0, tpSeen := 0 }

/-- Channel A shows its test-pulse faults; each new one raises source 547. -/
def Dev.showTp (d : Dev) : Dev :=
  let f := d.safety.a.tpf
  let d := d.each (maskList 16 f) fun d i => d.setFlag R.SAFETY_PAIR i 547
  (d.fs R.SAFETY_PAIR F.SAFETY_PAIR_TP_FAULT f).levelFell d true 547

/-- TEST_PULSE: the low pulse of TPk, in a safety cycle whose number is 20 × k modulo 80, with what both channels sampled in its window, and
whether its readback failed (R438, R439). -/
def execTestPulse (k : Fin 4) (hiA loA hiB loB : BitVec 16) (readFails : Bool) (s : State) : Out := s.onAll fun d =>
  if !d.safety.b.on || d.safety.cyc % 80 ≠ 20 * k.val then d else
  let d := if d.safety.a.on then d.modChan false fun c => c.pulse k hiA.toNat loA.toNat else d
  let d := d.modChan true fun c => c.pulse k hiB.toNat loB.toNat
  let n := if readFails then tabGet d.safety.tpOut k + 1 else 0
  let d := d.modSafety fun s => { s with tpOut := tabSet s.tpOut k (min 2 n) }
  let d := if 2 ≤ n then d.chanFault true 5 else d
  let d := if k.val = 3 then (d.modChan false SChan.periodEnd).modChan true SChan.periodEnd else d
  if d.safety.a.on then d.showTp else d

/-- SO_TEST_PULSE: switch `j` of the order SO0A, SO0B, SO1A, SO1B is turned off for 50 µs; a switch that reads on in two tests running
gives SO_READBACK (R442). -/
def execSoTestPulse (j : Fin 4) (readsOn : Bool) (s : State) : Out := s.onAll fun d =>
  let b := j.val % 2 = 1
  let x := j.val / 2
  let c := d.chan b
  if !c.on || !c.so.testBit x then d else
  let n := if readsOn then tabGet c.soBad (2 + x) + 1 else 0
  let d := d.modChan b fun c => { c with soBad := tabSet c.soBad (2 + x) (min 2 n) }
  if 2 ≤ n then d.chanFault b 4 else d

/-- The readback of a channel's switches in one cycle (R442). -/
def Dev.soCheck (d : Dev) (b : Bool) (reads : Nat) : Dev :=
  let c := d.chan b
  if !c.on then d else
  d.each [0, 1] fun d x =>
    let n := if reads.testBit x == c.so.testBit x then 0 else tabGet (d.chan b).soBad x + 1
    let d := d.modChan b fun c => { c with soBad := tabSet c.soBad x (min 2 n) }
    if 2 ≤ n then d.chanFault b 4 else d

/-! ### Decision (R429, R436, R440–R443) -/

/-- The pairs of a channel from the inputs of the latch (R436). -/
def SChan.pairs (c : SChan) : SChan :=
  match c.set with
  | none => { c with pd := 0 }
  | some s =>
    let used := maskOf 8 (pairUsed s)
    let d0 := maskOf 8 fun p => c.inDemands c.lat (2 * p)
    let d1 := maskOf 8 fun p => c.inDemands c.lat (2 * p + 1)
    let both := c.both ||| (c.disc &&& d0 &&& d1)
    let disc := maskOf 8 fun p => c.disc.testBit p && (!both.testBit p || d0.testBit p || d1.testBit p)
    { c with disc := disc, both := both &&& disc, pd := maskOf 8 fun p => used.testBit p && (disc.testBit p || d0.testBit p || d1.testBit p) }

/-- The course of function `f` in one decision (R440, R441, R443). -/
def SChan.fnStep (c : SChan) (s : List Word) (f : Nat) : SChan :=
  let w := setFn s f
  if !wbit w 31 then c else
  let dem := c.pd.testBit (wbits w 26 24)
  let c := { c with demf := putBit c.demf f dem }
  if c.startup then { c with hold := putBit c.hold f true }
  else if c.ss1.testBit f then c
  else if c.hold.testBit f then
    if dem then { c with pend := putBit c.pend f false }
    else if !wbit w 27 then { c with hold := putBit c.hold f false }
    else if !c.pend.testBit f then { c with pend := putBit c.pend f true }
    else if c.resets.testBit (wbits w 19 16) then { c with hold := putBit c.hold f false, pend := putBit c.pend f false }
    else c
  else if dem then
    if wbits w 30 28 = 1 then { c with hold := putBit c.hold f true }
    else { c with ss1 := putBit c.ss1 f true, starts := putBit c.starts f true }
  else c

/-- The banks on which a channel holds STO (R440, R443, R444, R449). -/
def SChan.banks (c : SChan) : Nat :=
  match c.set with
  | none => 15
  | some s =>
    if c.startup || c.faults ≠ 0 then 15
    else (maskList 8 c.hold).foldl (fun m f => if wbit (setFn s f) 31 then m ||| fnBanks s f else m) 0

/-- One decision of a channel. -/
def SChan.decide (c : SChan) : SChan :=
  let c := c.pairs
  let c := match c.set with | some s => (List.range 8).foldl (fun (c : SChan) f => c.fnStep s f) { c with starts := 0 } | none => c
  { c with resets := 0, due := false, next := c.banks }

/-- What channel A shows of a decision (R453): demands, pending restarts, pairs, with their sources. -/
def Dev.showDecision (d : Dev) (old : SChan) : Dev :=
  let c := d.safety.a
  let d := (d.fs R.SAFETY_STATUS F.SAFETY_STATUS_DEMAND c.demf).fs R.SAFETY_STATUS F.SAFETY_STATUS_RESTART c.pend
  let d := d.each (maskList 8 (c.demf ^^^ old.demf)) fun d f => d.raise (552 + f)
  let d := if andNot c.pend old.pend ≠ 0 then d.raise 549 else d
  ((d.fs R.SAFETY_PAIR F.SAFETY_PAIR_DEMAND c.pd).fs R.SAFETY_PAIR F.SAFETY_PAIR_DISC c.disc).levelFell d true 546

/-- A device of a pair sends a SAFETY frame every safety cycle (R457). -/
def Dev.sendSafety (d : Dev) (m : SMsg) : Dev :=
  let st := d.fg R.PAIR_STATUS F.PAIR_STATUS_STATE
  if 1 ≤ st && st ≤ 5 then
    d.tieFrame 6 [toW m.sto, toW m.demf, m.crc, toW m.cycle]
  else d

/-- SAFETY_DECISION: a channel computes its cycle's decisions and message (R429–R431, R440–R443). -/
def execSafetyDecision (chB : Bool) (s : State) : Out := s.onAll fun d =>
  let old := d.chan chB
  if !old.on || !old.due then d else
  let d := d.modChan chB SChan.decide
  let cmd := if chB then old.cmd else d.soCmdA
  let d := d.modChan chB fun c =>
    { c with soNext := if c.faults = 0 && !c.startup then maskOf 2 (soOn c.set c.next cmd) else 0 }
  let d := if chB then d else d.showDecision old
  let m := d.ownMsg chB
  let d := if chB then d else d.sendSafety m
  d.modChan chB fun c => { c with prev := c.cur, cur := some m }

/-! ### Latch (R429, R432, R433) -/

/-- The stops that the SS1 functions started in channel A begin (R441): a class 1 stop of every active axis of their banks. -/
def Dev.ss1Start (d : Dev) : Dev :=
  let c := d.safety.a
  match c.set with
  | none => d
  | some s =>
    let banks (m : Nat) : Nat := (maskList 8 m).foldl (fun m f => m ||| fnBanks s f) 0
    let d := d.modSafety fun x => { x with ss1Banks := maskList 4 (banks c.ss1) }
    d.each (maskList 4 (banks c.starts)) fun d n => d.each (laneAxes n) fun d a => d.stopAxis a 4 0

/-- A channel compares its own message of the ended cycle with the other's (R432), and counts cycles without one (R433). -/
def SChan.compare (c : SChan) (k : Nat) : SChan :=
  match c.peer, c.msgOf k with
  | some p, some m =>
    if p.cycle = k % 65536 then
      let same := m.filt = p.filt && m.pd = p.pd && m.demf = p.demf && m.sto = p.sto
      { c with missing := 0, crcDiff := m.crc ≠ p.crc, diff := if same then 0 else min 8 (c.diff + 1) }
    else { c with missing := min 2 (c.missing + 1) }
  | some p, none => if p.cycle = k % 65536 then { c with missing := 0 } else { c with missing := min 2 (c.missing + 1) }
  | none, _ => { c with missing := min 2 (c.missing + 1) }

/-- One channel at the latch: comparison, application of the previous decision, and the inputs of the next. -/
def Dev.chanLatch (d : Dev) (b : Bool) : Dev :=
  if !(d.chan b).on then d else
  let d := d.modChan b fun c => c.compare d.safety.cyc
  let c := d.chan b
  let d := d.chanApply b (if c.faults ≠ 0 || c.set.isNone then 15 else c.next) c.soNext
  let d := if b then d else d.ss1Start
  d.modChan b fun c => { c with lat := c.filt, due := true, starts := 0 }

/-- A committed set becomes the active set of both channels, which run R449 from its second step (R448). -/
def Dev.setSwitch (d : Dev) : Dev :=
  match d.safety.loaded with
  | none => d
  | some w =>
    let fresh (c : SChan) : SChan :=
      { on := true, startup := true, set := some w, filt := c.filt, sto := c.sto, faults := c.faults, peer := c.peer, cmd := c.cmd }
    let d := (d.modChan false fresh).modChan true fresh
    let d := d.modSafety fun s => { s with boot := some w, bootSig := s.loadedSig, loaded := none, loadedSig := [], commit := false }
    let d := (d.chanApply true 15 0).chanApply false 15 0
    let d := (d.fsb R.SAFETY_STATUS F.SAFETY_STATUS_STARTUP true).fsb R.SAFETY_STATUS F.SAFETY_STATUS_SET_VALID true
    let d := ((d.wr R.SAFETY_SET_CRC (w.getD 31 0)).wr R.SAFETY_SET_ID (toW (wbits (w.getD 2 0) 15 0))).wr R.SAFETY_SET_PEND 0
    let d := (((d.fs R.SAFETY_PAIR F.SAFETY_PAIR_TP_FAULT 0).fs R.SAFETY_PAIR F.SAFETY_PAIR_DISC 0).levelFell d false 546).levelFell d false 547
    (d.raise 548).resolve ⟨.safety, 0⟩ 0 0 [toW (d.safety.cyc % 2 ^ 32)]

/-- The latch instant after a successful SAFETY_SET_COMMIT: the sets switch, unless an axis has become active since its checks, which then
fails it (R448; DEDUCED, assumption log 60). -/
def Dev.commitLatch (d : Dev) : Dev :=
  match (List.range 64).find? d.active with
  | some a => (d.modSafety fun s => { s with commit := false }).resolve ⟨.safety, 0⟩ 0x0301 (d.axState a) []
  | none => d.setSwitch

/-- SAFETY_LATCH: the latch instant L_k, with the readback of SO0A, SO0B, SO1A and SO1B (R429, R432, R442, R448). -/
def execSafetyLatch (reads : BitVec 4) (s : State) : Out := s.onAll fun d =>
  let d := d.fs R.SAFETY_OUT F.SAFETY_OUT_SO_STATE reads.toNat
  let r (i : Nat) : Nat := if reads.getLsbD i then 1 else 0
  let d := (d.soCheck false (r 0 + 2 * r 2)).soCheck true (r 1 + 2 * r 3)
  let d := (d.chanLatch false).chanLatch true
  let heard := d.safety.a.on && d.safety.a.missing = 0 && d.safety.a.peer.isSome
  let d := if heard && !d.fb R.SAFETY_STATUS F.SAFETY_STATUS_CH_B_RUN then
    (d.fsb R.SAFETY_STATUS F.SAFETY_STATUS_CH_B_RUN true).raise 550 else d
  let d := d.modSafety fun s => { s with cyc := s.cyc + 1, downIdx := 1, upIdx := 0 }
  let d := if d.safety.a.on then d.wrapInc R.SAFETY_CYCLE F.SAFETY_CYCLE_CYCLE else d
  if d.safety.commit then d.commitLatch else d

/-! ### Faults (R428, R432, R433, R444) -/

/-- SAFETY_COMPARE_FAULT: the set CRCs differ, or other content has differed for 8 cycles (R432). -/
def execSafetyCompareFault (chB : Bool) (s : State) : Out := s.onAll fun d =>
  let c := d.chan chB
  if c.on && (c.crcDiff || c.diff = 8) && !c.faults.testBit 0 then d.chanFault chB 0 else d

/-- SAFETY_MESSAGE_MISSING: no complete message for 2 cycles (R433); channel B is no longer running as channel A sees it. -/
def execSafetyMessageMissing (chB : Bool) (s : State) : Out := s.onAll fun d =>
  let c := d.chan chB
  if !c.on || c.missing < 2 then d else
  let d := if c.faults.testBit (if chB then 2 else 3) then d else d.chanFault chB (if chB then 2 else 3)
  if !chB && d.fb R.SAFETY_STATUS F.SAFETY_STATUS_CH_B_RUN then
    (d.fsb R.SAFETY_STATUS F.SAFETY_STATUS_CH_B_RUN false).raise 550 else d

/-- STOEN_B_FRAME_LOSS: 3 consecutive bad or missing upstream frames (R433). -/
def execStoenBFrameLoss (s : State) : Out := s.onAll fun d => if 3 ≤ d.safety.upBad then d.stoenB 0 else d

/-- LOCKSTEP_FAULT: channel A's cores disagree; it sets LOCKSTEP and stops (R428). -/
def execLockstepFault (s : State) : Out := s.onDev fun d =>
  if d.safety.a.on then (d.chanFault false 6).chanStop false else d

/-- SS1_DELAY_EXPIRY: SS1_TIME after the demand decision both channels apply STO to the function's banks (R441). -/
def execSs1DelayExpiry (f : Fin 8) (s : State) : Out := s.onAll fun d =>
  [true, false].foldl (fun d b =>
    let c := d.chan b
    match c.set with
    | none => d
    | some w =>
      if c.on && c.ss1.testBit f then
        let d := d.modChan b fun c => { c with ss1 := putBit c.ss1 f false, hold := putBit c.hold f true }
        let m := c.sto ||| fnBanks w f
        let d := d.chanApply b m (maskOf 2 fun x => c.so.testBit x && soOn c.set m c.so x)
        if b then d else d.ss1Start
      else d) d

/-! ### Start-up (R449) -/

/-- SAFETY_STARTUP: a channel starts; LOCKSTEP lets channel A start only after a cold reset has cleared it, and channel B starts
while its die has its supply (R15, R22, R444, R449). -/
def execSafetyStartup (chB : Bool) (s : State) : Out := s.onAll fun d =>
  if (d.chan chB).on then d
  else if chB then (if (tabGet d.field.dies 0).on then d.safetyStart true else d)
  else if d.heldInReset || !d.fb R.SYS_CLOCK_STATUS F.SYS_CLOCK_STATUS_SAFA_LOCK || d.safety.a.faults.testBit 6 then d
  else d.safetyStart false

/-- SAFETY_STARTUP_TEST_COMPLETE: the test period of a starting channel with a valid set ends (R449). -/
def execSafetyStartupTestComplete (chB : Bool) (s : State) : Out := s.onAll fun d =>
  let c := d.chan chB
  if !c.on || !c.startup || c.set.isNone then d else
  let d := d.modChan chB fun c => { c with startup := false }
  if chB then d else d.fsb R.SAFETY_STATUS F.SAFETY_STATUS_STARTUP false

/-! ### SAFETY_SET_COMMIT (R444, R448) -/

/-- A fault cause of a channel is present: it has no message, the messages differ, LOCKSTEP is set, or a readback or test-pulse output
fails (R432, R433, R444). -/
def Dev.causePresent (d : Dev) (b : Bool) : Bool :=
  let c := d.chan b
  c.faults.testBit 6 || c.on && (c.missing ≠ 0 || c.diff ≠ 0 || c.crcDiff || (List.range 4).any (fun x => tabGet c.soBad x ≠ 0)
    || (b && (List.range 4).any fun k => tabGet d.safety.tpOut k ≠ 0))

/-- The length of SAFETY_SET_COMMIT, its checks, and its course: op 0 waits for the latch, op 1 acknowledges. -/
def specSafetySetCommit : OpSpec where
  len _ := 2
  check d p :=
    let op := pb p 3 0 0
    let act := (List.range 64).find? d.active
    failOf [
      (pb p 3 31 1 ≠ 0, 0x0201, 3),
      (op = 1 && pw p 4 ≠ 0, 0x0201, 4),
      (op = 1 && d.safety.a.faults ||| d.safety.b.faults ≠ 0 && (d.causePresent false || d.causePresent true), 0x0603, 0),
      (op = 0 && d.safety.loaded.isNone, 0x0405, 0),
      (op = 0 && pw p 4 ≠ d.rd R.SAFETY_SET_PEND, 0x0601, 0),
      (op = 0 && act.isSome, 0x0301, match act with | some a => d.axState a | none => 0),
      (op = 0 && !(d.safety.a.on && d.safety.b.on), 0x0602, 0)]
  run d p :=
    if pb p 3 0 0 = 0 then .wait (d.modSafety fun s => { s with commit := true }) [⟨.safety, 0⟩] []
    else
      let f := d.safety.a.faults
      let clear (c : SChan) : SChan := { c with faults := 0, peer := c.peer.map fun m => { m with faults := 0 } }
      let d := (d.modChan false clear).modChan true clear
      let d := ((d.wr R.SAFETY_FAULT 0).levelFell d false 545).fsb R.SAFETY_STATUS F.SAFETY_STATUS_FAULT false
      .done d 0 0 [toW f]

/-- SAFETY_SET_COMMIT (R448). -/
def execSafetySetCommit (p : Packet) (s : State) : Out := s.onDev fun d => d.runOp 0x0B01 specSafetySetCommit p

end Sys2Proof.Machine
end

