-- ==== Sys2Proof/Machine/Flags.lean ====
section
/-!
DEFINITION. The flag computations of the Transit DSP (R302): N, Z, V and C of every group of slot M operations, and the
saturation of accumulators (R275) and of 32-bit results.
-/

namespace Sys2Proof.Machine

open Sys2Proof

/-- The flags that an operation writes: N, Z, V, and C where it writes C. -/
structure TdFlags where
  n : Bool := false
  z : Bool := false
  v : Bool := false
  c : Option Bool := none
  deriving DecidableEq, Repr, Inhabited

/-- An exact accumulator result held in the range of R273, and whether it saturated. -/
def accSat (x : Int) : BitVec 72 × Bool :=
  let y := clampI (-(2 ^ 71)) (2 ^ 71 - 1) x
  (BitVec.ofInt 72 y, decide (y ≠ x))

/-- The flags of the MAC group and the accumulator group. -/
def flagsAcc (r : BitVec 72 × Bool) : TdFlags := { n := r.1.msb, z := r.1 == 0, v := r.2 }

/-- An exact 32-bit result held in the signed range, and whether it saturated. -/
def sat32 (x : Int) : Word × Bool :=
  let y := clampI (-(2 ^ 31)) (2 ^ 31 - 1) x
  (BitVec.ofInt 32 y, decide (y ≠ x))

/-- The flags of ADDS, SUBS, ABS and NEG. -/
def flagsSat (r : Word × Bool) : TdFlags := { n := r.1.msb, z := r.1 == 0, v := r.2 }

/-- The flags of ADD and ADDI. -/
def flagsAdd (a b : Word) : TdFlags :=
  let r := a + b
  { n := r.msb, z := r == 0, v := a.msb == b.msb && r.msb != a.msb, c := some (decide (2 ^ 32 ≤ a.toNat + b.toNat)) }

/-- The flags of SUB and CMP. -/
def flagsSub (a b : Word) : TdFlags :=
  let r := a - b
  { n := r.msb, z := r == 0, v := a.msb != b.msb && r.msb != a.msb, c := some (decide (b.toNat ≤ a.toNat)) }

/-- The flags of AND, OR, XOR, MIN and MAX. -/
def flagsLogic (r : Word) : TdFlags := { n := r.msb, z := r == 0 }

/-- The flags of ASR and LSR: C is the last bit shifted out. -/
def flagsRight (a r : Word) (n : Nat) : TdFlags :=
  { n := r.msb, z := r == 0, c := some (decide (n ≠ 0) && a.getLsbD (n - 1)) }

/-- The flags of LSL. -/
def flagsLeft (a r : Word) (n : Nat) : TdFlags :=
  { n := r.msb, z := r == 0, c := some (decide (n ≠ 0) && a.getLsbD (32 - n)) }

/-- The flags as bits 3:0 of SR_FLAGS, and the mask of those that are written. -/
def TdFlags.bits (f : TdFlags) : Nat := f.n.toNat * 8 + f.z.toNat * 4 + f.v.toNat * 2 + (f.c.getD false).toNat
def TdFlags.mask (f : TdFlags) : Nat := if f.c.isSome then 15 else 14

end Sys2Proof.Machine
end

