-- ==== Sys2Proof/Machine/Operands.lean ====
section
/-!
DEFINITION. The operand forms of the Transit DSP (R260–R268, R298, R299): where each register stands, which bundle sees
which write, reading and writing a register by its code, conversion of accumulators, and the addressing modes.
-/

namespace Sys2Proof.Machine

open Sys2Proof

/-! ### Registers (R260, R298) -/

/-- What a register holds after DSP_START with mode 0: 0, but for SR_FLAGS (R261, R291). -/
def coreReset (key : Nat) : BitVec 72 := if key = 0x4D ∨ key = 0x4D + 128 then 0x80000000 else 0

/-- The keys of the registers that exist once: IPC1, IPC2, SSR2. -/
def kIPC1 : Nat := 0x50
def kIPC2 : Nat := 0x51
def kSSR2 : Nat := 0x52

/-- The key of a banked register. -/
def bankKey (shadow : Bool) (code : Nat) : Nat := if shadow then code + 128 else code

/-- The key of a register code in a bank; IPC1, IPC2 and SSR2 are not banked. -/
def tdKey (shadow : Bool) (code : Nat) : Nat := if 0x50 ≤ code ∧ code ≤ 0x52 then code else bankKey shadow code

/-- The key of SR_FLAGS and of accumulator `n` of a bank. -/
def kSR (shadow : Bool) : Nat := bankKey shadow 0x4D
def kAcc (shadow : Bool) (n : Nat) : Nat := bankKey shadow (0x60 + n)

/-- A register whose writes have all been written. -/
def Core.reg (k : Core) (key : Nat) : BitVec 72 := tabGetD coreReset k.r key

def Core.setReg (k : Core) (key : Nat) (v : BitVec 72) : Core := { k with r := tabSetD coreReset k.r key v }

/-- A write applied to a value. -/
def TdWrite.apply (w : TdWrite) (v : BitVec 72) : BitVec 72 := (v &&& ~~~w.mask) ||| (w.val &&& w.mask)

/-- Register `key` with the writes that are seen by bundle stage number `n` (R263); where `fwd` is set, the results of MACs in flight
are seen as well (the chained MAC). -/
def Core.seeF (fwd : Bool) (k : Core) (n key : Nat) : BitVec 72 :=
  (k.pend.filter fun w => w.key = key && (w.due ≤ n || (fwd && w.mac))).foldl (fun v w => w.apply v) (k.reg key)

def Core.see (k : Core) (n key : Nat) : BitVec 72 := k.seeF false n key

/-- A write enters the pipeline; the list stays in the order in which its writes are written (R311). -/
def Core.push (k : Core) (w : TdWrite) : Core :=
  { k with pend := k.pend.takeWhile (fun x => x.due ≤ w.due) ++ [w] ++ k.pend.dropWhile (fun x => x.due ≤ w.due) }

/-- The writes that bundle number `n` sees in DE are written. -/
def Core.commit (k : Core) (n : Nat) : Core :=
  (k.pend.filter fun w => w.due ≤ n).foldl (fun k w => k.setReg w.key (w.apply (k.reg w.key)))
    { k with pend := k.pend.filter fun w => n < w.due }

/-- DE of the bundle that is numbered `cyc` writes a register: what earlier bundles write in the same cycle comes before it (R311). -/
def Core.writeDE (k : Core) (key : Nat) (v : BitVec 72) : Core :=
  { k.setReg key v with pend := k.pend.filter fun w => w.key ≠ key || decide (k.cyc + 1 < w.due) }

/-- Every write in the pipeline is written, in order. -/
def Core.drain (k : Core) : Core :=
  k.pend.foldl (fun k w => k.setReg w.key (w.apply (k.reg w.key))) { k with pend := [] }

/-! ### Register codes (R298, R299) -/

/-- A code that names a register, other than the converted accumulators. -/
def codeOk (c : Nat) : Bool :=
  c ≤ 0x1B || (0x20 ≤ c && c ≤ 0x42) || (0x44 ≤ c && c ≤ 0x46) || (0x48 ≤ c && c ≤ 0x4A) || (0x4C ≤ c && c ≤ 0x4E)
  || (0x50 ≤ c && c ≤ 0x52)

/-- ACC0R–ACC3R. -/
def isConv (c : Nat) : Bool := 0x1C ≤ c && c ≤ 0x1F

/-- An accumulator part. -/
def isPart (c : Nat) : Bool := 0x10 ≤ c && c ≤ 0x1B

/-- The width of the register of a code. -/
def codeWidth (c : Nat) : Nat :=
  if isPart c && (c - 0x10) % 3 = 0 then 8
  else if 0x20 ≤ c ∧ c ≤ 0x42 then 16
  else if 0x44 ≤ c ∧ c ≤ 0x4C then 13
  else if c = 0x4E then 8
  else if c = 0x50 ∨ c = 0x51 then 13
  else 32

/-- A register that is sign-extended when it is read into 32 bits. -/
def codeSigned (c : Nat) : Bool := (isPart c && (c - 0x10) % 3 = 0) || (0x28 ≤ c && c ≤ 0x2F) || c = 0x4E

/-- The lowest bit of an accumulator part. -/
def partLo (c : Nat) : Nat := match (c - 0x10) % 3 with | 0 => 64 | 1 => 32 | _ => 0

/-- The 32-bit value of a register of width `w` (R299). -/
def widen (signed : Bool) (w : Nat) (v : BitVec 72) : Word :=
  if signed then toWI (toS w (v.toNat % 2 ^ w)) else toW (v.toNat % 2 ^ w)

/-- The 32-bit value that a code reads at stage number `n`, converted accumulators left out; SR_FLAGS shows LVL (R261). -/
def Core.readCode (k : Core) (n c : Nat) : Word :=
  if isPart c then widen (codeSigned c) (codeWidth c) (k.see n (kAcc k.shadow ((c - 0x10) / 3)) >>> partLo c)
  else if c = 0x4D then widen false 32 (k.see n (kSR k.shadow)) ||| (BitVec.ofNat 32 k.lvl <<< 26)
  else widen (codeSigned c) (codeWidth c) (k.see n (tdKey k.shadow c))

/-- The bits of SR_FLAGS that a write of it changes: all but LVL, LDEPTH and the reserved ones (R261, R271). -/
def srWrite : BitVec 72 := 0xF00000CF

/-- The write of a 32-bit value to a register by bundle `i`: a move is seen three, a load four stage numbers later, and an
accumulator part is reached in EX2 either way (R263, R299, R311). -/
def codeWrite (shadow load : Bool) (i c : Nat) (w : Word) : TdWrite :=
  if isPart c then
    { due := i + 4, key := kAcc shadow ((c - 0x10) / 3)
      mask := BitVec.ofNat 72 ((2 ^ codeWidth c - 1) * 2 ^ partLo c), val := w.setWidth 72 <<< partLo c }
  else
    { due := if load then i + 4 else i + 3, key := tdKey shadow c
      mask := if c = 0x4D then srWrite else BitVec.ofNat 72 (2 ^ codeWidth c - 1), val := w.setWidth 72 }

/-! ### Conversion of accumulators (R274, R276) -/

/-- An accumulator converted with SMM at 0: the word, and whether it saturates. -/
def convPlain (a : Int) : Word × Bool :=
  let q := roundDiv a (2 ^ 32)
  let y := clampI (-(2 ^ 31)) (2 ^ 31 - 1) q
  (BitVec.ofInt 32 y, decide (y ≠ q))

/-- The quotient by 2^g lies in the Q1.31 range. -/
def convFits (a : Int) (g : Nat) : Bool :=
  let q := roundDiv a (2 ^ (32 + g))
  decide (-(2 ^ 31) ≤ q) && decide (q ≤ 2 ^ 31 - 1)

/-- An accumulator converted with SMM at 1: the word, and the scale g. -/
def convScaled (a : Int) : Word × Nat :=
  let g := ((List.range 9).find? (convFits a)).getD 8
  (BitVec.ofInt 32 (min (2 ^ 31 - 1) (roundDiv a (2 ^ (32 + g)))), g)

/-! ### Addressing (R266–R268) -/

/-- A pointer changed by `δ` under R267. -/
def ptrAdd (p l b : Nat) (δ : Int) : Nat :=
  if l = 0 then (((p : Int) + δ) % 65536).toNat
  else ((b : Int) + (((p : Int) - b + δ) % (l : Int))).toNat % 65536

/-- The reversal of the low `k` bits. -/
def revBits (k x : Nat) : Nat := (List.range k).foldl (fun n i => n + ((x >>> i) % 2) * 2 ^ (k - 1 - i)) 0

/-- The k with `l` = 2^k, from 1 to 14 (R268). -/
def revSize (l : Nat) : Option Nat := (List.range' 1 14).find? fun k => 2 ^ k = l

/-- A pointer under bit-reversed post-modification (R268). -/
def ptrRev (p m l b : Nat) : Option Nat :=
  (revSize l).map fun k =>
    let off := (((p : Int) - b) % (2 ^ k : Nat)).toNat
    (b + revBits k ((revBits k off + revBits k (m % 2 ^ k)) % 2 ^ k)) % 65536

/-- P, M (signed), L and B of index `n` as address generation sees them. -/
def Core.ptr (k : Core) (at' n : Nat) : Nat := (k.see at' (tdKey k.shadow (0x20 + n))).toNat % 65536
def Core.modifier (k : Core) (at' n : Nat) : Int := toS 16 ((k.see at' (tdKey k.shadow (0x28 + n))).toNat)
def Core.len (k : Core) (at' n : Nat) : Nat := (k.see at' (tdKey k.shadow (0x30 + n))).toNat % 65536
def Core.base (k : Core) (at' n : Nat) : Nat := (k.see at' (tdKey k.shadow (0x38 + n))).toNat % 65536

/-- The address of a single access and the pointer afterwards (R266); none where bit-reversed mode has no legal length. -/
def Core.addr (k : Core) (at' am n : Nat) (off : BitVec 6) : Option (Nat × Nat) :=
  let p := k.ptr at' n
  let step (δ : Int) : Nat := ptrAdd p (k.len at' n) (k.base at' n) δ
  match am with
  | 0 => some (p, p)
  | 1 => some (p, step 1)
  | 2 => some (p, step (-1))
  | 3 => some (step 1, step 1)
  | 4 => some (step (-1), step (-1))
  | 5 => some (p, step (k.modifier at' n))
  | 6 => some ((((p : Int) + off.toInt) % 65536).toNat, p)
  | _ => (ptrRev p (ofS 16 (k.modifier at' n)) (k.len at' n) (k.base at' n)).map fun q => (p, q)

/-- The address of one half of a dual access: indirect, post-increment, post-decrement, post-modify (R304). -/
def Core.addr2 (k : Core) (at' am n : Nat) : Nat × Nat :=
  (k.addr at' ([0, 1, 2, 5].getD am 0) n 0).getD (0, 0)

end Sys2Proof.Machine
end

