-- ==== Sys2Proof/Machine/TdIsa.lean ====
section
/-!
DEFINITION. The encodings of the Transit DSP's slots (R296–R309): from an operation to its 32-bit slot word, and back.  A
word decodes only when every bit is as the encoding has it, so a reserved opcode and an unused field that is not 0
decode to nothing (R297).
-/

namespace Sys2Proof.Machine

open Sys2Proof

/-! ### Slot M (R300, R301) -/

def mulCode : MulKind → Nat
  | .mpy => 1 | .mac => 2 | .msu => 3 | .mpyi => 4 | .maci => 5 | .msui => 6

def accCode : AccKind → Nat
  | .adda => 0x09 | .suba => 0x0A | .mova => 0x0B | .nega => 0x0C | .absa => 0x0D

def aluCode : AluKind → Nat
  | .add => 0x10 | .sub => 0x11 | .adds => 0x12 | .subs => 0x13 | .and => 0x15 | .or => 0x16 | .xor => 0x17
  | .min => 0x1C | .max => 0x1D

def shiftCode : ShiftKind → Nat
  | .asr => 0x18 | .lsr => 0x19 | .lsl => 0x1A

/-- Form MR, and form MI with its immediate in place of RB and AS (R300). -/
def formMR (mop ad rd ra rb src : Nat) : Word :=
  BitVec.ofNat 32 (mop * 2 ^ 26 + ad * 2 ^ 24 + rd * 2 ^ 20 + ra * 2 ^ 16 + rb * 2 ^ 12 + src * 2 ^ 10)

def formMI (mop ad rd ra imm : Nat) : Word :=
  BitVec.ofNat 32 (mop * 2 ^ 26 + ad * 2 ^ 24 + rd * 2 ^ 20 + ra * 2 ^ 16 + imm)

/-- The slot word of an operation of slot M. -/
def encM (o : MOp) : Word :=
  match o with
  | .nop => 0
  | .mul k ad ra rb => formMR (mulCode k) ad 0 ra rb 0
  | .clr ad => formMR 0x08 ad 0 0 0 0
  | .acc k ad src => formMR (accCode k) ad 0 0 0 src
  | .sha ad n => formMI 0x0E ad 0 0 n.toNat
  | .lda ad ra => formMR 0x0F ad 0 ra 0 0
  | .alu k rd ra rb => formMR (aluCode k) 0 rd ra rb 0
  | .cmp ra rb => formMR 0x14 0 0 ra rb 0
  | .shift k rd ra n => formMI (shiftCode k) 0 rd ra n
  | .addi rd ra imm => formMI 0x1B 0 rd ra imm.toNat
  | .abs rd ra => formMR 0x1E 0 rd ra 0 0
  | .neg rd ra => formMR 0x1F 0 rd ra 0 0

/-- Field `w` bits wide at bit `lo` of a slot word. -/
def slotField (x : Word) (lo w : Nat) : Nat := x.toNat / 2 ^ lo % 2 ^ w

def fin4 (n : Nat) : Fin 4 := ⟨n % 4, by omega⟩
def fin8 (n : Nat) : Fin 8 := ⟨n % 8, by omega⟩
def fin16 (n : Nat) : Fin 16 := ⟨n % 16, by omega⟩
def fin32 (n : Nat) : Fin 32 := ⟨n % 32, by omega⟩

/-- What the fields of a word say, read as the operation that its MOP names. -/
def readM (x : Word) : Option MOp :=
  let ad := fin4 (slotField x 24 2)
  let rd := fin16 (slotField x 20 4)
  let ra := fin16 (slotField x 16 4)
  let rb := fin16 (slotField x 12 4)
  let src := fin4 (slotField x 10 2)
  match slotField x 26 6 with
  | 0x00 => some .nop
  | 0x01 => some (.mul .mpy ad ra rb)
  | 0x02 => some (.mul .mac ad ra rb)
  | 0x03 => some (.mul .msu ad ra rb)
  | 0x04 => some (.mul .mpyi ad ra rb)
  | 0x05 => some (.mul .maci ad ra rb)
  | 0x06 => some (.mul .msui ad ra rb)
  | 0x08 => some (.clr ad)
  | 0x09 => some (.acc .adda ad src)
  | 0x0A => some (.acc .suba ad src)
  | 0x0B => some (.acc .mova ad src)
  | 0x0C => some (.acc .nega ad src)
  | 0x0D => some (.acc .absa ad src)
  | 0x0E => some (.sha ad (BitVec.ofNat 6 (slotField x 0 6)))
  | 0x0F => some (.lda ad ra)
  | 0x10 => some (.alu .add rd ra rb)
  | 0x11 => some (.alu .sub rd ra rb)
  | 0x12 => some (.alu .adds rd ra rb)
  | 0x13 => some (.alu .subs rd ra rb)
  | 0x14 => some (.cmp ra rb)
  | 0x15 => some (.alu .and rd ra rb)
  | 0x16 => some (.alu .or rd ra rb)
  | 0x17 => some (.alu .xor rd ra rb)
  | 0x18 => some (.shift .asr rd ra (fin32 (slotField x 0 5)))
  | 0x19 => some (.shift .lsr rd ra (fin32 (slotField x 0 5)))
  | 0x1A => some (.shift .lsl rd ra (fin32 (slotField x 0 5)))
  | 0x1B => some (.addi rd ra (BitVec.ofNat 16 (slotField x 0 16)))
  | 0x1C => some (.alu .min rd ra rb)
  | 0x1D => some (.alu .max rd ra rb)
  | 0x1E => some (.abs rd ra)
  | 0x1F => some (.neg rd ra)
  | _ => none

/-- The operation of slot M that a word is; none where a bit is not as its encoding has it (R297). -/
def decM (x : Word) : Option MOp := (readM x).filter fun o => encM o = x

/-! ### Slot L (R303–R309) -/

/-- The slot word of an operation of slot L. -/
def encL (o : LOp) : Word :=
  match o with
  | .nop => 0
  | .ld reg path am pn off =>
    BitVec.ofNat 32 (0x01 * 2 ^ 26 + reg.toNat * 2 ^ 19 + path.toNat * 2 ^ 18 + am * 2 ^ 15 + pn * 2 ^ 12 + off.toNat * 2 ^ 6)
  | .st reg am pn off => BitVec.ofNat 32 (0x02 * 2 ^ 26 + reg.toNat * 2 ^ 19 + am * 2 ^ 15 + pn * 2 ^ 12 + off.toNat * 2 ^ 6)
  | .ldd dx dy amx px amy py =>
    BitVec.ofNat 32 (0x03 * 2 ^ 26 + dx * 2 ^ 22 + dy * 2 ^ 18 + amx * 2 ^ 16 + px * 2 ^ 13 + amy * 2 ^ 11 + py * 2 ^ 8)
  | .mov dst src => BitVec.ofNat 32 (0x04 * 2 ^ 26 + dst.toNat * 2 ^ 19 + src.toNat * 2 ^ 12)
  | .movi dst imm => BitVec.ofNat 32 (0x05 * 2 ^ 26 + dst.toNat * 2 ^ 19 + imm.toNat)
  | .movih dst imm => BitVec.ofNat 32 (0x06 * 2 ^ 26 + dst.toNat * 2 ^ 19 + imm.toNat)
  | .srset mask => BitVec.ofNat 32 (0x07 * 2 ^ 26 + mask.toNat)
  | .srclr mask => BitVec.ofNat 32 (0x08 * 2 ^ 26 + mask.toNat)
  | .br cond target => BitVec.ofNat 32 (0x10 * 2 ^ 26 + cond * 2 ^ 22 + target.toNat)
  | .call target => BitVec.ofNat 32 (0x11 * 2 ^ 26 + target.toNat)
  | .ret => BitVec.ofNat 32 (0x12 * 2 ^ 26)
  | .reti1 => BitVec.ofNat 32 (0x13 * 2 ^ 26)
  | .reti2 => BitVec.ofNat 32 (0x14 * 2 ^ 26)
  | .doI ofs count => BitVec.ofNat 32 (0x15 * 2 ^ 26 + ofs.toNat * 2 ^ 16 + count.toNat)
  | .dor dn ofs => BitVec.ofNat 32 (0x16 * 2 ^ 26 + dn * 2 ^ 22 + ofs.toNat)
  | .enddo t target => BitVec.ofNat 32 (0x17 * 2 ^ 26 + t.toNat * 2 ^ 25 + target.toNat)
  | .wait => BitVec.ofNat 32 (0x18 * 2 ^ 26)
  | .tapd ad sub px amx py amy =>
    BitVec.ofNat 32 (0x20 * 2 ^ 26 + ad * 2 ^ 24 + sub.toNat * 2 ^ 23 + px * 2 ^ 20 + amx * 2 ^ 18 + py * 2 ^ 15 + amy * 2 ^ 13)

/-- What the fields of a word say, read as the operation that its LOP names. -/
def readL (x : Word) : Option LOp :=
  let reg := BitVec.ofNat 7 (slotField x 19 7)
  let am := fin8 (slotField x 15 3)
  let pn := fin8 (slotField x 12 3)
  let off := BitVec.ofNat 6 (slotField x 6 6)
  let imm := BitVec.ofNat 16 (slotField x 0 16)
  let target := BitVec.ofNat 13 (slotField x 0 13)
  match slotField x 26 6 with
  | 0x00 => some .nop
  | 0x01 => some (.ld reg (slotField x 18 1 == 1) am pn off)
  | 0x02 => some (.st reg am pn off)
  | 0x03 => some (.ldd (fin16 (slotField x 22 4)) (fin16 (slotField x 18 4)) (fin4 (slotField x 16 2))
      (fin8 (slotField x 13 3)) (fin4 (slotField x 11 2)) (fin8 (slotField x 8 3)))
  | 0x04 => some (.mov reg (BitVec.ofNat 7 (slotField x 12 7)))
  | 0x05 => some (.movi reg imm)
  | 0x06 => some (.movih reg imm)
  | 0x07 => some (.srset (BitVec.ofNat 6 (slotField x 0 6)))
  | 0x08 => some (.srclr (BitVec.ofNat 6 (slotField x 0 6)))
  | 0x10 => some (.br (fin16 (slotField x 22 4)) target)
  | 0x11 => some (.call target)
  | 0x12 => some .ret
  | 0x13 => some .reti1
  | 0x14 => some .reti2
  | 0x15 => some (.doI (BitVec.ofNat 10 (slotField x 16 10)) imm)
  | 0x16 => some (.dor (fin16 (slotField x 22 4)) (BitVec.ofNat 10 (slotField x 0 10)))
  | 0x17 => some (.enddo (slotField x 25 1 == 1) target)
  | 0x18 => some .wait
  | 0x20 => some (.tapd (fin4 (slotField x 24 2)) (slotField x 23 1 == 1) (fin8 (slotField x 20 3)) (fin4 (slotField x 18 2))
      (fin8 (slotField x 15 3)) (fin4 (slotField x 13 2)))
  | _ => none

/-- The operation of slot L that a word is; none where a bit is not as its encoding has it (R297). -/
def decL (x : Word) : Option LOp := (readL x).filter fun o => encL o = x

end Sys2Proof.Machine
end

