-- ==== Sys2Proof/Machine/TdOps.lean ====
section
/-!
DEFINITION. The Transit DSP cores' operations (09): states, fetch and loop-end decisions, the data address space,
faults and recovery, entries and returns, and the run of one bundle through the pipeline.
-/

namespace Sys2Proof.Machine

open Sys2Proof

def Dev.core (d : Dev) (c : Nat) : Core := tabGet d.td c
def Dev.modCore (d : Dev) (c : Nat) (f : Core → Core) : Dev := { d with td := tabMod d.td c f }

/-- The state code of a core (R290). -/
def Dev.tdState (d : Dev) (c : Nat) : Nat := d.fg (R.TD_STATUS c) F.TD_STATUS_STATE

/-- TD_STATUS follows the core: SMM, BANK, LVL, LDEPTH and PC. -/
def Dev.tdSync (d : Dev) (c : Nat) : Dev :=
  let k := d.core c
  let sr := k.reg (kSR k.shadow)
  let s := R.TD_STATUS c
  ((((d.fsb s F.TD_STATUS_SMM (sr.getLsbD 31)).fsb s F.TD_STATUS_BANK k.shadow).fs s F.TD_STATUS_LVL k.lvl).fs s
    F.TD_STATUS_LDEPTH (sr.toNat / 2 ^ 24 % 4)).fs s F.TD_STATUS_PC k.f0.addr

/-- A core enters a state; entering HALTED, FAULTED or RUNNING from another raises its source, and EMPTY, HALTED and
FAULTED clear the pending triggers (R286, R290, R295).  A core that enters EMPTY or FAULTED loses its active sources (R344). -/
def Dev.setTdState (d : Dev) (c st : Nat) : Dev :=
  if d.tdState c = st then d else
  let d := d.fs (R.TD_STATUS c) F.TD_STATUS_STATE st
  let d := if st = 0 ∨ st = 1 ∨ st = 4 then d.fs (R.TD_TRIG_STATUS c) F.TD_TRIG_STATUS_PENDING 0 else d
  let d := if st = 0 ∨ st = 4 then d.forceComplete (c + 1) else d
  if st = 1 ∨ st = 2 ∨ st = 4 then d.raise (339 + 4 * c) else d

/-! ### Memories (R253, R254, R259) -/

/-- The window of a core in REGWIN, and the offset of a data word of its X or Y bank. -/
def tdWindow (c : Nat) : Nat := 0x200000 + 0x80000 * c
def tdData (c addr : Nat) : Nat := if addr < 0x4000 then tdWindow c + 0x10000 + 4 * addr else tdWindow c + 0x20000 + 4 * (addr - 0x4000)

/-- The slot words of a bundle of the program SRAM: slot M, slot L (R296). -/
def Dev.bundle (d : Dev) (c a : Nat) : Word × Word := (d.rd (tdWindow c + 8 * a), d.rd (tdWindow c + 8 * a + 4))

/-- A data word as a load at stage number `n` sees it (R310). -/
def Dev.tdMem (d : Dev) (c n addr : Nat) : Word :=
  let off := tdData c addr
  match ((d.core c).memPend.filter fun w => w.1 ≤ n && w.2.1 = off).getLast? with
  | some w => w.2.2
  | none => d.rd off

/-! ### The data address space (R254–R258) -/

/-- A load path may read an address (R254, R255). -/
def tdLoadOk (yPath : Bool) (a : Nat) : Bool :=
  if a < 0x4000 then !yPath
  else if a < 0x8000 then yPath
  else a < 0x88C0 || (0x9800 ≤ a && a ≤ 0x9807 && !yPath)

/-- A store may write an address. -/
def tdStoreOk (a : Nat) : Bool :=
  a < 0x8000 || (0x9000 ≤ a && a < 0x9200 && a % 8 < 5) || a = 0x9804 || a = 0x9806

/-- The Q1.31 view of a signal: its binary32 value over the core's scale, rounded and saturated (R256). -/
def sigView (s scale : Word) : Word :=
  let x := f32Parts s
  let y := f32Parts scale
  if y.1 = 0 then 0 else
  let e := x.2 - y.2 + 31
  let q := if 0 ≤ e then roundDiv (x.1 * 2 ^ e.toNat) y.1.natAbs else roundDiv x.1 (y.1.natAbs * 2 ^ (-e).toNat)
  BitVec.ofInt 32 (clampI (-(2 ^ 31)) (2 ^ 31 - 1) q)

/-- The value of a load from the signal window, the encoder positions, the evaluation sequence or the core I/O, whose
latches a load of a lower word has filled already. -/
def Dev.tdIo (d : Dev) (c a : Nat) : Word :=
  if a < 0x8400 then sigView (d.rd (R.CE_AX_SIG ((a - 0x8000) / 16) (a % 16))) (d.rd (R.TD_SIGSCALE c (a % 16)))
  else if a < 0x8800 then d.rd (R.CE_AX_SIG ((a - 0x8400) / 16) (a % 16))
  else if a < 0x8880 then
    let e := (a - 0x8800) / 2
    if a % 2 = 0 then d.rd (R.ENC_POS e)
    else (tabGet (d.core c).encHi e).getD (d.rd (R.ENC_POS e + 4))
  else if a < 0x88C0 then (d.ceAx (a - 0x8880)).seq
  else if a = 0x9800 then toW d.ns
  else if a = 0x9801 then (d.core c).timeHi
  else if a = 0x9802 then toW (d.core c).cause1
  else if a = 0x9803 then toW (d.core c).cause2
  else if a = 0x9805 then (match d.nextFor (c + 1) with
    | some s => d.claimWord s
    | none => 0x80000000)
  else if a = 0x9807 then toW (d.core c).cycles
  else 0

/-- What a load does beside reading: the latches of TIME_L and of a lower encoder word, and the claim (R255, R257, R342). -/
def Dev.tdLoadEffect (d : Dev) (c a : Nat) : Dev :=
  if a = 0x9800 then d.modCore c fun k => { k with timeHi := toW (d.ns / 2 ^ 32) }
  else if a = 0x9805 then (match d.nextFor (c + 1) with
    | some s => (d.claim s (c + 1)).lineUpdate c
    | none => d.lineUpdate c)
  else if 0x8800 ≤ a && a < 0x8880 then
    let e := (a - 0x8800) / 2
    let up := if a % 2 = 0 then some (d.rd (R.ENC_POS e + 4)) else none
    d.modCore c fun k => { k with encHi := tabSet k.encHi e up }
  else d

/-- The word lies in a block that a lane's stage 9 port writes: signals and evaluation sequence (R256, R258). -/
def windowWord (a : Nat) : Bool := (0x8000 ≤ a && a < 0x8800) || (0x8880 ≤ a && a < 0x88C0)

/-- A bundle that loads from such a block stalls for at most 26 cycles; for how many is a free value (R258). -/
def Dev.tdStall (d : Dev) (c : Nat) (loads : List Nat) : Dev :=
  if !loads.any windowWord then d else
  let n := Config.freeNat d.fresh % 27
  let d := d.fs (R.TD_STALLS c) ⟨0, 32⟩ (min (2 ^ 32 - 1) (d.fg (R.TD_STALLS c) ⟨0, 32⟩ + n))
  d.nextFresh.modCore c fun k => { k with cycles := k.cycles + n }

/-- The value of a load at stage number `n`. -/
def Dev.tdLoad (d : Dev) (c n a : Nat) : Word := if a < 0x8000 then d.tdMem c n a else d.tdIo c a

/-- Two loads of one bundle: the lower word of a port is latched before its upper word is read (R257). -/
def Dev.tdLoad2 (d : Dev) (c n ax ay : Nat) : Dev × Word × Word :=
  let first (a : Nat) : Bool := 0x8800 ≤ a && a < 0x8880 && a % 2 = 0
  let d := if first ax then d.tdLoadEffect c ax else d
  let d := if first ay then d.tdLoadEffect c ay else d
  let x := d.tdLoad c n ax
  let y := d.tdLoad c n ay
  let d := if first ax then d else d.tdLoadEffect c ax
  let d := if first ay then d else d.tdLoadEffect c ay
  (d, x, y)

/-- The hook of an axis is bound to the core (R289). -/
def Dev.hookBound (d : Dev) (c a h : Nat) : Bool := d.bit (R.TD_HOOK_MASK c h) a

/-- A store to a hook port (R162, R289): the hook takes the value and is fresh, or the store is discarded with HOOK_WERR.  A STANDBY
holds the value until a takeover (R459). -/
def Dev.hookStore (d : Dev) (c a h : Nat) (v : Word) : Dev :=
  if d.hookBound c a h && d.shadow then { d with pair := { d.pair with hooks := tabSet d.pair.hooks (5 * a + h) (some v) } }
  else if d.hookBound c a h then
    ({ d with ce := { d.ce with hooks := tabSet d.ce.hooks (5 * a + h) { value := v, fresh := true, stale := 0 } } }).setBit
      (R.CE_AX_STATUS a) (16 + h) false
  else d.setFlag (R.TD_FAULT c) F.TD_FAULT_HOOK_WERR.lo (338 + 4 * c)

/-- A store to a hook port or a core I/O word retires (R255, R289, R295, R342). -/
def Dev.tdPut (d : Dev) (c a : Nat) (v : Word) : Dev :=
  if a < 0x9200 then d.hookStore c ((a - 0x9000) / 8) (a % 8) v
  else if a = 0x9804 then d.raise (272 + 16 * c + v.toNat % 16)
  else d.complete v.toNat (c + 1)

/-- The place of a store in the pipeline: the REGWIN offset of a data word, or a hook port or I/O word. -/
def tdPlace (c a : Nat) : Nat := if a < 0x8000 then tdData c a else 2 ^ 24 + a

/-- Stores retire, in order. -/
def Dev.tdRetire (d : Dev) (c : Nat) (ws : List (Nat × Nat × Word)) : Dev :=
  ws.foldl (fun d w => if 2 ^ 24 ≤ w.2.1 then d.tdPut c (w.2.1 - 2 ^ 24) w.2.2 else d.wr w.2.1 w.2.2) d

/-- A store of bundle `i` (R254, R255): a data word is written when its stage comes; a hook port or I/O word at once, unless an earlier
store to one is still in the pipeline. -/
def Dev.tdStore (d : Dev) (c i a : Nat) (v : Word) : Dev :=
  if a < 0x8000 || (d.core c).memPend.any (fun w => 2 ^ 24 ≤ w.2.1) then
    d.modCore c fun k => { k with memPend := k.memPend ++ [(i + 4, tdPlace c a, v)] }
  else d.tdPut c a v

/-- The stores that stage number `n` sees are written. -/
def Dev.tdCommitMem (d : Dev) (c n : Nat) : Dev :=
  let ws := (d.core c).memPend.filter fun w => w.1 ≤ n
  (d.modCore c fun k => { k with memPend := k.memPend.filter fun w => n < w.1 }).tdRetire c ws

/-- Every bundle past DE completes: all its writes are written (R278, R284, R291). -/
def Dev.tdDrain (d : Dev) (c : Nat) : Dev :=
  let ws := (d.core c).memPend
  (d.modCore c fun k => { k.drain with memPend := [] }).tdRetire c ws

/-- Cycles in which no bundle issues pass on a core: how many is a free value. -/
def Dev.tdGap (d : Dev) (c : Nat) : Dev := d.nextFresh.modCore c fun k => { k with cycles := k.cycles + Config.freeNat d.fresh }

/-! ### Fetch and loop-end decisions (R269–R272, R281) -/

/-- LDEPTH as the register of key `dk` holds it. -/
def Core.depth (k : Core) (dk : Nat) : Nat := (k.reg dk).toNat / 2 ^ 24 % 4
def Core.setDepth (k : Core) (dk v : Nat) : Core :=
  k.setReg dk ((k.reg dk &&& ~~~(0x3000000 : BitVec 72)) ||| BitVec.ofNat 72 (v % 4 * 2 ^ 24))

/-- The register that holds the LDEPTH of the code being fetched, and its bank: behind a RETI1 the main bank, behind a RETI2
the saved SR_FLAGS (R279–R281). -/
def Core.depthKey (k : Core) : Nat := if k.ret = 2 then kSSR2 else kSR (k.shadow && k.ret ≠ 1)
def Core.fetchBank (k : Core) : Bool := k.shadow && k.ret ≠ 1

/-- The fetch of a bundle with its loop-end decision (R270): the core, the record, and the next address. -/
def Core.fetch (k : Core) (a : Nat) : Core × Fetched × Nat :=
  let dk := k.depthKey
  let dep := k.depth dk
  let rec0 : Fetched := { addr := a, depth := dep, dkey := dk }
  let next := (a + 1) % 2 ^ 13
  if dep = 0 then (k, rec0, next) else
  let j := dep - 1
  let kLC := bankKey k.fetchBank (0x40 + j)
  let le := (k.reg (bankKey k.fetchBank (0x48 + j))).toNat
  let lc := (k.reg kLC).toNat
  if a ≠ le ∨ lc = 0 then (k, rec0, next)
  else if 1 < lc then
    (k.setReg kLC (BitVec.ofNat 72 (lc - 1)), { rec0 with lc := some (kLC, k.reg kLC) },
      (k.reg (bankKey k.fetchBank (0x44 + j))).toNat)
  else ((k.setReg kLC 0).setDepth dk (dep - 1), { rec0 with lc := some (kLC, k.reg kLC) }, (le + 1) % 2 ^ 13)

/-- The loop-end decision of a discarded bundle is undone (R281). -/
def Core.undo (k : Core) (f : Fetched) : Core :=
  let k := match f.lc with | some (key, v) => k.setReg key v | none => k
  k.setDepth f.dkey f.depth

/-- Issue starts at an address: the two bundles that come first are fetched. -/
def Core.refill (k : Core) (a : Nat) : Core :=
  let (k, f0, n1) := k.fetch a
  let (k, f1, n2) := k.fetch n1
  { k with f0 := f0, f1 := f1, nf := n2, ds := 0 }

/-- A register code that DE or fetch writes: the loop registers, LNK and SR_FLAGS. -/
def isLate (c : Nat) : Bool := 0x40 ≤ c && c ≤ 0x4D

/-- The outstanding read of a register that DE writes is done, on `look`, the core as the reading bundle's EX1 finds it (R262, R283). -/
def Core.lateDo (k look : Core) : Core :=
  match k.late with
  | none => k
  | some x =>
    let v := { look with shadow := x.bank, lvl := x.lvl }.readCode (x.num + 2) x.code
    let k := { k with late := none }
    match x.dst with
    | .inl r => k.push (codeWrite x.bank false x.num r v)
    | .inr off => { k with memPend := k.memPend ++ [(x.num + 4, off, v)] }

/-- The bundles in DE and behind it are discarded, and everything ahead of them completes. -/
def Dev.tdDiscard (d : Dev) (c : Nat) : Dev :=
  ((d.modCore c fun k => k.lateDo ((k.undo k.f1).undo k.f0)).tdDrain c).modCore c fun k => ((k.undo k.f1).undo k.f0)

/-! ### Faults and recovery (R284) -/

/-- Bits of SR_FLAGS. -/
def srBit (n : Nat) : BitVec 72 := BitVec.ofNat 72 (2 ^ n)

/-- SR_FLAGS of a bank with some bits cleared and some set. -/
def Core.srMod (k : Core) (bank : Bool) (clr set : BitVec 72) : Core :=
  k.setReg (kSR bank) ((k.reg (kSR bank) &&& ~~~clr) ||| set)

/-- Issue stops before the bundle in DE: everything ahead of it completes, and the core is HALTED (R291). -/
def Dev.tdHaltNow (d : Dev) (c : Nat) : Dev :=
  let d := (d.tdDiscard c).modCore c fun k => { k with haltReq := false, halted := true }
  let d := (d.setTdState c 1).tdSync c
  d.resolve ⟨.dspHalt, c⟩ 0 0 [toW (d.core c).f0.addr]

/-- A fault of the bundle in DE, with its recovery entry or FAULTED (R284): bit 1 ILLEGAL, 2 ADDR, 3 LOOP.  A halt that waits
stops the recovering core before its first bundle; one that finds the core FAULTED fails as DSP_HALT does there (assumption log 56). -/
def Dev.tdFault (d : Dev) (c bit : Nat) : Dev :=
  let had := d.bit (R.TD_FAULT c) 1 || d.bit (R.TD_FAULT c) 2 || d.bit (R.TD_FAULT c) 3
  let pc := (d.core c).f0.addr
  let d := (d.setFlag (R.TD_FAULT c) bit (336 + 4 * c)).fs (R.TD_FAULT_PC c) F.TD_FAULT_PC_PC pc
  let d := d.tdDiscard c
  if d.fb (R.TD_CTRL c) F.TD_CTRL_RECOVER && !had then
    let d := ((d.tdGap c).modCore c fun k =>
      (({ k with shadow := false, lvl := 0, ret := 0, ds := 0 }.setDepth (kSR false) 0).srMod false (srBit 28 ||| srBit 29) (srBit 31)).refill
        0x10).tdSync c
    if (d.core c).haltReq then d.tdHaltNow c else d
  else
    let d := ((d.modCore c fun k => { k with ret := 0, ds := 0, haltReq := false, halted := false, f0 := { addr := pc } }).setTdState c 4).tdSync c
    d.resolve ⟨.dspHalt, c⟩ 0x0301 4 []

/-! ### Requests and entries (R277–R281) -/

/-- The pending tick triggers of a core, lowest first. -/
def Dev.trigPending (d : Dev) (c : Nat) : List Nat :=
  (List.range 8).filter fun k => d.bit (R.TD_TRIG_STATUS c) k

/-- The trigger's level, 1 or 2. -/
def Dev.trigLevel (d : Dev) (c k : Nat) : Nat := if d.fb (R.TD_TRIG c k) F.TD_TRIG_LEVEL then 2 else 1

/-- The Event Router line of a core, and the level that EVR_L1 gives it. -/
def Dev.evrLine (d : Dev) (c : Nat) : Bool := tabGet d.evr.line c
def Dev.evrLevel (d : Dev) (c : Nat) : Nat := if d.fb (R.TD_CTRL c) F.TD_CTRL_EVR_L1 then 1 else 2

/-- The cause of the level-1 request that is taken next: a trigger, or 0xFF for the line (R277). -/
def Dev.request1 (d : Dev) (c : Nat) : Option Nat :=
  match (d.trigPending c).find? fun k => d.trigLevel c k = 1 with
  | some k => some k
  | none => if d.evrLine c && d.evrLevel c = 1 then some 0xFF else none

/-- The cause of the level-2 request that is taken next, the AOV trap left out (R277). -/
def Dev.request2 (d : Dev) (c : Nat) : Option Nat :=
  if d.evrLine c && d.evrLevel c = 2 then some 0xFF
  else (d.trigPending c).find? fun k => d.trigLevel c k = 2

/-- Any request is pending (R288). -/
def Dev.anyRequest (d : Dev) (c : Nat) : Bool :=
  (d.request1 c).isSome || (d.request2 c).isSome || (d.core c).aov

/-- A taken trigger is no longer pending (R285). -/
def Dev.takeCause (d : Dev) (c cause : Nat) : Dev :=
  if cause < 8 then d.setBit (R.TD_TRIG_STATUS c) cause false else d

/-- Level-1 entry (R279, R281). -/
def Dev.enter1 (d : Dev) (c cause : Nat) : Dev :=
  let pc := (d.core c).f0.addr
  let d := ((d.tdDiscard c).takeCause c cause).tdGap c
  (d.modCore c fun k =>
    { k.setReg kIPC1 (BitVec.ofNat 72 pc) with shadow := true, lvl := 1, cause1 := cause, handler := 0 }.refill 0x30).tdSync c

/-- Level-2 entry from a vector (R280, R281). -/
def Dev.enter2 (d : Dev) (c cause vec : Nat) : Dev :=
  let pc := (d.core c).f0.addr
  let d := ((d.tdDiscard c).takeCause c cause).tdGap c
  (d.modCore c fun k =>
    let sr := k.reg (kSR k.shadow) ||| BitVec.ofNat 72 (k.lvl * 2 ^ 26)
    let k := (k.setReg kIPC2 (BitVec.ofNat 72 pc)).setReg kSSR2 sr
    let k := (k.srMod k.shadow (srBit 29) 0).setDepth (kSR k.shadow) 0
    { k with lvl := 2, cause2 := cause, aov := k.aov && vec ≠ 0x20 }.refill vec).tdSync c

/-- The delay slots of a RETI1 or RETI2 have run (R279, R280): the main bank and level 0, or SR_FLAGS from SSR2 with AOV and
SAT as the OR of both; the bundles fetched meanwhile have their depth in SR_FLAGS then. -/
def Core.finishReturn (k : Core) : Core :=
  if k.ret = 1 then { k with shadow := false, lvl := 0, ret := 0 }
  else
    let key := kSR k.shadow
    let k := (k.pend.filter fun w => w.key = key).foldl (fun k w => k.setReg w.key (w.apply (k.reg w.key)))
      { k with pend := k.pend.filter fun w => w.key ≠ key }
    let ss := k.reg kSSR2
    let sticky := k.reg key &&& 0xC0
    let home (f : Fetched) : Fetched := { f with dkey := if f.dkey = kSSR2 then key else f.dkey }
    { k.setReg key ((ss &&& ~~~(0xC000000 : BitVec 72)) ||| sticky) with
      lvl := ss.toNat / 2 ^ 26 % 4, ret := 0, f0 := home k.f0, f1 := home k.f1 }

/-! ### The checks of a bundle in DE and AG (R264, R265, R268, R269, R271, R297, R303, R309) -/

/-- A control operation (R253). -/
def isControl (o : LOp) : Bool :=
  match o with
  | .br _ _ | .call _ | .ret | .reti1 | .reti2 | .doI _ _ | .dor _ _ | .enddo _ _ | .wait => true
  | _ => false

/-- A control operation with two delay slots. -/
def isBranch (o : LOp) : Bool :=
  match o with
  | .br _ _ | .call _ | .ret | .reti1 | .reti2 | .enddo _ _ => true
  | _ => false

/-- The D register that slot M writes. -/
def destM (o : MOp) : Option Nat :=
  match o with
  | .alu _ rd _ _ | .shift _ rd _ _ | .addi rd _ _ | .abs rd _ | .neg rd _ => some rd
  | _ => none

/-- The accumulator that slot M writes. -/
def destAcc (o : MOp) : Option Nat :=
  match o with
  | .mul _ ad _ _ | .clr ad | .acc _ ad _ | .sha ad _ | .lda ad _ => some ad
  | _ => none

/-- The register codes that slot L writes, pointers of addressing left out. -/
def destL (o : LOp) : List Nat :=
  match o with
  | .ld reg _ _ _ _ => [reg.toNat]
  | .ldd dx dy _ _ _ _ => [dx, dy]
  | .mov dst _ | .movi dst _ | .movih dst _ => [dst.toNat]
  | _ => []

/-- Both slots name one destination register (R264). -/
def sameDest (m : MOp) (l : LOp) : Bool :=
  (destL l).any fun c => destM m = some c || (isPart c && destAcc m = some ((c - 0x10) / 3))

/-- The register codes and unused bits of slot L are legal (R297, R298, R303–R307, R309). -/
def legalL (m : MOp) (l : LOp) : Bool :=
  match l with
  | .ld reg _ am _ off => codeOk reg.toNat && (am.val = 6 || off = 0)
  | .st reg am _ off => (codeOk reg.toNat || isConv reg.toNat) && (am.val = 6 || off = 0)
  | .ldd dx dy _ px _ py => dx ≠ dy && px ≠ py
  | .mov dst src => codeOk dst.toNat && (codeOk src.toNat || isConv src.toNat)
  | .movi dst imm =>
    codeOk dst.toNat && (isPart dst.toNat || decide (16 ≤ codeWidth dst.toNat) || decide (imm.toNat < 2 ^ codeWidth dst.toNat))
  | .movih dst _ => dst.toNat < 16
  | .br cond _ => cond.val ≤ 12
  | .enddo t target => t || target = 0
  | .tapd _ _ px _ py _ => px ≠ py && m = .nop
  | _ => true

/-- The loop count, loop offset and loop restrictions of a bundle of depth `dep` (R269, R271, R308). -/
def Core.loopFault (k : Core) (i dep : Nat) (l : LOp) (val : Option Word) : Bool :=
  let a := k.f0.addr
  let bank := k.shadow
  let le (j : Nat) : Nat := (k.reg (bankKey bank (0x48 + j))).toNat
  let ls (j : Nat) : Nat := (k.reg (bankKey bank (0x44 + j))).toNat
  let act := List.range dep
  let newLoop (ofs : Nat) : Bool :=
    dep = 3 || decide (0x1FFF < a + 3 + ofs) || (0 < dep && (decide (a + 3 < ls (dep - 1)) || decide (le (dep - 1) ≤ a + 3 + ofs)))
  (isControl l && act.any fun j => le j = a)
  || (isBranch l && act.any fun j => le j = a + 1 || le j = a + 2)
  || ((destL l).any fun c => 0x40 ≤ c && c ≤ 0x4A && c % 4 < dep)
  || (match l with
    | .doI ofs _ => newLoop ofs.toNat
    | .dor _ ofs => newLoop ofs.toNat
    | _ => false)
  || (match val with
    | some w => (destL l).contains 0x4D && w.toNat / 2 ^ 24 % 4 ≠ (k.see (i + 2) (kSR bank)).toNat / 2 ^ 24 % 4
    | none => false)

/-- The accesses of slot L are permitted (R254, R255, R303, R304, R309). -/
def Core.addrFault (k : Core) (i : Nat) (l : LOp) : Bool :=
  match l with
  | .ld _ path am pn off => (match k.addr (i + 1) am pn off with | some x => !tdLoadOk path x.1 | none => false)
  | .st _ am pn off => (match k.addr (i + 1) am pn off with | some x => !tdStoreOk x.1 | none => false)
  | .ldd _ _ amx px amy py => !tdLoadOk false (k.addr2 (i + 1) amx px).1 || !tdLoadOk true (k.addr2 (i + 1) amy py).1
  | .tapd _ _ px amx py amy =>
    let ax := (k.addr2 (i + 1) amx px).1
    let ax' := ptrAdd (k.ptr (i + 1) px) (k.len (i + 1) px) (k.base (i + 1) px) 1
    let ay := (k.addr2 (i + 1) amy py).1
    !(ax < 0x4000 && ax' < 0x4000 && 0x4000 ≤ ay && ay < 0x8000)
  | _ => false

/-- Bit-reversed mode with an illegal length (R268). -/
def Core.revFault (k : Core) (i : Nat) (l : LOp) : Bool :=
  match l with
  | .ld _ _ am pn off | .st _ am pn off => (k.addr (i + 1) am pn off).isNone
  | _ => false

/-! ### Slot M (R301, R302) -/

/-- The operands of slot M, read in EX1 of bundle `i`. -/
def Core.dreg (k : Core) (i n : Nat) : Word := (k.see (i + 2) (bankKey k.shadow n)).setWidth 32
def Core.accI (k : Core) (fwd : Bool) (i n : Nat) : Int := (k.seeF fwd (i + 2) (kAcc k.shadow n)).toInt

/-- The exact accumulator result of an operation of the MAC and accumulator groups. -/
def Core.accResult (k : Core) (i : Nat) (o : MOp) : Int :=
  match o with
  | .mul kd ad ra rb =>
    let p := (k.dreg i ra).toInt * (k.dreg i rb).toInt
    match kd with
    | .mpy => 2 * p
    | .mac => k.accI true i ad + 2 * p
    | .msu => k.accI true i ad - 2 * p
    | .mpyi => p
    | .maci => k.accI true i ad + p
    | .msui => k.accI true i ad - p
  | .acc kd ad src =>
    match kd with
    | .adda => k.accI false i ad + k.accI false i src
    | .suba => k.accI false i ad - k.accI false i src
    | .mova => k.accI false i src
    | .nega => -(k.accI false i src)
    | .absa => (k.accI false i src).natAbs
  | .sha ad n =>
    let s := n.toInt
    if 0 ≤ s then k.accI false i ad * 2 ^ s.toNat else Int.fdiv (k.accI false i ad) (2 ^ (-s).toNat : Nat)
  | .lda _ ra => (k.dreg i ra).toInt * 2 ^ 32
  | _ => 0

/-- The result and flags of an ALU operation. -/
def Core.aluResult (k : Core) (i : Nat) (o : MOp) : Word × TdFlags :=
  match o with
  | .alu kd _ ra rb =>
    let a := k.dreg i ra
    let b := k.dreg i rb
    match kd with
    | .add => (a + b, flagsAdd a b)
    | .sub => (a - b, flagsSub a b)
    | .adds => let r := sat32 (a.toInt + b.toInt); (r.1, flagsSat r)
    | .subs => let r := sat32 (a.toInt - b.toInt); (r.1, flagsSat r)
    | .and => (a &&& b, flagsLogic (a &&& b))
    | .or => (a ||| b, flagsLogic (a ||| b))
    | .xor => (a ^^^ b, flagsLogic (a ^^^ b))
    | .min => let r := if a.toInt ≤ b.toInt then a else b; (r, flagsLogic r)
    | .max => let r := if a.toInt ≤ b.toInt then b else a; (r, flagsLogic r)
  | .cmp ra rb => (0, flagsSub (k.dreg i ra) (k.dreg i rb))
  | .shift kd _ ra n =>
    let a := k.dreg i ra
    match kd with
    | .asr => let r := a.sshiftRight n; (r, flagsRight a r n)
    | .lsr => let r := a >>> n.val; (r, flagsRight a r n)
    | .lsl => let r := a <<< n.val; (r, flagsLeft a r n)
  | .addi _ ra imm => let b := imm.signExtend 32; (k.dreg i ra + b, flagsAdd (k.dreg i ra) b)
  | .abs _ ra => let r := sat32 ((k.dreg i ra).toInt.natAbs : Int); (r.1, flagsSat r)
  | .neg _ ra => let r := sat32 (-(k.dreg i ra).toInt); (r.1, flagsSat r)
  | _ => (0, {})

/-- Writes enter the pipeline one after the other. -/
def Core.pushAll (k : Core) (ws : List TdWrite) : Core := ws.foldl Core.push k

/-- The writes of flags. -/
def Core.flagWrite (k : Core) (i : Nat) (f : TdFlags) : TdWrite :=
  { due := i + 4, key := kSR k.shadow, mask := BitVec.ofNat 72 f.mask, val := BitVec.ofNat 72 f.bits }

/-- The writes of an accumulator result with its flags (R263, R275, R302). -/
def Core.accWrites (k : Core) (i : Nat) (isMac : Bool) (ad : Nat) (x : Int) : List TdWrite :=
  let r := accSat x
  [{ due := i + 5, key := kAcc k.shadow ad, mask := BitVec.allOnes 72, val := r.1, mac := isMac }, k.flagWrite i (flagsAcc r)]
  ++ (if r.2 then [{ due := i + 4, key := kSR k.shadow, mask := srBit 7, val := srBit 7, aov := true }] else [])

/-- The writes of slot M of bundle `i`. -/
def Core.writesM (k : Core) (i : Nat) (o : MOp) : List TdWrite :=
  match o with
  | .nop => []
  | .mul _ ad _ _ => k.accWrites i true ad (k.accResult i o)
  | .clr ad | .acc _ ad _ | .sha ad _ | .lda ad _ => k.accWrites i false ad (k.accResult i o)
  | _ =>
    let r := k.aluResult i o
    (match destM o with
      | some rd => [{ due := i + 3, key := bankKey k.shadow rd, mask := 0xFFFFFFFF, val := r.1.setWidth 72 }]
      | none => []) ++ [k.flagWrite i r.2]

/-- The AOV trap is requested when an accumulator result saturates while AOVE is 1 (R275). -/
def Core.aovAfter (k : Core) (i : Nat) (ws : List TdWrite) : Bool :=
  k.aov || (ws.any (·.aov) && (k.see (i + 2) (kSR k.shadow)).getLsbD 30)

/-! ### Slot L -/

/-- The value of a source code for bundle `i` of `look`, the core as its EX1 finds the loop registers, with the writes of a
converted accumulator: SAT, or SCN (R274, R276, R298). -/
def Core.source (k look : Core) (i c : Nat) : List TdWrite × Word :=
  if isConv c then
    let a := k.accI false i (c - 0x1C)
    if (k.see (i + 2) (kSR k.shadow)).getLsbD 31 then
      let r := convScaled a
      let scn := clampI (-128) 127 (toS 8 (k.see (i + 2) (bankKey k.shadow 0x4E)).toNat + r.2)
      (if r.2 = 0 then [] else [codeWrite k.shadow false i 0x4E (toWI scn)], r.1)
    else
      let r := convPlain a
      (if r.2 then [{ due := i + 4, key := kSR k.shadow, mask := srBit 6, val := srBit 6 }] else [], r.1)
  else ([], look.readCode (i + 2) c)

/-- The pointer update of address generation (R263, R266); the indirect and indexed modes have none. -/
def Core.ptrWrites (k : Core) (i am n v : Nat) : List TdWrite :=
  if am = 0 ∨ am = 6 then [] else
  [{ due := i + 2, key := tdKey k.shadow (0x20 + n), mask := 0xFFFF, val := BitVec.ofNat 72 v }]

/-- MASK of SRSET and SRCLR as bits of SR_FLAGS (R306). -/
def srMask (m : BitVec 6) : BitVec 72 :=
  (List.range 6).foldl (fun x j => if m.getLsbD j then x ||| srBit ([31, 30, 29, 28, 7, 6].getD j 0) else x) 0

/-- A read of a register that DE writes is outstanding until the next bundle's DE (R262, R283). -/
def Dev.setLate (d : Dev) (c i : Nat) (k : Core) (code : Nat) (dst : Nat ⊕ Nat) : Dev :=
  d.modCore c fun x => { x with late := some { num := i, code := code, bank := k.shadow, lvl := k.lvl, dst := dst } }

/-- The data operations of slot L of bundle `i`, loads, stores, moves and TAPD: what they do to the device at once, and the
register writes that enter the pipeline. -/
def Dev.tdRunL (d : Dev) (c i : Nat) (k look : Core) (l : LOp) : Dev × List TdWrite :=
  let put (load : Bool) (code : Nat) (w : Word) : TdWrite := codeWrite k.shadow load i code w
  match l with
  | .ld reg _ am pn off =>
    match k.addr (i + 1) am pn off with
    | none => (d, [])
    | some (a, p) =>
      ((d.tdStall c [a]).tdLoadEffect c a, k.ptrWrites i am pn p ++ [put true reg.toNat (d.tdLoad c (i + 2) a)])
  | .st reg am pn off =>
    match k.addr (i + 1) am pn off with
    | none => (d, [])
    | some (a, p) =>
      let (ws, v) := k.source look i reg.toNat
      (if isLate reg.toNat then d.setLate c i k reg.toNat (.inr (tdPlace c a)) else d.tdStore c i a v,
        k.ptrWrites i am pn p ++ ws)
  | .ldd dx dy amx px amy py =>
    let x := k.addr2 (i + 1) amx px
    let y := k.addr2 (i + 1) amy py
    let (d, vx, vy) := (d.tdStall c [x.1, y.1]).tdLoad2 c (i + 2) x.1 y.1
    (d, k.ptrWrites i amx px x.2 ++ k.ptrWrites i amy py y.2 ++ [put true dx vx, put true dy vy])
  | .mov dst src =>
    let (ws, v) := k.source look i src.toNat
    if isLate src.toNat then (d.setLate c i k src.toNat (.inl dst.toNat), []) else (d, ws ++ [put false dst.toNat v])
  | .movi dst imm => (d, [put false dst.toNat (imm.signExtend 32)])
  | .movih dst imm =>
    (d, [{ due := i + 3, key := bankKey k.shadow dst.toNat, mask := 0xFFFF0000, val := imm.setWidth 72 <<< 16 }])
  | .srset m => (d, [{ due := i + 3, key := kSR k.shadow, mask := srMask m, val := srMask m }])
  | .srclr m => (d, [{ due := i + 3, key := kSR k.shadow, mask := srMask m, val := 0 }])
  | .tapd ad sub px amx py amy =>
    let x := k.addr2 (i + 1) amx px
    let y := k.addr2 (i + 1) amy py
    let s := d.tdMem c (i + 2) x.1
    let p := s.toInt * (d.tdMem c (i + 2) y.1).toInt * 2
    let x' := ptrAdd (k.ptr (i + 1) px) (k.len (i + 1) px) (k.base (i + 1) px) 1
    let a := k.accI true i ad
    (d.tdStore c i x' s, k.ptrWrites i amx px x.2 ++ k.ptrWrites i amy py y.2 ++ k.accWrites i true ad (if sub then a - p else a + p))
  | _ => (d, [])

/-- A branch condition holds (R307). -/
def condHolds (cond : Nat) (sr : BitVec 72) : Bool :=
  let n := sr.getLsbD 3
  let z := sr.getLsbD 2
  let v := sr.getLsbD 1
  let cf := sr.getLsbD 0
  match cond with
  | 0 => true
  | 1 => z
  | 2 => !z
  | 3 => n != v
  | 4 => n == v
  | 5 => !z && n == v
  | 6 => z || n != v
  | 7 => n
  | 8 => !n
  | 9 => v
  | 10 => !v
  | 11 => cf
  | _ => !cf

/-- The control operation of slot L in DE of the bundle at address `a`, of loop depth `dep` (R265, R269, R272, R279, R280,
R307): the core, the depth that the two bundles behind see, and where fetch continues after them.  The count of a DOR is read from
`data`, where it sees what a data operation of its bundle sees (R263, R308). -/
def Core.control (k data : Core) (a dep : Nat) (l : LOp) : Core × Nat × Option Nat :=
  let bank := k.shadow
  let loop (ofs count : Nat) : Core × Nat × Option Nat :=
    let le := a + 3 + ofs
    let k := ((k.writeDE (bankKey bank (0x40 + dep)) (BitVec.ofNat 72 count)).writeDE (bankKey bank (0x44 + dep))
      (BitVec.ofNat 72 (a + 3))).writeDE (bankKey bank (0x48 + dep)) (BitVec.ofNat 72 le)
    if count = 0 then ({ k with ds := 3 }, dep, some ((le + 1) % 2 ^ 13))
    else ({ k.setDepth (kSR bank) (dep + 1) with ds := 3 }, dep + 1, none)
  match l with
  | .br cond t => if condHolds cond (k.reg (kSR bank)) then ({ k with ds := 3 }, dep, some t.toNat) else ({ k with ds := 3 }, dep, none)
  | .call t => ({ k.writeDE (bankKey bank 0x4C) (BitVec.ofNat 72 ((a + 3) % 2 ^ 13)) with ds := 3 }, dep, some t.toNat)
  | .ret => ({ k with ds := 3 }, dep, some (k.reg (bankKey bank 0x4C)).toNat)
  | .reti1 => ({ k with ds := 3, ret := 1 }, dep, some (k.reg kIPC1).toNat)
  | .reti2 => ({ k with ds := 3, ret := 2 }, dep, some (k.reg kIPC2).toNat)
  | .doI ofs count => loop ofs.toNat count.toNat
  | .dor dn ofs => loop ofs.toNat ((data.see (data.cyc + 2) (bankKey bank dn)).toNat % 65536)
  | .enddo t target =>
    ({ k.setDepth (kSR bank) (dep - 1) with ds := 3 }, dep - 1, if t then some target.toNat else none)
  | _ => (k, dep, none)

/-! ### The run of a bundle -/

/-- TD_RUNTIME at the end of a level-1 handler; the stalled cycles in it are open. -/
def Dev.tdRuntime (d : Dev) (c : Nat) : Dev :=
  let n := min 65535 ((d.core c).handler + Config.freeNat d.fresh)
  ((d.fs (R.TD_RUNTIME c) F.TD_RUNTIME_LAST n).fs (R.TD_RUNTIME c) F.TD_RUNTIME_MAX (max n (d.fg (R.TD_RUNTIME c) F.TD_RUNTIME_MAX))).nextFresh

/-- What follows a bundle: the end of a return's delay slots, a pending halt at an eligible bundle, WAIT. -/
def Dev.tdAfter (d : Dev) (c : Nat) (isWait : Bool) : Dev :=
  let k := d.core c
  let d := if k.ret ≠ 0 && k.ds = 0 then
      let d := if k.ret = 1 then d.tdRuntime c else d
      d.modCore c fun k => (k.lateDo ((k.commit k.cyc).fetch k.nf).1).finishReturn
    else d
  let d := if isWait then ((d.tdDiscard c).setTdState c 3) else d
  let d := d.tdSync c
  if (d.core c).haltReq && (d.core c).ds = 0 then d.tdHaltNow c else d

/-- The loop depth that the bundle in DE stands in, and its faults, by the stage that finds them (R264, R265, R268, R269,
R271, R297, R303). -/
def Dev.tdFaultOf (d : Dev) (c : Nat) (m : Option MOp) (l : Option LOp) : Option Nat :=
  let k := (d.core c).lateDo ((d.core c).fetch (d.core c).nf).1
  let i := k.cyc
  match m, l with
  | some mo, some lo =>
    if !legalL mo lo || sameDest mo lo || (isControl lo && k.ds ≠ 0) then some 1
    else
      let val := match lo with
        | .mov dst src => if dst.toNat = 0x4D then some (k.source k i src.toNat).2 else none
        | .movi _ imm => some (imm.signExtend 32)
        | .ld reg path am pn off =>
          if reg.toNat = 0x4D then
            (match k.addr (i + 1) am pn off with
              | some x => if tdLoadOk path x.1 then some (d.tdLoad c (i + 2) x.1) else none
              | none => none)
          else none
        | _ => none
      if k.loopFault i k.f0.depth lo val then some 3
      else if k.revFault i lo then some 1
      else if k.addrFault i lo then some 2
      else none
  | _, _ => some 1

/-- What the stages have committed when the next bundle of a core issues (R262). -/
def Dev.tdCommit (d : Dev) (c : Nat) : Dev := (d.modCore c fun k => k.commit k.cyc).tdCommitMem c (d.core c).cyc

/-- A bundle without a fault issues, with the operations `mo` in slot M and `lo` in slot L (R262–R312). -/
def Dev.tdExec (d : Dev) (c : Nat) (mo : MOp) (lo : LOp) : Dev :=
  let k := d.core c
  let i := k.cyc
  let (k1, f2, next) := k.fetch k.nf
  let (k2, dep, target) := k1.control (k1.lateDo k1) k.f0.addr k.f0.depth lo
  let k := k.lateDo k2
  let k3 := { k2.lateDo k2 with
    f0 := { k.f1 with depth := if dep = k.f0.depth then k.f1.depth else dep }
    f1 := { f2 with depth := if dep = k.f0.depth then f2.depth else dep }
    nf := target.getD next, cyc := i + 1, ds := k2.ds - 1, handler := k.handler + 1, cycles := k.cycles + 1 }
  let look := ((k3.commit (i + 1)).fetch k3.nf).1
  let d := d.modCore c fun _ => k3
  let (d, wl) := d.tdRunL c i k look lo
  let wm := k.writesM i mo
  let d := d.modCore c fun x => { x.pushAll (wl ++ wm) with aov := k.aovAfter i (wl ++ wm) }
  d.tdAfter c (lo = .wait)

/-- The bundle in DE of a running core, with slot words `m` and `l`, is run: it issues, or it faults (R262–R312). -/
def Dev.tdIssue (d : Dev) (c : Nat) (m l : Word) : Dev :=
  let d := d.tdCommit c
  match d.tdFaultOf c (decM m) (decL l) with
  | some bit => d.tdFault c bit
  | none => d.tdExec c ((decM m).getD .nop) ((decL l).getD .nop)

/-- A core runs the bundle whose slot words are `m` and `l`: it is RUNNING and that is its next bundle. -/
def Dev.tdRun (d : Dev) (c : Nat) (m l : Word) : Dev :=
  if d.tdState c = 2 && d.bundle c (d.core c).f0.addr = (m, l) then d.tdIssue c m l else d

end Sys2Proof.Machine
end

