-- ==== Sys2Proof/Machine/TdCmd.lean ====
section
/-!
DEFINITION. The commands of the Transit DSP cores (09): loading an image, start, halt, and the binding of hooks.
-/

namespace Sys2Proof.Machine

open Sys2Proof

/-! ### DSP_LOAD_IMAGE (R292–R294) -/

/-- The word of an image that is wrong (R293, R294): words 0–6 and 8–15. -/
def imageWordBad (l : List Byte) (k : Nat) : Bool :=
  let w (i : Nat) : Nat := ((leWords (slice l (4 * i) 4)).getD 0 0).toNat
  match k with
  | 0 => w 0 ≠ 0x34364454
  | 1 => w 1 ≠ 0x00010000
  | 2 => w 2 % 8 ≠ 0 || w 2 < 8 || 65536 < w 2
  | 3 => w 3 % 4 ≠ 0 || 65536 < w 3
  | 4 => w 4 % 4 ≠ 0 || 65536 < w 4
  | 5 => 1 < w 5
  | 6 => w 6 ≠ (if w 5 = 1 then 144 else 0)
  | 7 => false
  | k => k < 16 && w k ≠ 0

/-- Word `k` of an image as a number. -/
def imageNat (l : List Byte) (k : Nat) : Nat := ((leWords (slice l (4 * k) 4)).getD 0 0).toNat

/-- The bytes of the parts of an image: program, X and Y. -/
def imageParts (l : List Byte) : Nat := imageNat l 2 + imageNat l 3 + imageNat l 4

/-- What fails an image's header: a wrong word, with its index; parts that do not sum to the length, with W4's. -/
def dspHeadFail (l : List Byte) : Option (Nat × Nat) :=
  match (List.range 16).find? (imageWordBad l) with
  | some k => some (0x0201, k)
  | none => if 64 + imageParts l + imageNat l 6 ≠ l.length then some (0x0201, 4) else none

/-- The CRC of an image differs from its word 7 (R293). -/
def dspCrcBad (l : List Byte) : Bool := (crc32c (slice l 64 (imageParts l))).toNat ≠ imageNat l 7

/-- What fails an image before its signature: its header, or the CRC, with 7. -/
def dspImageFail (l : List Byte) : Option (Nat × Nat) :=
  (dspHeadFail l).orElse fun _ => if dspCrcBad l then some (0x0201, 7) else none

/-- Words from a REGWIN offset on. -/
def Dev.wrWords (d : Dev) (off : Nat) (l : List Word) : Dev :=
  match l with
  | [] => d
  | w :: r => (d.wr off w).wrWords (off + 4) r

/-- The memories of a core are zero. -/
def Dev.zeroMemories (d : Dev) (c : Nat) : Dev :=
  { d with regs := d.regs.filter fun e => e.1 < tdWindow c || tdWindow c + 0x30000 ≤ e.1 }

/-- A load has failed in its CRC or signature: whether the memories were written before the failure was found is open, and where they were
the core enters EMPTY, with its memories zero (R290, R294, assumption log 56). -/
def Dev.dspSpoiled (d : Dev) (c : Nat) : Dev :=
  let d' := d.nextFresh
  if Config.freeBool d.fresh then
    (((d'.zeroMemories c).modCore c fun k => { ({} : Core) with trigDue := k.trigDue, cycles := k.cycles }).setTdState c 0).tdSync c
  else d'

/-- The memories of a core hold an image and are zero beyond it (R293). -/
def Dev.loadMemories (d : Dev) (c : Nat) (l : List Byte) : Dev :=
  let p := imageNat l 2
  let x := imageNat l 3
  let y := imageNat l 4
  let base := tdWindow c
  let d := d.zeroMemories c
  ((d.wrWords base (leWords (slice l 64 p))).wrWords (base + 0x10000) (leWords (slice l (64 + p) x))).wrWords (base + 0x20000)
    (leWords (slice l (64 + p + x) y))

/-- DSP_LOAD_IMAGE loads the memories of a core from its staging region. -/
def specDspLoadImage : OpSpec where
  len _ := 2
  check d p :=
    let c := tix p
    let off := (pw p 3).toNat
    let n := (pw p 4).toNat
    let l := d.bulkBytes (imageBase c + off) n
    let runs := d.tdState c = 2 || d.tdState c = 3
    match failOf [(off % 8 ≠ 0, 0x0201, 3), (0x80000 < off + n || n < 64, 0x0201, 4)] with
    | some e => some e
    | none => if runs then (dspImageFail l).orElse fun _ => some (0x0301, d.tdState c) else dspHeadFail l
  run d p :=
    let c := tix p
    let l := d.bulkBytes (imageBase c + (pw p 3).toNat) (pw p 4).toNat
    if dspCrcBad l then .done (d.dspSpoiled c) 0x0201 7 [] else
    match d.policyFail l (imageNat l 5 = 1) (d.fb R.SEC_LC F.SEC_LC_DSP) with
    | some (st, det) => .done ((if st = 0x0501 then d.sigFail else d).dspSpoiled c) st det []
    | none =>
      let crc := toW (imageNat l 7)
      let d := ((d.loadMemories c l).wr (R.TD_IMAGE c) crc).modCore c fun k => { k with halted := false }
      .done (d.setTdState c 1) 0 0 [crc]

/-- DSP_LOAD_IMAGE (R292). -/
def execDspLoadImage (p : Packet) (s : State) : Out := s.onDev fun d => d.runOp 0x0600 specDspLoadImage p

/-! ### DSP_START, DSP_HALT (R290–R292) -/

/-- A halted core resumes from its halted PC, with every register as it stood (R291). -/
def Dev.tdResume (d : Dev) (c : Nat) : Dev :=
  (((d.tdGap c).modCore c fun k => { k.refill k.f0.addr with halted := false }).setTdState c 2).tdSync c

/-- DSP_START with mode 0: both banks, IPC1, IPC2 and SSR2 are cleared, SR_FLAGS takes its reset value, the sources active on the core
are completed (R344), and fetch starts at 0.  A trigger whose tick has passed still comes. -/
def Dev.tdRestart (d : Dev) (c : Nat) : Dev :=
  let d := (d.forceComplete (c + 1)).tdGap c
  ((d.modCore c fun k => { ({} : Core).refill 0 with trigDue := k.trigDue, cycles := k.cycles }).setTdState c 2).tdSync c

/-- DSP_START starts a core; TD_RUNTIME.MAX counts from here. -/
def specDspStart : OpSpec where
  len _ := 1
  check d p :=
    let c := tix p
    let st := d.tdState c
    failOf [(pb p 3 31 1 ≠ 0, 0x0201, 3),
            (pb p 3 0 0 = 1 && !(st = 1 && (d.core c).halted), 0x0301, st),
            (pb p 3 0 0 = 0 && !(st = 1 || st = 4), 0x0301, st)]
  run d p :=
    let c := tix p
    .done ((if pb p 3 0 0 = 1 then d.tdResume c else d.tdRestart c).fs (R.TD_RUNTIME c) F.TD_RUNTIME_MAX 0) 0 0 (words64 d.ns)

/-- DSP_START (R291, R292). -/
def execDspStart (p : Packet) (s : State) : Out := s.onDev fun d => d.runOp 0x0601 specDspStart p

/-- A halt is requested of a RUNNING or WAITING core (R291): it stops before the first eligible bundle. -/
def Dev.tdHalt (d : Dev) (c : Nat) : Dev :=
  if d.tdState c = 3 || (d.core c).ds = 0 then d.tdHaltNow c else d.modCore c fun k => { k with haltReq := true }

/-- DSP_HALT halts a core. -/
def specDspHalt : OpSpec where
  len _ := 0
  check d p := let st := d.tdState (tix p); if st = 0 ∨ st = 4 then some (0x0301, st) else none
  run d p :=
    let c := tix p
    if d.tdState c = 1 then .done d 0 0 [toW (d.core c).f0.addr]
    else
      let d := d.tdHalt c
      if d.tdState c = 1 then .done d 0 0 [toW (d.core c).f0.addr] else .wait d [⟨.dspHalt, c⟩] []

/-- DSP_HALT (R291, R292). -/
def execDspHalt (p : Packet) (s : State) : Out := s.onDev fun d => d.runOp 0x0602 specDspHalt p

/-! ### DSP_BIND_HOOK (R289, R292) -/

/-- DSP_BIND_HOOK binds a hook of an axis to a core, or unbinds it, at the next tick boundary of the axis's lane. -/
def specDspBindHook : OpSpec where
  len _ := 1
  check d p :=
    let c := tix p
    let a := pb p 3 5 0
    let h := pb p 3 10 8
    failOf [(pb p 3 30 11 ≠ 0 || pb p 3 7 6 ≠ 0 || 4 < h, 0x0201, 3),
            (!wbit (pw p 3) 31 && !d.hookBound c a h, 0x0205, 3),
            (d.active a && d.bit (R.CE_AX_HOOK a) h, 0x0301, d.axState a),
            (wbit (pw p 3) 31 && (List.range 4).any fun k => k ≠ c && d.hookBound k a h, 0x0303, 0)]
  run d p :=
    let c := tix p
    let a := pb p 3 5 0
    let h := pb p 3 10 8
    let bit := toW (2 ^ (a % 32))
    let (d, g) := d.queueWrites [(R.TD_HOOK_MASK c h + 4 * (a / 32), bit, if wbit (pw p 3) 31 then bit else 0)] (some (laneOf a))
    .wait d [⟨.write, g⟩] []

/-- DSP_BIND_HOOK (R289). -/
def execDspBindHook (p : Packet) (s : State) : Out := s.onDev fun d => d.runOp 0x0603 specDspBindHook p

end Sys2Proof.Machine
end

