-- ==== Sys2Proof/Machine/TraverseOps.lean ====
section
/-!
DEFINITION. The Traverse controller's operations (13): the schedule, the checks of a received frame, rate and offset
correction, integration, composing and sending frames, and delivery.
-/

namespace Sys2Proof.Machine

open Sys2Proof

/-! ### State and schedule (R356, R358, R362) -/

def Dev.trvState (d : Dev) : Nat := d.fg R.TRV_STATUS F.TRV_STATUS_STATE
def Dev.trvNode (d : Dev) : Nat := d.fg R.TRV_STATUS F.TRV_STATUS_NODE
def Dev.trvRank (d : Dev) : Nat := d.fg R.TRV_CFG F.TRV_CFG_RANK
def Dev.modTrv (d : Dev) (f : TrvSt → TrvSt) : Dev := { d with trv := f d.trv }

/-- C, AP and WIN in ns. -/
def Dev.trvC (d : Dev) : Nat := 1000 * d.fg R.TRV_CYCLE F.TRV_CYCLE_CYCLE
def Dev.trvAP (d : Dev) : Nat := 20 * d.fg R.TRV_TIMING F.TRV_TIMING_AP
def Dev.trvWIN (d : Dev) : Nat := 20 * d.fg R.TRV_TIMING F.TRV_TIMING_WIN

/-- The schedule's fields of slot `j`. -/
def Dev.slotStart (d : Dev) (j : Nat) : Nat := 20 * d.fg (R.TRV_SLOT j) F.TRV_SLOT_START
def Dev.slotKind (d : Dev) (j : Nat) : Nat := d.fg (R.TRV_SLOT j) F.TRV_SLOT_KIND
def Dev.slotOwner (d : Dev) (j : Nat) : Nat := d.fg (R.TRV_SLOT j) F.TRV_SLOT_OWNER
def Dev.slotWords (d : Dev) (j : Nat) : Nat := d.fg (R.TRV_SLOT_X j) F.TRV_SLOT_X_WORDS
def Dev.slotFlags (d : Dev) (j : Nat) : Bool := d.fb (R.TRV_SLOT_X j) F.TRV_SLOT_X_FLAGS
def Dev.slotRecs (d : Dev) (j : Nat) : Nat := d.fg (R.TRV_SLOT_X j) F.TRV_SLOT_X_NREC
def Dev.nslot (d : Dev) : Nat := d.fg R.TRV_CYCLE F.TRV_CYCLE_NSLOT

/-- The duration of a frame in ns (R355). -/
def frameNs (words : Nat) : Nat := (82 + 32 * words) * 20

/-- The fields of a header word (R356). -/
def hCyc (h : Word) : Nat := wbits h 31 28
def hAge (h : Word) : Nat := wbits h 27 20
def hWords (h : Word) : Nat := wbits h 19 14
def hKind (h : Word) : Nat := wbits h 13 11
def hNode (h : Word) : Nat := wbits h 9 6
def hSlot (h : Word) : Nat := wbits h 5 0

def mkHdr (cyc age words kind node slot : Nat) : Word :=
  toW (cyc % 16 * 2 ^ 28 + age % 256 * 2 ^ 20 + words % 64 * 2 ^ 14 + kind % 8 * 2 ^ 11 + node % 16 * 2 ^ 6 + slot % 64)

/-- A bit of TRV_ERR is set; its level source is raised (R384). -/
def Dev.trvErr (d : Dev) (f : Fld) (src : Nat) : Dev := d.setFlag R.TRV_ERR f.lo src

/-- The controller enters a state; LISTEN from SYNC or HOLDOVER, and SYNC, raise their sources (R384).  A JOIN that waits
completes at SYNC (R382). -/
def Dev.setTrvState (d : Dev) (st : Nat) : Dev :=
  let old := d.trvState
  if old = st then d else
  let d := d.fs R.TRV_STATUS F.TRV_STATUS_STATE st
  if st = 3 then
    (d.raise 354).resolve ⟨.trvJoin, 0⟩ 0 0 ([d.rd R.TRV_STEP, d.rd (R.TRV_STEP + 4)] ++ [d.rd R.TRV_CYCLE_COUNT])
  else if st = 1 then
    let d := d.modTrv fun t => { t with first := none, oLeft := 0, oClocks := 0 }
    if old = 3 ∨ old = 4 then d.raise 353 else d
  else d

/-- Local time within the schedule: whole cycles since the present cycle's start, and the rest. -/
def Dev.cyclesAt (d : Dev) (t : Nat) : Int := Int.fdiv ((t : Int) - d.trv.cycStart) d.trvC
def Dev.inCycle (d : Dev) (t : Nat) : Int := Int.fmod ((t : Int) - d.trv.cycStart) d.trvC

/-- The local cycle number at an instant. -/
def Dev.localCycle (d : Dev) (t : Nat) : Nat := (((d.rd R.TRV_CYCLE_COUNT).toNat : Int) + d.cyclesAt t).toNat

/-- The expected frame start of slot `j` after its cycle's start (R358, R366); a datum frame of rank `r` comes 2 µs later for
each rank. -/
def Dev.expected (d : Dev) (j r : Nat) : Int :=
  if j = 0 then (d.trvAP + 2000 * r : Nat) else (d.slotStart j + d.trvAP : Nat)

/-- The slot in whose acceptance window a frame start lies (R366). -/
def Dev.slotAt (d : Dev) (t r : Nat) : Option Nat :=
  (List.range d.nslot).find? fun j => (j = 0 || d.slotKind j ≠ 0) && ((d.inCycle t - d.expected j r).natAbs ≤ d.trvWIN)

/-! ### Checks of a received frame (R357) -/

/-- The frame's CRC matches. -/
def frCrcOk (f : TrvFrame) : Bool := crcWords (f.hdr :: f.payload) = f.crc

/-- The rank that a datum payload names, and its T_D, cycle number and SCHED_ID (R360). -/
def frRank (f : TrvFrame) : Nat := wbits (f.payload.getD 3 0) 17 16
def frTd (f : TrvFrame) : Nat := pair64 (f.payload.getD 0 0) (f.payload.getD 1 0)
def frCycle (f : TrvFrame) : Nat := (f.payload.getD 2 0).toNat
def frSched (f : TrvFrame) : Nat := wbits (f.payload.getD 3 0) 15 0

def isDatum (f : TrvFrame) : Bool := hKind f.hdr = 1 || hKind f.hdr = 5

/-- What a received frame is: valid in a slot, or invalid by window, by CRC, or otherwise. -/
inductive RxVerdict where
  | valid (slot : Nat)
  | boundary
  | crc
  | hdr
  deriving DecidableEq, Repr

/-- The checks of R357 on a frame: in LISTEN a datum frame meets no window and no cycle number (R357, R364).  A frame that fails several
counts for the window, then for the CRC (DESIGN CHOICE, assumption log 59). -/
def Dev.rxCheck (d : Dev) (f : TrvFrame) : RxVerdict :=
  if d.trvState = 1 && isDatum f then
    if !frCrcOk f then .crc
    else if f.payload.length = 4 && hWords f.hdr = 4 && hSlot f.hdr = 0 then .valid 0 else .hdr
  else match d.slotAt f.start (if isDatum f then (frRank f) else 0) with
  | none => .boundary
  | some j =>
    if !frCrcOk f then .crc
    else if hSlot f.hdr = j && hWords f.hdr = d.slotWords j && f.payload.length = d.slotWords j
      && (hKind f.hdr = d.slotKind j || (j = 0 && hKind f.hdr = 5))
      && (j = 0 || hNode f.hdr = d.slotOwner j) && hCyc f.hdr = d.localCycle f.start % 16 then .valid j
    else .hdr

/-- An invalid frame is counted (R357). -/
def Dev.rxBad (d : Dev) (v : RxVerdict) : Dev :=
  match v with
  | .valid _ => d
  | .boundary => (d.satInc R.TRV_COUNTS F.TRV_COUNTS_BOUNDARY).trvErr F.TRV_ERR_BOUNDARY 356
  | .crc => (d.satInc R.TRV_COUNTS F.TRV_COUNTS_CRC).trvErr F.TRV_ERR_CRC 356
  | .hdr => (d.satInc R.TRV_COUNTS F.TRV_COUNTS_HDR).trvErr F.TRV_ERR_HDR 356

/-! ### Rate and offset correction, integration (R363, R364) -/

/-- e = t_meas − t_exp in ns (R363). -/
def Dev.datumError (d : Dev) (f : TrvFrame) : Int :=
  (f.start : Int) - (((frTd f) : Int) + d.trvAP + 2000 * (frRank f) + d.fg (R.TRV_PROP (frRank f)) F.TRV_PROP_PROP)

/-- The largest rate correction, 1,100 ppm (R363). -/
def rhoMax : Int := 11811160

/-- The rate correction after a datum frame with error `e`, `m` cycles after the last one (R363); its integer is the nearest. -/
def Dev.newRho (d : Dev) (e : Int) (m sh : Nat) : Int :=
  let num := ((e - d.trv.ePrev) * 2 ^ 32 - d.trv.oPrev) * 5
  clampI (-rhoMax) rhoMax (d.rate - roundDiv num (2 * m * d.trvC * 2 ^ sh))

/-- ρ takes a value; TRV_SYNC shows it and e. -/
def Dev.setRho (d : Dev) (rho e : Int) : Dev :=
  ({ d with rate := rho }.fs R.TRV_SYNC F.TRV_SYNC_RHO (ofS 32 rho)).fs R.TRV_SYNC F.TRV_SYNC_OFFSET (ofS 32 e)

/-- The registers that every taken datum frame sets. -/
def Dev.datumTaken (d : Dev) (f : TrvFrame) : Dev :=
  let d := d.wr R.TRV_CYCLE_COUNT (toW (frCycle f))
  let s := R.TRV_STATUS
  let d := (((d.fsb s F.TRV_STATUS_ACTING false).fs s F.TRV_STATUS_DRANK (frRank f)).fs s F.TRV_STATUS_DNODE (hNode f.hdr)).fs s F.TRV_STATUS_MISS 0
  d.modTrv fun t => { t with cycStart := (frTd f), miss := 0 }

/-- A datum frame with another SCHED_ID (R364); it corrects nothing in any state (DEDUCED, assumption log 59). -/
def Dev.schedMismatch (d : Dev) : Dev :=
  if d.fb R.TRV_STATUS F.TRV_STATUS_SCHED_MISMATCH then d
  else (d.fsb R.TRV_STATUS F.TRV_STATUS_SCHED_MISMATCH true).raise 360

/-- A valid datum frame in SYNC, HOLDOVER or LEAVING corrects rate and offset, and HOLDOVER ends (R362, R363). -/
def Dev.datumCorrect (d : Dev) (f : TrvFrame) : Dev :=
  if d.dozing then d.datumTaken f else
  let e := d.datumError f
  let rho := d.newRho e (d.trv.miss + 1) (d.fg R.TRV_TIMING F.TRV_TIMING_RATE_SH)
  let o := Int.fdiv (-e * 2 ^ 32) (2 ^ d.fg R.TRV_TIMING F.TRV_TIMING_OFS_SH)
  let d := (d.datumTaken f).setRho rho e
  let d := d.modTrv fun t => { t with ePrev := e, oPrev := o, oLeft := t.oLeft + o, oClocks := d.trvC * 2 / 5 }
  if d.trvState = 5 then d else d.setTrvState 3

/-- The first datum frame of an integration steps device time by −e (R23, R364). -/
def Dev.datumFirst (d : Dev) (f : TrvFrame) : Dev :=
  let e := d.datumError f
  let d := { d with time := ((d.time : Int) - e * 2 ^ 32).toNat, stepped := true }
  let d := (d.wrS R.TRV_STEP (-e)).datumTaken f
  let d := d.fsb R.TRV_STATUS F.TRV_STATUS_SCHED_MISMATCH false
  d.modTrv fun t => { t with
    first := some (((f.start : Int) - e).toNat, (frCycle f)), ePrev := 0, oPrev := 0, oLeft := 0, oClocks := 0, goodA := frCycle f, goodB := frCycle f }

/-- A valid datum frame in LISTEN (R364). -/
def Dev.datumListen (d : Dev) (f : TrvFrame) : Dev :=
  match d.trv.first with
  | some (t0, c0) =>
    if ((f.start : Int) - t0 - d.trvC).natAbs ≤ d.trvWIN && (frCycle f) = (c0 + 1) % 2 ^ 32 then
      let e := d.datumError f
      let rho := d.newRho e 1 0
      let d := (d.datumTaken f).setRho rho e
      (d.modTrv fun t => { t with first := none, ePrev := e, oPrev := -e * 2 ^ 32, oLeft := -e * 2 ^ 32, oClocks := d.trvC * 2 / 5 }).setTrvState 3
    else d.datumFirst f
  | none => d.datumFirst f

/-- A valid datum frame is taken: it integrates in LISTEN, and corrects outside it (R363, R364). -/
def Dev.datumTake (d : Dev) (f : TrvFrame) : Dev :=
  if frSched f ≠ d.fg R.TRV_CFG F.TRV_CFG_SCHED_ID then d.schedMismatch
  else if d.trvState = 1 then d.datumListen f
  else d.datumCorrect f

/-! ### The guardian and sending (R361, R367–R371, R373, R380) -/

/-- The guardian blocks a frame of its node (R369). -/
def Dev.guardianBlocks (d : Dev) : Bool :=
  !(d.trvState = 3 || d.trvState = 4)
  || (!d.fb R.TRV_STATUS F.TRV_STATUS_ACTING && d.trvWIN < 2 * (d.fgS R.TRV_SYNC F.TRV_SYNC_OFFSET).natAbs)
  || 2 ≤ d.fg R.TRV_STATUS F.TRV_STATUS_MISS
  || d.fb R.TRV_STATUS F.TRV_STATUS_SCHED_MISMATCH

/-- CH_EN names channel A, channel B. -/
def Dev.chA (d : Dev) : Bool := d.bit R.TRV_CFG 30
def Dev.chB (d : Dev) : Bool := d.bit R.TRV_CFG 31

/-- A frame with a header starts on channel A, on channel B or on both. -/
def Dev.trvOut (d : Dev) (j : Nat) (h : Word) (ws : List Word) (a b : Bool) : Dev :=
  let f : TrvFrameOut := { slot := j, hdr := h, words := ws, crc := crcWords (h :: ws), chA := a, chB := b, deFell := d.ns + frameNs ws.length }
  d.modTrv fun t => { t with out := some f, lastTx := tabSet t.lastTx j (some (h, ws)) }

/-- An own frame is sent, or as the Squall injector has it (R533): not at all, the previous one in its place, or one cycle late, when the
next one takes the sending after it; an inverted bit is seen by the receivers alone. -/
def Dev.trvFrame (d : Dev) (j : Nat) (h : Word) (ws : List Word) (a b : Bool) : Dev :=
  match tabGet d.trv.lateTx j with
  | some (second, h', ws') =>
    (d.modTrv fun t => { t with lateTx := tabSet t.lateTx j (if second then none else some (true, h, ws)) }).trvOut j h' ws' a b
  | none =>
    let (d, hit) := d.squall 1 1 [j] 0
    match hit, tabGet d.trv.lastTx j with
    | some (_, 0), _ => d
    | some (_, 2), some (h', ws') => d.trvOut j h' ws' a b
    | some (_, 3), _ => d.modTrv fun t => { t with lateTx := tabSet t.lateTx j (some (false, h, ws)) }
    | _, _ => d.trvOut j h ws a b

/-- A frame starts on the channels that are enabled and not busy (R367), and each busy one counts; none of them: nothing is sent. -/
def Dev.transmit (d : Dev) (j kind age cyc : Nat) (ws : List Word) (busyA busyB : Bool) : Dev × Bool :=
  let a := d.chA && !busyA
  let b := d.chB && !busyB
  let d := d.each (List.range ((d.chA && busyA).toNat + (d.chB && busyB).toNat)) fun d _ =>
    (d.trvErr F.TRV_ERR_TX_BLOCKED 357).satInc R.TRV_COUNTS F.TRV_COUNTS_GUARD
  if a || b then (d.trvFrame j (mkHdr cyc age ws.length kind d.trvNode j) ws a b, true) else (d, false)

/-- The guardian's verdict on an own frame: blocked, with its bits and count, or permitted. -/
def Dev.guarded2 (d : Dev) : Dev × Bool :=
  if d.guardianBlocks then
    (((d.fsb R.TRV_STATUS F.TRV_STATUS_GUARD true).trvErr F.TRV_ERR_GUARD 357).satInc R.TRV_COUNTS F.TRV_COUNTS_GUARD, true)
  else (d.fsb R.TRV_STATUS F.TRV_STATUS_GUARD false, false)

/-- The payload of a datum frame (R360). -/
def Dev.datumWords (d : Dev) (td cyc : Nat) : List Word :=
  words64 td ++ [toW cyc, toW (d.trvRank % 4 * 2 ^ 16 + d.fg R.TRV_CFG F.TRV_CFG_SCHED_ID)]

/-- The node sends the datum frame of the cycle that starts at `td` with number `cyc` (R361, R370); one of COLDSTART counts. -/
def Dev.sendDatum (d : Dev) (kind td cyc : Nat) (busyA busyB : Bool) : Dev :=
  let (d, sent) := d.transmit 0 kind 0 cyc (d.datumWords td cyc) busyA busyB
  if !sent then d else
  let d := d.wr R.TRV_CYCLE_COUNT (toW cyc)
  let s := R.TRV_STATUS
  let d := (((d.fsb s F.TRV_STATUS_ACTING true).fs s F.TRV_STATUS_DRANK d.trvRank).fs s F.TRV_STATUS_DNODE d.trvNode).fs s F.TRV_STATUS_MISS 0
  let d := d.modTrv fun t => { t with cycStart := td, miss := 0, ePrev := 0, oPrev := 0, oLeft := 0, oClocks := 0, csSent := if kind = 5 then t.csSent + 1 else t.csSent }
  if kind = 1 && 0 < d.trvRank && !d.fb R.TRV_ERR F.TRV_ERR_TAKEOVER then (d.fsb R.TRV_ERR F.TRV_ERR_TAKEOVER true).raise 355 else d

/-- The start and the number of the cycle that an own send instant belongs to. -/
def Dev.cycleNow (d : Dev) : Nat × Nat :=
  let n := d.cyclesAt d.ns
  (((d.trv.cycStart : Int) + n * d.trvC).toNat, d.localCycle d.ns % 2 ^ 32)

/-- The flag word of an own data frame (R376). -/
def Dev.ownFlags (d : Dev) : Nat :=
  (d.rd64 R.TRV_TX_FLAGS ||| (if d.fb R.TRV_CFG F.TRV_CFG_MIRROR then d.rd64 R.INTERP_SYNC else 0)) &&& d.rd64 R.TRV_FLAG_OWN

/-- The velocity between the two latest good samples of a port, in 2^−16 counts/s. -/
def Dev.sampleVel (d : Dev) (e : Nat) : Int :=
  match (tabGet d.enc.ports e).hist.filter (·.good) with
  | x :: y :: _ => if y.time < x.time then roundDiv ((x.pos - y.pos) * 1000000000) (256 * (x.time - y.time)) else 0
  | _ => 0

/-- A position record (R378). -/
def Dev.posRecord (d : Dev) (k : Nat) : List Word :=
  let c := R.TRV_POS_TX k
  let a := d.fg c F.TRV_POS_TX_AXIS
  let e := d.fg (R.AXIS_BIND a) F.AXIS_BIND_ENC
  let actual := d.fb c F.TRV_POS_TX_KIND
  let valid := d.bound a && !d.fb (R.ENC_STATUS e) F.ENC_STATUS_FAILED
  let w0 := (if actual then 2 ^ 31 else 0) + (if valid then 2 ^ 30 else 0) + d.fg c F.TRV_POS_TX_RECORD
  let (p, v, t) := if actual then (d.actual a, d.sampleVel e, d.rd64 (R.ENC_TIME e))
    else ((d.ax a).pCmd, (d.ax a).vCmd, tabGet d.servoNs (laneOf a))
  toW w0 :: (words64 (ofS 64 p) ++ words64 (ofS 64 v) ++ words64 t)

/-- The payload of an own data slot (R376). -/
def Dev.dataWords (d : Dev) (j : Nat) : List Word :=
  let fl := if d.slotFlags j then words64 d.ownFlags ++ words64 (d.rd64 R.TRV_FLAG_OWN) else []
  let recs := ((List.range 8).filter fun k => d.fb (R.TRV_POS_TX k) F.TRV_POS_TX_EN && d.fg (R.TRV_POS_TX k) F.TRV_POS_TX_SLOT = j).flatMap d.posRecord
  let n := d.slotWords j - (fl ++ recs).length
  fl ++ recs ++ (List.range n).map fun w => d.rd (R.TRV_TXUSER j w)

/-- The payload of a reply slot (R63, R380): a segment of the packet being sent, or of the next one that waits; a header with
WORDS 0 when none waits. -/
def Dev.replySlot (d : Dev) (j : Nat) : Dev × List Word :=
  let n := d.slotWords j
  let cur : Option (Nat × Nat × List Word) := match d.trv.reply with
    | some x => some x
    | none => d.cmd.travOut.head?.map fun r => (0, 0, replyWords r)
  let d := if d.trv.reply.isNone then { d with cmd := { d.cmd with travOut := d.cmd.travOut.drop 1 } } else d
  match cur with
  | none => (d, List.replicate n 0)
  | some (q, seg, ws) =>
    let part := ws.take (n - 1)
    let rest := ws.drop (n - 1)
    let hd := toW (q * 2 ^ 30 + (if seg = 0 then 2 ^ 29 else 0) + (if rest.isEmpty then 2 ^ 28 else 0) + seg % 256 * 2 ^ 20 + part.length)
    (d.modTrv fun t => { t with reply := if rest.isEmpty then none else some (q, seg + 1, rest) },
      (hd :: part) ++ List.replicate (n - 1 - part.length) 0)

/-! ### Delivery (R374–R381) -/

/-- The flag word changes to `v`; a change raises source 361 (R377, R384). -/
def Dev.setRxFlags (d : Dev) (v : Nat) : Dev :=
  if d.rd64 R.TRV_RX_FLAGS = v then d else (d.wr64 R.TRV_RX_FLAGS v).raise 361

/-- The bits that `mask` selects come from `w`. -/
def Dev.mergeRxFlags (d : Dev) (w mask : Nat) : Dev :=
  let old := d.rd64 R.TRV_RX_FLAGS
  d.setRxFlags ((old - (old &&& mask)) + (w &&& mask))

/-- The records of a delivered data frame: record number, and its seven words. -/
def recordsOf (n : Nat) (ws : List Word) : List (Nat × List Word) :=
  (List.range n).map fun i => let r := (ws.drop (7 * i)).take 7; (wbits (r.getD 0 0) 4 0, r)

/-- Record `r` at a delivery instant of its slot (R379). -/
def Dev.recordDelivery (d : Dev) (r age : Nat) (w : Option (List Word)) : Dev :=
  let st := R.TRV_RXAGE r
  match w with
  | some ws =>
    let d := (d.wr (R.TRV_RXPOS r) (ws.getD 1 0)).wr (R.TRV_RXPOS r + 4) (ws.getD 2 0)
    let d := (d.wr (R.TRV_RXVEL r) (ws.getD 3 0)).wr (R.TRV_RXVEL r + 4) (ws.getD 4 0)
    let d := (d.wr (R.TRV_RXTIME r) (ws.getD 5 0)).wr (R.TRV_RXTIME r + 4) (ws.getD 6 0)
    (d.fs st F.TRV_RXAGE_AGE age).fsb st F.TRV_RXAGE_KIND (wbit (ws.getD 0 0) 31)
  | none => d.satInc st F.TRV_RXAGE_AGE

/-- The records that are taken from slot `j`. -/
def Dev.recordsFrom (d : Dev) (j : Nat) : List Nat :=
  (List.range 32).filter fun r => d.fb (R.TRV_POS_RXCFG r) F.TRV_POS_RXCFG_EN && d.fg (R.TRV_POS_RXCFG r) F.TRV_POS_RXCFG_SLOT = j

/-- What a slot delivers: the latest valid frame, if any, or what the Squall injector has held back from the cycle before (R533); it is taken
out. -/
def Dev.slotContents (d : Dev) (j : Nat) : Dev × Option SlotRx :=
  let new := tabGet d.trv.rx j
  let (got, late) : Option SlotRx × Option (Nat × SlotRx) := match tabGet d.trv.lateRx j with
    | some (0, f) => (none, some (1, f))
    | some (1, f) => (some f, new.map fun g => (2, g))
    | some (_, f) => (some f, none)
    | none => (new, none)
  (d.modTrv fun t => { t with rx := tabSet t.rx j none, lateRx := tabSet t.lateRx j late
                              lastRx := if got.isSome then tabSet t.lastRx j got else t.lastRx }, got)

/-- A slot's delivery instant (R374–R381). -/
def Dev.deliverSlot (d : Dev) (j : Nat) : Dev :=
  let k := d.slotKind j
  let cmd := k = 3 && d.fg (R.TRV_SLOT j) F.TRV_SLOT_TNODE = d.trvNode
  let own := k = 2 && d.slotOwner j = d.trvNode
  let d := if own && d.slotFlags j then d.mergeRxFlags d.trv.flagsOut (d.rd64 R.TRV_FLAG_OWN) else d
  let (d, got) := d.slotContents j
  match got with
  | none =>
    let d := d.satInc (R.TRV_RXHDR j) F.TRV_RXHDR_RXAGE
    let d := d.each (d.recordsFrom j) fun d r => d.recordDelivery r 0 none
    if cmd then d.modTrv fun t => { t with cmdSlots := t.cmdSlots ++ [none] } else d
  | some f =>
    let h := R.TRV_RXHDR j
    let d := ((d.fs h F.TRV_RXHDR_AGE (hAge f.hdr)).fs h F.TRV_RXHDR_RXAGE 0).wrapInc h F.TRV_RXHDR_DCOUNT
    let d := d.each (List.range f.words.length) fun d w => d.wr (R.TRV_RXWORD j w) (f.words.getD w 0)
    let d := if k = 2 && d.slotFlags j then
        d.mergeRxFlags (pair64 (f.words.getD 0 0) (f.words.getD 1 0)) (pair64 (f.words.getD 2 0) (f.words.getD 3 0))
      else d
    let recs := if k = 2 then recordsOf (d.slotRecs j) (if d.slotFlags j then f.words.drop 4 else f.words) else []
    let d := d.each (d.recordsFrom j) fun d r =>
      d.recordDelivery r (hAge f.hdr) ((recs.find? fun x => x.1 = r && wbit (x.2.getD 0 0) 30).map (·.2))
    if cmd then
      if wbits (f.words.getD 0 0) 7 0 = 0 then d.modTrv fun t => { t with cmdSlots := t.cmdSlots ++ [none] }
      else (d.modTrv fun t => { t with cmdSlots := t.cmdSlots ++ [some f.words] }).raise 352
    else d

end Sys2Proof.Machine
end

