-- ==== Sys2Proof/Machine/Traverse.lean ====
section
/-!
DEFINITION. The Traverse bus's events and commands (13).
-/

namespace Sys2Proof.Machine

open Sys2Proof

/-! ### Reception (R357, R363, R364, R370, R371, R374, R384) -/

/-- A valid frame of a channel: its OK bit reads 1 again (R384). -/
def Dev.chanGood (d : Dev) (a b : Bool) (cyc : Nat) : Dev :=
  let d := if a then (d.fsb R.TRV_STATUS F.TRV_STATUS_A_OK true).modTrv fun t => { t with goodA := cyc } else d
  if b then (d.fsb R.TRV_STATUS F.TRV_STATUS_B_OK true).modTrv fun t => { t with goodB := cyc } else d

/-- A valid frame of slot `j` is taken (R357). -/
def Dev.takeFrame (d : Dev) (j : Nat) (f : TrvFrame) : Dev :=
  let d := if isDatum f then d.datumTake f else d
  d.modTrv fun t => { t with rx := tabSet t.rx j (some { hdr := f.hdr, words := f.payload }) }

/-- The cycle number of a frame: in LISTEN that of a datum frame, else the local one. -/
def Dev.frameCycle (d : Dev) (f : TrvFrame) : Nat := if d.trvState = 1 && isDatum f then frCycle f else d.localCycle f.start

/-- The frames of both channels in one slot: each is checked, and that of channel A is used when both are valid (R357). -/
def Dev.rxBoth (d : Dev) (a b : Option TrvFrame) : Dev :=
  let va := a.map fun f => (f, d.rxCheck f)
  let vb := b.map fun f => (f, d.rxCheck f)
  let bad (d : Dev) (v : Option (TrvFrame × RxVerdict)) : Dev := match v with | some x => d.rxBad x.2 | none => d
  match va, vb with
  | some (f, .valid j), v => (bad (d.chanGood true (match v with | some (_, .valid _) => true | _ => false) (d.frameCycle f)) v).takeFrame j f
  | v, some (f, .valid j) => (bad (d.chanGood false true (d.frameCycle f)) v).takeFrame j f
  | v, w => bad (bad d v) w

/-- What a frame on the channels does in the states of the node: in COLDSTART the node first enters LISTEN (R371). -/
def Dev.trvTake (d : Dev) (a b : Option TrvFrame) : Dev :=
  match d.trvState with
  | 0 => d
  | 2 => (d.setTrvState 1).rxBoth a b
  | _ => d.rxBoth a b

/-- A frame of slot `j` that has been taken is replaced by the previous contents, or held back for a cycle (R533). -/
def Dev.trvSwap (old d : Dev) (j mode : Nat) : Dev :=
  match tabGet d.trv.rx j with
  | none => d
  | some f =>
    if tabGet d.trv.rx j = tabGet old.trv.rx j then d
    else if mode = 2 then
      (match tabGet d.trv.lastRx j with
        | some g => d.modTrv fun t => { t with rx := tabSet t.rx j (some g) }
        | none => d)
    else if mode = 3 && (tabGet d.trv.lateRx j).isNone then
      d.modTrv fun t => { t with rx := tabSet t.rx j none, lateRx := tabSet t.lateRx j (some (0, f)) }
    else d

/-- TRAVERSE_FRAME_RECEIVE: a frame reaches the node on channel A, on channel B, or on both, or as the Squall injector has it (R533). -/
def execTraverseFrameReceive (a b : Option TrvFrame) (s : State) : Out := s.onDev fun d =>
  let a := if d.chA then a else none
  let b := if d.chB then b else none
  match a.or b with
  | none => d
  | some f =>
    let j := hSlot f.hdr
    let (d, hit) := d.squall 1 0 [j] 0
    let flip (f : TrvFrame) : TrvFrame := { f with crc := f.crc ^^^ 1 }
    match hit with
    | some (_, 0) => d
    | some (_, 1) => d.trvTake (a.map flip) (b.map flip)
    | some (_, m) => d.trvSwap (d.trvTake a b) j m
    | none => d.trvTake a b

/-- SLOT_DELIVERY: the next slot of the schedule starts, and slot `j` is delivered (R374). -/
def execSlotDelivery (j : Fin 64) (s : State) : Out := s.onDev fun d =>
  if (d.trvState = 3 ∨ d.trvState = 4 ∨ d.trvState = 5) ∧ j.val < d.nslot ∧ d.slotKind j ≠ 0 then d.deliverSlot j else d

/-- DATUM_MISS: a cycle passes with no valid datum frame (R362, R363). -/
def execDatumMiss (s : State) : Out := s.onDev fun d =>
  if d.trvState ≠ 3 ∧ d.trvState ≠ 4 then d else
  let d := d.modTrv fun t => { t with miss := t.miss + 1, oPrev := 0, cycStart := t.cycStart + d.trvC }
  let d := (d.satInc R.TRV_STATUS F.TRV_STATUS_MISS).wrapInc R.TRV_CYCLE_COUNT F.TRV_CYCLE_COUNT_CYCLE
  d.setTrvState 4

/-- NLOSS_EXPIRY: NLOSS consecutive cycles have passed with no valid datum frame (R362). -/
def execNlossExpiry (s : State) : Out := s.onDev fun d =>
  if d.trvState = 4 ∧ d.fg R.TRV_TIMING F.TRV_TIMING_NLOSS ≤ d.trv.miss then d.setTrvState 1 else d

/-- CHANNEL_FAIL: eight cycles with no valid frame on one channel while the other delivers (R384). -/
def execChannelFail (chB : Bool) (s : State) : Out := s.onDev fun d =>
  if !d.chA || !d.chB then d
  else if chB then
    if d.trv.goodB + 8 ≤ d.trv.goodA then (d.trvErr F.TRV_ERR_CH_B_FAIL 359).fsb R.TRV_STATUS F.TRV_STATUS_B_OK false else d
  else if d.trv.goodA + 8 ≤ d.trv.goodB then (d.trvErr F.TRV_ERR_CH_A_FAIL 359).fsb R.TRV_STATUS F.TRV_STATUS_A_OK false
  else d

/-! ### Sending (R361, R367–R373) -/

/-- DATA_FRAME_COMMIT: after a tick of its lane the device composes and commits an own data slot (R373). -/
def execDataFrameCommit (j : Fin 64) (s : State) : Out := s.onDev fun d =>
  if d.trvState ≠ 0 && j.val < d.nslot && d.slotKind j = 2 && d.slotOwner j = d.trvNode then
    d.modTrv fun t =>
      let b := tabGet t.tx j
      { t with tx := tabSet t.tx j { words := d.dataWords j, age := 0, atNs := d.ns, old := (b.words, b.age) } }
  else d

/-- The buffer of an own data slot that the transmitter took at S_j, AP before the send instant (R373): the latest one committed by then. -/
def Dev.txBuffer (d : Dev) (j : Nat) : List Word × Nat :=
  let b := tabGet d.trv.tx j
  if d.ns < b.atNs + d.trvAP then b.old else (b.words, b.age)

/-- A transmission of a buffer counts (R373). -/
def Dev.txCount (d : Dev) (j : Nat) (ws : List Word) : Dev :=
  let b := tabGet d.trv.tx j
  let b := if d.ns < b.atNs + d.trvAP then { b with old := (ws, min 255 (b.old.2 + 1)) } else { b with words := ws, age := min 255 (b.age + 1) }
  d.modTrv fun t => { t with
    tx := tabSet t.tx j b
    flagsOut := if d.slotFlags j then pair64 (ws.getD 0 0) (ws.getD 1 0) &&& pair64 (ws.getD 2 0) (ws.getD 3 0) else t.flagsOut }

/-- The frame of an own data or reply slot is sent (R373, R380). -/
def Dev.sendSlot (d : Dev) (j : Nat) (busyA busyB : Bool) : Dev :=
  let (d, blocked) := d.guarded2
  if blocked then d else
  let cyc := d.cycleNow.2
  if d.slotKind j = 2 then
    let b := d.txBuffer j
    let ws := if b.1.isEmpty then List.replicate (d.slotWords j) 0 else b.1
    let (d, sent) := d.transmit j 2 b.2 cyc ws busyA busyB
    if sent then d.txCount j ws else d
  else
    let (d1, ws) := d.replySlot j
    let (d2, sent) := d1.transmit j 4 0 cyc ws busyA busyB
    if sent then d2 else (d.transmit j 4 0 cyc ws busyA busyB).1

/-- TRAVERSE_FRAME_SEND: the send instant of slot `j` comes; `busyA` and `busyB` say that a frame start has been detected on that
channel since WIN before it (R367), `seen` that one has been detected in slot 0 of this cycle (R361). -/
def execTraverseFrameSend (j : Fin 64) (busyA busyB seen : Bool) (s : State) : Out := s.onDev fun d =>
  let st := d.trvState
  if d.fb R.PAIR_STATUS F.PAIR_STATUS_TRV_MUTED || d.ns < d.pair.trvFrom then d
  else if j.val = 0 then
    let (td, cyc) := d.cycleNow
    if d.trvRank ≤ 3 && st = 2 then
      if d.trv.csSent < 2 then d.sendDatum 5 td cyc busyA busyB
      else (d.setTrvState 3).sendDatum 1 td cyc busyA busyB
    else if d.trvRank ≤ 3 && st = 3 && !seen then
      let (d, blocked) := d.guarded2
      if blocked then d else d.sendDatum 1 td cyc busyA busyB
    else d
  else if (st = 3 ∨ st = 4) ∧ j.val < d.nslot ∧ d.slotOwner j = d.trvNode ∧ (d.slotKind j = 2 ∨ d.slotKind j = 4) then
    d.sendSlot j busyA busyB
  else d

/-- COLDSTART_TIMEOUT: the silence timer of a coldstart node expires; it starts a coldstart datum frame of cycle 0 (R370). -/
def execColdstartTimeout (busyA busyB : Bool) (s : State) : Out := s.onDev fun d =>
  if d.trvState = 1 ∧ d.trvRank ≤ 3 ∧ !d.fb R.PAIR_STATUS F.PAIR_STATUS_TRV_MUTED then
    let d := (d.setTrvState 2).modTrv fun t => { t with csSent := 0 }
    d.sendDatum 5 (d.ns - d.trvAP) 0 busyA busyB
  else d

/-- READBACK_MISMATCH: the level on a channel differs from what the node drives in its own frame; a datum or coldstart frame is
stopped, and the node listens (R354, R361, R371). -/
def execReadbackMismatch (s : State) : Out := s.onDev fun d =>
  match d.trv.out with
  | none => d
  | some f =>
    let d := d.trvErr F.TRV_ERR_READBACK 356
    if hKind f.hdr = 1 ∨ hKind f.hdr = 5 then
      let d := d.trvErr F.TRV_ERR_COLLISION 358
      let d := d.modTrv fun t => { t with out := none, csSent := 0 }
      if d.trvState = 5 then d else d.setTrvState 1
    else d

/-- GUARDIAN_CUTOFF: D + 40 ns after the frame start, any transmission of the node ends (R369). -/
def execGuardianCutoff (s : State) : Out := s.onDev fun d => d.modTrv fun t => { t with out := none }

/-! ### Joining and leaving (R359, R382) -/

/-- The rules of R359. -/
def Dev.scheduleOk (d : Dev) : Bool :=
  let n := d.nslot
  let js := List.range n
  let next (j : Nat) : Nat := if j + 1 < n then d.slotStart (j + 1) else d.trvC
  let named (j : Nat) : Nat := ((List.range 8).filter fun k => d.fb (R.TRV_POS_TX k) F.TRV_POS_TX_EN && d.fg (R.TRV_POS_TX k) F.TRV_POS_TX_SLOT = j).length
  let ownData (j : Nat) : Bool := j < n && d.slotKind j = 2 && d.slotOwner j = d.trvNode
  d.slotKind 0 = 1 && d.slotStart 0 = 0 && d.slotWords 0 = 4
  && js.all (fun j => j = 0 || d.slotKind j ≠ 1)
  && js.all (fun j => d.slotStart j + frameNs (d.slotWords j) + 2 * d.trvWIN + 200 + (if j = 0 then 6000 else 0) ≤ next j)
  && decide (200 ≤ d.trvWIN) && decide (d.trvWIN ≤ 4000) && decide (d.trvWIN ≤ d.trvAP)
  && js.all (fun j => match d.slotKind j with
      | 2 => 4 * (d.slotFlags j).toNat + 7 * d.slotRecs j ≤ d.slotWords j
      | 3 | 4 => 2 ≤ d.slotWords j
      | 0 => d.rd (R.TRV_SLOT j) = 0 && d.rd (R.TRV_SLOT_X j) = 0
      | _ => true)
  && js.all (fun j => !ownData j || named j = d.slotRecs j)
  && (List.range 8).all (fun k => !d.fb (R.TRV_POS_TX k) F.TRV_POS_TX_EN || ownData (d.fg (R.TRV_POS_TX k) F.TRV_POS_TX_SLOT))
  && (d.trvRank ≤ 3 || d.trvRank = 7)

/-- TRAVERSE_JOIN checks the schedule and starts listening. -/
def specTraverseJoin : OpSpec where
  len _ := 1
  check d p :=
    if pb p 3 31 16 ≠ 0 then some (0x0201, 3)
    else if d.trvState ≠ 0 then some (0x0301, d.trvState)
    else if !d.scheduleOk then some (0x0205, 3)
    else none
  run d _ := .wait (d.setTrvState 1) [⟨.trvJoin, 0⟩] []

/-- TRAVERSE_JOIN (R382). -/
def execTraverseJoin (p : Packet) (s : State) : Out := s.onDev fun d => d.runOp 0x0A00 specTraverseJoin p

/-- TRAVERSE_JOIN_TIMEOUT: the timeout of a JOIN that has one passes before SYNC; the node keeps trying (R382). -/
def execTraverseJoinTimeout (s : State) : Out := s.onDev fun d =>
  if d.trvState ≠ 3 && d.cmd.accepted.any fun a => a.waits.contains ⟨.trvJoin, 0⟩ && pb a.pkt 3 15 0 ≠ 0
  then d.resolve ⟨.trvJoin, 0⟩ 0x0801 0 [] else d

/-- The instant at which DE last fell (R382). -/
def Dev.deFell (d : Dev) : Nat := match d.trv.out with | some f => min f.deFell d.ns | none => d.ns

/-- The node is OFF (R362, R382). -/
def Dev.trvOff (d : Dev) : Dev :=
  let t := d.deFell
  let d := (d.setTrvState 0).modTrv fun t => { t with out := none, first := none, oLeft := 0, oClocks := 0, cmdSlots := [], rx := [] }
  d.resolve ⟨.trvLeave, 0⟩ 0 0 (words64 t)

/-- A leaving node has no frame in progress: it is in LISTEN, or its last frame has ended (R362). -/
def Dev.leavesNow (d : Dev) : Bool :=
  d.trvState = 1 || (match d.trv.out with | some f => decide (f.deFell ≤ d.ns) | none => true)

/-- The device leaves the bus, as at the entry to DOZE (R382, R515). -/
def Dev.trvStartLeave (d : Dev) : Dev :=
  if d.trvState = 0 then d else if d.leavesNow then d.trvOff else d.setTrvState 5

/-- TRAVERSE_LEAVE takes the node off the bus. -/
def specTraverseLeave : OpSpec where
  len _ := 0
  check d _ :=
    if d.trvState = 0 then some (0x0301, 0)
    else if d.session = some .traverse then some (0x0303, 0)
    else none
  run d _ :=
    if d.leavesNow then .done d.trvOff 0 0 (words64 d.deFell) else .wait (d.setTrvState 5) [⟨.trvLeave, 0⟩] []

/-- TRAVERSE_LEAVE (R382). -/
def execTraverseLeave (p : Packet) (s : State) : Out := s.onDev fun d => d.runOp 0x0A01 specTraverseLeave p

/-- TRAVERSE_LEAVE_COMPLETE: the frame in progress of a LEAVING node ends (R362). -/
def execTraverseLeaveComplete (s : State) : Out := s.onDev fun d => if d.trvState = 5 then d.trvOff else d

end Sys2Proof.Machine
end

