-- ==== Sys2Proof/Machine/Security.lean ====
section
/-!
DEFINITION. Lifecycle, signed commands, debug access, JTAG and the power states (19), and the loading of a safety set, whose signature
they decide (16).
-/

namespace Sys2Proof.Machine

open Sys2Proof

/-! ### Signed commands (R507–R510, R518) -/

/-- The words of SEC_UID. -/
def Dev.uidWords (d : Dev) : List Word := (List.range 2).flatMap fun k => words64 (d.rd64 (R.SEC_UID k))

/-- Eight words of the random source (R509): free values. -/
def nonceWords (n : Nat) : List Word := (List.range 8).map fun k => Config.freeWord (n + k)

/-- DEBUG_CHALLENGE issues a nonce; in lockout it fails (R510). -/
def specDebugChallenge : OpSpec where
  len _ := 0
  check d _ := if d.sec.lockout then some (0x0303, 0) else none
  run d _ :=
    let n := nonceWords d.fresh
    let d := ({ d with fresh := d.fresh + 8 } : Dev).modSec fun s => { s with nonce := some n }
    .done d 0 0 (n ++ d.uidWords ++ [toW (d.fg R.SEC_LC F.SEC_LC_STATE + d.debugLevel * 2 ^ 8)])

/-- DEBUG_CHALLENGE (R509). -/
def execDebugChallenge (p : Packet) (s : State) : Out := s.onDev fun d => d.runOp 0x0C00 specDebugChallenge p

/-- NONCE_EXPIRY: 60 s after its issue a nonce is no longer valid (R509). -/
def execNonceExpiry (s : State) : Out := s.onDev fun d => d.modSec fun s => { s with nonce := none }

/-- UNLOCK_LOCKOUT_END: 60 s after the eighth failure challenges are answered again (R510). -/
def execUnlockLockoutEnd (s : State) : Out := s.onAll fun d => d.modSec fun s => { s with lockout := false }

/-- The message that a signed command signs: nonce, SEC_UID and W3 (R509). -/
def Dev.signedMessage (d : Dev) (nonce : List Word) (p : Packet) : List Byte :=
  (nonce ++ d.uidWords ++ [pw p 3]).flatMap wordBytes

/-- The signature in W4–W35 verifies on the message with the key of slot `code` (R502, R509, R518). -/
def Dev.signedOk (d : Dev) (nonce : List Word) (code : Nat) (p : Packet) : Bool :=
  let b := (p.params.drop 1).flatMap wordBytes
  d.verify code (sha256 (d.signedMessage nonce p)) (slice b 0 32) (slice b 32 32) (slice b 64 32) (slice b 96 32)

/-- A signed command fails verification (R510): its nonce is used up, the failure counts, and the eighth in a row starts the lockout. -/
def Dev.signedFail (d : Dev) : Dev :=
  let d := (d.modSec fun s => { s with nonce := none }).satInc R.SEC_COUNTS F.SEC_COUNTS_FAILS
  let d := (d.setFlag R.SEC_COUNTS F.SEC_COUNTS_UNLOCK_FAIL.lo 610).sigFail
  if 8 ≤ d.fg R.SEC_COUNTS F.SEC_COUNTS_FAILS then d.modSec fun s => { s with lockout := true } else d

/-- A signed command is verified (R509, R510): without a valid nonce it fails and counts nothing; a verified one sets the count to 0. -/
def Dev.runSigned (d : Dev) (code : Nat) (p : Packet) (f : Dev → OpEnd) : OpEnd :=
  match d.sec.nonce with
  | none => .done d 0x0501 0 []
  | some n =>
    if d.signedOk n code p then f ((d.modSec fun s => { s with nonce := none }).fs R.SEC_COUNTS F.SEC_COUNTS_FAILS 0)
    else .done d.signedFail 0x0501 0 []

/-- The debug level changes to `l` (R508, R519, R531). -/
def Dev.setLevel (d : Dev) (l : Nat) : Dev :=
  if d.debugLevel = l then d else
  ((d.fs R.DEBUG_STATUS F.DEBUG_STATUS_LEVEL l).raise 615).squallRegs

/-- W3 of DEBUG_UNLOCK and its form. -/
def unlockSigned (p : Packet) : Bool := 1 < p.params.length
def unlockLevel (p : Packet) : Nat := pb p 3 1 0
def unlockSlot (p : Packet) : Nat := pb p 3 17 16

/-- DEBUG_UNLOCK sets the level and the CONFIG permission (R508, R518); the unsigned form lowers the level, or outside SECURED sets
any, and in SECURED withdraws the permission. -/
def specDebugUnlock : OpSpec where
  len p := if unlockSigned p then 33 else 1
  check d p :=
    let sg := unlockSigned p
    failOf [(pb p 3 31 18 ≠ 0 || pb p 3 15 9 ≠ 0 || pb p 3 7 2 ≠ 0 || (sg && unlockSlot p ≠ 1 && unlockSlot p ≠ 2), 0x0201, 3),
            (if sg then !d.secured else d.secured && d.debugLevel < unlockLevel p, 0x0503, 0)]
  run d p :=
    if unlockSigned p then d.runSigned (unlockSlot p) p fun d =>
      let d := (d.setLevel (unlockLevel p)).fsb R.DEBUG_STATUS F.DEBUG_STATUS_CONFIG (wbit (pw p 3) 8)
      let d := (d.fsb R.DEBUG_STATUS F.DEBUG_STATUS_UNLOCKED true).fs R.DEBUG_STATUS F.DEBUG_STATUS_SLOT (unlockSlot p)
      .done d 0 0 [d.rd R.DEBUG_STATUS]
    else
      let d := (d.setLevel (unlockLevel p)).fsb R.DEBUG_STATUS F.DEBUG_STATUS_CONFIG (!d.secured)
      let d := (d.fsb R.DEBUG_STATUS F.DEBUG_STATUS_UNLOCKED false).fs R.DEBUG_STATUS F.DEBUG_STATUS_SLOT 0
      .done d 0 0 [d.rd R.DEBUG_STATUS]

/-- DEBUG_UNLOCK (R508, R509). -/
def execDebugUnlock (p : Packet) (s : State) : Out := s.onDev fun d => d.runOp 0x0C01 specDebugUnlock p

/-- KEY_REVOKE revokes an owner slot under the signature of the other (R518). -/
def specKeyRevoke : OpSpec where
  len _ := 33
  check d p :=
    let code := pb p 3 17 16
    failOf [(pb p 3 31 18 ≠ 0 || pb p 3 15 1 ≠ 0 || (code ≠ 1 && code ≠ 2), 0x0201, 3),
            (!d.secured || code = 1 + pb p 3 0 0, 0x0503, 0)]
  run d p := d.runSigned (pb p 3 17 16) p fun d =>
    let one := wbit (pw p 3) 0
    let d := d.modSec fun s => { s with otp := if one then { s.otp with rev1 := true } else { s.otp with rev0 := true } }
    let d := (if one then d.fsb R.SEC_KEYS F.SEC_KEYS_REV1 true else d.fsb R.SEC_KEYS F.SEC_KEYS_REV0 true).raise 613
    .done d 0 0 [d.rd R.SEC_KEYS]

/-- KEY_REVOKE. -/
def execKeyRevoke (p : Packet) (s : State) : Out := s.onDev fun d => d.runOp 0x0C02 specKeyRevoke p

/-- Every object of Logbook partitions 3–11 is erased (R501). -/
def Dev.eraseOwner (d : Dev) : Dev :=
  let d := (d.modStore fun s => { s with objs := s.objs.filter fun o => o.part < 3, slots := [] }).modSafety fun s =>
    { s with boot := none, bootSig := [] }
  (d.each [3, 4, 5, 6, 7, 8, 9, 10, 11] Dev.partRegs).armRegs

/-- A lifecycle change becomes pending (R500, R519). -/
def Dev.lcAdvance (d : Dev) (next : Nat) : Dev :=
  let d := d.modSec fun s => { s with otp := { s.otp with lc := next } }
  ((d.fsb R.SEC_LC F.SEC_LC_PENDING true).fs R.SEC_LC F.SEC_LC_NEXT next).raise 612

/-- LIFECYCLE_ADVANCE (R501): OPEN to SECURED writes the owner slots and the policy, SECURED to RETURNED needs the vendor's
signature and erases the owner's objects. -/
def specLifecycleAdvance : OpSpec where
  len p := if pb p 3 1 0 = 2 then 18 else if pb p 3 1 0 = 3 then 33 else p.params.length
  check d p :=
    let t := pb p 3 1 0
    let h0 := (List.range 8).map fun k => pw p (4 + k)
    let h1 := (List.range 8).map fun k => pw p (12 + k)
    failOf [(p.params.isEmpty || pb p 3 31 2 ≠ 0, 0x0201, 3),
            (t = 2 && h0.all (· = 0), 0x0201, 4),
            (t = 2 && (h1.all (· = 0) || h1 = h0), 0x0201, 12),
            (t = 2 && pb p 20 31 3 ≠ 0, 0x0201, 20),
            (d.fb R.POWER_STATUS F.POWER_STATUS_PF_ACTIVE, 0x0303, 0),
            (d.fb R.SEC_LC F.SEC_LC_PENDING
              || !((t = 2 && d.fg R.SEC_LC F.SEC_LC_STATE = 1) || (t = 3 && d.fg R.SEC_LC F.SEC_LC_STATE = 2)), 0x0503, 0)]
  run d p :=
    if pb p 3 1 0 = 2 then
      let bytes (k : Nat) : List Byte := ((List.range 8).map fun i => pw p (k + i)).flatMap wordBytes
      let d := d.modSec fun s => { s with otp := { s.otp with
        hash0 := bytes 4, hash1 := bytes 12, pDsp := wbit (pw p 20) 0, pSafe := wbit (pw p 20) 1, pCfg := wbit (pw p 20) 2 } }
      let d := (d.fsb R.SEC_KEYS F.SEC_KEYS_SLOT0 true).fsb R.SEC_KEYS F.SEC_KEYS_SLOT1 true
      let d := ((d.fsb R.SEC_LC F.SEC_LC_DSP (wbit (pw p 20) 0)).fsb R.SEC_LC F.SEC_LC_SAFETY (wbit (pw p 20) 1)).fsb
        R.SEC_LC F.SEC_LC_CFG (wbit (pw p 20) 2)
      let d := d.lcAdvance 2
      .done d 0 0 [d.rd R.SEC_LC]
    else d.runSigned 0 p fun d =>
      let d := d.eraseOwner.lcAdvance 3
      .done d 0 0 [d.rd R.SEC_LC]

/-- LIFECYCLE_ADVANCE. -/
def execLifecycleAdvance (p : Packet) (s : State) : Out := s.onDev fun d => d.runOp 0x0C03 specLifecycleAdvance p

/-! ### Power states (R513–R517) -/

/-- The power state changes (R519, R531). -/
def Dev.setPower (d : Dev) (st : Nat) : Dev :=
  if d.power = st then d else ((d.fs R.PWR_STATUS F.PWR_STATUS_STATE st).raise 616).squallRegs

/-- An applied request of the number `r` is taken. -/
def Dev.takePwrReq (d : Dev) (r : Nat) (f : Dev → Dev) : Dev :=
  if d.sec.pwrReq = some r then f (d.modSec fun s => { s with pwrReq := none }) else d

/-- PWR_REQ_RUN: REQ 0 returns the device from SERVO_OFF to RUN (R513). -/
def execPwrReqRun (s : State) : Out := s.onDev fun d => d.takePwrReq 0 fun d => if d.power = 1 then d.setPower 0 else d

/-- PWR_REQ_SERVO_OFF: every leg is HIGH-Z and the lanes are unclocked (R513). -/
def execPwrReqServoOff (s : State) : Out := s.onDev fun d => d.takePwrReq 1 fun d => if d.power = 0 then d.legsOff.setPower 1 else d

/-- The lock bits of the PLLs that DOZE stops. -/
def Dev.dozeLocks (d : Dev) (on : Bool) : Dev :=
  [F.SYS_CLOCK_STATUS_CE_LOCK, F.SYS_CLOCK_STATUS_DSP_LOCK, F.SYS_CLOCK_STATUS_SUP_LOCK, F.SYS_CLOCK_STATUS_CAN_LOCK,
   F.SYS_CLOCK_STATUS_TIE_LOCK].foldl (fun (d : Dev) f => d.fsb R.SYS_CLOCK_STATUS f on) d

/-- The entry to DOZE (R351, R515). -/
def Dev.enterDoze (d : Dev) : Dev :=
  let d := d.fs R.PWR_STATUS F.PWR_STATUS_FROM d.power
  let d := (d.legsOff.wr64 R.EVR_WAKE_LATCH 0).trvStartLeave
  (d.dozeLocks false).setPower 2

/-- PWR_REQ_DOZE (R513, R514). -/
def execPwrReqDoze (s : State) : Out := s.onDev fun d => d.takePwrReq 2 fun d => if d.power ≤ 1 then d.enterDoze else d

/-- The source of a bit of EVR_WAKE_LATCH (R351). -/
def wakeSource (b : Nat) : Nat :=
  if b < 4 then 256 + b else if b < 6 then 348 + b else if b = 6 then 384 else if b = 7 then 400
  else if b < 24 then 536 + b else if b < 32 then 536 + b else if b < 40 then 544 + b else if b < 42 then 568 + b else 582 + b

/-- In DOZE the latch of a wake-capable source with EN and WAKE at 1 catches an edge (R351). -/
def Dev.wakeEdge (d : Dev) (b : Nat) : Dev :=
  let s := wakeSource b
  if d.dozing && d.srcEn s && d.fb (R.EVR_SRC_CFG s) F.EVR_SRC_CFG_WAKE then d.setBit R.EVR_WAKE_LATCH b true else d

/-- WAKE_LATCH_EDGE (R351). -/
def execWakeLatchEdge (b : Fin 48) (s : State) : Out := s.onDev fun d => d.wakeEdge b

/-- A channel that is enabled integrates anew after DOZE (R515); a BUS_OFF one does so with its counters at 0 (assumption log 28). -/
def Dev.canWake (d : Dev) (c : Nat) : Dev :=
  if d.canState c = 0 then d else
  let d := if d.canState c = 4 then d.canCounts c 0 0 else d
  (d.setCanState c 1).modCan c fun s => { s with sending := none, recovering := false, shadowRun := false }

/-- The exit from DOZE (R351, R515, R516): the state from which it was entered, with the latched sources and every enabled level
source whose level is high. -/
def Dev.exitDoze (d : Dev) : Dev :=
  let d := (d.dozeLocks true).setPower (d.fg R.PWR_STATUS F.PWR_STATUS_FROM)
  let d := (d.wrapInc R.PWR_STATUS F.PWR_STATUS_DOZES).each [0, 1] Dev.canWake
  let latch := d.rd64 R.EVR_WAKE_LATCH
  let hit (s : Nat) : Bool := match wakeBit s with | some b => latch.testBit b | none => false
  d.each (List.range 630) fun d s => if hit s || (isLevelSource s && d.srcEn s && d.levelHigh s) then d.sourceFires s else d

/-! ### The motion-domain halt (R221, R222, R511) -/

/-- The debug access port is connected at a level (R507, R512). -/
def Dev.dapAt (d : Dev) (level : Nat) : Bool := d.fb R.DEBUG_STATUS F.DEBUG_STATUS_DAP && level ≤ d.debugLevel

/-- A halt is refused: it counts, and source 614 is raised (R511, R517). -/
def Dev.haltRefuse (d : Dev) : Dev := (d.satInc R.SEC_COUNTS F.SEC_COUNTS_HALT_REFUSED).raiseBit d 614

/-- The legs of one condition take another one. -/
def Dev.legsFrom (d : Dev) (a b : LegCond) : Dev :=
  d.each (List.range 192) fun d l => if (d.leg l).cond = a then d.modLeg l fun x => { x with cond := b } else d

/-- The banks show that they are frozen, or not. -/
def Dev.bankFrozen (d : Dev) (on : Bool) : Dev := d.each (List.range 4) fun d n => d.fsb (R.PWM_BANK_STATUS n) F.PWM_BANK_STATUS_FROZEN on

/-- MOTION_HALT: at HALT or above the DAP requests a halt of the motion domain; DOZE and HALT_GUARD refuse it (R511, R517). -/
def execMotionHalt (s : State) : Out := s.onDev fun d =>
  if !d.dapAt 2 then d
  else if d.dozing then (d.wakeEdge 41).haltRefuse
  else
    let d := d.raise 609
    if d.fb R.DEBUG_CFG F.DEBUG_CFG_HALT_GUARD && (d.firstActive.isSome || d.hostSwitching) then d.haltRefuse
    else
      let d := (d.legsFrom .switching .frozen).bankFrozen true
      let d := { d with pwm := { d.pwm with halted := true }, ce := { d.ce with stopped := true } }
      d.fsb R.DEBUG_STATUS F.DEBUG_STATUS_MHALT true

/-- MOTION_HALT_RELEASE: the counters resume from their frozen positions, and the next tick of each lane cuts its TB0 period short (R222). -/
def execMotionHaltRelease (s : State) : Out := s.onDev fun d =>
  if !d.dapAt 2 || !d.pwm.halted then d else
  let d := { d with pwm := { d.pwm with halted := false }, ce := { d.ce with stopped := false } }
  let d := d.each (List.range 4) fun d n => d.modBank n fun b => { b with cut := true }
  ((d.legsFrom .frozen .switching).bankFrozen false).fsb R.DEBUG_STATUS F.DEBUG_STATUS_MHALT false

/-! ### JTAG (R507, R512) -/

/-- An instruction is loaded; any but DAP leaves the DAP unconnected.  While the motion die is in reset the TAP does not answer. -/
def Dev.jtag (d : Dev) (ir : Nat) (drive : JtagDrive) : Dev :=
  (d.modSec fun s => { s with ir := ir, drive := drive }).fsb R.DEBUG_STATUS F.DEBUG_STATUS_DAP false

/-- An instruction that its condition does not admit acts as BYPASS and counts (R512). -/
def Dev.jtagIf (d : Dev) (ok : Bool) (ir : Nat) (drive : JtagDrive) : Dev :=
  if ok then d.jtag ir drive
  else (d.jtag 0xFF .none).satInc R.SEC_COUNTS F.SEC_COUNTS_JTAG_REFUSED

/-- FULL in SERVO_OFF (R512). -/
def Dev.scanOk (d : Dev) : Bool := d.debugLevel = 3 && d.power = 1

/-- IDCODE: the silicon revision of SYS_ID, 0x6464, the manufacturer's code, and 1 (R512, R565). -/
def Dev.idcode (d : Dev) : Word :=
  toW (d.fg R.SYS_ID F.SYS_ID_SREV * 2 ^ 28 + 0x6464 * 2 ^ 12 + Config.jedecId.toNat * 2 + 1)

/-- What the TAP shifts out of the identification register: IDCODE while its instruction is in force, as after a TAP reset (R512); none
while the motion die is in reset. -/
def Dev.tapId (d : Dev) : Option Word := if d.heldInReset || d.sec.ir ≠ 1 then none else some d.idcode

/-- JTAG_IDCODE (R512). -/
def execJtagIdcode (s : State) : Out := s.onDev fun d => d.jtag 0x01 .none

/-- JTAG_SAMPLE_PRELOAD: the boundary-scan register takes the sampled or preloaded bits (R512). -/
def execJtagSamplePreload (bits : List Bool) (s : State) : Out := s.onDev fun d =>
  (d.jtag 0x02 .none).modSec fun s => { s with bsr := bits }

/-- JTAG_EXTEST. -/
def execJtagExtest (s : State) : Out := s.onDev fun d => d.jtagIf d.scanOk 0x03 .extest

/-- JTAG_CLAMP. -/
def execJtagClamp (s : State) : Out := s.onDev fun d => d.jtagIf d.scanOk 0x04 .clamp

/-- JTAG_HIGHZ. -/
def execJtagHighz (s : State) : Out := s.onDev fun d => d.jtagIf d.scanOk 0x05 .highz

/-- JTAG_DAP: the debug access port is connected at OBSERVE or above (R512, R519). -/
def execJtagDap (s : State) : Out := s.onDev fun d =>
  if 1 ≤ d.debugLevel then
    let was := d.fb R.DEBUG_STATUS F.DEBUG_STATUS_DAP
    let d := (d.jtag 0x20 .none).fsb R.DEBUG_STATUS F.DEBUG_STATUS_DAP true
    if was then d else d.raise 608
  else d.jtagIf false 0x20 .none

/-- JTAG_BYPASS. -/
def execJtagBypass (s : State) : Out := s.onDev fun d => d.jtag 0xFF .none

/-! ### DAP access to the Transit DSP cores (R291, R507, R517) -/

/-- An access of the DAP to a core at HALT or above; DOZE refuses it. -/
def Dev.dapTd (d : Dev) (f : Dev → Dev) : Dev := if !d.dapAt 2 then d else if d.dozing then d.haltRefuse else f d

/-- DAP_TD_HALT halts a RUNNING or WAITING core. -/
def execDapTdHalt (c : Fin 4) (s : State) : Out := s.onDev fun d => d.dapTd fun d =>
  if d.tdState c = 2 || d.tdState c = 3 then d.tdHalt c else d

/-- DAP_TD_STEP: a halted core issues up to the next eligible bundle (assumption log 29). -/
def execDapTdStep (c : Fin 4) (s : State) : Out := s.onDev fun d => d.dapTd fun d =>
  if d.tdState c = 1 && (d.core c).halted then
    let d := (d.tdResume c).modCore c fun k => { k with haltReq := true }
    let b := d.bundle c (d.core c).f0.addr
    d.tdIssue c b.1 b.2
  else d

/-- DAP_TD_RESUME resumes a halted core. -/
def execDapTdResume (c : Fin 4) (s : State) : Out := s.onDev fun d => d.dapTd fun d =>
  if d.tdState c = 1 && (d.core c).halted then d.tdResume c else d

/-! ### SAFETY_SET_LOAD (R446–R448, R505) -/

/-- The words of the safety set that SAFETY_SET_LOAD names, and its bytes with the signature block. -/
def Dev.loadBytes (d : Dev) (p : Packet) : List Byte := d.bulkBytes (stagingBase + (pw p 3).toNat) (pw p 4).toNat

/-- SAFETY_SET_LOAD checks a set in both channels. -/
def specSafetySetLoad : OpSpec where
  len _ := 2
  check d p :=
    let off := (pw p 3).toNat
    let n := (pw p 4).toNat
    match failOf [(off % 4 ≠ 0, 0x0201, 3), ((n ≠ 128 && n ≠ 272) || 0x1000000 < off + n, 0x0201, 4)] with
    | some e => some e
    | none =>
      let s := leWords ((d.loadBytes p).take 128)
      match setFailWord s with
      | some k => some (0x0201, k)
      | none => failOf [(!setCrcOk s, 0x0601, 0), (!d.safety.a.on || !d.safety.b.on, 0x0602, 0), (d.stagingBusy, 0x0303, 0)]
  run d p :=
    let l := d.loadBytes p
    match d.policyFail l ((pw p 4).toNat = 272) (d.fb R.SEC_LC F.SEC_LC_SAFETY) with
    | some (st, det) => .done (if st = 0x0501 then d.sigFail else d) st det []
    | none =>
      let s := leWords (l.take 128)
      let d := d.modSafety fun x => { x with loaded := some s, loadedSig := l.drop 128 }
      let d := d.wr R.SAFETY_SET_PEND (s.getD 31 0)
      .done d 0 0 [s.getD 31 0, s.getD 31 0]

/-- SAFETY_SET_LOAD (R448). -/
def execSafetySetLoad (p : Packet) (s : State) : Out := s.onDev fun d => d.runOp 0x0B00 specSafetySetLoad p

end Sys2Proof.Machine
end

