-- ==== Sys2Proof/Machine/Store.lean ====
section
/-!
DEFINITION. The commands of the Logbook store, the NAND's events, the wear governor, and the power-fail sequence of the persistence
island (18).
-/

namespace Sys2Proof.Machine

open Sys2Proof

/-! ### Commands (R496) -/

/-- The partition and the object number of W3. -/
def storePart (p : Packet) : Nat := pb p 3 31 24
def storeNum (p : Packet) : Nat := pb p 3 15 0

/-- A span of Logbook staging is aligned and lies within it (R32, R496). -/
def stageBad (off len : Nat) : Bool := off % 8 ≠ 0 || 0x1000000 < off + len

/-- STORE_WRITE writes an object from staging into a partition. -/
def specStoreWrite : OpSpec where
  len _ := 3
  check d p :=
    let n := (pw p 5).toNat
    firstFail [
      failOf [(!([4, 5, 11].contains (storePart p)) || pb p 3 23 16 ≠ 0 || storeNum p = 65535, 0x0201, 3),
              (stageBad (pw p 4).toNat 0, 0x0201, 4),
              (n = 0 || 16777216 < n || stageBad (pw p 4).toNat n, 0x0201, 5),
              (d.stagingBusy, 0x0303, 0)]]
  run d p :=
    let n := (pw p 5).toNat
    match d.writeFail (storePart p) (storeNum p) n with
    | some (st, det) => .done (d.storeRefuse st) st det []
    | none =>
      let (d, id) := d.startStore { kind := .write, part := storePart p, num := storeNum p, bytes := d.bulkBytes (stagingBase + (pw p 4).toNat) n }
      .wait d [⟨.store, id⟩] []

/-- STORE_WRITE (R479, R496). -/
def execStoreWrite (p : Packet) (s : State) : Out := s.onDev fun d => d.runOp 0x0900 specStoreWrite p

/-- STORE_READ reads an object into staging. -/
def specStoreRead : OpSpec where
  len _ := 3
  check d p :=
    let k := storePart p
    failOf [(k = 0 || k = 7 || 11 < k || pb p 3 23 16 ≠ 0 || storeNum p = 65535, 0x0201, 3),
            (stageBad (pw p 4).toNat 0, 0x0201, 4),
            (stageBad (pw p 4).toNat (pw p 5).toNat, 0x0201, 5),
            (d.stagingBusy, 0x0303, 0),
            (!d.mounted || (d.object k (storeNum p)).isNone, 0x0704, 0)]
  run d p :=
    let (d, id) := d.startStore { kind := .read, part := storePart p, num := storeNum p, at_ := (pw p 4).toNat, max := (pw p 5).toNat }
    .wait d [⟨.store, id⟩] []

/-- STORE_READ (R496). -/
def execStoreRead (p : Packet) (s : State) : Out := s.onDev fun d => d.runOp 0x0901 specStoreRead p

/-- STORE_ERASE erases objects of a partition; object 0xFFFF names every one. -/
def specStoreErase : OpSpec where
  len _ := 1
  check d p :=
    failOf [(!([4, 5, 10, 11].contains (storePart p)) || pb p 3 23 16 ≠ 0, 0x0201, 3),
            (!d.mounted || (storeNum p ≠ 65535 && (d.object (storePart p) (storeNum p)).isNone), 0x0704, 0)]
  run d p :=
    let (d, id) := d.startStore { kind := .erase, part := storePart p, num := storeNum p }
    .wait d [⟨.store, id⟩] []

/-- STORE_ERASE (R496). -/
def execStoreErase (p : Packet) (s : State) : Out := s.onDev fun d => d.runOp 0x0902 specStoreErase p

/-- The bits of W3 of IMAGE_INSTALL. -/
def imgSlot (p : Packet) : Nat := pb p 3 0 0
def imgRun (p : Packet) : Bool := wbit (pw p 3) 1
def imgAppend (p : Packet) : Bool := wbit (pw p 3) 2

/-- The bytes that an APPEND packet carries from W6. -/
def appendBytes (p : Packet) (n : Nat) : List Byte := ((p.params.drop 3).flatMap wordBytes).take n

/-- IMAGE_INSTALL appends bytes to staging, boots the image in staging in RECOVERY, or installs it into a slot.  The packet of the APPEND
form is as long as the bytes that it names. -/
def specImageInstall : OpSpec where
  len p := if imgAppend p then 3 + ((pw p 5).toNat + 3) / 4 else 3
  check d p :=
    let n := (pw p 5).toNat
    let off := (pw p 4).toNat
    failOf [(pb p 3 31 3 ≠ 0 || (imgRun p && (imgAppend p || !d.inRecovery)), 0x0201, 3),
            (stageBad off 0, 0x0201, 4),
            (n = 0 || (imgAppend p && 228 < n) || 16777216 < n || stageBad off n, 0x0201, 5),
            (d.stagingBusy, 0x0303, 0)]
  run d p :=
    let n := (pw p 5).toNat
    let off := (pw p 4).toNat
    if imgAppend p then .done (d.setBulkBytes (stagingBase + off) (appendBytes p n)) 0 0 [0]
    else
      let l := d.bulkBytes (stagingBase + off) n
      match d.imageFail l with
      | some (st, det) => .done (d.imageRefuse l) st det []
      | none =>
        if imgRun p then
          .done { d with cmd := { d.cmd with resetReq := true }, boot := { d.boot with staged := some l } } 0 0 [crc32c l]
        else
          match d.writeFail (1 + imgSlot p) 0 n with
          | some (st, det) => .done (d.storeRefuse st) st det []
          | none =>
            let (d, id) := d.startStore { kind := .image, part := 1 + imgSlot p, bytes := l }
            .wait d [⟨.store, id⟩] []

/-- IMAGE_INSTALL (R40, R496): with RUN the warm reset follows the reply.  DESIGN CHOICE: its RESET_CAUSE is 3, as of RESET_DEVICE; the
manual names no cause for it (assumption log 50). -/
def execImageInstall (p : Packet) (s : State) : Out := s.onDev fun d =>
  let d := d.runOp 0x0903 specImageInstall p
  if d.cmd.resetReq then d.warmReset 3 else d

/-! ### NAND operations (R479–R484) -/

/-- A Logbook operation has ended, and its command is answered. -/
def Dev.endStore (d : Dev) (o : StoreOp) (st : Nat) (pay : List Word) : Dev :=
  (d.modStore fun s => { s with ops := s.ops.filter fun x => x.id ≠ o.id }).resolve ⟨.store, o.id⟩ st 0 pay

/-- The last NAND operation of a Logbook operation has succeeded: an object is committed (R479), its content stands in staging, or the
objects are erased. -/
def Dev.finishStore (d : Dev) (o : StoreOp) : Dev :=
  match o.kind with
  | .write =>
    let n := d.store.seq
    (d.commitObject o).endStore o 0 [toW n, toW o.phys]
  | .config => (d.commitObject o).endStore o 0 []
  | .image => (d.commitObject o).endStore o 0 [crc32c o.bytes]
  | .read =>
    match d.object o.part o.num with
    | none => d.endStore o 0x0704 []
    | some x =>
      let l := x.bytes.take o.max
      (d.setBulkBytes (stagingBase + o.at_) l).endStore o 0 [toW l.length, toW x.seq]
  | .erase =>
    let hit (x : StoreObj) : Bool := x.part = o.part && (o.num = 65535 || x.num = o.num)
    let n := (d.store.objs.filter hit).length
    ((d.modStore fun s => { s with objs := s.objs.filter fun x => !hit x }).partRegs o.part).endStore o 0 [toW n]

/-- The partition has a second copy (R478). -/
def twoCopies (part : Nat) : Bool := part = 0 || part = 6 || part = 9

/-- NAND_OPERATION_COMPLETE: a program, erase or read of the running Logbook operation ends (R479–R483).  After a power fail writes start
no other page (R492). -/
def execNandOperationComplete (e : NandEnd) (s : State) : Out := s.onDev fun d =>
  match d.store.ops with
  | [] => d
  | o :: _ =>
    if !d.mounted then d else
    match e with
    | .programmed bytes last =>
      if o.kind = .read then d else
      let d := d.wearDraw bytes
      let o := { o with phys := o.phys + bytes }
      let d := d.modStore fun s => { s with ops := s.ops.map fun x => if x.id = o.id then o else x }
      if last && !d.fb R.POWER_STATUS F.POWER_STATUS_PF_ACTIVE then d.finishStore o else d
    | .erased b last =>
      if o.kind = .read then d else
      let d := (d.modStore fun s => { s with erases := tabMod s.erases b (· + 1) }).wearRegs.levelWear
      if last && o.kind = .erase && !d.fb R.POWER_STATUS F.POWER_STATUS_PF_ACTIVE then d.finishStore o else d
    | .read b bits worst last =>
      let d := d.corrected b bits worst
      if last && o.kind = .read then d.finishStore o else d
    | .failed b => if o.kind = .read then d else d.retire b
    | .uncorrectable b =>
      if o.kind ≠ .read then d else
      let d := (d.storeCount F.STORE_COUNTS_UNCORR 1).retire b
      if twoCopies o.part then d.storeCount F.STORE_COUNTS_REFRESH 1
      else (d.setFlag R.STORE_ERR F.STORE_ERR_UNCORR.lo 581).endStore o 0x0703 []

/-- One block that the scrub reads (R481, R482, R484): a correctable one may be queued for refresh, and a queued one is refreshed. -/
def Dev.scrubBlock (d : Dev) (b : ScrubBlock) : Dev :=
  if 40 < b.worst then
    let d := (d.storeCount F.STORE_COUNTS_UNCORR 1).retire b.block
    if b.copy then (d.storeCount F.STORE_COUNTS_REFRESH 1).wearDraw b.bytes
    else d.setFlag R.STORE_ERR F.STORE_ERR_UNCORR.lo 581
  else
    let d := d.corrected b.block b.bits b.worst
    if !d.store.refresh.contains b.block then d else
    let d := d.modStore fun s => { s with refresh := s.refresh.filter (· ≠ b.block), erases := tabMod s.erases b.block (· + 1) }
    (d.storeCount F.STORE_COUNTS_REFRESH 1).wearDraw b.bytes

/-- NAND_SCRUB: the hourly portion of blocks; the end of a period raises source 583, and pages left unread set SCRUB_LATE (R484). -/
def execNandScrub (l : List ScrubBlock) (ends unread : Bool) (s : State) : Out := s.onDev fun d =>
  if !d.mounted || d.throttled || d.dozing || d.fb R.POWER_STATUS F.POWER_STATUS_PF_ACTIVE then d else
  let d := l.foldl Dev.scrubBlock d
  if !ends then d else
  let d := (d.modStore fun s => { s with hits := [] }).raise 583
  if unread then d.fsb R.STORE_ERR F.STORE_ERR_SCRUB_LATE true else d

/-- WEAR_BUDGET_TICK: each second the budget gains R, up to its depth (R485). -/
def execWearBudgetTick (s : State) : Out := s.onDev fun d =>
  if !d.mounted then d else
  (d.modStore fun s => { s with budget := min (d.wearDepth : Nat) (s.budget + (d.wearGain : Nat)) }).wearRegs

/-! ### Supplies and the power-fail sequence (R488–R495) -/

/-- The island starts a flush and records its start (R492, R493). -/
def Dev.startFlush (d : Dev) (unwarned : Bool) : Dev :=
  let d := d.wr64 R.POWER_PF_TIME (d.rd64 R.RTC_TIME)
  let d := (d.fsb R.POWER_STATUS F.POWER_STATUS_LAST_PF true).fsb R.POWER_STATUS F.POWER_STATUS_UNWARNED unwarned
  d.modStore fun s => { s with flush := true, frozen := unwarned }

/-- POWER_FAIL: PFIn has been low for PF_FILT (R492): PF, PF_ACTIVE, source 576, and the hardware stop generator; the firmware writes its
final records to the journal SRAM. -/
def execPowerFail (s : State) : Out := s.onDev fun d =>
  if d.fb R.POWER_STATUS F.POWER_STATUS_PF_ACTIVE then d else
  let d := (d.fsb R.POWER_EVENT F.POWER_EVENT_PF true).fsb R.POWER_STATUS F.POWER_STATUS_PF_ACTIVE true
  let d := (d.startFlush false).raise 576
  (d.modStore fun s => { s with saved := some s.budget }).hsgAll 1

/-- JOURNAL_FLUSH: the flush engine has written the journal SRAM to the slot that the firmware named, in `dur` units of 10 µs; `ok` says that the
write succeeded.  Without a mounted part there is no slot, and the flush fails (R492, R493). -/
def execJournalFlush (slot : Fin 16) (dur : Nat) (ok : Bool) (s : State) : Out := s.onAll fun d =>
  if !d.store.flush then d else
  let good := ok && d.store.part.isSome
  let j := d.journalNow
  let d := d.modStore fun s =>
    { s with flush := false, frozen := true
             slots := if good then tabSet s.slots slot (some j) else s.slots, jseq := if good then s.jseq + 1 else s.jseq }
  let d := ((d.fs R.POWER_FLUSH F.POWER_FLUSH_RESULT (if good then 1 else 2)).fs R.POWER_FLUSH F.POWER_FLUSH_SLOT slot).fs
    R.POWER_FLUSH F.POWER_FLUSH_DURATION (min 65535 dur)
  let d := if good then d else d.fsb R.POWER_EVENT F.POWER_EVENT_FLUSH_FAIL true
  d.armRegs

/-- Every stop that the generator runs has completed (R492): no axis is in STOPPING and none is driven by the generator. -/
def Dev.stopsDone (d : Dev) : Bool :=
  (List.range 64).all fun a => d.axState a ≠ 4 && !d.fb (R.CE_AX_STATUS a) F.CE_AX_STATUS_HSG

/-- BACKUP holds the motion die in reset and turns VNAND off (R492, R513). -/
def Dev.toBackup (d : Dev) : Dev :=
  let d := if d.store.flush then (d.fs R.POWER_FLUSH F.POWER_FLUSH_RESULT 2).modStore fun s => { s with flush := false } else d
  let d := (d.motionReset islandReg [] (fun _ => false) false 1).modBoot fun b => { b with held := true }
  d.fs R.PWR_STATUS F.PWR_STATUS_STATE 3

/-- BACKUP_ENTRY: the flush has ended and every stop has completed, or VDD falls (R492, R493). -/
def execBackupEntry (vddFell : Bool) (s : State) : Out := s.onAll fun d =>
  if d.heldInReset then
    (if d.store.flush || 3 ≤ d.power then d else d.fs R.PWR_STATUS F.PWR_STATUS_STATE 3)
  else if d.fb R.POWER_STATUS F.POWER_STATUS_PF_ACTIVE && (vddFell || (!d.store.flush && d.stopsDone)) then d.toBackup
  else d

/-- VDD_MONITOR_TRIP: the motion die is in reset; without a running sequence the island flushes at once and sets UNWARNED, and otherwise it
enters BACKUP (R35, R492, R493). -/
def execVddMonitorTrip (s : State) : Out := s.onAll fun d =>
  if d.heldInReset then d
  else if d.fb R.POWER_STATUS F.POWER_STATUS_PF_ACTIVE then d.toBackup
  else
    let d := d.startFlush true
    let part := d.store.part
    ((d.motionReset islandReg [] (fun _ => false) false 1).modBoot fun b => { b with held := true }).modStore fun s => { s with part := part }

/-- BACKUP_END: PFIn high and VDD good for 10 ms; the island releases a cold reset with cause 1 (R494). -/
def execBackupEnd (straps : Straps) (s : State) : Out := s.onAll fun d =>
  if !d.heldInReset || d.power ≠ 3 then d else
  let d := (d.modBoot fun b => { b with held := false }).modStore fun s => { s with flush := false, frozen := false }
  d.coldReset straps 1 0

/-- VAUX_LOSS: the island switches to VBAK; VAUX_LOST is set while PFIn stays high (R488, R493). -/
def execVauxLoss (s : State) : Out := s.onAll fun d =>
  let d := (d.fsb R.POWER_STATUS F.POWER_STATUS_ON_VBAK true).chargeRegs
  if d.fb R.POWER_STATUS F.POWER_STATUS_PF_ACTIVE || d.heldInReset then d
  else d.setFlag R.POWER_EVENT F.POWER_EVENT_VAUX_LOST.lo 577

/-- VAUX_RETURN: the island switches back to VAUX, and the charger may run again (R488, R489). -/
def execVauxReturn (s : State) : Out := s.onAll fun d => (d.fsb R.POWER_STATUS F.POWER_STATUS_ON_VBAK false).chargeRegs

/-- ISLAND_STOP: the journal SRAM and the RTC are lost; a running flush is cut short; with the main supplies absent the device is OFF (R488,
R513). -/
def execIslandStop (s : State) : Out := s.onAll fun d =>
  let cut := d.store.flush
  let d := d.modStore fun s => { s with lost := true, flush := false, saved := none, rtcAcc := 0 }
  let d := (({ d with faultLog := [] } : Dev).wr64 R.RTC_TIME 0).wr64 R.POWER_PF_TIME 0
  let d := (d.wr R.POWER_FLUSH 0).fs R.POWER_FLUSH F.POWER_FLUSH_RESULT (if cut then 3 else 0)
  let d := d.wr R.POWER_STATUS (d.rd R.POWER_STATUS &&& ~~~0x03800000#32)
  if d.heldInReset then d.fs R.PWR_STATUS F.PWR_STATUS_STATE 4 else d

/-- VBAK falls below BAK_MIN: BAK_OK clears, VBAK_LOW is set, source 578 (R489, R497). -/
def Dev.vbakLow (d : Dev) : Dev :=
  let d := (d.fsb R.POWER_STATUS F.POWER_STATUS_BAK_OK false).armRegs
  d.setFlag R.POWER_EVENT F.POWER_EVENT_VBAK_LOW.lo 578

/-- VBAK_LOW (R497). -/
def execVbakLow (s : State) : Out := s.onAll fun d =>
  if d.fb R.POWER_STATUS F.POWER_STATUS_BAK_OK then d.vbakLow else d

end Sys2Proof.Machine
end

