-- ==== Sys2Proof/Machine/Background.lean ====
section
/-!
DEFINITION. The background tasks, memory errors, telemetry, the thermal governor, wedged firmware, the Squall injector's commands, the
self-test, and the relock of a PLL (20, R22).
-/

namespace Sys2Proof.Machine

open Sys2Proof

/-! ### Wedged firmware (R528, R529) -/

/-- The bit of a cause in SYS_WEDGE. -/
def wedgeBit (c : WedgeCause) : Fld :=
  match c with
  | .sup0Late => F.SYS_WEDGE_SUP0_LATE
  | .sup1Late => F.SYS_WEDGE_SUP1_LATE
  | .ecc => F.SYS_WEDGE_ECC
  | .trap => F.SYS_WEDGE_TRAP

/-- The firmware is found wedged (R529): the hardware records it, signals the host and applies ACTION. -/
def Dev.wedge (d : Dev) (c : WedgeCause) : Dev :=
  if d.fb R.SYS_WEDGE F.SYS_WEDGE_WEDGED && d.fb R.SYS_BOOT_STATUS F.SYS_BOOT_STATUS_READY then d else
  let cfg := R.SYS_WEDGE_CFG
  let act := d.fg cfg F.SYS_WEDGE_CFG_ACTION
  let d := (d.fsb R.SYS_WEDGE F.SYS_WEDGE_WEDGED true).fsb R.SYS_WEDGE (wedgeBit c) true
  let d := ((d.fs R.SYS_WEDGE F.SYS_WEDGE_ACTION act).wr64 R.SYS_WEDGE_TIME d.ns).raise 598
  let v := d.fg cfg F.SYS_WEDGE_CFG_VECTOR
  let d := if v < 64 then d.sendMsi v else d
  let d := if d.fb cfg F.SYS_WEDGE_CFG_PIN then ({ d with evr := { d.evr with int0Low := true } } : Dev).fsb R.EVR_HOST_IDLE F.EVR_HOST_IDLE_IDLE false else d
  let d := if act = 1 ∨ act = 2 then d.hsgAll 1 else d
  if act = 2 then d.modBg fun b => { b with wedgeReset := true } else d

/-- WEDGE (R529). -/
def execWedge (c : WedgeCause) (s : State) : Out := s.onDev fun d => d.wedge c

/-- WEDGE_WARM_RESET: with ACTION 2, once the stop generator is no longer active (R529). -/
def execWedgeWarmReset (s : State) : Out := s.onDev fun d =>
  if d.bg.wedgeReset && !d.fb R.CE_HSG_STATUS F.CE_HSG_STATUS_ACTIVE then
    (d.warmReset 3).fsb R.SYS_WEDGE F.SYS_WEDGE_PRIOR true
  else d

/-- SUPERVISOR_WATCHDOG_SERVICE: a core serves its watchdog (R528). -/
def execSupervisorWatchdogService (sup1 : Bool) (s : State) : Out := s.onDev fun d =>
  if d.dozing then d else d.wrapInc R.SYS_WEDGE (if sup1 then F.SYS_WEDGE_SUP1_CNT else F.SYS_WEDGE_SUP0_CNT)

/-! ### Memory errors (R523, R524) -/

/-- The memory code of a word. -/
def eccMem (w : EccWord) : Nat :=
  match w with
  | .supervisor => 0
  | .ce _ => 1
  | .dsp _ => 2
  | .compare _ => 3
  | .journalEntry _ | .cacheEntry _ _ | .heldReply => 4
  | .trace _ | .bank _ => 5
  | .journalSram => 6

/-- The JOURNAL_GAP event that stands for a lost journal entry (R46, R524). -/
def gapReply (esn : Word) : Reply := { op := 0x8002, kind := 1, csn := 0, esn := esn, payload := [esn, esn] }

/-- What a foreground read of an uncorrectable word leads to (R524). -/
def Dev.eccOutcome (d : Dev) (w : EccWord) : Dev :=
  match w with
  | .supervisor => d.wedge .ecc
  | .ce n => d.each (laneAxes n) fun d a => d.axisFault a 4
  | .dsp c => if d.tdState c = 2 then d.tdFault c 2 else d
  | .compare e =>
    d.each (List.range 16) fun d o =>
      if d.pcoOn o && (d.pcoSpan o).1 ≤ e && e < (d.pcoSpan o).1 + (d.pcoSpan o).2 then (d.pcoStop o).raise (160 + o) else d
  | .journalEntry esn =>
    let lose (l : List Reply) : List Reply := l.map fun r => if r.esn = esn then gapReply esn else r
    { d with cmd := { d.cmd with journal := lose d.cmd.journal, journalQ := lose d.cmd.journalQ } }
  | .cacheEntry q csn => { d with cmd := { d.cmd with cache := tabMod d.cmd.cache q fun l => l.filter fun e => e.csn ≠ csn } }
  | .heldReply => d
  | .trace off => if off + 4 ≤ 0x400000 then d.setBulkBytes off [0, 0, 0, 0] else d
  | .bank off => if (0xA0000 ≤ off && off < 0xB0000) || (0x130000 ≤ off && off < 0x138000) then d.wr off 0 else d
  | .journalSram => d

/-- SRAM_ECC_SCRUB: the scrub, or with `fg` a foreground read, finds one wrong bit in a word of a memory, or with `two` two. -/
def execSramEccScrub (w : EccWord) (addr : BitVec 28) (two fg : Bool) (s : State) : Out := s.onDev fun d =>
  if two then
    let d := d.satInc R.BG_ECC F.BG_ECC_UNCORR
    let d := (d.fs R.BG_ECC_LAST F.BG_ECC_LAST_MEM (eccMem w)).fs R.BG_ECC_LAST F.BG_ECC_LAST_ADDR addr.toNat
    let d := d.setFlag R.BG_STATUS F.BG_STATUS_ECC_UNCORR.lo 597
    if fg then d.eccOutcome w else d
  else
    let d := (d.satInc R.BG_ECC F.BG_ECC_CORRECTED).setFlag R.BG_STATUS F.BG_STATUS_ECC_CORR.lo 596
    d.modBg fun b => { b with wb := b.wb ++ [(eccMem w, addr.toNat)] }

/-- ECC_WRITE_BACK: the corrected word of the oldest waiting write-back is written, or discarded because a foreground write came first
(R523); the word holds its corrected value either way. -/
def execEccWriteBack (s : State) : Out := s.onDev fun d => d.modBg fun b => { b with wb := b.wb.drop 1 }

/-! ### The thermal governor (R526, R527) -/

def Dev.thermalLevel (d : Dev) : Nat := d.fg R.THERMAL_STATUS F.THERMAL_STATUS_LEVEL

/-- The governor is at a level: the tasks of R520 pause from THROTTLE on. -/
def Dev.setThermal (d : Dev) (l : Nat) : Dev :=
  (d.fs R.THERMAL_STATUS F.THERMAL_STATUS_LEVEL l).fsb R.BG_STATUS F.BG_STATUS_PAUSED (2 ≤ l)

/-- The governor enters WARN, THROTTLE and STOP, up to a level. -/
def Dev.thermalEnter (d : Dev) (l : Nat) : Dev :=
  let was := d.thermalLevel
  if l ≤ was then d else
  let d := d.setThermal l
  let d := if was < 1 then d.setFlag R.THERMAL_EVENT F.THERMAL_EVENT_WARN.lo 592 else d
  let d := if was < 2 && 2 ≤ l then d.setFlag R.THERMAL_EVENT F.THERMAL_EVENT_THROTTLE.lo 593 else d
  if 3 ≤ l then ((d.setFlag R.THERMAL_EVENT F.THERMAL_EVENT_STOP.lo 594).hsgAll 1).hostLegsOff else d

/-- THERMAL_WARN (R526). -/
def execThermalWarn (s : State) : Out := s.onDev fun d => d.thermalEnter 1

/-- THERMAL_THROTTLE (R526). -/
def execThermalThrottle (s : State) : Out := s.onDev fun d => d.thermalEnter 2

/-- THERMAL_STOP (R527). -/
def execThermalStop (s : State) : Out := s.onDev fun d => d.thermalEnter 3

/-- THERMAL_STOEN_HOLD: every ramp of the stop has ended (R527). -/
def execThermalStoenHold (s : State) : Out := s.onDev fun d =>
  if d.thermalLevel = 3 && d.stopsDone then (d.modSafety fun x => { x with thermal := true }).stoenA else d

/-- THERMAL_SHUTDOWN: a cold reset with cause 4, whose release latches the straps (R526). -/
def execThermalShutdown (straps : Straps) (s : State) : Out := s.onDev fun d => d.coldReset straps 4 0

/-- THERMAL_LEVEL_EXIT: the governor leaves its level for the next lower one; leaving STOP releases the STOEN_A gate (R526, R527). -/
def execThermalLevelExit (s : State) : Out := s.onDev fun d =>
  let l := d.thermalLevel
  if l = 0 || d.fb R.THERMAL_STATUS F.THERMAL_STATUS_SENSOR_FAIL then d else
  let d := d.setThermal (l - 1)
  if l = 3 then (d.modSafety fun x => { x with thermal := false }).stoenA else d

/-! ### Telemetry (R525, R526) -/

/-- The temperatures of a sample, in 1/16 °C. -/
def tempsOf (t : Telemetry) : List Int := [t.t0, t.t1, t.t2, t.t3, t.t4, t.t5].map BitVec.toInt

/-- A number goes to its place in a rising list. -/
def insertUp (v : Int) (l : List Int) : List Int :=
  match l with
  | [] => [v]
  | w :: r => if v ≤ w then v :: w :: r else w :: insertUp v r

/-- Twice the median of six numbers: the sum of the middle two. -/
def median2 (l : List Int) : Int :=
  let s := l.foldr insertUp []
  s.getD 2 0 + s.getD 3 0

/-- The range of a rail in mV (R525, R539): VDD, VDDM, VDD18, VIO33, then the group supplies. -/
def railRange (k : Nat) : Nat × Nat :=
  [(776, 824), (873, 927), (1710, 1890), (3135, 3465)].getD k (19200, 30000)

/-- A rail's voltage is shown; out of its range in three samples running it sets its bit and raises source 595 (R525). -/
def Dev.railSample (d : Dev) (k : Nat) : Dev :=
  let v := d.fg (R.TELEM_VOLT k) F.TELEM_VOLT_MV
  let n := if (railRange k).1 ≤ v && v ≤ (railRange k).2 then 0 else min 3 (tabGet d.bg.rail k + 1)
  let d := d.modBg fun b => { b with rail := tabSet b.rail k n }
  if n = 3 then d.setFlag R.TELEM_EVENT k 595 else d

/-- The temperatures of a sample (R525, R526): each sensor's reading and largest, which are valid, and TJ; fewer than three valid ones act
as 125 °C.  Without a valid sensor TJ is a free value. -/
def Dev.tempSample (d : Dev) (t : List Int) : Dev :=
  let m := median2 t
  let ok (k : Nat) : Bool := (2 * t.getD k 0 - m).natAbs ≤ 320
  let valid := (List.range 6).filter ok
  let d := d.each (List.range 6) fun d k =>
    let v := t.getD k 0
    let d := d.fs (R.TELEM_TEMP k) F.TELEM_TEMP_TEMP (ofS 16 v)
    d.fs (R.TELEM_TEMP k) F.TELEM_TEMP_MAX (ofS 16 (max v (d.fgS (R.TELEM_TEMP k) F.TELEM_TEMP_MAX)))
  let st := R.THERMAL_STATUS
  let was := d.fg st F.THERMAL_STATUS_VALID
  let now := valid.foldl (fun n k => n + 2 ^ k) 0
  let d := if (List.range 6).any fun k => was.testBit k && !now.testBit k then d.fsb R.THERMAL_EVENT F.THERMAL_EVENT_SENSOR true else d
  let tj := match valid with
    | [] => (Config.freeWord d.fresh).toNat
    | k :: r => ofS 16 (r.foldl (fun m j => max m (t.getD j 0)) (t.getD k 0))
  let d := ((d.nextFresh.fs st F.THERMAL_STATUS_VALID now).fs st F.THERMAL_STATUS_TJ tj).fsb st F.THERMAL_STATUS_SENSOR_FAIL (valid.length < 3)
  if valid.length < 3 then d.thermalEnter 3 else d

/-- The largest lane load and issue delay of each lane (R525). -/
def Dev.loadSample (d : Dev) : Dev :=
  d.each (List.range 4) fun d n =>
    let load := d.fg (R.CE_LANE_LOAD n) F.CE_LANE_LOAD_LAST
    let dly := (laneAxes n).foldl (fun m a => max m (d.fg (R.CE_AX_DELAY a) F.CE_AX_DELAY_LAST)) 0
    d.modBg fun b => { b with maxLoad := tabMod b.maxLoad n (max load), maxDly := tabMod b.maxDly n (max dly) }

/-- The backup supply (R489): POWER_VOLT, BAK_OK, VBAK_LOW, the charger. -/
def Dev.backupSample (d : Dev) (t : Telemetry) : Dev :=
  let d := (d.fs R.POWER_VOLT F.POWER_VOLT_VAUX t.vaux.toNat).fs R.POWER_VOLT F.POWER_VOLT_VBAK t.vbak.toNat
  let d := d.fsb R.POWER_STATUS F.POWER_STATUS_VNAND_OK t.vnand
  let ok := 2400 + 100 * d.fg R.POWER_CFG F.POWER_CFG_BAK_MIN ≤ t.vbak.toNat
  let d := if d.fb R.POWER_STATUS F.POWER_STATUS_BAK_OK && !ok then d.vbakLow
    else (d.fsb R.POWER_STATUS F.POWER_STATUS_BAK_OK ok).armRegs
  d.chargeRegs

/-- TELEMETRY_SAMPLE: the millisecond's telemetry (R525). -/
def execTelemetrySample (t : Telemetry) (s : State) : Out := s.onDev fun d =>
  if d.dozing then d else
  let d := d.tempSample (tempsOf t)
  let volts := [t.vdd, t.vddm, t.vdd18, t.vio33]
  let d := d.each (List.range 4) fun d k => d.fs (R.TELEM_VOLT k) F.TELEM_VOLT_MV (volts.getD k 0).toNat
  let d := t.lplus.foldl (fun (d : Dev) x => d.fs (R.TELEM_VOLT (4 + x.1.val)) F.TELEM_VOLT_MV x.2.toNat) d
  ((d.each (List.range 10) Dev.railSample).loadSample).backupSample t

/-! ### The other tasks (R520–R522) -/

/-- WEAR_ACCOUNTING: each second the bank calibration ages, and every 10 minutes the budget is written to the journal SRAM (R191, R520). -/
def execWearAccounting (s : State) : Out := s.onDev fun d =>
  let d := d.each (List.range 4) fun d n => d.satInc (R.CFE_BANK_AGE n) F.CFE_BANK_AGE_CAL_AGE
  if d.throttled || d.dozing then d else
  d.modStore fun s =>
    if s.wearSec + 1 < 600 then { s with wearSec := s.wearSec + 1 } else { s with wearSec := 0, saved := some s.budget }

/-- ENCODER_LINE_HEALTH: a window of a port ends (R522): the edges that the filter of a MODE 1 port has rejected, or the spread in ns of
the delay of a MODE 3 port. -/
def execEncoderLineHealth (e : Fin 64) (glitch spread : Nat) (s : State) : Out := s.onDev fun d =>
  if d.throttled || d.dozing then d
  else if d.encMode e = 1 then (d.wr (R.BG_ENC e) 0).fs (R.BG_ENC e) F.BG_ENC_GLITCH (min 65535 glitch)
  else if d.encMode e = 3 then (d.wr (R.BG_ENC e) 0).fs (R.BG_ENC e) F.BG_ENC_DSPREAD (min 255 spread)
  else d

/-- LOGBOOK_COMPACTION: space is reclaimed in a partition, at the cost of the physical bytes of its moves (R485, R520). -/
def execLogbookCompaction (part : Fin 12) (bytes : Nat) (s : State) : Out := s.onDev fun d =>
  if d.throttled || d.dozing || !d.mounted || d.fb R.POWER_STATUS F.POWER_STATUS_PF_ACTIVE then d
  else (d.wearDraw bytes).partRegs part

/-- BACKGROUND_TASK_LATE: a task has not completed its period (R521). -/
def execBackgroundTaskLate (task : Fin 6) (s : State) : Out := s.onDev fun d => d.setFlag R.BG_STATUS task 599

/-! ### Squall commands (R531–R535) -/

/-- A mode that R533 has for a target and a direction. -/
def squallModeOk (target mode dir : Nat) : Bool :=
  if target = 0 then mode ≤ 4
  else if target = 2 then mode ≤ 3 || (mode = 4 && dir = 0)
  else mode ≤ 3

/-- The first word of CFG, SEL and TRIG that is not a valid rule (R531–R533 and the register tables); words count from `k`. -/
def squallFail (cfg sel trig : Word) (k : Nat) : Option (Nat × Nat) :=
  let g (f : Fld) : Nat := fldGet cfg f
  let t := g F.SQ_RULE_CFG_TARGET
  let u := g F.SQ_RULE_CFG_UNIT
  failOf [(5 < t || 4 < g F.SQ_RULE_CFG_MODE || !squallModeOk t (g F.SQ_RULE_CFG_MODE) (g F.SQ_RULE_CFG_DIR)
            || wbits cfg 23 22 ≠ 0 || ((t = 2 || t = 3) && 1 < u) || (t = 4 && 9 < u) || (t = 5 && (2 < u || g F.SQ_RULE_CFG_DIR = 0)),
            0x0201, k),
          (wbits sel 30 29 ≠ 0 || (t ≠ 2 && sel ≠ 0), 0x0201, k + 1),
          (fldGet trig F.SQ_RULE_TRIG_KIND = 3 || wbits trig 19 16 ≠ 0
            || (fldGet trig F.SQ_RULE_TRIG_KIND = 1 && fldGet trig F.SQ_RULE_TRIG_VALUE = 0), 0x0201, k + 2)]

/-- SQUALL_CONFIG configures a rule. -/
def specSquallConfig : OpSpec where
  len _ := 4
  check d p :=
    firstFail [failOf [(pb p 3 31 3 ≠ 0, 0x0201, 3)], squallFail (pw p 4) (pw p 5) (pw p 6) 4,
      failOf [(d.debugLevel ≠ 3, 0x0504, 0), (d.bit R.SQ_STATUS (F.SQ_STATUS_ARMED.lo + pb p 3 2 0), 0x0303, 0)]]
  run d p :=
    let r := pb p 3 2 0
    .done (((d.wr (R.SQ_RULE_CFG r) (pw p 4)).wr (R.SQ_RULE_SEL r) (pw p 5)).wr (R.SQ_RULE_TRIG r) (pw p 6)) 0 0 []

/-- SQUALL_CONFIG (R535). -/
def execSquallConfig (p : Packet) (s : State) : Out := s.onDev fun d => d.runOp 0x0E00 specSquallConfig p

/-- Rules are armed and the others disarmed (R532, R535): the counts and DONE bits of the armed ones start anew; with none, all do. -/
def Dev.squallArm (d : Dev) (mask : Nat) (dur : Bool) : Dev :=
  let clr : List Nat := (List.range 8).filter fun r => mask = 0 || mask.testBit r
  let d := d.each clr fun d r => (d.wr (R.SQ_RULE_COUNT r) 0).setBit R.SQ_STATUS (F.SQ_STATUS_DONE.lo + r) false
  let old := d
  let d := (d.fs R.SQ_STATUS F.SQ_STATUS_ARMED mask).fsb R.SQ_STATUS F.SQ_STATUS_INJECTED false
  let d := d.modBg fun b => { b with matches_ := [], draws := 0, gen := (d.rd R.SQ_SEED).toNat, dur := dur }
  d.squallRegs.levelFell old false 600

/-- SQUALL_ARM arms rules. -/
def specSquallArm : OpSpec where
  len _ := 1
  check d p := failOf [(pb p 3 15 8 ≠ 0, 0x0201, 3), (d.debugLevel ≠ 3, 0x0504, 0), (d.dozing, 0x0301, 2)]
  run d p :=
    let d := d.squallArm (pb p 3 7 0) (pb p 3 31 16 ≠ 0 && pb p 3 7 0 ≠ 0)
    .done d 0 0 [d.rd R.SQ_STATUS]

/-- SQUALL_ARM (R535). -/
def execSquallArm (p : Packet) (s : State) : Out := s.onDev fun d => d.runOp 0x0E01 specSquallArm p

/-- SQUALL_DURATION_EXPIRY: the duration ends, and every rule disarms (R535). -/
def execSquallDurationExpiry (s : State) : Out := s.onDev fun d =>
  if !d.bg.dur then d else
  ((d.fs R.SQ_STATUS F.SQ_STATUS_ARMED 0).modBg fun b => { b with dur := false }).squallRegs

/-! ### Self-test (R534) -/

/-- Item `k` passes: item 1 by the six sensors as telemetry last read them, the others by what the test meets, a free choice. -/
def Dev.itemPasses (d : Dev) (k : Nat) : Bool :=
  if k = 1 then
    let t := (List.range 6).map fun j => d.fgS (R.TELEM_TEMP j) F.TELEM_TEMP_TEMP
    t.all fun v => (2 * v - median2 t).natAbs ≤ 192
  else Config.freeBool (d.fresh + k)

/-- SELF_TEST runs the items of W3. -/
def specSelfTest : OpSpec where
  len _ := 1
  check d p :=
    failOf [(pb p 3 31 5 ≠ 0 || pb p 3 4 0 = 0, 0x0201, 3),
            (wbit (pw p 3) 4 && (d.firstActive.isSome || d.hostSwitching), 0x0301,
              match d.firstActive with | some a => d.axState a | none => 0)]
  run d p :=
    let l := (List.range 5).filter fun k => wbit (pw p 3) k
    let pass := (l.filter d.itemPasses).foldl (fun n k => n + 2 ^ k) 0
    .done (({ d with fresh := d.fresh + 5 } : Dev).raise 601) 0 0 [toW pass, toW (pb p 3 4 0 - pass)]

/-- SELF_TEST (R534, R535). -/
def execSelfTest (p : Packet) (s : State) : Out := s.onDev fun d => d.runOp 0x0E02 specSelfTest p

/-! ### PLL relock (R22) -/

/-- The LOCK bit and the PLL_LOST bit of a PLL. -/
def pllLock (p : Pll) : Fld :=
  match p with
  | .ce => F.SYS_CLOCK_STATUS_CE_LOCK
  | .dsp => F.SYS_CLOCK_STATUS_DSP_LOCK
  | .sup => F.SYS_CLOCK_STATUS_SUP_LOCK
  | .can => F.SYS_CLOCK_STATUS_CAN_LOCK
  | .tie => F.SYS_CLOCK_STATUS_TIE_LOCK
  | .safA => F.SYS_CLOCK_STATUS_SAFA_LOCK

def pllLostBit (p : Pll) : Nat :=
  match p with | .ce => 8 | .dsp => 9 | .sup => 10 | .can => 11 | .tie => 12 | .safA => 13

/-- PLL_RELOCK: a CAN, Tie or safety A PLL that was lost locks again; channel A restarts under R449 (R22). -/
def execPllRelock (p : Pll) (s : State) : Out := s.onDev fun d =>
  if d.fb R.SYS_CLOCK_STATUS (pllLock p) then d else
  match p with
  | .can => if d.dozing then d else d.fsb R.SYS_CLOCK_STATUS (pllLock p) true
  | .tie => if d.dozing then d else d.fsb R.SYS_CLOCK_STATUS (pllLock p) true
  | .safA =>
    let d := d.fsb R.SYS_CLOCK_STATUS (pllLock p) true
    if d.safety.a.on || d.safety.a.faults.testBit 6 then d else d.safetyStart false
  | _ => d

end Sys2Proof.Machine
end

