-- ==== Sys2Proof/Machine/Trace.lean ====
section
/-!
DEFINITION. The Barograph and the snapshot unit (11): TRACE_CONFIG, TRACE_STREAM, SNAPSHOT, the TRACE_CTRL and RDPTR
writes, the closing of a sample, and the snapshot events.
-/

namespace Sys2Proof.Machine

open Sys2Proof

/-! ### Capture states (R313, R315, R328) -/

/-- The state code of the Barograph (R313): 0 OFF, 1 IDLE, 2 ARMED, 3 POST, 4 DONE, 5 STREAMING. -/
def Dev.trcState (d : Dev) : Nat := d.fg R.TRACE_STATUS F.TRACE_STATUS_STATE

/-- The Barograph in another state. -/
def Dev.setTrc (d : Dev) (s : Nat) : Dev := d.fs R.TRACE_STATUS F.TRACE_STATUS_STATE s

/-- The state that an arm, a re-arm or a start of streaming clears (R315).  A sample whose tick has come and that has not closed stays: the
first that closes afterwards is sample 0.  The free-run words of R317 are counted from here (DESIGN CHOICE, assumption log 57). -/
def Dev.traceClear (d : Dev) : Dev :=
  let d := { d with trace := { d.trace with
    sampleNo := 0, prev := [], stageB := false, force := false, postLeft := 0, frames := 0, trigFrame := 0, gapLen := 0
    maskFrom := none, run := false, words := 0 } }
  let d := ((((d.wr64 R.TRACE_PTR 0).wr64 R.TRACE_TRIG 0).wr R.TRACE_TRIG_SRC 0).wr64 R.TRACE_COUNTS 0)
  [F.TRACE_STATUS_TRIG_IN_GAP, F.TRACE_STATUS_MASK_STOP, F.TRACE_STATUS_FORCED, F.TRACE_STATUS_PARTIAL,
    F.TRACE_STATUS_TRIG_OVERRUN, F.TRACE_STATUS_TRIGGERED].foldl (fun d f => d.fsb R.TRACE_STATUS f false) d

/-- ARM, and each re-arm (R315). -/
def Dev.traceArm (d : Dev) : Dev := d.traceClear.setTrc 2

/-- DISARM or a disable ends sampling at once; in ARMED, POST and STREAMING it sets PARTIAL (R328). -/
def Dev.traceEnd (d : Dev) (dest : Nat) : Dev :=
  let st := d.trcState
  let d := if st = 2 ∨ st = 3 ∨ st = 5 then (d.fsb R.TRACE_STATUS F.TRACE_STATUS_PARTIAL true).raise 181 else d
  ({ d with trace := { d.trace with due := [], force := false } }).setTrc dest

/-- The capture enters DONE (R323, R325): ACQ counts, and NORMAL and AUTO re-arm at once when REL is set. -/
def Dev.traceDone (d : Dev) : Dev :=
  let d := ((d.setTrc 4).wrapInc R.TRACE_STATUS F.TRACE_STATUS_ACQ).raise 177
  if d.fg R.TRACE_CFG F.TRACE_CFG_MODE ≠ 0 && d.fb R.TRACE_STATUS F.TRACE_STATUS_REL then
    (d.fsb R.TRACE_STATUS F.TRACE_STATUS_REL false).traceArm
  else d

/-! ### Channels (R316–R318) -/

/-- The word that channel `j` stores at the close of a sample (R316, R318): for an axis of the clock lane the signal of its evaluation for
the sample tick; for the clocking input the clocking word; else the latest value. -/
def Dev.chWord (d : Dev) (e : SampleDue) (j : Nat) : Word :=
  let i := d.chIndex j
  match d.chKind j with
  | 0 => if d.bound i then (e.sigs.lookup j).getD (d.sigWord j) else 0
  | 1 => if e.tick.isNone && d.fg R.TRACE_CLK F.TRACE_CLK_INPUT = i then toWI e.word else toWI (tabGet d.cfe.sd i).raw
  | 2 => match i with
    | 0 => d.rd R.FIELD_IN
    | 1 => d.rd (R.FIELD_IN + 4)
    | 2 => d.rd R.FIELD_OUT_ACT
    | _ => toW (d.field.sin * 65536 + (d.rd (R.FIELD_OUT_ACT + 4)).toNat % 65536)
  | _ => toW (((List.range 32).filter fun b => d.trace.fired.contains (32 * i + b)).foldl (fun n b => n + 2 ^ b) 0)

/-- The PWM clocks between two samples of the running sample clock (R317). -/
def Dev.sampleClocks (d : Dev) : Nat :=
  let src := d.fg R.TRACE_CLK F.TRACE_CLK_SRC
  let dv := d.fg R.TRACE_CLK F.TRACE_CLK_DIV + 1
  if src < 4 then d.tickCounts src * dv
  else let i := d.fg R.TRACE_CLK F.TRACE_CLK_INPUT; d.sdDiv i * d.osr i * dv

/-- The frame writer keeps up with the sample rate: 4 × (NCH + 2) × f_s ≤ 256,000,000 B/s (R321); NCH + 2 counts the
header and the channels. -/
def Dev.writerKeepsUp (d : Dev) : Bool := 4 * (d.nch + 1) * 400000000 ≤ 256000000 * d.sampleClocks

/-! ### Comparators and masks (R322, R326, R327) -/

/-- The order of binary32 values as integers; both zeros are 0. -/
def f32Key (w : Word) : Int :=
  let m : Int := ((w.toNat % 2 ^ 31 : Nat) : Int)
  if 2 ^ 31 ≤ w.toNat then -m else m

/-- The word is a binary32 NaN. -/
def f32NaN (w : Word) : Bool := 0x7F800000 < w.toNat % 2 ^ 31

/-- The value of a word in the order in which its channel's kind compares (R322, R326). -/
def kindKey (kind : Nat) (w : Word) : Int := if kind = 0 then f32Key w else toS 32 w.toNat

/-- Comparator `c` is met at sample `n` with channel words `vals`, after the words `prev` (R322).  Against a threshold
that is no number the outcome is a free value. -/
def Dev.cmpMet (d : Dev) (vals prev : List Word) (n c : Nat) : Bool :=
  let cf := R.TRACE_CMP_CFG c
  let ty := d.fg cf F.TRACE_CMP_CFG_TYPE
  let se := d.fg cf F.TRACE_CMP_CFG_SENSE
  let ch := d.fg cf F.TRACE_CMP_CFG_CH
  let k := d.chKind ch
  let aw := d.rd (R.TRACE_CMP_VAL c)
  let bw := d.rd (R.TRACE_CMP_VAL c + 4)
  let v := vals.getD ch 0
  let key := kindKey k
  let a := key aw
  let b := key bw
  if ty = 2 ∧ n = 0 then false
  else if (ty = 1 ∨ ty = 2 ∨ ty = 3) ∧ k = 0 ∧ (f32NaN aw ∨ (ty = 3 ∧ f32NaN bw)) then Config.freeBool d.fresh
  else match ty with
    | 1 => if se = 0 then a < key v else key v < a
    | 2 =>
      let p := key (prev.getD ch 0)
      let up := p < a && a ≤ key v
      let down := a < p && key v ≤ a
      match se with | 0 => up | 1 => down | _ => up || down
    | 3 =>
      let inside := a ≤ key v && key v ≤ b
      if se = 0 then inside else !inside
    | 4 => if se = 0 then v &&& aw == bw else v &&& aw != bw
    | 5 => d.trace.fired.contains (d.fg cf F.TRACE_CMP_CFG_EVSRC)
    | _ => false

/-- A stage: the OR or the AND of the comparators of a mask; an empty mask is never met (R323). -/
def stageMet (mask : Nat) (all : Bool) (met : List Nat) : Bool :=
  let cs := (List.range 8).filter fun c => mask.testBit c
  !cs.isEmpty && (if all then cs.all met.contains else cs.any met.contains)

/-- The sample `n`, tested from sample `from'` on, violates a mask (R326, R327). -/
def Dev.violates (d : Dev) (vals : List Word) (n from' : Nat) : Bool :=
  let i := (n - from') / (d.fg R.TRACE_MASK_SPAN F.TRACE_MASK_SPAN_SPAN + 1)
  i ≤ d.fg R.TRACE_MASK_SPAN F.TRACE_MASK_SPAN_POINTS &&
  (List.range 4).any fun m =>
    d.bit R.TRACE_MASK_CFG (8 * m + 7) &&
    let ch := d.fg R.TRACE_MASK_CFG ⟨8 * m, 6⟩
    let key := kindKey (d.chKind ch)
    let v := key (vals.getD ch 0)
    key (d.rd (R.TRACE_MASK (2048 * m + i))) < v || v < key (d.rd (R.TRACE_MASK (2048 * m + 1024 + i)))

/-! ### Frames (R319–R321, R325) -/

def Dev.depth (d : Dev) : Nat := d.fg R.TRACE_GEOM F.TRACE_GEOM_DEPTH
def Dev.wrptr (d : Dev) : Nat := d.fg R.TRACE_PTR F.TRACE_PTR_WRPTR

/-- (WRPTR − p) mod DEPTH for a pointer of 20 bits. -/
def Dev.unreadFrom (d : Dev) (p : Nat) : Nat := (d.wrptr + d.depth * 2 ^ 20 - p) % d.depth

/-- The frames that the host has not read (R325). -/
def Dev.unread (d : Dev) : Nat := d.unreadFrom (d.fg R.TRACE_RDPTR F.TRACE_RDPTR_RDPTR)

/-- R325 bars the write of the last of `k` frames: in STREAMING it would be written while the unread frames number DEPTH − 1 or more. -/
def Dev.writeBarred (d : Dev) (k : Nat) : Bool := d.trcState = 5 && d.depth ≤ d.unread + k

/-- TRACE_TRIG.POS and TRIG_OVERRUN follow the oldest frame held (R325). -/
def Dev.tracePos (d : Dev) : Dev :=
  if d.fb R.TRACE_STATUS F.TRACE_STATUS_TRIGGERED then
    let pos : Int := (d.trace.trigFrame : Int) - ((d.trace.frames - d.depth : Nat) : Int)
    let d := d.wr (R.TRACE_TRIG + 4) (toWI pos)
    if pos < 0 then d.fsb R.TRACE_STATUS F.TRACE_STATUS_TRIG_OVERRUN true else d
  else d

/-- A frame is written at WRPTR; in STREAMING source 180 is raised when the unread frames rise above DEPTH / 2 (R319,
R325). -/
def Dev.putFrame (d : Dev) (ws : List Word) : Dev :=
  let before := d.unread
  let f := d.wrptr
  let d := d.setBulkWords (4 * (d.nch + 1) * f) ws
  let nx := if f + 1 < d.depth then f + 1 else 0
  let d := { d with trace := { d.trace with frames := d.trace.frames + 1 } }
  let d := d.fs R.TRACE_PTR F.TRACE_PTR_WRPTR nx
  let full := d.depth ≤ d.trace.frames
  let d := (d.fsb R.TRACE_PTR F.TRACE_PTR_FULL full).fs R.TRACE_PTR F.TRACE_PTR_OLDEST (if full then nx else 0)
  let d := d.tracePos
  if d.trcState = 5 && before ≤ d.depth / 2 && d.depth / 2 < d.unread then d.raise 180 else d

/-- The gap frame of the dropped samples is written (R320, R321). -/
def Dev.putGap (d : Dev) : Dev :=
  if d.trace.gapLen = 0 then d else
  let len := min d.trace.gapLen (2 ^ 30 - 1)
  let ws := [toW (2 ^ 30 + len), toW d.trace.gapFirst] ++ List.replicate (d.nch - 1) 0
  let d := d.putFrame ws
  let g := d.fg R.TRACE_COUNTS F.TRACE_COUNTS_GAP_SAMPLES + len
  let d := (d.fs R.TRACE_COUNTS F.TRACE_COUNTS_GAP_SAMPLES (min g (2 ^ 32 - 1))).fsb R.TRACE_STATUS F.TRACE_STATUS_GAP true
  ({ d with trace := { d.trace with gapLen := 0 } }).raise 178

/-- A closed sample is stored, directly after the frame of a gap that precedes it, or dropped, and then it belongs to that gap (R321); the
answer says whether it was dropped. -/
def Dev.storeSample (d : Dev) (ws : List Word) (n : Nat) (drop : Bool) : Dev × Bool :=
  let dropIt (d : Dev) : Dev := { d with trace := { d.trace with
    gapFirst := if d.trace.gapLen = 0 then n % 2 ^ 32 else d.trace.gapFirst, gapLen := d.trace.gapLen + 1 } }
  if drop || d.writeBarred (if d.trace.gapLen = 0 then 1 else 2) then (dropIt d, true) else (d.putGap.putFrame ws, false)

/-! ### The closing of a sample (R317–R327) -/

/-- The trigger sample is found (R324, R330). -/
def Dev.traceTrigger (d : Dev) (n inst : Nat) (forced dropped : Bool) (met : List Nat) : Dev :=
  let seq := d.fb R.TRACE_TRIG_CFG F.TRACE_TRIG_CFG_SEQ
  let a := d.fg R.TRACE_TRIG_CFG F.TRACE_TRIG_CFG_MASKA
  let b := d.fg R.TRACE_TRIG_CFG F.TRACE_TRIG_CFG_MASKB
  let mask := (met.filter fun c => a.testBit c || b.testBit c).foldl (fun m c => m + 2 ^ c) 0
  let definer := if forced then 0xF else ((met.filter fun c => (if seq then b else a).testBit c).head?).getD 0
  let d := (d.fs R.TRACE_TRIG F.TRACE_TRIG_SEQ (n % 2 ^ 32)).wr64 R.TRACE_TRIG_TIME inst
  let d := d.wr R.TRACE_TRIG_SRC (toW (2 ^ 31 + (if forced then 2 ^ 30 else 0) + definer * 2 ^ 24 + mask))
  let d := ((d.fsb R.TRACE_STATUS F.TRACE_STATUS_TRIGGERED true).fsb R.TRACE_STATUS F.TRACE_STATUS_FORCED forced).fsb
    R.TRACE_STATUS F.TRACE_STATUS_TRIG_IN_GAP dropped
  let d := { d with trace := { d.trace with trigFrame := if dropped then d.trace.frames else d.trace.frames - 1, force := false } }
  let d := (d.tracePos).raise 176
  let d := if forced then d.raise 182 else d
  let d := if d.fb R.SNAP_CFG F.SNAP_CFG_TRACE then d.strobe 1 0 else d
  let post := (d.rd R.TRACE_POST).toNat
  if post = 0 then d.traceDone else ({ d with trace := { d.trace with postLeft := post } }).setTrc 3

/-- The sample `e` closes in ARMED, POST or STREAMING; `busy` says that the frame writer still holds
two frames. -/
def Dev.closeSample (d : Dev) (e : SampleDue) (busy : Bool) : Dev :=
  let inst := e.inst
  let st := d.trcState
  let n := d.trace.sampleNo
  let vals := (List.range d.nch).map (d.chWord e)
  let d := if n = 0 then d.wr64 R.TRACE_T0 inst else d
  let met := if st = 3 then [] else (List.range 8).filter (d.cmpMet vals d.trace.prev n)
  let stageA := stageMet (d.fg R.TRACE_TRIG_CFG F.TRACE_TRIG_CFG_MASKA) (d.fb R.TRACE_TRIG_CFG F.TRACE_TRIG_CFG_OPA) met
  let stageB := stageMet (d.fg R.TRACE_TRIG_CFG F.TRACE_TRIG_CFG_MASKB) (d.fb R.TRACE_TRIG_CFG F.TRACE_TRIG_CFG_OPB) met
  let seq := d.fb R.TRACE_TRIG_CFG F.TRACE_TRIG_CFG_SEQ
  let forced := st = 2 && d.trace.force
  let trig := forced || (st = 2 && (if seq then d.trace.stageB && stageB else stageA))
  let mark := st = 5 && stageA
  let from' := if trig || mark then some n else d.trace.maskFrom
  let viol := (st ≠ 2 || trig) && (match from' with | some m => d.violates vals n m | none => false)
  let hdr := toW ((if trig || mark then 2 ^ 29 + (met.foldl (fun m c => m + 2 ^ c) 0) * 2 ^ 20 else 0)
    + (if forced then 2 ^ 28 else 0) + (if viol then 2 ^ 19 else 0) + n % 2 ^ 19)
  let drop := (busy && !d.writerKeepsUp) || 2 ≤ d.fg R.THERMAL_STATUS F.THERMAL_STATUS_LEVEL
  let (d, dropped) := d.storeSample (hdr :: vals) n drop
  let wasRun := d.trace.run
  let d := { d with fresh := d.fresh + 1
                    trace := { d.trace with
    sampleNo := n + 1, prev := vals, fired := [], maskFrom := from', run := mark
    stageB := d.trace.stageB || (st = 2 && seq && stageA) } }
  let d := if mark && !wasRun then d.raise 176 else d
  let d := if viol then (d.satInc R.TRACE_COUNTS F.TRACE_COUNTS_VIOL).raise 179 else d
  if trig then d.traceTrigger n inst forced dropped met
  else if st = 3 then
    if viol && d.fb R.TRACE_MASK_SPAN F.TRACE_MASK_SPAN_STOPV then
      (d.fsb R.TRACE_STATUS F.TRACE_STATUS_MASK_STOP true).traceDone
    else { d with trace := { d.trace with postLeft := d.trace.postLeft - 1 } }
  else d

/-- A sample can close (R317): every evaluation for its tick has ended, and the last compare value of them has arrived. -/
def Dev.sampleReady (d : Dev) (e : SampleDue) : Bool :=
  match e.tick with
  | none => true
  | some t =>
    (laneAxes (d.fg R.TRACE_CLK F.TRACE_CLK_SRC)).all (fun a => !d.active a || !(tabGet d.ce.ax a).due.any (·.tick = t)) &&
    e.legs.all fun x => x.2 = 0 || (d.leg x.1).issued.isEmpty

/-- TRACE_SAMPLE_CLOSE: the oldest sample that has not closed closes (R317); in a state without sampling it is no sample (R313). -/
def execTraceSampleClose (busy : Bool) (s : State) : Out := s.onDev fun d =>
  match d.trace.due with
  | [] => d
  | e :: rest =>
    if !d.sampleReady e then d else
    let d := { d with trace := { d.trace with due := rest } }
    if d.trcState = 2 ∨ d.trcState = 5 ∨ (d.trcState = 3 ∧ 0 < d.trace.postLeft) then d.closeSample e busy else d

/-- A tick of lane `n`, or a free-run word of the clocking input, gives a sample instant (R317): `count` is the tick
count, or the number of words since the arm.  In IDLE and DONE the last two instants stay: an arm may come before their samples close
(R315). -/
def Dev.sampleTick (d : Dev) (src count : Nat) (e : SampleDue) : Dev :=
  if d.trcState ≠ 0 ∧ d.fg R.TRACE_CLK F.TRACE_CLK_SRC = src ∧ count % (d.fg R.TRACE_CLK F.TRACE_CLK_DIV + 1) = 0 then
    let l := d.trace.due ++ [e]
    { d with trace := { d.trace with due := if d.trcState = 1 ∨ d.trcState = 4 then l.drop (l.length - 2) else l } }
  else d

/-- TRACE_POST_COMPLETE: the samples after the trigger have been taken (R325). -/
def execTracePostComplete (s : State) : Out := s.onDev fun d =>
  if d.trcState = 3 ∧ d.trace.postLeft = 0 then d.traceDone else d

/-- TRACE_AUTO_TIMEOUT: in AUTO mode the trigger is forced at the next closed sample (R323). -/
def execTraceAutoTimeout (s : State) : Out := s.onDev fun d =>
  if d.trcState = 2 ∧ d.fg R.TRACE_CFG F.TRACE_CFG_MODE = 2 then { d with trace := { d.trace with force := true } } else d

/-! ### Host writes of TRACE_CTRL and TRACE_RDPTR (R8, R315, R323, R325) -/

/-- A host write of TRACE_CTRL acts on every bit set in it; DISARM takes precedence over ARM. -/
def Dev.traceCtrl (d : Dev) (w : Word) : Dev :=
  let d := if wbit w 1 then (if 2 ≤ d.trcState then d.traceEnd 1 else d)
    else if wbit w 0 && (d.trcState = 1 || d.trcState = 4) then d.traceArm else d
  let d := if wbit w 2 && d.trcState = 2 then { d with trace := { d.trace with force := true } } else d
  if wbit w 3 && d.fg R.TRACE_CFG F.TRACE_CFG_MODE ≠ 0 then
    if d.trcState = 4 then d.traceArm else d.fsb R.TRACE_STATUS F.TRACE_STATUS_REL true
  else d

/-- TRACE_ARM: a host write of TRACE_CTRL with ARM at 1. -/
def execTraceArm (w : Word) (s : State) : Out := s.onDev fun d => if wbit w 0 then d.traceCtrl w else d

/-- TRACE_DISARM: a host write of TRACE_CTRL with DISARM at 1. -/
def execTraceDisarm (w : Word) (s : State) : Out := s.onDev fun d => if wbit w 1 then d.traceCtrl w else d

/-- TRACE_FORCE: a host write of TRACE_CTRL with FORCE at 1. -/
def execTraceForce (w : Word) (s : State) : Out := s.onDev fun d => if wbit w 2 then d.traceCtrl w else d

/-- TRACE_RELEASE: a host write of TRACE_CTRL with RELEASE at 1. -/
def execTraceRelease (w : Word) (s : State) : Out := s.onDev fun d => if wbit w 3 then d.traceCtrl w else d

/-- A host write of TRACE_RDPTR (R325). -/
def Dev.rdptrWrite (d : Dev) (w : Word) : Dev :=
  let v := wbits w 19 0
  if d.unread < d.unreadFrom v then d.fsb R.TRACE_STATUS F.TRACE_STATUS_RDPTR_BAD true else d.fs R.TRACE_RDPTR F.TRACE_RDPTR_RDPTR v

/-- TRACE_RDPTR_WRITE: the host frees streamed frames (R325). -/
def execTraceRdptrWrite (w : Word) (s : State) : Out := s.onDev fun d => d.rdptrWrite w

/-! ### Commands (R334) -/

/-- The enable of TRACE_CONFIG is consistent (R316, R322, R326 and the notes of TRACE_CFG and TRACE_CLK). -/
def Dev.traceEnableOk (d : Dev) : Bool :=
  let nch := d.nch
  let chOk := (List.range nch).all fun j => d.chIndex j < [64, 160, 4, 20].getD (d.chKind j) 0
  let src := d.fg R.TRACE_CLK F.TRACE_CLK_SRC
  let inp := d.fg R.TRACE_CLK F.TRACE_CLK_INPUT
  let clkOk := src < 4 || (src = 4 && inp < 160 && d.fb (R.CFE_SD_CFG inp) F.CFE_SD_CFG_EN)
  let mode := d.fg R.TRACE_CFG F.TRACE_CFG_MODE
  let modeOk := mode < 2 || (mode = 2 && d.fg R.TRACE_CFG F.TRACE_CFG_AUTO_TMO ≠ 0)
  let cmpOk := (List.range 8).all fun c =>
    let cf := R.TRACE_CMP_CFG c
    let ty := d.fg cf F.TRACE_CMP_CFG_TYPE
    let se := d.fg cf F.TRACE_CMP_CFG_SENSE
    let ch := d.fg cf F.TRACE_CMP_CFG_CH
    ch < nch && d.fg cf F.TRACE_CMP_CFG_EVSRC < 640 && se ≠ 3 && ty < 6
      && (if ty = 1 ∨ ty = 2 ∨ ty = 3 then d.chKind ch < 2 else true)
      && (if ty = 1 ∨ ty = 3 ∨ ty = 4 then se < 2 else if ty = 5 then se = 0 else true)
  let mskOk := (List.range 4).all fun m =>
    !d.bit R.TRACE_MASK_CFG (8 * m + 7) ||
      (d.fg R.TRACE_MASK_CFG ⟨8 * m, 6⟩ < nch && d.chKind (d.fg R.TRACE_MASK_CFG ⟨8 * m, 6⟩) < 2)
  chOk && clkOk && modeOk && cmpOk && mskOk

/-- TRACE_CONFIG's parameters and effect. -/
def specTraceConfig : OpSpec where
  len p := if pw p 3 = 2 then 4 else 1
  check d p :=
    match (pw p 3).toNat with
    | 0 => none
    | 1 => if !d.traceEnableOk then some (0x0205, 3) else if d.trcState ≠ 0 then some (0x0301, d.trcState) else none
    | 2 =>
      let first := (pw p 4).toNat
      let n := (pw p 5).toNat
      let off := (pw p 6).toNat
      if n = 0 ∨ 8192 < n ∨ 8192 < first + n then some (0x0201, 5)
      else if off % 4 ≠ 0 ∨ 2 ^ 24 < off + 4 * n then some (0x0201, 6)
      else if d.trcState = 2 ∨ d.trcState = 3 ∨ d.trcState = 5 ∨ d.stagingBusy then some (0x0303, 0)
      else none
    | _ => some (0x0201, 3)
  run d p :=
    match (pw p 3).toNat with
    | 0 => .done (if d.trcState = 0 then d else d.traceEnd 0) 0 0 []
    | 1 =>
      let words := d.nch + 1
      let dep := 1048576 / words
      let d := ((d.fs R.TRACE_GEOM F.TRACE_GEOM_WORDS words).fs R.TRACE_GEOM F.TRACE_GEOM_DEPTH dep).setTrc 1
      .done d 0 0 [toW dep, toW words]
    | _ =>
      let first := (pw p 4).toNat
      let off := stagingBase + (pw p 6).toNat
      .done (d.each (List.range (pw p 5).toNat) fun d i => d.wr (R.TRACE_MASK (first + i)) (d.bulkWord (off + 4 * i))) 0 0 []

/-- TRACE_CONFIG enables or disables the Barograph, or loads the mask table from staging. -/
def execTraceConfig (p : Packet) (s : State) : Out := s.onDev fun d => d.runOp 0x0700 specTraceConfig p

/-- TRACE_STREAM's parameters and effect (R334, R328). -/
def specTraceStream : OpSpec where
  len _ := 1
  check d p :=
    match (pw p 3).toNat with
    | 0 => none
    | 1 => if d.trcState ≠ 1 then some (0x0301, d.trcState) else none
    | _ => some (0x0201, 3)
  run d p :=
    let d := if pw p 3 = 1 then (d.traceClear.wr R.TRACE_RDPTR 0).setTrc 5
      else if d.trcState = 5 then ({ d with trace := { d.trace with due := [] } }).setTrc 1 else d
    .done d 0 0 [toW d.wrptr]

/-- TRACE_STREAM starts or stops streaming capture. -/
def execTraceStream (p : Packet) (s : State) : Out := s.onDev fun d => d.runOp 0x0701 specTraceStream p

/-- SNAPSHOT's effect (R330–R332, R334): its reply names the bank and whether the strobe merged. -/
def specSnapshot : OpSpec where
  len _ := 0
  check d _ :=
    if d.snap.bank.isNone && d.bit R.SNAP_STATUS (F.SNAP_STATUS_FULL.lo + d.fg R.SNAP_STATUS F.SNAP_STATUS_NEXT)
        && d.fb R.SNAP_CFG F.SNAP_CFG_KEEP then some (0x0303, 0) else none
  run d _ :=
    let merged := d.snap.bank.isSome && d.snap.clock ≠ some d.clocks
    let b := d.snap.bank.getD (d.fg R.SNAP_STATUS F.SNAP_STATUS_NEXT)
    let d := d.strobe 0 0
    .done d 0 0 (toW (b + (if merged then 256 else 0)) :: words64 (d.rd64 (R.SNAP_TIME b)))

/-- SNAPSHOT issues a snapshot strobe; one that R332 loses still counts in LOST and raises source 188. -/
def execSnapshot (p : Packet) (s : State) : Out := s.onDev fun d =>
  if opNum p = 0x0702 && d.canStart p && p.params.isEmpty && !d.inRecovery && (specSnapshot.check d p).isSome then
    (d.strobe 0 0).runOp 0x0702 specSnapshot p
  else d.runOp 0x0702 specSnapshot p

/-! ### Snapshot events (R330–R333) -/

/-- SNAPIN_EDGE: an edge of SNAPIN strobes when PIN_EN is 1 and PIN_EDGE selects it. -/
def execSnapinEdge (rising : Bool) (s : State) : Out := s.onDev fun d =>
  if d.fb R.SNAP_CFG F.SNAP_CFG_PIN_EN && d.fb R.SNAP_CFG F.SNAP_CFG_PIN_EDGE == !rising then d.strobe 4 0 else d

/-- SNAPOUT_PULSE_END: SNAPOUT falls. -/
def execSnapoutPulseEnd (s : State) : Out := s.onDev fun d => { d with snap := { d.snap with outHigh := false } }

/-- SNAPSHOT_TRANSFER_COMPLETE: the latched values stand in the bank (R332, R333). -/
def execSnapshotTransferComplete (s : State) : Out := s.onDev fun d =>
  match d.snap.bank with
  | none => d
  | some b =>
    let base := 0x130000 + 0x2000 * b
    let d := d.snapWords.foldl (fun d x => d.wr (base + x.1) x.2) d
    let d := (d.fsb (R.SNAP_HDR b) F.SNAP_HDR_FILLING false).fsb R.SNAP_STATUS F.SNAP_STATUS_BUSY false
    let d := (d.setBit R.SNAP_STATUS (F.SNAP_STATUS_FULL.lo + b) true).fs R.SNAP_STATUS F.SNAP_STATUS_NEXT (b + 1)
    let d := { d with snap := { d.snap with bank := none, latch := [], extra := [] } }
    d.raise (184 + b)

/-- SNAP_BANK_FREE: the host writes 1 to FULL bits of SNAP_STATUS (R332). -/
def execSnapBankFree (w : Word) (s : State) : Out := s.onDev fun d =>
  d.wr R.SNAP_STATUS (d.rd R.SNAP_STATUS &&& ~~~(w &&& 0x000F0000#32))

end Sys2Proof.Machine
end

