-- ==== Sys2Proof/Machine/Cfe.lean ====
section
/-!
DEFINITION. The current front end (06): free-run words, refills, the over-current, range, stuck, alternating and clock
checks, and calibration.
-/

namespace Sys2Proof.Machine

open Sys2Proof

/-! ### Conditions on captured bits (R186, R193) -/

/-- The sinc2 value lies above OC_HI or below OC_LO. -/
def Dev.ocBeyond (d : Dev) (i : Nat) (v : Int) : Bool :=
  d.fgS (R.CFE_SD_OC i) F.CFE_SD_OC_OC_HI < v || v < d.fgS (R.CFE_SD_OC i) F.CFE_SD_OC_OC_LO

/-- The input is over-current on the newest OC_N captured bits (R186). -/
def Dev.isOc (d : Dev) (i bits : Nat) : Bool :=
  d.fb (R.CFE_SD_CFG i) F.CFE_SD_CFG_OC_EN &&
  (List.range (d.fg (R.CFE_SD_CFG i) F.CFE_SD_CFG_OC_N + 1)).all fun k => d.ocBeyond i (sinc2 bits k)

/-- The W estimate −(U + V) of a TYPE 0 axis is over-current on the newest OC_N captured bits (R186). -/
def Dev.isOcW (d : Dev) (i bits bitsB : Nat) : Bool :=
  d.fb (R.CFE_SD_CFG i) F.CFE_SD_CFG_OC_EN && d.fb (R.CFE_SD_CFG i) F.CFE_SD_CFG_OC_W &&
  (match d.currentAxis i with
    | some a => d.axType a = 0 && d.fg (R.AXIS_BIND_IN a) F.AXIS_BIND_IN_CUR_A = i
    | none => false) &&
  (List.range (d.fg (R.CFE_SD_CFG i) F.CFE_SD_CFG_OC_N + 1)).all fun k => d.ocBeyond i (-(sinc2 bits k + sinc2 bitsB k))

/-- STUCK_N of an input in bits. -/
def Dev.stuckN (d : Dev) (i : Nat) : Nat := 64 * 2 ^ d.fg (R.CFE_SD_CFG i) F.CFE_SD_CFG_STUCK_N

/-- The newest `n` bits are equal. -/
def allEqual (n bits : Nat) : Bool := bits % 2 ^ n = 0 || bits % 2 ^ n = 2 ^ n - 1

/-- The newest `n` bits alternate strictly. -/
def alternates (n bits : Nat) : Bool := allEqual (n - 1) ((bits ^^^ (bits / 2)) % 2 ^ (n - 1)) && (bits ^^^ (bits / 2)) % 2 = 1

/-- OVERCURRENT_DETECT: the newest captured bits of an input, and for the W estimate those of CUR_B (R186, R187, R196); a condition that
they do not show has ended. -/
def execOvercurrentDetect (i : Fin 160) (bits bitsB : Nat) (s : State) : Out := s.onDev fun d =>
  if !d.fb (R.CFE_SD_CFG i) F.CFE_SD_CFG_EN then d else
  let own := d.isOc i bits
  let w := d.isOcW i bits bitsB
  let d := d.modSd i fun x => { x with ocNow := own, ocW := w }
  if !own && !w then d else
  let v := sinc2 bits 0
  let d := if own && d.fgS (R.CFE_SD_OC i) F.CFE_SD_OC_OC_HI < v then d.sdFlag i F.CFE_SD_STATUS_OC_HI else d
  let d := if own && v < d.fgS (R.CFE_SD_OC i) F.CFE_SD_OC_OC_LO then d.sdFlag i F.CFE_SD_STATUS_OC_LO else d
  (if w then d.sdFlag i F.CFE_SD_STATUS_OC_W else d).inputTrip i

/-- STUCK_DETECT: no bit transition in STUCK_N captured bits (R193, R194). -/
def execStuckDetect (i : Fin 160) (bits : Nat) (s : State) : Out := s.onDev fun d =>
  if d.fb (R.CFE_SD_CFG i) F.CFE_SD_CFG_EN && d.fb (R.CFE_SD_CFG i) F.CFE_SD_CFG_STUCK_EN && allEqual (d.stuckN i) bits then
    (((d.sdFlag i F.CFE_SD_STATUS_STUCK).calSpoil i).modSd i fun x => { x with stuckNow := true }).inputTrip i
  else d

/-- ALTERNATING_DETECT: the bits alternate strictly for STUCK_N captured bits (R193, R194). -/
def execAlternatingDetect (i : Fin 160) (bits : Nat) (s : State) : Out := s.onDev fun d =>
  if d.fb (R.CFE_SD_CFG i) F.CFE_SD_CFG_EN && d.fb (R.CFE_SD_CFG i) F.CFE_SD_CFG_ALT_EN && alternates (d.stuckN i) bits then
    ((d.sdFlag i F.CFE_SD_STATUS_ALT).modSd i fun x => { x with altNow := true }).inputTrip i
  else d

/-- RANGE_FAULT: free-run words have lain out of range on RANGE_N consecutive words (R193). -/
def execRangeFault (i : Fin 160) (s : State) : Out := s.onDev fun d =>
  if d.fb (R.CFE_SD_CFG i) F.CFE_SD_CFG_EN && d.fg (R.CFE_SD_CFG i) F.CFE_SD_CFG_RANGE_N < (d.sd i).rangeN then
    (d.sdFlag i F.CFE_SD_STATUS_RANGE).calSpoil i
  else d

/-! ### Clock checks (R193, R194) -/

/-- A modulator clock has failed: every active axis with a current input on it trips, and running averages are spoilt. -/
def Dev.clockFailed (d : Dev) (k : Nat) : Dev :=
  let ins := d.clockInputs k
  let d := d.each ins Dev.calSpoil
  d.each ((List.range 64).filter fun a => d.active a && (d.curIns a).any ins.contains) Dev.ocTrip

/-- SDCK_READBACK_FAULT: the readback of a running SDCK output fails. -/
def execSdckReadbackFault (k : Fin 20) (s : State) : Out := s.onDev fun d =>
  if d.fb R.CFE_CLK_CFG F.CFE_CLK_CFG_EXT || !d.fb (R.CFE_SDCK_CFG k) F.CFE_SDCK_CFG_EN then d else
  let d := d.setFlag R.CFE_CLK_STATUS k (260 + k / 5)
  let d := { d with cfe := { d.cfe with sdckNow := d.cfe.sdckNow.filter (· ≠ k.val) ++ [k.val] } }
  d.clockFailed k

/-- EXT_CLOCK_LOST: with EXT at 1, SDCLK_IN is missing or off frequency; an EXT_LOST raises sources 260–263. -/
def execExtClockLost (s : State) : Out := s.onDev fun d =>
  if !d.fb R.CFE_CLK_CFG F.CFE_CLK_CFG_EXT then d else
  let d := if d.fb R.CFE_CLK_STATUS F.CFE_CLK_STATUS_EXT_LOST then d
    else [260, 261, 262, 263].foldl (fun x s => x.raiseBit d s) (d.fsb R.CFE_CLK_STATUS F.CFE_CLK_STATUS_EXT_LOST true)
  let d := { d with cfe := { d.cfe with extNow := true } }
  d.clockFailed 20

/-- MODULATOR_CLOCK_RETURN: a failed clock (20 for SDCLK_IN) returns, and each input on it refills (R194). -/
def execModulatorClockReturn (k : Fin 21) (s : State) : Out := s.onDev fun d =>
  if k.val = 20 then
    if d.cfe.extNow then
      let d := { d with cfe := { d.cfe with extNow := false } }
      d.each (d.clockInputs 20) Dev.refill
    else d
  else if d.cfe.sdckNow.contains k.val then
    let d := { d with cfe := { d.cfe with sdckNow := d.cfe.sdckNow.filter (· ≠ k.val) } }
    d.each (d.clockInputs k.val) Dev.refill
  else d

/-- DECIMATOR_REFILL_COMPLETE: 3 × OSR bits have been captured since the refill started (R184). -/
def execDecimatorRefillComplete (i : Fin 160) (s : State) : Out := s.onDev fun d =>
  if d.fb (R.CFE_SD_STATUS i) F.CFE_SD_STATUS_FILLING && d.clockRuns (d.sdClock i) then
    d.fsb (R.CFE_SD_STATUS i) F.CFE_SD_STATUS_FILLING false
  else d

/-! ### Calibration (R189–R192) -/

/-- The state of an axis admits calibration (R189). -/
def Dev.pwmOff (d : Dev) (a : Nat) : Bool := [0, 5, 6].contains (d.axState a)

/-- The bank's PWM-off window (R191). -/
def Dev.bankOff (d : Dev) (n : Nat) : Bool := (laneAxes n).all fun a => !d.bound a || d.pwmOff a

/-- The input is the reference of its bank. -/
def Dev.isRef (d : Dev) (i : Nat) : Bool :=
  d.fb (R.CFE_BANK_CAL (i / 40)) F.CFE_BANK_CAL_REF_EN && d.fg (R.CFE_BANK_CAL (i / 40)) F.CFE_BANK_CAL_REF_IN = i

/-- The input is being averaged: in the window of its axis (R189), or as the reference in the bank's window (R191). -/
def Dev.averaging (d : Dev) (i : Nat) : Bool :=
  (d.fb (R.CFE_SD_CFG i) F.CFE_SD_CFG_CAL_EN && (match d.currentAxis i with | some a => d.cfe.window.contains a && d.pwmOff a | none => false))
  || (d.isRef i && d.bankOff (i / 40))

/-- FREE_RUN_WORD: a decimator delivers a word, filtered from its last bits (R182, R183): it feeds the raw Barograph channels, is corrected,
shown, range-checked, averaged, and may clock the Barograph.  Its bits show whether a condition of the input's own bits lasts; that of the
W estimate lasts until OVERCURRENT_DETECT shows its end (assumption log 53). -/
def execFreeRunWord (i : Fin 160) (bits : Nat) (s : State) : Out := s.onDev fun d =>
  if !d.fb (R.CFE_SD_CFG i) F.CFE_SD_CFG_EN || d.fb (R.CFE_SD_STATUS i) F.CFE_SD_STATUS_FILLING || !d.clockRuns (d.sdClock i) then d else
  let w := sinc3 (d.osr i) bits
  let v := d.sdCorrect i w
  let d := d.wr (R.CFE_SD_VALUE i) (toWI v)
  let out := d.fgS (R.CFE_SD_RANGE i) F.CFE_SD_RANGE_RANGE_HI * 256 < v || v < d.fgS (R.CFE_SD_RANGE i) F.CFE_SD_RANGE_RANGE_LO * 256
  let len := 3 * d.osr i - 2
  let avg := d.averaging i
  let oc := d.isOc i bits
  let d := d.modSd i fun x => { x with
    raw := w
    rangeN := if out then x.rangeN + 1 else 0
    ocNow := x.ocNow && oc
    stuckNow := x.stuckNow && allEqual len bits
    altNow := x.altNow && alternates len bits
    calSum := if !avg then 0 else if x.calN < 4096 then x.calSum + w else x.calSum
    calN := if !avg then 0 else min 4096 (x.calN + 1)
    calBad := avg && x.calBad }
  if d.fg R.TRACE_CLK F.TRACE_CLK_INPUT = i then
    let d := { d with trace := { d.trace with words := d.trace.words + 1 } }
    d.sampleTick 4 d.trace.words { inst := d.ns, word := w }
  else d

/-- CAL_WINDOW_OPEN: an axis has been DISABLED, FAULTED or SAFE_OFF for 2 ms (R189). -/
def execCalWindowOpen (a : Fin 64) (s : State) : Out := s.onDev fun d =>
  if d.bound a && d.pwmOff a && !d.throttled && !d.cfe.window.contains a.val then
    let d := { d with cfe := { d.cfe with window := d.cfe.window ++ [a.val] } }
    d.each (d.curIns a) Dev.calRestart
  else d

/-- OFFSET_CAL_UPDATE: an average of 4,096 free-run words completes in a window (R189, R190). -/
def execOffsetCalUpdate (i : Fin 160) (s : State) : Out := s.onDev fun d =>
  let x := d.sd i
  if d.throttled || x.calN < 4096 || !d.fb (R.CFE_SD_CFG i) F.CFE_SD_CFG_CAL_EN || !d.averaging i then d
  else
    let d := d.calRestart i
    if x.calBad then d
    else if 2 ^ 19 * 4096 < x.calSum.natAbs then d.sdFlag i F.CFE_SD_STATUS_CAL_LIMIT
    else
      let o := d.fgS (R.CFE_SD_OFFSET i) F.CFE_SD_OFFSET_OFFSET
      (d.fs (R.CFE_SD_OFFSET i) F.CFE_SD_OFFSET_OFFSET (ofS 24 (roundDiv (3 * 4096 * o + x.calSum) 16384))).fsb
        (R.CFE_SD_STATUS i) F.CFE_SD_STATUS_CAL_VALID true

/-- BANK_GAIN_UPDATE: an average of 4,096 reference words completes: the gain is REF_NOM / mean, limited to 0.95–1.05 (R191); for a mean
of 0 the spec states none within the limits. -/
def execBankGainUpdate (n : Fin 4) (s : State) : Out := s.onDev fun d =>
  let i := d.fg (R.CFE_BANK_CAL n) F.CFE_BANK_CAL_REF_IN
  let x := d.sd i
  if x.calN < 4096 || !d.isRef i || !d.bankOff n || i / 40 ≠ n.val then d
  else
    let d := d.calRestart i
    if x.calBad then d else
    let num : Int := (d.fg (R.CFE_BANK_REF n) F.CFE_BANK_REF_REF_NOM : Int) * 4096
    let g : Word :=
      if x.calSum = 0 then ratF32 (9500 + Config.freeNat d.fresh % 1001 : Nat) 10000
      else if x.calSum < 0 ∨ num * 100 < 95 * x.calSum then ratF32 95 100
      else if 105 * x.calSum < num * 100 then ratF32 105 100
      else ratF32 num x.calSum.toNat
    (d.nextFresh.wr (R.CFE_BANK_GAIN n) g).wr (R.CFE_BANK_AGE n) 0

end Sys2Proof.Machine
end

