-- ==== Sys2Proof/Machine/Pwm.lean ====
section
/-!
DEFINITION. The events of the PWM generator and of the trip inputs (07).  A leg's events act only while the leg switches
and the motion domain is not halted (R197, R221); an event whose condition does not hold is absorbed (assumption log 4).
-/

namespace Sys2Proof.Machine

open Sys2Proof

/-- The leg switches. -/
def Dev.switching (d : Dev) (l : Nat) : Bool := (d.leg l).cond = .switching

/-- Timebase TB1 of a bank starts a period: its pending configuration takes effect, and its legs start theirs (R200, R207, R209, R213). -/
def Dev.tb1Start (d : Dev) (n : Nat) : Dev :=
  let ended := (d.bank n).per1
  let d := d.modBank n fun b => { b with
    run1 := true
    mode1 := d.fg (R.PWM_BANK_CFG n) F.PWM_BANK_CFG_MODE1
    rpeak1 := d.fg (R.PWM_BANK_CFG n) F.PWM_BANK_CFG_RPEAK1
    per1 := d.fg (R.PWM_BANK_CFG n) F.PWM_BANK_CFG_PERIOD1 }
  let d := (d.fsb (R.PWM_BANK_STATUS n) F.PWM_BANK_STATUS_TB1_RUN true).fs (R.PWM_BANK_STATUS n) F.PWM_BANK_STATUS_TB1_POS 0
  d.each (d.bankLegs n true) (Dev.legPeriod ended false)

/-- TB1_PERIOD_START: a TB1 that has taken position 0 at a tick starts its next period (R200). -/
def execTb1PeriodStart (n : Fin 4) (s : State) : Out := s.onDev fun d =>
  if d.pwm.halted || !(d.bank n).run1 then d else d.tb1Start n

/-- COMPARE_VALUE_ARRIVAL: the oldest value on its way to a leg arrives in the clock at position `p` of a slope, `r` clocks
before the next reload point (R204–R207). -/
def execCompareValueArrival (l : Fin 192) (slope2 : Bool) (p r : Nat) (s : State) : Out := s.onDev fun d =>
  match (d.leg l).issued with
  | [] => d
  | c :: rest =>
    if !d.switching l then d
    else ((d.modLeg l fun x => { x with issued := rest }).sampleArrive l).cmpArrive l c slope2 p r

/-- SWITCHING_SIGNAL_EDGE: the timebase reaches the edge position of S in a slope (R202, R209). -/
def execSwitchingSignalEdge (l : Fin 192) (slope2 : Bool) (s : State) : Out := s.onDev fun d =>
  if !d.switching l || (d.upMode l && slope2) then d else
  let d := if (d.leg l).slope2 = slope2 then d else d.modLeg l fun x => { x with slope2 := slope2, edged := false }
  match d.edgePos l (d.leg l).c slope2 with
  | some e =>
    if (d.leg l).edged then d
    else (d.sEdge l (!(d.upMode l || slope2)) (d.slopeStart l slope2 + e)).modLeg l fun x => { x with edged := true }
  | none => d

/-- RELOAD_POINT: an up-down timebase with RPEAK at 1 reaches position H, and its RELOAD legs take what has arrived (R207). -/
def execReloadPoint (n : Fin 4) (tb1 : Bool) (s : State) : Out := s.onDev fun d =>
  let up := if tb1 then (d.bank n).mode1 = 1 else d.fg (R.PWM_BANK_CFG n) F.PWM_BANK_CFG_MODE0 = 1
  let peak := if tb1 then (d.bank n).rpeak1 = 1 else d.fb (R.PWM_BANK_CFG n) F.PWM_BANK_CFG_RPEAK0
  if d.pwm.halted || up || !peak then d else
  d.each ((d.bankLegs n tb1).filter d.switching) Dev.reload

/-- DEAD_TIME_TURN_ON: the dead time after an edge of S ends (R209, R210). -/
def execDeadTimeTurnOn (l : Fin 192) (s : State) : Out := s.onDev fun d =>
  if d.switching l && (d.leg l).held.isNone then d.turnOn l else d

/-- MIN_PULSE_END: the minimum pulse of a held-on output ends (R211, R212). -/
def execMinPulseEnd (l : Fin 192) (s : State) : Out := s.onDev fun d =>
  if d.switching l then d.minEnd l else d

/-! ### Trip inputs (R215–R219, R224) -/

/-- The legs that a trip input guards (R215). -/
def Dev.guarded (d : Dev) (t : Nat) : List Nat := (List.range 192).filter fun l => (d.guards l).contains t

/-- The axes that a trip input guards. -/
def Dev.guardedAxes (d : Dev) (t : Nat) : List Nat := (List.range 64).filter fun a => d.bound a && (d.axisTrips a).contains t

/-- The filtered trip passes the blanking gate (R217, R218, R224): every guarded leg is HIGH-Z, the latch and TRIPPED are
set, COUNT counts, and each active axis that the input guards takes TRIP. -/
def Dev.tripAct (d : Dev) (t : Nat) : Dev :=
  let d := d.each (d.guarded t) Dev.legHiz
  let d := d.setFlag (R.PWM_TRIP_STATUS t) F.PWM_TRIP_STATUS_TRIPPED.lo (256 + (if t < 64 then t / 16 else t - 64))
  let d := (d.fsb (R.PWM_TRIP_STATUS t) F.PWM_TRIP_STATUS_LATCHED true).satInc (R.PWM_TRIP_STATUS t) F.PWM_TRIP_STATUS_COUNT
  d.each (d.guardedAxes t) fun d a => d.axisFault a 0

/-- FILT of a trip input. -/
def Dev.tripFilt (d : Dev) (t : Nat) : Nat := d.fg (R.PWM_TRIP_CFG t) F.PWM_TRIP_CFG_FILT

/-- TRIP_FILTERED_ASSERT: the filtered trip of an enabled input asserts; blanking holds a filter's count at zero, and blocks
an unfiltered input behind its LEVEL (R216, R217). -/
def execTripFilteredAssert (t : Fin 68) (s : State) : Out := s.onDev fun d =>
  let st := R.PWM_TRIP_STATUS t
  let blk := (d.trip t).blocked
  if !d.fb (R.PWM_TRIP_CFG t) F.PWM_TRIP_CFG_EN || d.fb st F.PWM_TRIP_STATUS_LEVEL || (blk && d.tripFilt t ≠ 0) then d else
  let d := d.fsb st F.PWM_TRIP_STATUS_LEVEL true
  if blk then d else d.tripAct t

/-- TRIP_FILTERED_RELEASE: the filtered trip releases; the latch stays (R216, R218). -/
def execTripFilteredRelease (t : Fin 68) (s : State) : Out := s.onDev fun d =>
  if (d.trip t).blocked && d.tripFilt t ≠ 0 then d else d.fsb (R.PWM_TRIP_STATUS t) F.PWM_TRIP_STATUS_LEVEL false

/-- BLANKING_END: the gate no longer blocks the input, and an unfiltered input that is active then acts (R216). -/
def execBlankingEnd (t : Fin 68) (s : State) : Out := s.onDev fun d =>
  if !(d.trip t).blocked then d else
  let d := d.modTrip t fun x => { x with blocked := false }
  if d.tripFilt t = 0 && d.fb (R.PWM_TRIP_STATUS t) F.PWM_TRIP_STATUS_LEVEL && d.fb (R.PWM_TRIP_CFG t) F.PWM_TRIP_CFG_EN
  then d.tripAct t else d

/-- TRIP_REARM: a write of 1 to REARM clears the latch, only while the filtered input is inactive (R219). -/
def execTripRearm (t : Fin 68) (s : State) : Out := s.onDev fun d =>
  if d.fb (R.PWM_TRIP_STATUS t) F.PWM_TRIP_STATUS_LEVEL then d else d.unlatch t

end Sys2Proof.Machine
end

