-- ==== Sys2Proof/Machine/Tdsp.lean ====
section
/-!
DEFINITION. The Transit DSP's instructions (10), one meaning for each mnemonic: a core runs its next bundle, in which the
named slot holds the instruction and the other slot any word.  What the operation computes stands in TdOps, Operands and
Flags.
-/

namespace Sys2Proof.Machine

open Sys2Proof

/-- The bundle has a NOP in one slot, or neither slot holds an operation (R297), so that no other mnemonic names it. -/
def nopBundle (m l : Word) : Bool :=
  decM m = some .nop || decL l = some .nop || ((decM m).isNone && (decL l).isNone)

/-- NOP: a bundle with a NOP in either slot (R301). -/
def execTdNop (c : Fin 4) (m l : Word) (s : State) : Out := s.onDev fun d => if nopBundle m l then d.tdRun c m l else d

/-- MPY in slot M (R301), with slot word `l` in slot L. -/
def execTdMpy (c : Fin 4) (ad : Fin 4) (ra rb : Fin 16) (l : Word) (s : State) : Out := s.onDev fun d => d.tdRun c (encM (.mul .mpy ad ra rb)) l

/-- MAC in slot M (R301), with slot word `l` in slot L. -/
def execTdMac (c : Fin 4) (ad : Fin 4) (ra rb : Fin 16) (l : Word) (s : State) : Out := s.onDev fun d => d.tdRun c (encM (.mul .mac ad ra rb)) l

/-- MSU in slot M (R301), with slot word `l` in slot L. -/
def execTdMsu (c : Fin 4) (ad : Fin 4) (ra rb : Fin 16) (l : Word) (s : State) : Out := s.onDev fun d => d.tdRun c (encM (.mul .msu ad ra rb)) l

/-- MPYI in slot M (R301), with slot word `l` in slot L. -/
def execTdMpyi (c : Fin 4) (ad : Fin 4) (ra rb : Fin 16) (l : Word) (s : State) : Out := s.onDev fun d => d.tdRun c (encM (.mul .mpyi ad ra rb)) l

/-- MACI in slot M (R301), with slot word `l` in slot L. -/
def execTdMaci (c : Fin 4) (ad : Fin 4) (ra rb : Fin 16) (l : Word) (s : State) : Out := s.onDev fun d => d.tdRun c (encM (.mul .maci ad ra rb)) l

/-- MSUI in slot M (R301), with slot word `l` in slot L. -/
def execTdMsui (c : Fin 4) (ad : Fin 4) (ra rb : Fin 16) (l : Word) (s : State) : Out := s.onDev fun d => d.tdRun c (encM (.mul .msui ad ra rb)) l

/-- CLR in slot M (R301), with slot word `l` in slot L. -/
def execTdClr (c : Fin 4) (ad : Fin 4) (l : Word) (s : State) : Out := s.onDev fun d => d.tdRun c (encM (.clr ad)) l

/-- ADDA in slot M (R301), with slot word `l` in slot L. -/
def execTdAdda (c : Fin 4) (ad src : Fin 4) (l : Word) (s : State) : Out := s.onDev fun d => d.tdRun c (encM (.acc .adda ad src)) l

/-- SUBA in slot M (R301), with slot word `l` in slot L. -/
def execTdSuba (c : Fin 4) (ad src : Fin 4) (l : Word) (s : State) : Out := s.onDev fun d => d.tdRun c (encM (.acc .suba ad src)) l

/-- MOVA in slot M (R301), with slot word `l` in slot L. -/
def execTdMova (c : Fin 4) (ad src : Fin 4) (l : Word) (s : State) : Out := s.onDev fun d => d.tdRun c (encM (.acc .mova ad src)) l

/-- NEGA in slot M (R301), with slot word `l` in slot L. -/
def execTdNega (c : Fin 4) (ad src : Fin 4) (l : Word) (s : State) : Out := s.onDev fun d => d.tdRun c (encM (.acc .nega ad src)) l

/-- ABSA in slot M (R301), with slot word `l` in slot L. -/
def execTdAbsa (c : Fin 4) (ad src : Fin 4) (l : Word) (s : State) : Out := s.onDev fun d => d.tdRun c (encM (.acc .absa ad src)) l

/-- SHA in slot M (R301), with slot word `l` in slot L. -/
def execTdSha (c : Fin 4) (ad : Fin 4) (n : BitVec 6) (l : Word) (s : State) : Out := s.onDev fun d => d.tdRun c (encM (.sha ad n)) l

/-- LDA in slot M (R301), with slot word `l` in slot L. -/
def execTdLda (c : Fin 4) (ad : Fin 4) (ra : Fin 16) (l : Word) (s : State) : Out := s.onDev fun d => d.tdRun c (encM (.lda ad ra)) l

/-- ADD in slot M (R301), with slot word `l` in slot L. -/
def execTdAdd (c : Fin 4) (rd ra rb : Fin 16) (l : Word) (s : State) : Out := s.onDev fun d => d.tdRun c (encM (.alu .add rd ra rb)) l

/-- SUB in slot M (R301), with slot word `l` in slot L. -/
def execTdSub (c : Fin 4) (rd ra rb : Fin 16) (l : Word) (s : State) : Out := s.onDev fun d => d.tdRun c (encM (.alu .sub rd ra rb)) l

/-- ADDS in slot M (R301), with slot word `l` in slot L. -/
def execTdAdds (c : Fin 4) (rd ra rb : Fin 16) (l : Word) (s : State) : Out := s.onDev fun d => d.tdRun c (encM (.alu .adds rd ra rb)) l

/-- SUBS in slot M (R301), with slot word `l` in slot L. -/
def execTdSubs (c : Fin 4) (rd ra rb : Fin 16) (l : Word) (s : State) : Out := s.onDev fun d => d.tdRun c (encM (.alu .subs rd ra rb)) l

/-- CMP in slot M (R301), with slot word `l` in slot L. -/
def execTdCmp (c : Fin 4) (ra rb : Fin 16) (l : Word) (s : State) : Out := s.onDev fun d => d.tdRun c (encM (.cmp ra rb)) l

/-- AND in slot M (R301), with slot word `l` in slot L. -/
def execTdAnd (c : Fin 4) (rd ra rb : Fin 16) (l : Word) (s : State) : Out := s.onDev fun d => d.tdRun c (encM (.alu .and rd ra rb)) l

/-- OR in slot M (R301), with slot word `l` in slot L. -/
def execTdOr (c : Fin 4) (rd ra rb : Fin 16) (l : Word) (s : State) : Out := s.onDev fun d => d.tdRun c (encM (.alu .or rd ra rb)) l

/-- XOR in slot M (R301), with slot word `l` in slot L. -/
def execTdXor (c : Fin 4) (rd ra rb : Fin 16) (l : Word) (s : State) : Out := s.onDev fun d => d.tdRun c (encM (.alu .xor rd ra rb)) l

/-- ASR in slot M (R301), with slot word `l` in slot L. -/
def execTdAsr (c : Fin 4) (rd ra : Fin 16) (n : Fin 32) (l : Word) (s : State) : Out := s.onDev fun d => d.tdRun c (encM (.shift .asr rd ra n)) l

/-- LSR in slot M (R301), with slot word `l` in slot L. -/
def execTdLsr (c : Fin 4) (rd ra : Fin 16) (n : Fin 32) (l : Word) (s : State) : Out := s.onDev fun d => d.tdRun c (encM (.shift .lsr rd ra n)) l

/-- LSL in slot M (R301), with slot word `l` in slot L. -/
def execTdLsl (c : Fin 4) (rd ra : Fin 16) (n : Fin 32) (l : Word) (s : State) : Out := s.onDev fun d => d.tdRun c (encM (.shift .lsl rd ra n)) l

/-- ADDI in slot M (R301), with slot word `l` in slot L. -/
def execTdAddi (c : Fin 4) (rd ra : Fin 16) (imm : BitVec 16) (l : Word) (s : State) : Out := s.onDev fun d => d.tdRun c (encM (.addi rd ra imm)) l

/-- MIN in slot M (R301), with slot word `l` in slot L. -/
def execTdMin (c : Fin 4) (rd ra rb : Fin 16) (l : Word) (s : State) : Out := s.onDev fun d => d.tdRun c (encM (.alu .min rd ra rb)) l

/-- MAX in slot M (R301), with slot word `l` in slot L. -/
def execTdMax (c : Fin 4) (rd ra rb : Fin 16) (l : Word) (s : State) : Out := s.onDev fun d => d.tdRun c (encM (.alu .max rd ra rb)) l

/-- ABS in slot M (R301), with slot word `l` in slot L. -/
def execTdAbs (c : Fin 4) (rd ra : Fin 16) (l : Word) (s : State) : Out := s.onDev fun d => d.tdRun c (encM (.abs rd ra)) l

/-- NEG in slot M (R301), with slot word `l` in slot L. -/
def execTdNeg (c : Fin 4) (rd ra : Fin 16) (l : Word) (s : State) : Out := s.onDev fun d => d.tdRun c (encM (.neg rd ra)) l

/-- LD in slot L (R303), with slot word `m` in slot M. -/
def execTdLd (c : Fin 4) (reg : BitVec 7) (path : Bool) (am pn : Fin 8) (off : BitVec 6) (m : Word) (s : State) : Out := s.onDev fun d => d.tdRun c m (encL (.ld reg path am pn off))

/-- ST in slot L (R303), with slot word `m` in slot M. -/
def execTdSt (c : Fin 4) (reg : BitVec 7) (am pn : Fin 8) (off : BitVec 6) (m : Word) (s : State) : Out := s.onDev fun d => d.tdRun c m (encL (.st reg am pn off))

/-- LDD in slot L (R304), with slot word `m` in slot M. -/
def execTdLdd (c : Fin 4) (dx dy : Fin 16) (amx : Fin 4) (px : Fin 8) (amy : Fin 4) (py : Fin 8) (m : Word) (s : State) : Out := s.onDev fun d => d.tdRun c m (encL (.ldd dx dy amx px amy py))

/-- MOV in slot L (R305), with slot word `m` in slot M. -/
def execTdMov (c : Fin 4) (dst src : BitVec 7) (m : Word) (s : State) : Out := s.onDev fun d => d.tdRun c m (encL (.mov dst src))

/-- MOVI in slot L (R305), with slot word `m` in slot M. -/
def execTdMovi (c : Fin 4) (dst : BitVec 7) (imm : BitVec 16) (m : Word) (s : State) : Out := s.onDev fun d => d.tdRun c m (encL (.movi dst imm))

/-- MOVIH in slot L (R305), with slot word `m` in slot M. -/
def execTdMovih (c : Fin 4) (dst : BitVec 7) (imm : BitVec 16) (m : Word) (s : State) : Out := s.onDev fun d => d.tdRun c m (encL (.movih dst imm))

/-- SRSET in slot L (R306), with slot word `m` in slot M. -/
def execTdSrset (c : Fin 4) (mask : BitVec 6) (m : Word) (s : State) : Out := s.onDev fun d => d.tdRun c m (encL (.srset mask))

/-- SRCLR in slot L (R306), with slot word `m` in slot M. -/
def execTdSrclr (c : Fin 4) (mask : BitVec 6) (m : Word) (s : State) : Out := s.onDev fun d => d.tdRun c m (encL (.srclr mask))

/-- BR in slot L (R307), with slot word `m` in slot M. -/
def execTdBr (c : Fin 4) (cond : Fin 16) (target : BitVec 13) (m : Word) (s : State) : Out := s.onDev fun d => d.tdRun c m (encL (.br cond target))

/-- CALL in slot L (R307), with slot word `m` in slot M. -/
def execTdCall (c : Fin 4) (target : BitVec 13) (m : Word) (s : State) : Out := s.onDev fun d => d.tdRun c m (encL (.call target))

/-- RET in slot L (R307), with slot word `m` in slot M. -/
def execTdRet (c : Fin 4) (m : Word) (s : State) : Out := s.onDev fun d => d.tdRun c m (encL .ret)

/-- RETI1 in slot L (R279), with slot word `m` in slot M. -/
def execTdReti1 (c : Fin 4) (m : Word) (s : State) : Out := s.onDev fun d => d.tdRun c m (encL .reti1)

/-- RETI2 in slot L (R280), with slot word `m` in slot M. -/
def execTdReti2 (c : Fin 4) (m : Word) (s : State) : Out := s.onDev fun d => d.tdRun c m (encL .reti2)

/-- DO in slot L (R308), with slot word `m` in slot M. -/
def execTdDo (c : Fin 4) (ofs : BitVec 10) (count : BitVec 16) (m : Word) (s : State) : Out := s.onDev fun d => d.tdRun c m (encL (.doI ofs count))

/-- DOR in slot L (R308), with slot word `m` in slot M. -/
def execTdDor (c : Fin 4) (dn : Fin 16) (ofs : BitVec 10) (m : Word) (s : State) : Out := s.onDev fun d => d.tdRun c m (encL (.dor dn ofs))

/-- ENDDO in slot L (R272), with slot word `m` in slot M. -/
def execTdEnddo (c : Fin 4) (t : Bool) (target : BitVec 13) (m : Word) (s : State) : Out := s.onDev fun d => d.tdRun c m (encL (.enddo t target))

/-- WAIT in slot L (R288), with slot word `m` in slot M. -/
def execTdWait (c : Fin 4) (m : Word) (s : State) : Out := s.onDev fun d => d.tdRun c m (encL .wait)

/-- TAPD in slot L (R309), with slot word `m` in slot M. -/
def execTdTapd (c : Fin 4) (ad : Fin 4) (sub : Bool) (px : Fin 8) (amx : Fin 4) (py : Fin 8) (amy : Fin 4) (m : Word) (s : State) : Out := s.onDev fun d => d.tdRun c m (encL (.tapd ad sub px amx py amy))

/-! ### Loads and stores of the core I/O (R255, R257, R289, R295, R342) -/

/-- The address of the single access, or of the X half of the dual load, of slot L of the next bundle, when it is a load. -/
def Dev.tdLoadAddrs (d : Dev) (c : Nat) (l : Word) : List Nat :=
  let i := (d.core c).cyc
  let k := (d.core c).commit i
  match decL l with
  | some (.ld _ _ am pn off) => (match k.addr (i + 1) am pn off with | some x => [x.1] | none => [])
  | some (.ldd _ _ amx px amy py) => [(k.addr2 (i + 1) amx px).1, (k.addr2 (i + 1) amy py).1]
  | _ => []

/-- The address of the store of slot L of the next bundle. -/
def Dev.tdStoreAddr (d : Dev) (c : Nat) (l : Word) : Option Nat :=
  let i := (d.core c).cyc
  let k := (d.core c).commit i
  match decL l with
  | some (.st _ am pn off) => (k.addr (i + 1) am pn off).map (·.1)
  | _ => none

/-- SEV_WRITE: the next bundle stores to SEV (R295). -/
def execSevWrite (c : Fin 4) (m l : Word) (s : State) : Out := s.onDev fun d =>
  if d.tdStoreAddr c l = some 0x9804 then d.tdRun c m l else d

/-- EVR_CLAIM_LOAD: the next bundle loads EVR_CLAIM (R342). -/
def execEvrClaimLoad (c : Fin 4) (m l : Word) (s : State) : Out := s.onDev fun d =>
  if (d.tdLoadAddrs c l).contains 0x9805 then d.tdRun c m l else d

/-- EVR_COMPLETE_STORE: the next bundle stores to EVR_COMPLETE (R342). -/
def execEvrCompleteStore (c : Fin 4) (m l : Word) (s : State) : Out := s.onDev fun d =>
  if d.tdStoreAddr c l = some 0x9806 then d.tdRun c m l else d

/-- HOOK_PORT_STORE: the next bundle stores to a hook port (R289). -/
def execHookPortStore (c : Fin 4) (m l : Word) (s : State) : Out := s.onDev fun d =>
  if (d.tdStoreAddr c l).any (fun a => 0x9000 ≤ a && a < 0x9200) then d.tdRun c m l else d

/-- TIME_L_READ: the next bundle loads TIME_L (R255). -/
def execTimeLRead (c : Fin 4) (m l : Word) (s : State) : Out := s.onDev fun d =>
  if (d.tdLoadAddrs c l).contains 0x9800 then d.tdRun c m l else d

/-- ENC_POS_LOWER_LOAD: the next bundle loads the lower word of an encoder position (R257). -/
def execEncPosLowerLoad (c : Fin 4) (m l : Word) (s : State) : Out := s.onDev fun d =>
  if (d.tdLoadAddrs c l).any (fun a => 0x8800 ≤ a && a < 0x8880 && a % 2 = 0) then d.tdRun c m l else d

/-! ### Triggers, entries and wake (R277–R288) -/

/-- TICK_TRIGGER: a trigger whose qualifying tick has passed fires at its offset (R285, R286). -/
def execTickTrigger (c : Fin 4) (k : Fin 8) (s : State) : Out := s.onDev fun d =>
  if !(d.core c).trigDue.contains k.val then d else
  let d := d.modCore c fun x => { x with trigDue := x.trigDue.filter (· ≠ k.val) }
  if !d.fb (R.TD_TRIG c k) F.TD_TRIG_EN || !(d.tdState c = 2 || d.tdState c = 3) || d.fg R.PWR_STATUS F.PWR_STATUS_STATE = 2 then d
  else if d.bit (R.TD_TRIG_STATUS c) k then
    (d.satInc (R.TD_TRIG_STATUS c) F.TD_TRIG_STATUS_OVR_COUNT).setFlag (R.TD_FAULT c) F.TD_FAULT_TRIG_OVR.lo (337 + 4 * c)
  else d.setBit (R.TD_TRIG_STATUS c) k true

/-- An entry may be taken: the core is RUNNING and the bundle in DE is eligible (R278). -/
def Dev.mayEnter (d : Dev) (c : Nat) : Bool := d.tdState c = 2 && (d.core c).ds = 0

/-- LEVEL1_ENTRY: with IE1 at 1 and LVL 0, the core takes its first level-1 request (R277–R279). -/
def execLevel1Entry (c : Fin 4) (s : State) : Out := s.onDev fun d =>
  let k := (d.core c).commit (d.core c).cyc
  match d.request1 c with
  | some cause => if d.mayEnter c && k.lvl = 0 && (k.reg (kSR k.shadow)).getLsbD 28 then d.enter1 c cause else d
  | none => d

/-- LEVEL2_ENTRY: the core takes the AOV trap, or, with IE2 at 1, its first level-2 request, below level 2 (R277, R278, R280). -/
def execLevel2Entry (c : Fin 4) (s : State) : Out := s.onDev fun d =>
  let k := (d.core c).commit (d.core c).cyc
  if !d.mayEnter c || 2 ≤ k.lvl then d
  else if k.aov then d.enter2 c 0xFE 0x20
  else match d.request2 c with
    | some cause => if (k.reg (kSR k.shadow)).getLsbD 29 then d.enter2 c cause 0x40 else d
    | none => d

/-- WAIT_WAKE: a pending request wakes a WAITING core, and issue resumes after the WAIT (R288). -/
def execWaitWake (c : Fin 4) (s : State) : Out := s.onDev fun d =>
  if d.tdState c = 3 && !d.dozing && d.anyRequest c then
    (((d.tdGap c).modCore c fun k => k.refill k.f0.addr).setTdState c 2).tdSync c
  else d

end Sys2Proof.Machine
end

