-- ==== Sys2Proof/Machine/ParamCheck.lean ====
section
/-!
DEFINITION. The checks of parameter writes (R5, R73–R76): which lane applies a register, whether a write reaches a CP field, and each
register's own conditions.  The conditions are read on the device as every write of the command, or of the chain, would leave it.
-/

namespace Sys2Proof.Machine

open Sys2Proof

/-- A requested write of one register word (R74): its offset, the mask of the bits it names, its value, and the index of the packet
word that carries the value. -/
structure Req where
  off  : Nat := 0
  mask : Word := 0
  val  : Word := 0
  wi   : Nat := 0
  deriving DecidableEq, Repr, Inhabited

/-! ### Registers and lanes (R73) -/

/-- The lane at whose tick a register is applied: AXIS, INTERP_AXLIM and CE_AX registers follow their axis; none for a global register. -/
def laneReg (off : Nat) : Option Nat :=
  if 0x10000 ≤ off ∧ off < 0x30000 then some (laneOf ((off - 0x10000) / 0x800))
  else if 0x32000 ≤ off ∧ off < 0x32800 then some (laneOf ((off - 0x32000) / 0x20))
  else if 0x58000 ≤ off ∧ off < 0x60000 then some (laneOf ((off - 0x58000) / 0x200))
  else none

/-- The CP bits of the register word at an offset; EVR_TGT_CFG_5 has none. -/
def cpMask (off : Nat) : Word :=
  if off = R.EVR_TGT_CFG 5 then 0 else
  match findReg off with
  | none => 0
  | some (r, _, _, w) => toW (if w = 0 then r.cp else r.cp / 2 ^ 32)

/-- A word with the masked bits of a value. -/
def masked (old mask val : Word) : Word := (old &&& ~~~mask) ||| (val &&& mask)

/-- The device with the CP bits of requested writes in its registers. -/
def Dev.imageOf (d : Dev) (l : List Req) : Dev :=
  l.foldl (fun (d : Dev) q => d.wr q.off (masked (d.rd q.off) (q.mask &&& cpMask q.off) q.val)) d

/-! ### One write under check -/

/-- A write under check: the device before and as it would be left, the first offset of the register instance, its subscripts, the bits of
the register that the command writes, the index of the value word, and the value words of every register word written. -/
structure Chk where
  old : Dev
  new : Dev
  b   : Nat
  i   : Nat
  j   : Nat
  m   : Nat
  wi  : Nat
  all : List (Nat × Nat)

namespace Chk

/-- A field as it would be. -/
def g (c : Chk) (f : Fld) : Nat := c.new.fg c.b f

/-- The write reaches a field. -/
def hit (c : Chk) (f : Fld) : Bool := (c.m >>> f.lo) % 2 ^ f.w ≠ 0

/-- The write changes a field. -/
def ch (c : Chk) (f : Fld) : Bool := c.old.fg c.b f ≠ c.new.fg c.b f

/-- The write changes the register, one of 32 bits. -/
def diff (c : Chk) : Bool := c.old.rd c.b ≠ c.new.rd c.b

/-- The whole value of a 64-bit register, signed. -/
def v64 (c : Chk) : Int := c.new.rdS c.b

/-- The real number of the register, in units of 2^−149. -/
def real (c : Chk) : Int := f32Key149 (c.new.rd c.b)

/-- A failure with the value word in its detail. -/
def err (c : Chk) (st : Nat) (p : Bool) : Option (Nat × Nat) := if p then some (st, c.wi) else none

/-- A value outside its range. -/
def bad (c : Chk) (p : Bool) : Option (Nat × Nat) := c.err 0x0201 p

/-- A value that conflicts with applied parameters. -/
def conf (c : Chk) (p : Bool) : Option (Nat × Nat) := c.err 0x0205 p

/-- A field that the write reaches lies outside its range. -/
def rng (c : Chk) (f : Fld) (lo hi : Nat) : Option (Nat × Nat) := c.bad (c.hit f && !(lo ≤ c.g f && c.g f ≤ hi))

/-- The format of R5, and a lower bound. -/
def vel (c : Chk) (lo : Int) : Option (Nat × Nat) :=
  if !velFormat (c.new.rd (c.b + 4)) then some (0x0207, c.wi) else c.bad (c.v64 < lo)

/-- A state that refuses the write, whatever the axes do. -/
def no (_ : Chk) (det : Nat) (p : Bool) : Option (Nat × Nat) := if p then some (0x0301, det) else none

/-- A resource in use. -/
def busy (_ : Chk) (p : Bool) : Option (Nat × Nat) := if p then some (0x0303, 0) else none

/-- An active axis refuses the write; the detail is the state of the lowest-numbered one (R79). -/
def byAxes (c : Chk) (l : List Nat) : Option (Nat × Nat) := (l.find? c.old.active).map fun a => (0x0301, c.old.axState a)

/-- A switching leg refuses the write; the detail is the state of the lowest-numbered axis that owns one, 0 for host-driven legs. -/
def byLegs (c : Chk) (l : List Nat) : Option (Nat × Nat) :=
  let on := l.filter c.old.switching
  if on.isEmpty then none
  else some (0x0301, match (List.range 64).find? fun a => (c.old.legsOf a).any on.contains with | some a => c.old.axState a | none => 0)

end Chk

/-! ### Shared conditions -/

/-- The legs of bank `n` on one of its timebases. -/
def Dev.tbLegs (d : Dev) (n : Nat) (tb1 : Bool) : List Nat := ((List.range 48).map (48 * n + ·)).filter fun l => d.onTb1 l == tb1

/-- The legs that a trip input guards. -/
def Dev.guardedLegs (d : Dev) (t : Nat) : List Nat := (List.range 192).filter fun l => (d.guards l).contains t

/-- Something other than an axis uses an encoder port (R237): the master of an engaged follower, or an enabled compare output. -/
def Dev.portBusy (d : Dev) (e : Nat) : Bool :=
  ((List.range 64).any fun a => match (d.ax a).fol with
    | some f => (f.phase = 1 || f.phase = 2) && ((f.kind = 1 && d.portOf f.index = e) || (f.kind = 2 && f.index = e))
    | none => false)
  || (List.range 16).any fun o => d.pcoOn o && (d.portAxes e).contains (d.pcoAxis o)

/-- An encoder port is in use. -/
def Chk.byPort (c : Chk) (e : Nat) : Option (Nat × Nat) :=
  firstFail [c.byAxes (c.old.portAxes e), c.no 0 (c.old.portBusy e)]

/-- A serial port that R230, R232 or R233 does not allow. -/
def Chk.serialConf (c : Chk) (e : Nat) (field : Bool) : Option (Nat × Nat) :=
  let d := c.new
  let bits := d.fg (R.ENC_SER e) F.ENC_SER_DATA_BITS + 1 + d.fg (R.ENC_CRC e) F.ENC_CRC_CRC_LEN + d.fg (R.ENC_CFG e) F.ENC_CFG_PARITY
  c.conf (2 ≤ d.encMode e && (d.fg (R.ENC_SER e) F.ENC_SER_WIDTH = 0 || 64 < bits || (field && d.frameTooLong e)))

/-- The number of PWM counts over which a tick trigger's offset may spread (R285). -/
def Dev.trigTooFar (d : Dev) (off : Nat) : Bool :=
  (d.fg off F.TD_TRIG_DIV + 1) * d.tickCounts (d.fg off F.TD_TRIG_LANE) ≤ d.fg off F.TD_TRIG_OFS

/-- A binary32 number between two others, each in units of 2^−149; none is no bound. -/
def realIn (w : Word) (lo hi : Option Int) : Bool :=
  f32Finite w && (match lo with | some l => decide (l ≤ f32Key149 w) | none => true)
    && (match hi with | some h => decide (f32Key149 w ≤ h) | none => true)

/-- 1.0 in units of 2^−149. -/
def one149 : Int := 2 ^ 149

/-- CE_AX_PARAM_k lies in its range. -/
def axParamOk (k : Nat) (w : Word) : Bool :=
  if k = 1 then realIn w (some 0) (some (2 * one149))
  else if k = 24 then realIn w (some (one149 / 2)) (some one149)
  else if k = 26 then realIn w (some 1) none
  else if [4, 12, 13, 22].contains k then realIn w none none
  else realIn w (some 0) none

/-- The first coefficient of notch `i` that R155 refuses, in order of j. -/
def Dev.notchBad (d : Dev) (a i : Nat) : Option Nat :=
  let w (j : Nat) := f32Key149 (d.rd (R.CE_AX_NOTCHP a (5 * i + j)))
  let fs := (400000000 / d.tickCounts (laneOf a) : Nat)
  match d.fg (R.CE_AX_NOTCH_CFG a) (if i = 0 then F.CE_AX_NOTCH_CFG_MODE0 else F.CE_AX_NOTCH_CFG_MODE1) with
  | 1 =>
    if !(0 < w 0 && 100 * w 0 < 45 * fs * one149) then some 0
    else if !(0 < w 1 && w 1 ≤ 2 * w 0) then some 1
    else if !(0 ≤ w 2 && w 2 ≤ one149) then some 2
    else none
  | 2 =>
    -- |a1| < 1 + a2 and |a2| < 1; with a bad a2 only, a1 is judged against it first
    if !((w 3).natAbs < one149 + w 4) then some 3
    else if !((w 4).natAbs < one149) then some 4
    else none
  | _ => none

/-- The check of R155 for one notch: the failing coefficient's value word, or that of CE_AX_NOTCH_CFG, or the first of the notch. -/
def Chk.notch (c : Chk) (i : Nat) : Option (Nat × Nat) :=
  match c.new.notchBad c.i i with
  | none => none
  | some j =>
    let find (off : Nat) : Option Nat := (c.all.find? fun x => x.1 = off).map (·.2)
    some (0x0201, ((find (R.CE_AX_NOTCHP c.i (5 * i + j))).orElse fun _ => find (R.CE_AX_NOTCH_CFG c.i)).getD
      (((List.range 5).findSome? fun j => find (R.CE_AX_NOTCHP c.i (5 * i + j))).getD c.wi))

/-- The check of R155, in order of j, for the notches of an axis of which the packet writes a word. -/
def Chk.notches (c : Chk) : Option (Nat × Nat) :=
  let own (i : Nat) : Bool := c.all.any fun x => x.1 = R.CE_AX_NOTCH_CFG c.i || (List.range 5).any fun j => x.1 = R.CE_AX_NOTCHP c.i (5 * i + j)
  firstFail [if own 0 then c.notch 0 else none, if own 1 then c.notch 1 else none]

/-- A rule of the Squall injector as it would be (R531–R533): whether the write makes it invalid. -/
def Chk.squallRule (c : Chk) : Option (Nat × Nat) :=
  c.bad (squallFail (c.new.rd (R.SQ_RULE_CFG c.i)) (c.new.rd (R.SQ_RULE_SEL c.i)) (c.new.rd (R.SQ_RULE_TRIG c.i)) 0).isSome

/-- The conditions of AXIS_BIND and AXIS_BIND_IN (R82), in their own order. -/
def Chk.bind (c : Chk) : Option (Nat × Nat) :=
  let at' (off : Nat) : Nat := ((c.all.find? fun x => x.1 = off).map (·.2)).getD c.wi
  firstFail [c.no (c.old.axState c.i) (c.old.axState c.i ≠ 0),
    c.new.bindCheck c.i (c.new.rd (R.AXIS_BIND c.i)) (c.new.rd (R.AXIS_BIND_IN c.i)) (at' (R.AXIS_BIND c.i)) (at' (R.AXIS_BIND_IN c.i))]

/-! ### The registers' own conditions on values (0x02xx) -/

/-- A rule: the first offset of a register's row, and its check. -/
abbrev Rule := Nat × (Chk → Option (Nat × Nat))

/-- 01, 03 and 04. -/
def valueRules0 : List Rule := [
  (R.SYS_TICK_CTRL 0, fun c => c.bad (c.new.tickCounts c.i ≤ c.g F.SYS_TICK_CTRL_PHASE)),
  (R.AXIS_BIND 0, fun c => c.bind),
  (R.AXIS_BIND_IN 0, fun c => c.bind),
  (R.AXIS_COMMUT 0, fun c => c.bad (c.new.rd c.b ≠ 0 && (c.new.rd c.b).toNat < 0x400)),
  (R.AXIS_COMM_CFG 0, fun c => c.rng F.AXIS_COMM_CFG_COMM_SRC 0 1),
  (R.AXIS_DECEL_NORMAL 0, fun c => c.vel 1),
  (R.AXIS_DECEL_QUICK 0, fun c => c.vel 1),
  (R.AXIS_REACT 0, fun c => c.rng F.AXIS_REACT_BRAKE_OUT 0 47),
  (R.AXIS_HOME_CFG 0, fun c => firstFail [c.rng F.AXIS_HOME_CFG_METHOD 0 5,
    c.bad ((if c.g F.AXIS_HOME_CFG_SRC_KIND = 1 then 15 else 63) < c.g F.AXIS_HOME_CFG_SWITCH),
    c.rng F.AXIS_HOME_CFG_HS_TIME 1 255]),
  (R.AXIS_HOME_VEL 0, fun c => c.vel 0),
  (R.INTERP_GRP_MEMBERS 0, fun c =>
    let mem := (List.range 8).map fun k => c.new.member c.i k
    let others := ((List.range 16).filter (· ≠ c.i)).flatMap c.new.members
    firstFail [c.bad (mem.any fun a => 63 < a && a ≠ 255), c.conf (mem.any fun a => others.contains a)]),
  (R.INTERP_GRP_CFG 0, fun c => firstFail [c.rng F.INTERP_GRP_CFG_QDEPTH 1 256,
    c.bad (c.g F.INTERP_GRP_CFG_QDEPTH < c.g F.INTERP_GRP_CFG_RESERVE),
    c.conf (4096 < (List.range 16).foldl (fun n g => n + c.new.fg (R.INTERP_GRP_CFG g) F.INTERP_GRP_CFG_RESERVE) 0)]),
  (R.INTERP_GRP_OVR 0, fun c => firstFail [c.rng F.INTERP_GRP_OVR_RAMP 1 1000, c.rng F.INTERP_GRP_OVR_OVR 0 20000]),
  (R.INTERP_GRP_TOL 0, fun c => c.bad (c.v64 < 0)),
  (R.INTERP_AXLIM_VMAX 0, fun c => c.vel 0),
  (R.INTERP_AXLIM_AMAX 0, fun c => c.vel 0),
  (R.INTERP_AXLIM_JMAX 0, fun c => c.vel 0),
  (R.INTERP_VM_VEL 0, fun c => c.vel (-(2 ^ 63))),
  (R.INTERP_VM_ACC 0, fun c => c.vel 0),
  (R.INTERP_CAM_PROF 0, fun c => firstFail [c.rng F.INTERP_CAM_PROF_COUNT 2 4096,
    c.bad (4096 < c.g F.INTERP_CAM_PROF_FIRST + c.g F.INTERP_CAM_PROF_COUNT)]),
  (R.INTERP_CAM_LEN 0, fun c => c.bad (c.v64 ≤ 0)),
  (R.INTERP_GANTRY_CFG 0, fun c =>
    let l := c.g F.INTERP_GANTRY_CFG_LEADER
    let p := c.g F.INTERP_GANTRY_CFG_PARTNER
    firstFail [c.rng F.INTERP_GANTRY_CFG_LEADER 0 63, c.rng F.INTERP_GANTRY_CFG_PARTNER 0 63,
      c.conf (c.g F.INTERP_GANTRY_CFG_EN = 1 && (!c.new.lanesEqual (laneOf l) (laneOf p) || (c.new.groupOf p).isSome
        || c.old.follows p || c.new.fg (R.INTERP_GANTRY_LIMIT c.i) F.INTERP_GANTRY_LIMIT_LIMIT = 0))]),
  (R.INTERP_GANTRY_LIMIT 0, fun c =>
    c.conf (c.new.fb (R.INTERP_GANTRY_CFG c.i) F.INTERP_GANTRY_CFG_EN && c.g F.INTERP_GANTRY_LIMIT_LIMIT = 0))]

/-- 05 and 06. -/
def valueRules1 : List Rule := [
  (R.CE_LANE_CFG 0, fun c =>
    firstFail [c.rng F.CE_LANE_CFG_RATE 0 4,
      c.conf (c.g F.CE_LANE_CFG_PDIV < c.g F.CE_LANE_CFG_VDIV),
      c.conf (c.hit F.CE_LANE_CFG_RATE &&
        (c.new.tickCounts c.i ≤ c.new.fg (R.SYS_TICK_CTRL c.i) F.SYS_TICK_CTRL_PHASE
          || (List.range 4).any fun k => (List.range 8).any fun t =>
            c.new.fb (R.TD_TRIG k t) F.TD_TRIG_EN && c.new.fg (R.TD_TRIG k t) F.TD_TRIG_LANE = c.i && c.new.trigTooFar (R.TD_TRIG k t)))]),
  (R.CE_AX_CFG 0, fun c => c.rng F.CE_AX_CFG_FMODE 0 2),
  (R.CE_AX_FE 0, fun c => c.rng F.CE_AX_FE_FE_TIME 1 255),
  (R.CE_AX_NOTCH_CFG 0, fun c => firstFail [c.rng F.CE_AX_NOTCH_CFG_MODE0 0 2, c.rng F.CE_AX_NOTCH_CFG_MODE1 0 2, c.notches]),
  (R.CE_AX_PARAM 0 0, fun c => c.bad (!axParamOk c.j (c.new.rd c.b))),
  (R.CE_AX_NOTCHP 0 0, fun c => firstFail [c.bad (!f32Finite (c.new.rd c.b)), c.notches]),
  (R.CFE_CLK_CFG, fun c => firstFail [c.rng F.CFE_CLK_CFG_EXT_DIV 16 80, c.conf (c.old.pairEn && c.new.pairEn && c.ch F.CFE_CLK_CFG_EXT)]),
  (R.CFE_SDCK_CFG 0, fun c => c.rng F.CFE_SDCK_CFG_DIV 16 80),
  (R.CFE_BANK_CAL 0, fun c => c.bad (c.g F.CFE_BANK_CAL_REF_EN = 1 && c.g F.CFE_BANK_CAL_REF_IN / 40 ≠ c.i)),
  (R.CFE_BANK_REF 0, fun c => c.rng F.CFE_BANK_REF_REF_NOM 1 0x7FFFFF),
  (R.CFE_SD_CFG 0, fun c => firstFail [c.rng F.CFE_SD_CFG_CLKSEL 0 4, c.rng F.CFE_SD_CFG_OSR 0 4, c.rng F.CFE_SD_CFG_STUCK_N 0 4]),
  (R.CFE_SD_OC 0, fun c => c.bad (c.new.fgS c.b F.CFE_SD_OC_OC_HI ≤ c.new.fgS c.b F.CFE_SD_OC_OC_LO)),
  (R.CFE_SD_GAIN 0, fun c => c.bad (!realIn (c.new.rd c.b) (some (one149 / 2)) (some (2 * one149))))]

/-- 07 to 10. -/
def valueRules2 : List Rule := [
  (R.PWM_BANK_CFG 0, fun c => firstFail [c.rng F.PWM_BANK_CFG_PERIOD1 1000 400000,
    c.bad (c.g F.PWM_BANK_CFG_MODE1 = 0 && c.g F.PWM_BANK_CFG_PERIOD1 % 2 = 1)]),
  (R.PWM_LEG_CFG 0, fun c =>
    let t := c.g F.PWM_LEG_CFG_TRIP
    let host := c.g F.PWM_LEG_CFG_HOST = 1
    firstFail [c.conf (host && c.hit F.PWM_LEG_CFG_HOST && (c.new.legOwner c.i).isSome),
      c.err 0x0206 (host && t ≠ 255 && t / 16 ≠ c.i / 48),
      c.conf (host && (List.range 64).any fun a => c.new.bound a && t ≠ 255 && c.new.fg (R.AXIS_BIND a) F.AXIS_BIND_TRIP = t)]),
  (R.ENC_CFG 0, fun c => firstFail [c.rng F.ENC_CFG_FILT 2 255,
    c.conf (c.old.pairEn && c.new.pairEn && 2 ≤ c.g F.ENC_CFG_MODE && c.g F.ENC_CFG_HIZ_RX = 0),
    c.serialConf c.i (c.ch F.ENC_CFG_MODE || c.ch F.ENC_CFG_PARITY || c.ch F.ENC_CFG_GRAY || c.ch F.ENC_CFG_ERRBIT_EN || c.ch F.ENC_CFG_LISTEN)]),
  (R.ENC_SER 0, fun c => firstFail [c.rng F.ENC_SER_HALF 10 1000,
    c.bad (c.hit F.ENC_SER_WIDTH && c.g F.ENC_SER_WIDTH ≠ 0 && !(8 ≤ c.g F.ENC_SER_WIDTH && c.g F.ENC_SER_WIDTH ≤ 39)),
    c.rng F.ENC_SER_POS_LSB 0 56, c.serialConf c.i c.diff]),
  (R.ENC_CRC 0, fun c => firstFail [c.rng F.ENC_CRC_CRC_LEN 0 16, c.serialConf c.i c.diff]),
  (R.ENC_TIMING 0, fun c => firstFail [c.rng F.ENC_TIMING_ACK_MAX 1 255, c.serialConf c.i c.diff]),
  (R.ENC_DLY 0, fun c => c.serialConf c.i c.diff),
  (R.FIX_OFS 0, fun c => c.bad (let v := (c.new.rd c.b).toInt; v < -50000 || 50000 < v)),
  (R.PCO_CFG 0, fun c => c.rng F.PCO_CFG_WIDTH 2 65535),
  (R.PCO_LIST 0, fun c => c.rng F.PCO_LIST_COUNT 1 1024),
  (R.TD_TRIG 0 0, fun c => c.bad (c.new.trigTooFar c.b)),
  (R.TD_SIGSCALE 0 0, fun c => c.bad (!realIn (c.new.rd c.b) (some 0) none))]

/-- 11 to 15. -/
def valueRules3 : List Rule := [
  (R.TRACE_CFG, fun c => c.rng F.TRACE_CFG_MODE 0 2),
  (R.TRACE_CLK, fun c => firstFail [c.rng F.TRACE_CLK_SRC 0 4, c.rng F.TRACE_CLK_INPUT 0 159]),
  (R.TRACE_CH 0, fun c => c.bad (c.g F.TRACE_CH_KIND ≠ 0 && c.g F.TRACE_CH_SIG ≠ 0)),
  (R.TRACE_CMP_CFG 0, fun c => c.rng F.TRACE_CMP_CFG_TYPE 0 5),
  (R.EVR_SRC_CFG 0, fun c => firstFail [c.rng F.EVR_SRC_CFG_TARGET 0 5,
    c.conf ((c.g F.EVR_SRC_CFG_COMPAT = 1 && !isLevelSource c.i) || (c.g F.EVR_SRC_CFG_WAKE = 1 && (wakeBit c.i).isNone))]),
  (R.EVR_TGT_CFG 0, fun c => firstFail [c.rng F.EVR_TGT_CFG_FALLBACK 0 5, c.rng F.EVR_TGT_CFG_REHOME 0 1000,
    c.conf (c.g F.EVR_TGT_CFG_FALLBACK = c.i)]),
  (R.EVR_MOD 0, fun c => firstFail [c.rng F.EVR_MOD_HOLDOFF 0 1000, c.rng F.EVR_MOD_COALESCE 1 255]),
  (R.TRV_CFG, fun c => firstFail [c.rng F.TRV_CFG_CH_EN 1 3, c.bad (c.hit F.TRV_CFG_RANK && 3 < c.g F.TRV_CFG_RANK && c.g F.TRV_CFG_RANK ≠ 7)]),
  (R.TRV_CYCLE, fun c => firstFail [c.rng F.TRV_CYCLE_NSLOT 1 64, c.rng F.TRV_CYCLE_CYCLE 50 1000]),
  (R.TRV_TIMING, fun c => firstFail [c.rng F.TRV_TIMING_WIN 10 200, c.rng F.TRV_TIMING_NLOSS 1 15, c.rng F.TRV_TIMING_OFS_SH 0 3,
    c.rng F.TRV_TIMING_RATE_SH 0 3]),
  (R.TRV_SLOT 0, fun c => c.rng F.TRV_SLOT_KIND 0 4),
  (R.TRV_SLOT_X 0, fun c => firstFail [c.rng F.TRV_SLOT_X_WORDS 0 60, c.rng F.TRV_SLOT_X_NREC 0 8]),
  (R.CAN_CFG 0, fun c => c.rng F.CAN_CFG_CORR_PERIOD 1 1000),
  (R.CAN_NBT 0, fun c => firstFail [c.rng F.CAN_NBT_TSEG1 1 255, c.rng F.CAN_NBT_TSEG2 1 127]),
  (R.CAN_FLT 0 0, fun c => firstFail [c.rng F.CAN_FLT_ACTION 0 2,
    c.bad (c.g F.CAN_FLT_IDE = 0 && (c.g F.CAN_FLT_MASK / 2 ^ 11 ≠ 0 || c.g F.CAN_FLT_ID / 2 ^ 11 ≠ 0))]),
  (R.FIELD_IN_CFG 0, fun c => firstFail [c.rng F.FIELD_IN_CFG_PRESET 0 2, c.rng F.FIELD_IN_CFG_THR 0 24, c.rng F.FIELD_IN_CFG_FILT 0 8]),
  (R.FIELD_OUT_CFG 0, fun c => firstFail [c.bad (c.g F.FIELD_OUT_CFG_PAIR = 1 && c.i % 2 = 1),
    c.conf (c.old.pairEn && c.new.pairEn && c.g F.FIELD_OUT_CFG_FB = 1)])]

/-- 17 to 20. -/
def valueRules4 : List Rule := [
  (R.PAIR_CFG, fun c => firstFail [c.rng F.PAIR_CFG_HB_MISS 2 15, c.rng F.PAIR_CFG_DIV_LIM 1 255,
    c.conf (c.hit F.PAIR_CFG_EN && c.g F.PAIR_CFG_EN = 1 &&
      (!c.new.fb R.CFE_CLK_CFG F.CFE_CLK_CFG_EXT
        || (List.range 64).any (fun e => 2 ≤ c.new.encMode e && !c.new.fb (R.ENC_CFG e) F.ENC_CFG_HIZ_RX)
        || (List.range 48).any (fun o => c.new.fb (R.FIELD_OUT_CFG o) F.FIELD_OUT_CFG_FB)
        || (match c.old.safety.a.set with
            | some s => (List.range 16).any fun i => pairUsed s (i / 2) && inputTp s i ≠ 15
            | none => false)))]),
  (R.STORE_CFG, fun c => firstFail [c.rng F.STORE_CFG_SCRUB_DAYS 1 255, c.rng F.STORE_CFG_REFRESH_THR 8 39, c.rng F.STORE_CFG_BURST_DAYS 1 30,
    c.rng F.STORE_CFG_TMAX 0 5]),
  (R.POWER_CFG, fun c => firstFail [c.rng F.POWER_CFG_CHG_V 0 20, c.rng F.POWER_CFG_BAK_MIN 0 20, c.rng F.POWER_CFG_FLUSH_DELAY 0 500,
    c.rng F.POWER_CFG_PF_FILT 1 255]),
  (R.PWR_CTRL, fun c => c.rng F.PWR_CTRL_REQ 0 2),
  (R.SYS_WEDGE_CFG, fun c => firstFail [c.rng F.SYS_WEDGE_CFG_ACTION 0 2,
    c.bad (c.hit F.SYS_WEDGE_CFG_VECTOR && 63 < c.g F.SYS_WEDGE_CFG_VECTOR && c.g F.SYS_WEDGE_CFG_VECTOR ≠ 255),
    c.rng F.SYS_WEDGE_CFG_LIMIT 2 255]),
  (R.SQ_SEED, fun c => c.bad (c.new.rd c.b = 0)),
  (R.SQ_RULE_CFG 0, fun c => c.squallRule),
  (R.SQ_RULE_SEL 0, fun c => c.squallRule),
  (R.SQ_RULE_TRIG 0, fun c => c.squallRule)]

/-! ### The registers' own conditions on the state (0x03xx) -/

/-- The state of the Traverse node other than OFF refuses a write (R382). -/
def Chk.trvOff (c : Chk) : Option (Nat × Nat) :=
  let st := c.old.fg R.TRV_STATUS F.TRV_STATUS_STATE
  c.no st (st ≠ 0)

/-- The state of a CAN channel other than OFF refuses a write (R401). -/
def Chk.canOff (c : Chk) : Option (Nat × Nat) :=
  let st := c.old.fg (R.CAN_STATUS c.i) F.CAN_STATUS_STATE
  c.no st (st ≠ 0)

/-- The Barograph is not OFF, or records (R314). -/
def Chk.traceOff (c : Chk) : Option (Nat × Nat) := c.busy (c.old.trcState ≠ 0)
def Chk.traceRuns (c : Chk) : Option (Nat × Nat) := c.busy ([2, 3, 5].contains c.old.trcState)

/-- Active axes with some input on modulator clock `k`, or any input with `k` none (R195). -/
def Chk.byClock (c : Chk) (k : Option Nat) : Option (Nat × Nat) :=
  c.byAxes ((List.range 64).filter fun a => (c.old.allIns a).any fun i => match k with | some k => c.old.sdClock i = k | none => true)

/-- An input bound to an active axis (R195). -/
def Chk.byInput (c : Chk) (i : Nat) : Option (Nat × Nat) := c.byAxes ((laneAxes (i / 40)).filter fun a => (c.old.allIns a).contains i)

/-- A compare output that is enabled (R250). -/
def Chk.pcoOff (c : Chk) : Option (Nat × Nat) := c.no 0 (c.old.pcoOn c.i)

/-- 04 to 08. -/
def stateRules0 : List Rule := [
  (R.INTERP_GRP_MEMBERS 0, fun c => c.busy (c.old.grpState c.i ≠ 0)),
  (R.INTERP_GANTRY_CFG 0, fun c =>
    let axes (d : Dev) : List Nat := [d.fg c.b F.INTERP_GANTRY_CFG_LEADER, d.fg c.b F.INTERP_GANTRY_CFG_PARTNER]
    if c.ch F.INTERP_GANTRY_CFG_EN then
      let l := axes c.old ++ axes c.new
      ((List.range 64).find? fun a => l.contains a && c.old.axState a ≠ 0).map fun a => (0x0301, c.old.axState a)
    else none),
  (R.CE_LANE_CFG 0, fun c => firstFail [c.byAxes (laneAxes c.i),
    c.no 0 (c.hit F.CE_LANE_CFG_RATE && (c.old.tbLegs c.i false).any c.old.switching)]),
  (R.CE_AX_CFG 0, fun c => if c.hit F.CE_AX_CFG_SPH then c.byAxes [c.i] else none),
  (R.CFE_CLK_CFG, fun c =>
    if c.ch F.CFE_CLK_CFG_EXT || (c.old.fb R.CFE_CLK_CFG F.CFE_CLK_CFG_EXT && c.diff) then c.byClock none else none),
  (R.CFE_SDCK_CFG 0, fun c => if c.diff then c.byClock (some c.i) else none),
  (R.CFE_SD_CFG 0, fun c => c.byInput c.i),
  (R.CFE_SD_OC 0, fun c => c.byInput c.i),
  (R.CFE_SD_RANGE 0, fun c => c.byInput c.i),
  (R.PWM_BANK_CFG 0, fun c => firstFail [
    if c.ch F.PWM_BANK_CFG_MODE0 || c.ch F.PWM_BANK_CFG_RPEAK0 then c.byLegs (c.old.tbLegs c.i false) else none,
    if c.ch F.PWM_BANK_CFG_MODE1 || c.ch F.PWM_BANK_CFG_RPEAK1 || c.ch F.PWM_BANK_CFG_PERIOD1 || c.ch F.PWM_BANK_CFG_EN1
      then c.byLegs (c.old.tbLegs c.i true) else none]),
  (R.PWM_TRIP_CFG 0, fun c => firstFail [
    c.no 0 (c.g F.PWM_TRIP_CFG_REARM = 1 && c.old.fb (R.PWM_TRIP_STATUS c.i) F.PWM_TRIP_STATUS_LEVEL),
    if c.ch F.PWM_TRIP_CFG_FILT || c.ch F.PWM_TRIP_CFG_BLANK || c.ch F.PWM_TRIP_CFG_INV then c.byLegs (c.old.guardedLegs c.i) else none]),
  (R.PWM_LEG_CFG 0, fun c =>
    let run := c.g F.PWM_LEG_CFG_HOST = 1 && c.g F.PWM_LEG_CFG_RUN = 1 && (c.hit F.PWM_LEG_CFG_HOST || c.hit F.PWM_LEG_CFG_RUN)
    firstFail [
      if c.ch F.PWM_LEG_CFG_POLICY || c.ch F.PWM_LEG_CFG_POL_H || c.ch F.PWM_LEG_CFG_POL_L || c.ch F.PWM_LEG_CFG_TB then c.byLegs [c.i] else none,
      c.no 0 (run && c.old.power = 1),
      c.busy (run && c.old.thermalLevel = 3)]),
  (R.ENC_CFG 0, fun c => firstFail [c.byPort c.i, c.no 0 (c.ch F.ENC_CFG_LISTEN && c.old.pairEn)]),
  (R.ENC_SER 0, fun c => c.byPort c.i),
  (R.ENC_CRC 0, fun c => c.byPort c.i),
  (R.ENC_TIMING 0, fun c => c.byPort c.i),
  (R.ENC_DLY 0, fun c => c.byPort c.i),
  (R.PCO_CFG 0, fun c => c.pcoOff),
  (R.PCO_LIST 0, fun c => c.pcoOff)]

/-- 11 to 19. -/
def stateRules1 : List Rule := [
  (R.TRACE_CFG, fun c => c.traceOff), (R.TRACE_CLK, fun c => c.traceOff), (R.TRACE_POST, fun c => c.traceOff),
  (R.TRACE_TRIG_CFG, fun c => c.traceOff), (R.TRACE_CH 0, fun c => c.traceOff), (R.TRACE_CMP_CFG 0, fun c => c.traceOff),
  (R.TRACE_CMP_VAL 0, fun c => c.traceOff), (R.TRACE_MASK_CFG, fun c => c.traceRuns), (R.TRACE_MASK_SPAN, fun c => c.traceRuns),
  (R.TRACE_MASK 0, fun c => c.traceRuns),
  (R.TRV_CFG, fun c => c.trvOff), (R.TRV_CYCLE, fun c => c.trvOff), (R.TRV_TIMING, fun c => c.trvOff), (R.TRV_PROP 0, fun c => c.trvOff),
  (R.TRV_FLAG_OWN, fun c => c.trvOff), (R.TRV_SLOT 0, fun c => c.trvOff), (R.TRV_SLOT_X 0, fun c => c.trvOff),
  (R.TRV_POS_TX 0, fun c => c.trvOff),
  (R.CAN_CFG 0, fun c => c.canOff), (R.CAN_NBT 0, fun c => c.canOff), (R.CAN_DBT 0, fun c => c.canOff),
  (R.PAIR_CFG, fun c =>
    let st := c.old.pairState
    firstFail [c.no st (c.hit F.PAIR_CFG_EN && c.g F.PAIR_CFG_EN = 1 && st ≠ 0),
      c.no st (c.ch F.PAIR_CFG_EN && c.g F.PAIR_CFG_EN = 0 && st ≠ 2 && st ≠ 3)]),
  (R.PWR_CTRL, fun c =>
    let q := c.g F.PWR_CTRL_REQ
    firstFail [
      if q = 0 then none else c.byAxes (List.range 64),
      c.no 0 (q ≠ 0 && c.old.hostRun),
      c.busy (q = 2 && ((List.range 4).any (fun k => c.old.tdState k = 2) || [2, 3, 5].contains c.old.trcState || c.old.pairEn
        || c.old.session == some .traverse || c.old.pwm.halted))])]

/-- The rule of a register's row. -/
def ruleOf (l : List (List Rule)) (base : Nat) (c : Chk) : Option (Nat × Nat) :=
  match l.findSome? fun t => t.find? fun r => r.1 = base with
  | some r => r.2 c
  | none => none

/-! ### A whole command -/

/-- The word that a write would leave, CP bits or not, differs from the present one in the bits of a mask. -/
def Dev.wordChanges (d : Dev) (q : Req) (mask : Word) : Bool := (masked (d.rd q.off) q.mask q.val ^^^ d.rd q.off) &&& mask ≠ 0

/-- The failures of R76 and R74 on one of the writes `own` of a packet, apart from its value: no register, no CP field in the register, and
writes of the register that change no CP bit of it but would change another one. -/
def Dev.reachFail (d : Dev) (own : List Req) (q : Req) : Option (Nat × Nat) :=
  match findReg q.off with
  | none => some (0x0203, 0)
  | some (r, _, _, w) =>
    let b := q.off - 4 * w
    let words := if r.w64 then [b, b + 4] else [b]
    let same := own.filter fun x => words.contains x.off
    if words.all fun o => cpMask o = 0 then some (0x0202, 0)
    else if same.any fun x => d.wordChanges x (cpMask x.off) then none
    else if d.wordChanges q 0xFFFFFFFF then some (0x0201, q.wi)
    else none

/-- A write under a table of rules: `img` is the device as all the writes `all` that are applied together would leave it, and `own` are the
writes of the write's own packet. -/
def Dev.ruleFail (d img : Dev) (rules : List (List Rule)) (all own : List Req) (q : Req) : Option (Nat × Nat) :=
  match findReg q.off with
  | none => none
  | some (r, i, j, w) =>
    let b := q.off - 4 * w
    let bits := all.foldl (fun (m : Nat) x =>
      if x.off = b then m ||| (x.mask &&& cpMask x.off).toNat
      else if r.w64 && x.off = b + 4 then m ||| ((x.mask &&& cpMask x.off).toNat * 2 ^ 32) else m) 0
    ruleOf rules r.base { old := d, new := img, b := b, i := i, j := j, m := bits, wi := q.wi, all := own.map fun x => (x.off, x.wi) }

/-- The rules on values and those on the state. -/
def valueRules : List (List Rule) := [valueRules0, valueRules1, valueRules2, valueRules3, valueRules4]
def stateRules : List (List Rule) := [stateRules0, stateRules1]

/-- The lane that some writes share (R74): none for global registers. -/
def writesLane (l : List Req) : Option Nat := match l with | [] => none | q :: _ => laneReg q.off

/-- The first write that brings lanes together, or a lane and global registers (R74). -/
def mixOf (l : List Req) : Option Req := l.find? fun q => laneReg q.off ≠ writesLane l

/-- The failure of the writes `own` of a packet, of which `all` are the writes applied together, and `mix` the failure of R74 that it
carries. -/
def Dev.writesFail (d : Dev) (all own : List Req) (mix : Option (Nat × Nat)) : Option (Nat × Nat) :=
  let img := d.imageOf all
  firstFail [own.findSome? (d.reachFail own), mix, own.findSome? (d.ruleFail img valueRules all own), own.findSome? (d.ruleFail img stateRules all own)]

/-- The writes as they wait for their application point (R73). -/
def Dev.queueReqs (d : Dev) (l : List Req) : Dev × Nat :=
  d.queueWrites (l.map fun q => (q.off, q.mask &&& cpMask q.off, q.val)) (writesLane l)

end Sys2Proof.Machine
end

