-- ==== Sys2Proof/Machine/ParamApply.lean ====
section
/-!
DEFINITION. The application of parameter writes (R73): a word takes its new value, and what follows from it in the block that holds it.
-/

namespace Sys2Proof.Machine

open Sys2Proof

/-! ### What follows from a new value -/

/-- What an applied word does beyond holding its value: the subscripts of its register, its offset, its word before, and the device after. -/
abbrev Follow := Nat × (Dev → Nat → Nat → Nat → Word → Dev)

/-- A lane's NMAX and phases follow the clocks and sample phases (R166). -/
def Dev.lanesUpdate (d : Dev) : Dev := d.each (List.range 4) Dev.laneUpdate

/-- PWM_TRIP_CFG: REARM clears the latch while the filtered input is inactive, and reads 0; EN at 0 clears it as well (R219). -/
def Dev.tripApplied (d : Dev) (t : Nat) : Dev :=
  let c := R.PWM_TRIP_CFG t
  let clear := (d.fb c F.PWM_TRIP_CFG_REARM && !d.fb (R.PWM_TRIP_STATUS t) F.PWM_TRIP_STATUS_LEVEL) || !d.fb c F.PWM_TRIP_CFG_EN
  let d := d.fsb c F.PWM_TRIP_CFG_REARM false
  if clear && d.latched t then d.unlatch t else d

/-- PWM_LEG_CFG: RUN from 0 to 1 clears the leg's counters; a leg that is not to switch, because RUN or HOST is 0 or because a latch that it
now names is set, is high-impedance (R198, R218). -/
def Dev.legApplied (d : Dev) (l : Nat) (old : Word) : Dev :=
  let c := R.PWM_LEG_CFG l
  let d := if d.fb c F.PWM_LEG_CFG_RUN && fldGet old F.PWM_LEG_CFG_RUN = 0 then d.clearLegCount l else d
  if (d.legOwner l).isNone && !d.legWants l && (d.leg l).cond ≠ .hiz then d.legHiz l else d

/-- PWM_LEG_CMP: the value of a host-driven leg that switches, or is frozen, is on its way to it (R204). -/
def Dev.cmpApplied (d : Dev) (l : Nat) : Dev :=
  if (d.legOwner l).isNone && (d.leg l).cond ≠ .hiz then
    d.modLeg l fun x => { x with issued := x.issued ++ [d.fg (R.PWM_LEG_CMP l) F.PWM_LEG_CMP_CMP] }
  else d

/-- PWM_BANK_CFG: timebase TB1 stops with EN1 at 0 (R200). -/
def Dev.bankApplied (d : Dev) (n : Nat) : Dev :=
  if d.fb (R.PWM_BANK_CFG n) F.PWM_BANK_CFG_EN1 then d
  else (d.modBank n fun b => { b with run1 := false }).fsb (R.PWM_BANK_STATUS n) F.PWM_BANK_STATUS_TB1_RUN false

/-- CFE_SD_CFG: a change of EN, CLKSEL or OSR starts a refill (R184). -/
def Dev.inputApplied (d : Dev) (i : Nat) (old : Word) : Dev :=
  let ch (f : Fld) : Bool := fldGet old f ≠ d.fg (R.CFE_SD_CFG i) f
  if ch F.CFE_SD_CFG_EN || ch F.CFE_SD_CFG_CLKSEL || ch F.CFE_SD_CFG_OSR then (d.refill i).lanesUpdate else d

/-- CFE_CLK_CFG: a change of EXT changes the clock of every input, one of EXT_DIV or CAP_DLY only while SDCLK_IN clocks them (R184). -/
def Dev.extApplied (d : Dev) (old : Word) : Dev :=
  let ext := d.fb R.CFE_CLK_CFG F.CFE_CLK_CFG_EXT
  if d.rd R.CFE_CLK_CFG = old || (!ext && fldGet old F.CFE_CLK_CFG_EXT = 0) then d else (d.each (List.range 160) Dev.refill).lanesUpdate

/-- FIELD_GROUP_STATUS: EN of a group is taken (R425). -/
def Dev.groupFollow (d : Dev) (g : Nat) : Dev := d.groupApply g (d.fb (R.FIELD_GROUP_STATUS g) F.FIELD_GROUP_STATUS_EN)

/-- TD_HOOK_MASK: each binding and each unbinding leaves the hooks that it names with the held value 0 and not fresh; an absence goes on
until the next fresh write (R162, R289). -/
def Dev.hooksFollow (d : Dev) (h off : Nat) (mask : Word) : Dev :=
  let up := if off % 8 = 4 then 32 else 0
  d.each ((List.range 32).filter fun k => wbit mask k) fun d k => d.modHook (up + k) h fun x => { x with value := 0, fresh := false }

/-- INTERP_GRP_CFG: INTERP_POOL shows the sum of all RESERVE values (R106). -/
def Dev.reserveFollow (d : Dev) : Dev :=
  d.fs R.INTERP_POOL F.INTERP_POOL_RESERVED_SUM ((List.range 16).foldl (fun n g => n + d.fg (R.INTERP_GRP_CFG g) F.INTERP_GRP_CFG_RESERVE) 0)

/-- INTERP_GANTRY_CFG: INTERP_FOLLOW_STATUS.KIND is 3 for the partners of the coupled pairs (R133). -/
def Dev.gantryFollow (d : Dev) : Dev :=
  d.each (List.range 64) fun d a =>
    if d.isPartner a then d.fs (R.INTERP_FOLLOW_STATUS a) F.INTERP_FOLLOW_STATUS_KIND 3
    else if d.fg (R.INTERP_FOLLOW_STATUS a) F.INTERP_FOLLOW_STATUS_KIND = 3 then d.followOff a else d

/-- RTC_SET: the real-time clock is loaded, and RTC_LOST clears. -/
def Dev.rtcFollow (d : Dev) : Dev := (d.wr64 R.RTC_TIME (d.rd64 R.RTC_SET)).fsb R.POWER_STATUS F.POWER_STATUS_RTC_LOST false

/-- The registers whose values act beyond themselves. -/
def followTable : List Follow := [
  (R.INTERP_GRP_CFG 0, fun d _ _ _ _ => d.reserveFollow),
  (R.INTERP_GANTRY_CFG 0, fun d _ _ _ _ => d.gantryFollow),
  (R.CE_LANE_CFG 0, fun d n _ _ _ => d.laneUpdate n),
  (R.CE_AX_CFG 0, fun d a _ _ _ => d.laneUpdate (laneOf a)),
  (R.CFE_CLK_CFG, fun d _ _ _ old => d.extApplied old),
  (R.CFE_SDCK_CFG 0, fun d k _ off old => if d.rd off = old then d else (d.each (d.clockInputs k) Dev.refill).lanesUpdate),
  (R.CFE_SD_CFG 0, fun d i _ _ old => d.inputApplied i old),
  (R.PWM_BANK_CFG 0, fun d n _ _ _ => d.bankApplied n),
  (R.PWM_TRIP_CFG 0, fun d t _ _ _ => d.tripApplied t),
  (R.PWM_LEG_CFG 0, fun d l _ _ old => d.legApplied l old),
  (R.PWM_LEG_CMP 0, fun d l _ _ _ => d.cmpApplied l),
  (R.ENC_CFG 0, fun d e _ _ old => 
    (if fldGet old F.ENC_CFG_MODE = d.encMode e then d else d.portEnable e).listenFollow e),
  (R.PCO_STATUS 0, fun d o _ _ _ => d.pcoApplied o),
  (R.TD_TRIG 0 0, fun d c k _ _ => d.modCore c fun x => { x with trigDue := x.trigDue.filter (· ≠ k) }),
  (R.EVR_SRC_CFG 0, fun d n _ _ old => d.srcCfgApplied n old),
  (R.EVR_PIN_MASK 0, fun d _ _ _ _ => d.releasePins),
  (R.FIELD_IN_CFG 0, fun d i _ off _ => d.sendCfg (inDie i) off),
  (R.FIELD_OUT_CFG 0, fun d o _ off _ => d.sendCfg (outDie o) off),
  (R.FIELD_GROUP_STATUS 0, fun d g _ _ _ => d.groupFollow g),
  (R.STORE_CFG, fun d _ _ _ _ => d.wearRegs),
  (R.STORE_PE, fun d _ _ _ _ => d.wearRegs),
  (R.POWER_CFG, fun d _ _ _ _ => d.armRegs.chargeRegs),
  (R.RTC_SET, fun d _ _ _ _ => d.rtcFollow),
  (R.PWR_CTRL, fun d _ _ _ _ => d.modSec fun s => { s with pwrReq := some (d.fg R.PWR_CTRL F.PWR_CTRL_REQ) }),
  (R.SYS_WEDGE_CFG, fun d _ _ _ _ => d.releasePins)]

/-! ### Applying writes -/

/-- One write of a word takes effect (R73, R74). -/
def Dev.applyWrite (d : Dev) (w : PWrite) : Dev :=
  match findReg w.off with
  | none => d
  | some (r, i, j, _) =>
    let old := d.rd w.off
    let new := masked old w.mask w.val
    if r.base = R.AXIS_BIND 0 then d.applyBind i new (d.rd (R.AXIS_BIND_IN i))
    else if r.base = R.AXIS_BIND_IN 0 then d.applyBind i (d.rd (R.AXIS_BIND i)) new
    else if r.base = R.TD_HOOK_MASK 0 0 then (d.wr w.off new).hooksFollow j w.off w.mask
    else
      let d := if r.base = R.INTERP_VM_VEL 0 ∨ r.base = R.INTERP_VM_ACC 0 then d.vmRebase i d.ns else d
      let d := d.wr w.off new
      match followTable.find? fun f => f.1 = r.base with
      | some f => f.2 d i j w.off old
      | none => d

/-- The outputs that the writes of a group would switch on (R424). -/
def outsSet (ws : List PWrite) : Nat :=
  ws.foldl (fun (n : Nat) w =>
    if w.off = R.FIELD_OUT_CMD then n ||| (w.mask &&& w.val).toNat
    else if w.off = R.FIELD_OUT_CMD + 4 then n ||| ((w.mask &&& w.val).toNat * 2 ^ 32) else n) 0

/-- The words that GET_PARAM reads: those of registers, and 0 where none stands (R569). -/
def Dev.readWords (d : Dev) (off n : Nat) : List Word := (List.range n).map fun k => d.view (off + 4 * k)

/-- A GET_PARAM that waits for the writes of its chain reads now (R56). -/
def Dev.chainReads (d : Dev) (gid : Nat) : Dev :=
  let read (a : Accepted) : Accepted :=
    if opNum a.pkt = 0x0103 && a.waits.contains ⟨.write, gid⟩ then { a with pay := d.readWords (pw a.pkt 3).toNat (pw a.pkt 4).toNat } else a
  { d with cmd := { d.cmd with accepted := d.cmd.accepted.map read } }

/-- The reply payload of an application point (R73): the number of the lane's tick at which the writes were due, or device time with the
tick of lane 0. -/
def Dev.pointWords (d : Dev) (tick : Option Nat) : List Word :=
  match tick with
  | some t => words64 t
  | none => words64 d.ns ++ d.tickWords 0

/-- The reply payload of a command at its application point: GET_PARAM and DSP_BIND_HOOK have theirs already (R292, R569), FIX_ARM reports
FIX_STATUS, COMPARE_ENABLE the targets skipped (R251). -/
def Dev.groupPay (d : Dev) (tick : Option Nat) (p : Packet) : List Word :=
  match opNum p with
  | 0x0103 | 0x0603 => []
  | 0x0500 => [d.rd (R.FIX_STATUS (tix p))]
  | 0x0502 => [toW (if pw p 3 = 0 then 0 else d.pcoSkipped (tix p))]
  | _ => d.pointWords tick

/-- The commands of a write group end. -/
def Dev.resolveGroup (d : Dev) (gid st det : Nat) (tick : Option Nat) : Dev :=
  d.cmd.accepted.foldl (fun (d : Dev) a =>
    Dev.resolveOne ⟨.write, gid⟩ st det (if st ≠ 0 then [] else d.groupPay tick a.pkt) d a) d

/-- The writes of one group are applied together, and its commands end; an OUTPUT_WRITE that sets an output of a disabled group applies
nothing (R424, R425). -/
def Dev.applyGroup (ws : List PWrite) (d : Dev) (gid : Nat) : Dev :=
  let own := ws.filter fun w => w.gid = gid
  let tick := own.findSome? fun w => w.tick
  match d.disabledGroup (outsSet own) with
  | some g => d.resolveGroup gid 0x0301 g tick
  | none => ((own.foldl Dev.applyWrite d).chainReads gid).resolveGroup gid 0 0 tick

/-- The numbers of the write groups among some writes, in order; those of field groups come first, so that an OUTPUT_WRITE is judged after a
disable (R425). -/
def groupIds (ws : List PWrite) : List Nat :=
  let ids := (ws.map fun w => w.gid).eraseDups
  let first (g : Nat) : Bool := ws.any fun w => w.gid = g && R.FIELD_GROUP_STATUS 0 ≤ w.off && w.off ≤ R.FIELD_GROUP_STATUS 5
  ids.filter first ++ ids.filter fun g => !first g

/-- A validated write has reached its application point (R73): a global one at once, one of a lane at its servo tick. -/
def PWrite.ripe (w : PWrite) (lane : Option Nat) : Bool := w.lane = lane && (lane.isNone || w.tick.isSome)

/-- PARAM_APPLY: the validated writes of a lane that the lane's first servo tick after their validation has found, or the global ones,
take effect in validation order (R73, R75). -/
def execParamApply (lane : Option (Fin 4)) (s : State) : Out := s.onDev fun d =>
  let l := lane.map Fin.val
  let ws := d.cmd.writes.filter fun w => w.ripe l
  let d := { d with cmd := { d.cmd with writes := d.cmd.writes.filter fun w => !w.ripe l } }
  (groupIds ws).foldl (Dev.applyGroup ws) d

end Sys2Proof.Machine
end

