-- ==== Sys2Proof/Machine/CmdParam.lean ====
section
/-!
DEFINITION. The opcodes of family 0x01 (02): parameter writes and reads, alone and in chains, and configuration sets.
-/

namespace Sys2Proof.Machine

open Sys2Proof

/-! ### The writes that a packet asks for (R74, R77) -/

/-- The register writes of SET_PARAM, SET_PARAM64 and SET_PARAM_BLOCK; none for another opcode. -/
def reqsOf (p : Packet) : List Req :=
  match opNum p with
  | 0x0100 => [{ off := (pw p 3).toNat, mask := pw p 4, val := pw p 5, wi := 5 }]
  | 0x0101 => [{ off := (pw p 3).toNat, mask := 0xFFFFFFFF, val := pw p 4, wi := 4 },
               { off := (pw p 3).toNat + 4, mask := 0xFFFFFFFF, val := pw p 5, wi := 4 }]
  | 0x0102 => (List.range (pw p 3).toNat).map fun i =>
      { off := (pw p (4 + 2 * i)).toNat, mask := 0xFFFFFFFF, val := pw p (5 + 2 * i), wi := 5 + 2 * i }
  | _ => []

/-- The number of parameter words of the opcodes 0x0100–0x0103 (R77); a count that names no layout is judged by its range. -/
def paramLen (p : Packet) : Nat :=
  match opNum p with
  | 0x0102 => if 1 ≤ (pw p 3).toNat && (pw p 3).toNat ≤ 29 then 1 + 2 * (pw p 3).toNat else max 1 p.params.length
  | 0x0103 => 2
  | _ => 3

/-- The offset is that of a whole 64-bit register (R74). -/
def is64 (off : Nat) : Bool := match findReg off with | some (r, _, _, w) => r.w64 && w = 0 | none => false

/-- What the opcode's own words must be, before any register is looked at (R74, R77, R569). -/
def formFail (p : Packet) : Option (Nat × Nat) :=
  let n := (pw p 4).toNat
  match opNum p with
  | 0x0101 => if is64 (pw p 3).toNat then none else some (0x0203, 0)
  | 0x0102 => if 1 ≤ (pw p 3).toNat && (pw p 3).toNat ≤ 29 then none else some (0x0201, 3)
  | 0x0103 => failOf [((pw p 3).toNat % 4 ≠ 0, 0x0201, 3), (n = 0 || 59 < n || 0x400000 < (pw p 3).toNat + 4 * n, 0x0201, 4)]
  | _ => none

/-- The mix of lanes that packet `p` of a chain carries (R74): it is the first packet whose write brings the mix in. -/
def mixFail (ch : List Packet) (p : Packet) : Option (Nat × Nat) :=
  let lane := writesLane (ch.flatMap reqsOf)
  let mixes (r : Packet) : Option Req := (reqsOf r).find? fun q => laneReg q.off ≠ lane
  match ch.find? fun r => (mixes r).isSome with
  | some r => if r = p then (mixes r).map fun q => (0x0204, if opNum r = 0x0102 then q.wi else 0) else none
  | none => none

/-- The failure of one packet among those of its chain. -/
def Dev.packetFail (d : Dev) (ch : List Packet) (p : Packet) : Option (Nat × Nat) :=
  firstFail [formFail p, d.writesFail (ch.flatMap reqsOf) (reqsOf p) (mixFail ch p)]

/-- The packets that are applied together with `p` (R56). -/
def Dev.chainPackets (d : Dev) (p : Packet) : List Packet :=
  match (chainOf d.cmd.accepted p).map fun a => a.pkt with
  | [] => [p]
  | l => l

/-- The opcodes that wait for the application point of their chain. -/
def chainWaits (p : Packet) : Bool := [0x0100, 0x0101, 0x0102, 0x0103].contains (opNum p)

/-- The check of a parameter command: its own failure, or that of its chain (R56). -/
def Dev.paramCheck (d : Dev) (p : Packet) : Option (Nat × Nat) :=
  let ch := d.chainPackets p
  firstFail [d.packetFail ch p,
    if ch.any fun r => r ≠ p && chainWaits r && ((lenCheck r (paramLen r)).isSome || (d.packetFail ch r).isSome) then some (0x010B, 0) else none]

/-- The writes of a command, or of its whole chain, wait for one application point (R56, R73); every member of the chain starts with it. -/
def Dev.paramRun (d : Dev) (p : Packet) : OpEnd :=
  let ch := d.chainPackets p
  let l := ch.flatMap reqsOf
  if l.isEmpty then .done d 0 0 (d.readWords (pw p 3).toNat (pw p 4).toNat) else
  let (d, g) := d.queueReqs l
  let start (a : Accepted) : Accepted :=
    if ch.contains a.pkt && chainWaits a.pkt then { a with started := true, waits := [⟨.write, g⟩] } else a
  .wait { d with cmd := { d.cmd with accepted := d.cmd.accepted.map start } } [⟨.write, g⟩] []

/-- What the opcodes 0x0100–0x0103 do. -/
def specParam : OpSpec where
  len p := paramLen p
  check d p := d.paramCheck p
  run d p := d.paramRun p

/-! ### Configuration sets (R77, R505) -/

/-- The CP words that are not at their reset value, as offset and word: what a configuration set holds (assumption log 32). -/
def Dev.configWords (d : Dev) : List (Nat × Word) :=
  d.regs.filterMap fun x =>
    match findReg x.1 with
    | none => none
    | some (r, _, _, w) =>
      let m := toW (cfgMask x.1 r w)
      if x.2 &&& m = resetWord x.1 &&& m then none else some (x.1, x.2 &&& m)

/-- The words of a list of bytes, lowest byte first. -/
def bytesWords (n : Nat) (l : List Byte) : List Word :=
  match n with
  | 0 => []
  | n + 1 =>
    match l with
    | [] => []
    | _ => toW ((l.take 4).foldr (fun b m => m * 256 + b.toNat) 0) :: bytesWords n (l.drop 4)

/-- The pairs of a list of words. -/
def pairUp (n : Nat) (l : List Word) : List (Nat × Word) :=
  match n with
  | 0 => []
  | n + 1 => match l with | a :: b :: r => (a.toNat, b) :: pairUp n r | _ => []

/-- The configuration set of a number, as it is stored. -/
def Dev.configSet (d : Dev) (n : Nat) : Option (List (Nat × Word)) :=
  if d.mounted then (d.object 3 n).map fun o => pairUp o.bytes.length (bytesWords o.bytes.length o.bytes) else none

/-- The writes that bring the CP fields to those of a set: its words, and the reset value of every other field. -/
def Dev.configReqs (d : Dev) (l : List (Nat × Word)) : List Req :=
  let cp (off : Nat) : Word := match findReg off with | some (r, _, _, w) => toW (cfgMask off r w) | none => 0
  ((d.configWords.filter fun x => !l.any fun y => y.1 = x.1).map fun x => { off := x.1, mask := cp x.1, val := resetWord x.1, wi := 0 })
    ++ l.map fun x => { off := x.1, mask := cp x.1, val := x.2, wi := 0 }

/-- SAVE_CONFIG_SET stores the configuration as an object of partition 3. -/
def specSaveConfigSet : OpSpec where
  len _ := 0
  check d _ := failOf [(d.configDenied, 0x0504, 0)]
  run d p :=
    let bytes := d.configWords.flatMap fun x => wordBytes (toW x.1) ++ wordBytes x.2
    match d.writeFail 3 (tix p) bytes.length with
    | some (st, det) => .done (d.storeRefuse st) st det []
    | none =>
      let (d, id) := d.startStore { kind := .config, part := 3, num := tix p, bytes := bytes }
      .wait d [⟨.store, id⟩] []

/-- LOAD_CONFIG_SET applies a stored set at the application points of its lanes and at the global one. -/
def specLoadConfigSet : OpSpec where
  len _ := 0
  check d p :=
    match d.configDenied, d.configSet (tix p) with
    | true, _ => some (0x0504, 0)
    | false, none => some (0x0405, 0)
    | false, some l =>
      let q := d.configReqs l
      let img := d.imageOf q
      firstFail [
        if (q.findSome? (d.reachFail q)).isSome || (q.findSome? (d.ruleFail img valueRules q q)).isSome then some (0x0405, 0) else none,
        q.findSome? (d.ruleFail img stateRules q q)]
  run d p :=
    let q := d.configReqs ((d.configSet (tix p)).getD [])
    let points : List (Option Nat) := [some 0, some 1, some 2, some 3, none]
    let (d, ws) := points.foldl (fun (x : Dev × List Wait) k =>
      let own := q.filter fun r => laneReg r.off = k
      if own.isEmpty then x else
      let (d, g) := x.1.queueReqs own
      (d, x.2 ++ [⟨.write, g⟩])) (d, [])
    .wait d ws []

/-- SELECT_BOOT_CONFIG names the configuration set that a boot applies. -/
def specSelectBootConfig : OpSpec where
  len _ := 0
  check d _ := failOf [(d.configDenied, 0x0504, 0)]
  run d p := .done { d with cmd := { d.cmd with bootCfg := tix p } } 0 0 []

end Sys2Proof.Machine
end

