-- ==== Sys2Proof/Machine/Chain.lean ====
section
/-!
DEFINITION. Chains (R56), and the opcodes that may stand in one: families 0x01, 0x03, 0x04 and 0x05.
-/

namespace Sys2Proof.Machine

open Sys2Proof

/-- The families whose opcodes may stand in a chain (R56). -/
def chainFamily (p : Packet) : Bool := [1, 3, 4, 5].contains (opNum p / 256)

/-- The opcodes of the families that a chain may hold. -/
def chainSpec (op : Nat) : Option OpSpec :=
  match op with
  | 0x0100 | 0x0101 | 0x0102 | 0x0103 => some specParam
  | 0x0104 => some specSaveConfigSet
  | 0x0105 => some specLoadConfigSet
  | 0x0106 => some specSelectBootConfig
  | 0x0300 => some specSegment
  | 0x0301 => some specGroupStart
  | 0x0302 => some specGroupHold
  | 0x0303 => some specOverride
  | 0x0304 => some specFlushGroup
  | 0x0305 => some specMoveAxis
  | 0x0400 => some specGearEngage
  | 0x0401 => some specGearDisengage
  | 0x0402 => some specCamLoad
  | 0x0403 => some specCamEngage
  | 0x0500 => some specFixArm
  | 0x0501 => some specCompareLoad
  | 0x0502 => some specCompareEnable
  | _ => none

/-- The device after an opcode's execution, whatever it ends in. -/
def OpEnd.dev (e : OpEnd) : Dev := match e with | .done d _ _ _ => d | .wait d _ _ => d | .waitAll d _ _ _ _ _ => d

/-- The failures of the members of a chain (R56): each is checked on the device as those before it would leave it. -/
def Dev.chainFails (d : Dev) (l : List Accepted) : List (Option (Nat × Nat)) :=
  (l.foldl (fun (x : Dev × List (Option (Nat × Nat))) a =>
    match a.verdict, chainSpec (opNum a.pkt) with
    | some e, _ => (x.1, x.2 ++ [some e])
    | none, none => (x.1, x.2 ++ [some (0x0103, 0)])
    | none, some o =>
      match x.1.opCheck o a.pkt with
      | some e => (x.1, x.2 ++ [some e])
      | none => ((o.run x.1 a.pkt).dev, x.2 ++ [none])) (d, [])).2

/-- Every member of a chain ends with its own failure, or with CHAIN_REJECTED. -/
def Dev.rejectChain (d : Dev) (l : List Accepted) (fs : List (Option (Nat × Nat))) : Dev :=
  (l.zip fs).foldl (fun (d : Dev) x =>
    let e := x.2.getD (0x010B, 0)
    d.finish x.1.pkt e.1 e.2 (d.errPay e.1)) d

/-- The members of a chain that have not started start one after the other, at one application point (R56). -/
def Dev.startChain (d : Dev) (l : List Accepted) : Dev :=
  l.foldl (fun (d : Dev) a =>
    match d.cmd.accepted.find? (sameCmd a.pkt), chainSpec (opNum a.pkt) with
    | some b, some o => if b.started then d else d.startOp o a.pkt
    | _, _ => d) d

/-- A command of a family that a chain may hold: it starts when it may; the first of a chain starts the whole chain, which is
rejected when a member fails on the state as it is by then (R56). -/
def Dev.runChained (d : Dev) (code : Nat) (o : OpSpec) (p : Packet) : Dev :=
  if opNum p ≠ code || !d.canStart p then d else
  let l := chainOf d.cmd.accepted p
  if l.length ≤ 1 then d.startOp o p
  else
    let fs := d.chainFails l
    if fs.any Option.isSome then d.rejectChain l fs else d.startChain l

/-! ### The opcodes -/

/-- SET_PARAM (R74). -/
def execSetParam (p : Packet) (s : State) : Out := s.onDev fun d => d.runChained 0x0100 specParam p

/-- SET_PARAM64 (R74). -/
def execSetParam64 (p : Packet) (s : State) : Out := s.onDev fun d => d.runChained 0x0101 specParam p

/-- SET_PARAM_BLOCK (R74). -/
def execSetParamBlock (p : Packet) (s : State) : Out := s.onDev fun d => d.runChained 0x0102 specParam p

/-- GET_PARAM (R569). -/
def execGetParam (p : Packet) (s : State) : Out := s.onDev fun d => d.runChained 0x0103 specParam p

/-- SAVE_CONFIG_SET (R77). -/
def execSaveConfigSet (p : Packet) (s : State) : Out := s.onDev fun d => d.runChained 0x0104 specSaveConfigSet p

/-- LOAD_CONFIG_SET (R77). -/
def execLoadConfigSet (p : Packet) (s : State) : Out := s.onDev fun d => d.runChained 0x0105 specLoadConfigSet p

/-- SELECT_BOOT_CONFIG (R77). -/
def execSelectBootConfig (p : Packet) (s : State) : Out := s.onDev fun d => d.runChained 0x0106 specSelectBootConfig p

/-- SEGMENT (R112). -/
def execSegment (p : Packet) (s : State) : Out := s.onDev fun d => d.runChained 0x0300 specSegment p

/-- GROUP_START (R108). -/
def execGroupStart (p : Packet) (s : State) : Out := s.onDev fun d => d.runChained 0x0301 specGroupStart p

/-- GROUP_HOLD (R121). -/
def execGroupHold (p : Packet) (s : State) : Out := s.onDev fun d => d.runChained 0x0302 specGroupHold p

/-- OVERRIDE (R119). -/
def execOverride (p : Packet) (s : State) : Out := s.onDev fun d => d.runChained 0x0303 specOverride p

/-- FLUSH_GROUP (R120). -/
def execFlushGroup (p : Packet) (s : State) : Out := s.onDev fun d => d.runChained 0x0304 specFlushGroup p

/-- MOVE_AXIS (R125). -/
def execMoveAxis (p : Packet) (s : State) : Out := s.onDev fun d => d.runChained 0x0305 specMoveAxis p

/-- GEAR_ENGAGE (R126). -/
def execGearEngage (p : Packet) (s : State) : Out := s.onDev fun d => d.runChained 0x0400 specGearEngage p

/-- GEAR_DISENGAGE (R132). -/
def execGearDisengage (p : Packet) (s : State) : Out := s.onDev fun d => d.runChained 0x0401 specGearDisengage p

/-- CAM_ENGAGE (R132). -/
def execCamEngage (p : Packet) (s : State) : Out := s.onDev fun d => d.runChained 0x0403 specCamEngage p

/-- CAM_LOAD (R130). -/
def execCamLoad (p : Packet) (s : State) : Out := s.onDev fun d => d.runChained 0x0402 specCamLoad p

/-- FIX_ARM (R240). -/
def execFixArm (p : Packet) (s : State) : Out := s.onDev fun d => d.runChained 0x0500 specFixArm p

/-- COMPARE_LOAD (R251). -/
def execCompareLoad (p : Packet) (s : State) : Out := s.onDev fun d => d.runChained 0x0501 specCompareLoad p

/-- COMPARE_ENABLE (R249). -/
def execCompareEnable (p : Packet) (s : State) : Out := s.onDev fun d => d.runChained 0x0502 specCompareEnable p

end Sys2Proof.Machine
end

