-- ==== Sys2Proof/Machine/Cmd.lean ====
section
/-!
DEFINITION. The command executive (02): arrival of packets over the three transports, acceptance, chains, replays, the doorbells, and the
opcodes of family 0x00.
-/

namespace Sys2Proof.Machine

open Sys2Proof

def Dev.modCmd (d : Dev) (f : CmdState → CmdState) : Dev := { d with cmd := f d.cmd }

/-- The device takes commands (R39, R41): it is command-ready, or in RECOVERY. -/
def Dev.takesCommands (d : Dev) : Bool := d.fb R.SYS_BOOT_STATUS F.SYS_BOOT_STATUS_READY || d.inRecovery

/-- The device reads the doorbells of packets (R41, R492, R515): it takes commands, and no power-fail sequence or DOZE holds it. -/
def Dev.readsDoorbells (d : Dev) : Bool := d.takesCommands && !d.dozing && !d.fb R.POWER_STATUS F.POWER_STATUS_PF_ACTIVE

/-- The edge of source 624 + k (R336): a write of the doorbell or an SPI write transfer of queue k, for k = 4 a write of
CMDQ_ATTACH_DOORBELL, for k = 5 a fall of SSPI_CSn; in DOZE its wake latch catches it (R351). -/
def Dev.cmdEdge (d : Dev) (k : Nat) : Dev := if d.dozing then d.wakeEdge (42 + k) else d.raise (624 + k)

/-! ### Acceptance and chains (R47, R49, R56, R70) -/

/-- The CSN after another one (R70). -/
def nextCsn (a : Word) : Word := if a = 0xFFFFFFFF then 1 else a + 1

/-- The chain is complete (R56): when all its packets pass, it may start; otherwise all of them fail. -/
def Dev.closeChain (d : Dev) (p : Packet) : Dev :=
  let l := chainOf d.cmd.accepted p
  let fs := d.chainFails l
  if fs.any Option.isSome then d.rejectChain l fs
  else
    let close (a : Accepted) : Accepted := if l.contains a then { a with closed := true } else a
    d.modCmd fun c => { c with accepted := c.accepted.map close }

/-- A packet that passes checks 1–5 is accepted (R47, R49, R56, R70): its CSN is consumed, the Tie link copies it (R462), and checks 6–8 and
the rules of chains decide what becomes of it. -/
def Dev.takeSeq (d : Dev) (p : Packet) (words : List Word) : Dev :=
  let open' : Bool := match (d.cmd.accepted.filter fun a => a.pkt.q = p.q).getLast? with | some a => a.pkt.chain && !a.closed | none => false
  let chained := p.chain || open'
  let failed := d.cmd.chainFail.contains p.q
  let v := checks6to8 p
  let d := (d.wr (R.CMDQ_ACCEPTED p.q) p.csn).fs (R.CMDQ_FETCH p.q) F.CMDQ_FETCH_FILL (d.fg (R.CMDQ_FETCH p.q) F.CMDQ_FETCH_FILL + 1)
  let d := d.modCmd fun c => { c with
    accepted := c.accepted ++ [{ pkt := p, inChain := chained && !failed, verdict := if chained && !failed then v else none }]
    cache := tabMod c.cache p.q fun l => ({ csn := p.csn, crc := p.crc } :: l).take 64 }
  let d := d.sendTie 4 words
  if failed then
    let d := d.finish p 0x010B 0 []
    if p.chain then d else d.modCmd fun c => { c with chainFail := c.chainFail.filter (· ≠ p.q) }
  else if chained then
    let l := chainOf d.cmd.accepted p
    if 16 < l.length || l.any fun a => !chainFamily a.pkt then
      let d := d.rejectChain l (l.map fun _ => none)
      if p.chain then d.modCmd fun c => { c with chainFail := c.chainFail ++ [p.q] } else d
    else if p.chain then d
    else d.closeChain p
  else match v with
    | some (st, det) => d.finish p st det []
    | none => d

/-! ### Arrival (R47, R48, R54, R58, R70, R101) -/

/-- The LENGTH of a packet. -/
def lengthOf (ws : List Word) : Nat := wbits (ws.getD 0 0) 15 4

/-- The words of a received packet: those of a ring slot, which holds zeros after the words given, end at LENGTH; the others are what the
transport has delivered (R47, R59). -/
def arrived (src : FetchSrc) (ws : List Word) : List Word :=
  match src with
  | .ring _ => if 4 ≤ lengthOf ws && lengthOf ws ≤ 64 then (List.range (lengthOf ws)).map fun k => ws.getD k 0 else ws
  | _ => ws

/-- Check 1. -/
def lengthOk (ws : List Word) : Bool := 4 ≤ lengthOf ws && lengthOf ws ≤ 64 && lengthOf ws = ws.length

/-- Check 2. -/
def crcOk (ws : List Word) : Bool := crcWords ws.dropLast = ws.getLastD 0

/-- Check 3. -/
def flagsOk (p : Packet) : Bool := !(p.resv || ((p.chain || p.barrier) && isUnseq (opNum p)) || (p.chain && p.barrier))

/-- A device of a pair that is not the ACTIVE executes only PING and GET_STATUS (R462). -/
def Dev.notActive (d : Dev) (p : Packet) : Bool :=
  d.pairEn && !(d.pairState = 2 || d.pairState = 3) && !(opNum p = 3 || opNum p = 4)

/-- A packet that arrives with a CSN that is not the next one (R70). -/
def Dev.takeOld (d : Dev) (p : Packet) : Dev :=
  let a := d.rd (R.CMDQ_ACCEPTED p.q)
  let fail (st : Nat) (pay : List Word) : Dev := d.postDirect p (some p.xport) 0 st 0 pay
  match (tabGet d.cmd.cache p.q).find? fun e => e.csn = p.csn with
  | some e =>
    if e.crc ≠ p.crc then fail 0x0109 []
    else match e.reply with
      | some r => d.sendReply none (p.q = 0) { r with kind := 3 }
      | none => d.postDirect p (some p.xport) 2 1 0 []
  | none =>
    if p.csn = 0 || (a - p.csn).toNat ≤ 2 ^ 31 then fail 0x0108 []
    else (d.satInc R.CMDQ_ERRORS F.CMDQ_ERRORS_GAP).postDirect p (some p.xport) 0 0x0107 0 [nextCsn a]

/-- A packet arrives: checks 1–5, and what follows (R47, R48, R50, R70). -/
def Dev.arrive (d : Dev) (p : Packet) (words : List Word) : Dev :=
  let fail (d : Dev) (st det : Nat) : Dev := d.postDirect p (some p.xport) 0 st det []
  let epoch := d.fg R.CMDQ_SESSION F.CMDQ_SESSION_EPOCH
  if !lengthOk words then fail d 0x0101 0
  else if !crcOk words then fail (d.satInc R.CMDQ_ERRORS F.CMDQ_ERRORS_CRC) 0x0102 0
  else if !flagsOk p then fail d 0x0104 0
  else if d.notActive p then fail d 0x0901 0
  else if isUnseq (opNum p) then
    let d := d.modCmd fun c => { c with lastLife := if d.session = some p.xport then d.time else c.lastLife }
    match checks6to8 p with
    | some (st, det) => fail d st det
    | none => d.modCmd fun c => { c with unseq := c.unseq ++ [p] }
  else if d.session ≠ some p.xport then fail d 0x0302 0
  else if p.epoch.toNat ≠ epoch then fail d 0x010A epoch
  else
    let d := d.modCmd fun c => { c with lastLife := d.time }
    if p.csn = nextCsn (d.rd (R.CMDQ_ACCEPTED p.q)) then d.takeSeq p words else d.takeOld p

/-- The Q0 fetch hardware inspects a packet (R54): a device-wide STOP that passes checks 1 and 2 starts the hardware stop generator. -/
def Dev.inspect (d : Dev) (p : Packet) (words : List Word) : Dev :=
  if p.q = 0 && lengthOk words && crcOk words && opNum p = 0x0202 && p.tclass = 0xFF then d.hsgAll 2 else d

/-- The bus address of the slot of a command ring at an index: 256 bytes a slot, as many as the queue is deep (R59). -/
def Dev.slotAddr (d : Dev) (q ix : Nat) : Word64 := d.cmd.rings.queueBase.getD q 0 + BitVec.ofNat 64 (256 * (ix % queueDepth q))

/-- The packet that waits for queue `q` in a source, with the device once it has been taken out. -/
def Dev.nextPacket (d : Dev) (q : Nat) (src : FetchSrc) : Option (Xport × List Word × Dev) :=
  let buf (k : Nat) (x : Xport) : Option (Xport × List Word × Dev) :=
    match tabGet d.cmd.xbuf k with
    | [] => none
    | ws => some (x, ws, d.modCmd fun c => { c with xbuf := tabSet c.xbuf k [] })
  match src with
  | .ring ws =>
    if d.cmd.rings.valid && tabGet d.cmd.ringProd q ≠ d.fg (R.CMDQ_FETCH q) F.CMDQ_FETCH_FETCH then
      let at' := d.slotAddr q (d.fg (R.CMDQ_FETCH q) F.CMDQ_FETCH_FETCH)
      some (.pcie, arrived src ws, (d.modCmd fun c => { c with slotAt := at' }).wrapInc (R.CMDQ_FETCH q) F.CMDQ_FETCH_FETCH)
    else none
  | .traverse => buf q .traverse
  | .spi => buf (4 + q) .spi

/-- Queue `q` is fetched (R41, R49): the device takes commands, no power-fail sequence or DOZE holds it, and the queue is not full. -/
def Dev.fetches (d : Dev) (q : Nat) : Bool :=
  d.readsDoorbells && d.fg (R.CMDQ_FETCH q) F.CMDQ_FETCH_FILL < queueDepth q

/-- COMMAND_FETCH: the next packet of a queue is fetched, inspected, checked and accepted or answered. -/
def execCommandFetch (q : Fin 4) (src : FetchSrc) (s : State) : Out := s.onDev fun d =>
  if !d.fetches q then d else
  match d.nextPacket q src with
  | none => d
  | some (x, ws, d) =>
    let p := parsePacket x q ws
    (d.inspect p ws).arrive p ws

/-- PROGRESS_REPLY: a command that runs for more than 1 ms posts one progress reply (R57). -/
def execProgressReply (p : Packet) (s : State) : Out := s.onDev fun d =>
  match d.cmd.accepted.find? fun a => a.pkt = p with
  | some a =>
    if a.started && !a.progressed then
      (d.modAccepted p fun a => { a with progressed := true }).postReply p 2 1 0 [] |>.1
    else d
  | none => d

/-! ### Doorbells (R41, R59–R62, R67) -/

/-- CMDQ_DOORBELL: a producer index more than the ring ahead of the fetch index is ignored and counted. -/
def execCmdqDoorbell (q : Fin 4) (w : Word) (s : State) : Out := s.onDev fun d =>
  let prod := wbits w 15 0
  let fetch := d.fg (R.CMDQ_FETCH q) F.CMDQ_FETCH_FETCH
  let e := d.cmdEdge q
  if !d.takesCommands then e
  else if queueDepth q < (prod + 65536 - fetch) % 65536 then e.satInc R.CMDQ_ERRORS F.CMDQ_ERRORS_DB_BAD
  else e.modCmd fun c => { c with ringProd := tabSet c.ringProd q prod }

/-- The packet that CMDQ_ATTACH_DOORBELL names arrives over PCIe; only ATTACH comes this way (assumption log 33). -/
def Dev.attachFetch (d : Dev) (lo : Word) (words : List Word) : Dev :=
  if wbits lo 5 0 ≠ 0 then d.satInc R.CMDQ_ERRORS F.CMDQ_ERRORS_DB_BAD else
  let ws := arrived (.ring words) words
  let p := parsePacket .pcie 0 ws
  if opNum p = 1 || !lengthOk ws || !crcOk ws then d.arrive p ws else d.postDirect p (some .pcie) 0 0x0105 0 []

/-- An ATTACH doorbell is read at once, or recorded while the device reads none. -/
def Dev.attachRing (d : Dev) (lo : Word) (words : List Word) : Dev :=
  if d.readsDoorbells then d.attachFetch lo words else d.modCmd fun c => { c with attachDue := some (lo, words) }

/-- An ATTACH doorbell that has been recorded is read, once the device reads doorbells (R41, R515). -/
def Dev.attachLate (d : Dev) : Dev :=
  match d.cmd.attachDue with
  | some (lo, words) => if d.readsDoorbells then (d.modCmd fun c => { c with attachDue := none }).attachFetch lo words else d
  | none => d

/-- CMDQ_ATTACH_DOORBELL: the write of the upper word, or of both, makes the device fetch the packet. -/
def execCmdqAttachDoorbell (x : AttachWrite) (s : State) : Out := s.onDev fun d =>
  let d := d.cmdEdge 4
  match x with
  | .lower w =>
    if wbits w 5 0 ≠ 0 then d.satInc R.CMDQ_ERRORS F.CMDQ_ERRORS_DB_BAD else d.modCmd fun c => { c with attachLow := w }
  | .upper _ words => d.attachRing d.cmd.attachLow words
  | .whole lo _ words => d.attachRing lo words

/-- DOZE_EXIT_COMPLETE: after a caught edge, or with the power-fail sequence (R516); the recorded doorbells are read (R515). -/
def execDozeExitComplete (s : State) : Out := s.onDev fun d =>
  if d.dozing && (d.rd64 R.EVR_WAKE_LATCH ≠ 0 || d.fb R.POWER_STATUS F.POWER_STATUS_PF_ACTIVE) then d.exitDoze.attachLate else d

/-- The slots that a consumer index returns, at most those that are in use. -/
def returned (cons old used : Nat) : Nat := min used ((cons + 65536 - old) % 65536)

/-- CMDQ_REPLY_DOORBELL: returned slots take held replies and journal copies (R60, R61). -/
def execCmdqReplyDoorbell (w : Word) (s : State) : Out := s.onDev fun d =>
  if !d.takesCommands then d else
  let cons := wbits w 15 0
  (d.modCmd fun c => { c with replyRing := c.replyRing.drop (returned cons c.replyCons c.replyRing.length), replyCons := cons }).drainAll

/-- JOURNAL_GAP is posted for the events that the ring had no room for (R62). -/
def Dev.postGap (d : Dev) : Dev :=
  match d.cmd.gap with
  | some (a, b) => if d.eventRoom then (d.modCmd fun c => { c with gap := none }).protocolEvent 0x8002 [a, b] else d
  | none => d

/-- CMDQ_EVENT_DOORBELL: returned slots take JOURNAL_GAP first (R60, R62). -/
def execCmdqEventDoorbell (w : Word) (s : State) : Out := s.onDev fun d =>
  if !d.takesCommands then d else
  let cons := wbits w 15 0
  (d.modCmd fun c => { c with eventRing := c.eventRing.drop (returned cons c.eventCons c.eventRing.length), eventCons := cons }).postGap

/-! ### Traverse command slots (R63, R64) -/

/-- An open packet is discarded and counted. -/
def Dev.discardSeg (d : Dev) (q : Nat) : Dev :=
  if (tabGet d.cmd.segs q).isOpen then
    (d.modCmd fun c => { c with segs := tabSet c.segs q {} }).satInc R.CMDQ_ERRORS F.CMDQ_ERRORS_XPORT
  else d

/-- A segment arrives for a queue.  DEDUCED from R66: a complete packet whose queue still holds one from Traverse is discarded and counted in
XPORT (assumption log 50). -/
def Dev.segment (d : Dev) (w : Word) (pay : List Word) : Dev :=
  let q := wbits w 31 30
  let first := wbit w 29
  let seq := wbits w 27 20
  let n := wbits w 7 0
  let d := if first || (tabGet d.cmd.segs q).next ≠ seq || pay.length < n then d.discardSeg q else d
  let o := tabGet d.cmd.segs q
  if !(if first then seq = 0 else o.isOpen) || pay.length < n then d else
  let ws := (if first then [] else o.words) ++ pay.take n
  if wbit w 28 then
    let d := d.modCmd fun c => { c with segs := tabSet c.segs q {} }
    if (tabGet d.cmd.xbuf q).isEmpty then d.modCmd fun c => { c with xbuf := tabSet c.xbuf q ws }
    else d.satInc R.CMDQ_ERRORS F.CMDQ_ERRORS_XPORT
  else d.modCmd fun c => { c with segs := tabSet c.segs q { isOpen := true, next := seq + 1, words := ws } }

/-- TRAVERSE_COMMAND_SEGMENT: the oldest command slot that has arrived is taken; an empty one discards the open packets. -/
def execTraverseCommandSegment (s : State) : Out := s.onDev fun d =>
  match d.trv.cmdSlots with
  | [] => d
  | x :: rest =>
    let d : Dev := { d with trv := { d.trv with cmdSlots := rest } }
    match x with
    | none => d.each (List.range 4) Dev.discardSeg
    | some [] => d.each (List.range 4) Dev.discardSeg
    | some (w :: pay) => d.segment w pay

/-! ### The service SPI port (R65, R66) -/

/-- The status byte. -/
def Dev.spiStatus (d : Dev) : Byte :=
  BitVec.ofNat 8 ((if d.cmd.spiOut.isEmpty then 0 else 128)
    + (List.range 4).foldl (fun n q => n + if (tabGet d.cmd.xbuf (4 + q)).isEmpty then 2 ^ q else 0) 0)

/-- What a transfer sends: the status byte, then what follows the dummy byte. -/
def Dev.spiSend (d : Dev) (l : List Byte) : Dev := d.modCmd fun c => { c with spiSent := d.spiStatus :: l }

/-- SSPI_RDYn: low while a reply or event waits for the SPI transport (R65). -/
def Dev.sspiRdyn (d : Dev) : Bool := d.cmd.spiOut.isEmpty

/-- The words of a packet on a transport, with the bit that the Squall injector has inverted (R533). -/
def Reply.wire (r : Reply) : List Word :=
  match r.inv with
  | none => replyWords r
  | some k =>
    let ws := replyWords r
    let i := min k (32 * ws.length - 1)
    ws.zipIdx.map fun x => if x.2 = i / 32 then x.1 ^^^ toW (2 ^ (i % 32)) else x.1

/-- A packet is written to the SPI buffer of a queue, or is discarded and counted when the buffer is not free. -/
def Dev.spiWrite (d : Dev) (q : Nat) (words : List Word) : Dev :=
  let e := ((d.cmdEdge 5).cmdEdge q).spiSend []
  if (tabGet d.cmd.xbuf (4 + q)).isEmpty then e.modCmd fun c => { c with xbuf := tabSet c.xbuf (4 + q) words }
  else e.satInc R.CMDQ_ERRORS F.CMDQ_ERRORS_XPORT

/-- The oldest waiting packet is read, or four zero bytes. -/
def Dev.spiRead (d : Dev) : Dev :=
  match d.cmd.spiOut with
  | [] => (d.cmdEdge 5).spiSend [0, 0, 0, 0]
  | r :: rest => ((d.cmdEdge 5).spiSend (r.wire.flatMap wordBytes)).modCmd fun c => { c with spiOut := rest }

/-- One transaction of the service SPI port: its first byte selects the transfer, and `words` are what follows it (R65).  A first byte that
names no transfer is answered with the status byte only. -/
def Dev.spiTransfer (d : Dev) (first : Byte) (words : List Word) : Dev :=
  if 0xC0 ≤ first.toNat ∧ first.toNat ≤ 0xC3 then d.spiWrite (first.toNat - 0xC0) words
  else if first = 0xA0 then d.spiRead
  else if first = 0xA1 then (d.cmdEdge 5).spiSend [d.spiStatus]
  else (d.cmdEdge 5).spiSend []

/-- SPI_WRITE_PACKET: a transfer 0xC0 + q. -/
def execSpiWritePacket (q : Fin 4) (words : List Word) (s : State) : Out := s.onDev fun d => d.spiTransfer (BitVec.ofNat 8 (0xC0 + q)) words

/-- SPI_READ_REPLY: a transfer 0xA0. -/
def execSpiReadReply (s : State) : Out := s.onDev fun d => d.spiTransfer 0xA0 []

/-- SPI_READ_STATUS: a transfer 0xA1. -/
def execSpiReadStatus (s : State) : Out := s.onDev fun d => d.spiTransfer 0xA1 []

/-! ### Sessions (R67–R69, R72) -/

/-- The reply payload of ATTACH and RESYNC (R72); `n` is the ESN of the reply that carries it. -/
def Dev.sessionWords (d : Dev) : List Word :=
  let n := d.cmd.nextEsn
  let held := min 4095 d.cmd.journal.length
  ((List.range 4).flatMap fun q => [d.rd (R.CMDQ_ACCEPTED q), d.rd (R.CMDQ_COMPLETED q)])
    ++ [n, n - toW held, toW (d.fg R.CMDQ_SESSION F.CMDQ_SESSION_TRANSPORT * 2 ^ 16 + d.fg R.CMDQ_SESSION F.CMDQ_SESSION_EPOCH)]
    ++ words64 d.ns

/-- The epoch goes up by one (R67, R68). -/
def Dev.nextEpoch (d : Dev) : Dev := d.wrapInc R.CMDQ_SESSION F.CMDQ_SESSION_EPOCH

/-- A ring size (R60). -/
def ringSize (n : Nat) : Bool := [64, 128, 256, 512, 1024, 2048, 4096].contains n

/-- ATTACH's layout and ranges (R77).  DESIGN CHOICE: over Traverse or SPI, W3 names the transport that sends the packet; another code there fails
with 0x0201 (assumption log 50). -/
def attachCheck (p : Packet) : Option (Nat × Nat) :=
  if p.xport = .pcie then failOf [
    (pb p 3 7 0 ≠ 0 || 63 < pb p 3 15 8 || 63 < pb p 3 23 16, 0x0201, 3),
    (pb p 4 7 0 ≠ 0, 0x0201, 4),
    (!ringSize (pb p 6 15 0) || !ringSize (pb p 6 31 16), 0x0201, 6),
    (pb p 17 5 0 ≠ 0, 0x0201, 17)]
  else failOf [(pb p 3 7 0 ≠ xportCode p.xport, 0x0201, 3)]

/-- A 64-bit address in two words. -/
def addr (p : Packet) (k : Nat) : Word64 := BitVec.ofNat 64 (pair64 (pw p k) (pw p (k + 1)))

/-- The rings that an ATTACH sets up. -/
def ringsOf (p : Packet) : Rings :=
  { valid := true, replyVec := pb p 3 15 8, eventVec := pb p 3 23 16, replyBase := addr p 4, replySlots := pb p 6 15 0, eventSlots := pb p 6 31 16
    eventBase := addr p 7, queueBase := [addr p 9, addr p 11, addr p 13, addr p 15], wbBase := addr p 17 }

/-- The rings of PCIe are replaced, with every index at 0 (R67). -/
def Dev.newRings (d : Dev) (p : Packet) : Dev :=
  (d.modCmd fun c => { c with rings := ringsOf p, ringProd := [], replyRing := [], eventRing := [], replyProd := 0, replyCons := 0, eventProd := 0, eventCons := 0 }).each
    (List.range 4) fun d q => d.fs (R.CMDQ_FETCH q) F.CMDQ_FETCH_FETCH 0

/-- A protocol event goes to a transport that no longer holds the session (R67). -/
def Dev.eventTo (d : Dev) (x : Xport) (code : Nat) (pay : List Word) : Dev :=
  let r : Reply := { op := BitVec.ofNat 16 code, kind := 1, csn := 0, esn := d.cmd.nextEsn, status := 0, detail := 0, payload := pay }
  let d := d.journal r
  match x with
  | .pcie =>
    if !d.cmd.rings.valid then d
    else if d.eventRoom && d.cmd.gap.isNone then d.pushEvent r d.cmd.rings.eventVec
    else d.modCmd fun c => { c with gap := some ((c.gap.map (·.1)).getD r.esn, r.esn) }
  | .traverse => d.modCmd fun c => { c with travOut := c.travOut ++ [r] }
  | .spi => d.modCmd fun c => { c with spiOut := c.spiOut ++ [r] }

/-- ATTACH takes effect in the order of R67; the sources that are active on the host are completed (R344). -/
def Dev.attach (d : Dev) (p : Packet) : Dev :=
  let was := d.session
  let d := d.nextEpoch
  let d := (d.fsb R.CMDQ_SESSION F.CMDQ_SESSION_ATTACHED true).fs R.CMDQ_SESSION F.CMDQ_SESSION_TRANSPORT (xportCode p.xport)
  let d := (if p.xport = .pcie then d.newRings p else d).forceComplete 0
  let d := d.postDirect p (some p.xport) 0 0 0 d.sessionWords
  let d := match was with
    | some x => if x = p.xport then d else
      d.eventTo x 0x8003 [toW (d.fg R.CMDQ_SESSION F.CMDQ_SESSION_EPOCH + xportCode p.xport * 2 ^ 16)]
    | none => d
  (d.drainAll).postGap

/-- ATTACH (R67): executed as soon as it has been received, several in the order of receipt (R69); the held replies leave over the rings
that it sets up. -/
def execAttach (p : Packet) (s : State) : Out := s.onDev fun d =>
  if (d.cmd.unseq.find? fun r => opNum r = 1) ≠ some p then d else
  let take := d.modCmd fun c => { c with unseq := c.unseq.erase p }
  match firstFail [lenCheck p (if p.xport = .pcie then 16 else 1), attachCheck p] with
  | some (st, det) => if 16 ≤ d.cmd.heldUrgent.length then d else take.postDirect p (some p.xport) 0 st det []
  | none => take.attach p

/-- An unsequenced opcode without parameters. -/
def unseqSpec (run : Dev → OpEnd) : OpSpec where
  len _ := 0
  check _ _ := none
  run d _ := run d

/-- RESYNC (R68). -/
def execResync (p : Packet) (s : State) : Out := s.onDev fun d =>
  d.runUnseq 2 (unseqSpec fun d => let d := d.nextEpoch; .done d 0 0 d.sessionWords) p

/-- GET_STATUS (R77). -/
def execGetStatus (p : Packet) (s : State) : Out := s.onDev fun d =>
  d.runUnseq 4 (unseqSpec fun d => .done d 0 0 ([d.rd R.SYS_BOOT_STATUS, d.rd R.CMDQ_SESSION] ++ words64 d.ns)) p

/-! ### Sequenced opcodes of family 0x00 (R77) -/

/-- An opcode of `n` parameter words with a check on them and a reply payload. -/
def plainSpec (n : Nat) (check : Packet → Option (Nat × Nat)) (pay : Packet → List Word) : OpSpec where
  len _ := n
  check _ p := check p
  run d p := .done d 0 0 (pay p)

/-- PING (R77). -/
def execPing (p : Packet) (s : State) : Out := s.onDev fun d => d.runOp 3 (plainSpec 1 (fun _ => none) fun p => [pw p 3]) p

/-- HOST_ALIVE (R101): its arrival is the life sign. -/
def execHostAlive (p : Packet) (s : State) : Out := s.onDev fun d => d.runOp 6 (plainSpec 0 (fun _ => none) fun _ => []) p

/-- DETACH's layout. -/
def specDetach : OpSpec := plainSpec 0 (fun _ => none) fun _ => []

/-- A sequenced packet that stands in no chain is executed with success now. -/
def Dev.runsNow (d : Dev) (code : Nat) (o : OpSpec) (p : Packet) : Bool :=
  opNum p = code && d.canStart p && (chainOf d.cmd.accepted p).length ≤ 1 && ((d.modAccepted p fun a => { a with started := true }).opCheck o p).isNone

/-- DETACH (R69): after its reply the session ends; the epoch stays; the sources that are active on the host are completed (R344). -/
def execDetach (p : Packet) (s : State) : Out := s.onDev fun d =>
  let ok := d.runsNow 5 specDetach p
  let d := d.runOp 5 specDetach p
  if ok then (d.fsb R.CMDQ_SESSION F.CMDQ_SESSION_ATTACHED false).forceComplete 0 else d

/-- READ_JOURNAL posts the journal entries from an ESN on. -/
def specReadJournal : OpSpec where
  len _ := 2
  check d p :=
    let cur := d.cmd.nextEsn - 1
    failOf [((pw p 4).toNat = 0 || 4096 < (pw p 4).toNat, 0x0201, 4),
            (d.cmd.journal.isEmpty || (cur - d.rd R.CMDQ_ESN_OLDEST).toNat < (cur - pw p 3).toNat, 0x0406, 0)]
  run d p :=
    let cur := d.cmd.nextEsn - 1
    let n := min (pw p 4).toNat ((cur - pw p 3).toNat + 1)
    let copies := (List.range n).filterMap fun k => (d.cmd.journal.find? fun r => r.esn = pw p 3 + toW k).map fun r => { r with kind := 4 }
    .wait (d.modCmd fun c => { c with journalQ := copies }) [⟨.journal, 0⟩] [toW copies.length]

/-- READ_JOURNAL (R72): copies are written as the reply channel takes them (R61). -/
def execReadJournal (p : Packet) (s : State) : Out := s.onDev fun d => (d.runOp 7 specReadJournal p).drainAll

/-- RESET_DEVICE's layout. -/
def specResetDevice : OpSpec := plainSpec 1 (fun p => if pb p 3 15 0 = 0xA5C3 then none else some (0x0201, 3)) fun _ => []

/-- RESET_DEVICE (R77): after its reply, the warm reset of the reset doorbell. -/
def execResetDevice (p : Packet) (s : State) : Out := s.onDev fun d =>
  let ok := d.runsNow 8 specResetDevice p
  let d := d.runOp 8 specResetDevice p
  if ok then d.warmReset 3 else d

end Sys2Proof.Machine
end

