-- ==== Sys2Proof/Machine/Boot.lean ====
section
/-!
DEFINITION. Resets, loss of clocks, and the boot to command-ready (01, R21, R22, R34–R41, R477, R495).
-/

namespace Sys2Proof.Machine

open Sys2Proof

/-! ### Resets (R34–R37, R543) -/

/-- COLD_RESET: PORn, whose rising edge latches the straps.  A motion die that the island holds in BACKUP stays held; from OFF the device
starts (R492, R513). -/
def execColdReset (straps : Straps) (s : State) : Out := s.onAll fun d =>
  if d.heldInReset && d.power ≠ 4 then
    let st := d.power
    (d.coldReset straps 0 0).fs R.PWR_STATUS F.PWR_STATUS_STATE st
  else ((d.modBoot fun b => { b with held := false }).modStore fun s => { s with frozen := s.flush }).coldReset straps 0 0

/-- WARM_RESET: WARMRESETn low for 1 µs or more (R35). -/
def execWarmReset (s : State) : Out := s.onDev fun d => d.warmReset 2

/-- SYS_RESET_DOORBELL: a write of KEY 0xA5C3 (R35); it acts also while the firmware is wedged (R530). -/
def execSysResetDoorbell (w : Word) (s : State) : Out := s.onDev fun d => if wbits w 15 0 = 0xA5C3 then d.warmReset 3 else d

/-- FUNCTION_LEVEL_RESET (R35, R37, R103). -/
def execFunctionLevelReset (s : State) : Out := s.onDev Dev.flr

/-- PERST_RELEASE: the effects of a function level reset, and link training (R543). -/
def execPerstRelease (s : State) : Out := s.onDev fun d => d.flr

/-! ### Clocks (R21, R22, R223) -/

/-- CLOCK_LOSS: the reference clock or the PWM PLL output is missing; every leg goes high-impedance and a cold reset with cause 5 runs
(R21, R223). -/
def execClockLoss (pwm : Bool) (straps : Straps) (s : State) : Out := s.onDev fun d =>
  let bit := if pwm then F.SYS_CLOCK_STATUS_PWM_LOST else F.SYS_CLOCK_STATUS_REF_LOST
  (d.fsb R.SYS_CLOCK_STATUS bit true).legsOff.coldReset straps 5 (2 ^ bit.lo)

/-- A CAN channel stops at once: every pending entry ends with RESULT ABORTED, and the channel is OFF (R22, R401). -/
def Dev.canDrop (d : Dev) (c : Nat) : Dev :=
  let d := d.each (d.canCh c).order fun d x => d.canEnd c x 3
  let n := (d.canCh c).abN
  let d := (d.canCounts c 0 0).setCanState c 0
  let d := d.modCan c fun s => { s with sending := none, disabling := false, recovering := false, abN := 0, shadowRun := false, again := false }
  (d.resolve ⟨.can, c⟩ 0x0306 0 []).resolve ⟨.can, 2 + c⟩ 0 0 [toW n]

/-- DOZE has stopped a PLL, so that the clock monitor ignores it (R515). -/
def Dev.pllStopped (d : Dev) (p : Pll) : Bool := d.dozing && p ≠ .safA

/-- PLL_LOCK_LOSS: a PLL has been out of lock for 0.5 µs (R22). -/
def execPllLockLoss (p : Pll) (straps : Straps) (s : State) : Out := s.onDev fun d =>
  if d.pllStopped p then d else
  let d := (d.fsb R.SYS_CLOCK_STATUS (pllLock p) false).setBit R.SYS_CLOCK_STATUS (pllLostBit p) true
  match p with
  | .ce => (d.resign 4).legsOff.coldReset straps 5 (2 ^ pllLostBit .ce)
  | .dsp => d.legsOff.coldReset straps 5 (2 ^ pllLostBit .dsp)
  | .sup => d.legsOff.coldReset straps 5 (2 ^ pllLostBit .sup)
  | .can => d.each [0, 1] Dev.canDrop
  | .tie => if d.fb R.PAIR_STATUS F.PAIR_STATUS_LINK_UP then d.tieDown else d
  | .safA => d.chanStop false

/-! ### Mounting the Logbook store (R477, R478, R482, R485) -/

/-- The interface mode of a part (R477): the fastest that the page lists, up to TMAX; NV-DDR only with DDR_EN. -/
def Dev.nandMode (d : Dev) (p : NandPart) : Dev :=
  let top := d.fg R.STORE_CFG F.STORE_CFG_TMAX
  match (if d.fb R.STORE_CFG F.STORE_CFG_DDR_EN then p.ddr else none) with
  | some m => (d.fsb R.STORE_STATUS F.STORE_STATUS_DDR true).fs R.STORE_STATUS F.STORE_STATUS_TMODE (min top m.val)
  | none => (d.fsb R.STORE_STATUS F.STORE_STATUS_DDR false).fs R.STORE_STATUS F.STORE_STATUS_TMODE (min top p.sdr.val)

/-- The sizes of the partitions (R478): the trace archives take the remainder of the usable capacity. -/
def Dev.partSizes (d : Dev) (p : NandPart) : Dev :=
  let rest := nandUsable p d.store.bad.length / 65536 - fixedTotal
  d.each (List.range 12) fun d k => (d.fs (R.STORE_PART k) F.STORE_PART_SIZE (if k = 11 then rest else fixedSize k)).partRegs k

/-- The part is mounted: at the first mount of a blank part the factory marks give the bad blocks, and the budget starts at half depth
(R482, R485). -/
def Dev.mountPart (d : Dev) (p : NandPart) : Dev :=
  let blank := d.store.blank
  let s := R.STORE_STATUS
  let d := d.modStore fun t => { t with part := some p, bad := if blank then p.marks else t.bad, blank := false }
  let d := (d.fsb s F.STORE_STATUS_MOUNTED true).fsb s F.STORE_STATUS_CE1_PRESENT p.ce1
  let d := d.fs s F.STORE_STATUS_BAD d.store.bad.length
  let g := R.STORE_GEOM
  let d := ((d.fs g F.STORE_GEOM_LOG2_PAGE p.pageLog).fs g F.STORE_GEOM_LOG2_PPB p.ppbLog).fs g F.STORE_GEOM_BLOCKS p.blocks
  let d := (d.nandMode p).partSizes p
  let d := if blank then d.modStore fun t => { t with budget := (d.wearDepth / 2 : Nat) } else d
  let d := if p.blocks < 50 * d.store.bad.length then d.setFlag R.STORE_ERR F.STORE_ERR_BAD_WARN.lo 585 else d
  d.wearRegs

/-- Whether the part that the boot finds can be mounted, or why not (R477). -/
def Dev.mount (d : Dev) (p : NandPart) : Dev :=
  let bad := if d.store.blank then p.marks.length else d.store.bad.length
  if !nandGeometryOk p then d.fsb R.STORE_STATUS F.STORE_STATUS_GEOMETRY true
  else if nandUsable p bad < 112 * 2 ^ 20 then d.fsb R.STORE_STATUS F.STORE_STATUS_TOO_SMALL true
  else d.mountPart p

/-! ### The journal at boot (R488, R495) -/

/-- The newest journal slot that a flush has written. -/
def Dev.newestSlot (d : Dev) : Option Journal :=
  (List.range 16).foldl (fun (b : Option Journal) k =>
    match tabGet d.store.slots k, b with
    | some j, some x => if x.seq < j.seq then some j else b
    | some j, none => some j
    | none, _ => b) none

/-- The firmware takes the journal from the journal SRAM when its header CRC passes, otherwise from the newest slot; when the island has
stopped, RTC_LOST and JOURNAL_LOST are set at this start (R488, R495). -/
def Dev.bootJournal (d : Dev) (sramOk : Bool) : Dev :=
  let st := R.POWER_STATUS
  let lost := d.store.lost
  let d := if lost then (d.fsb st F.POWER_STATUS_RTC_LOST true).fsb st F.POWER_STATUS_JOURNAL_LOST true else d
  let d := d.modStore fun s => { s with lost := false }
  if sramOk && !lost then
    (d.fsb st F.POWER_STATUS_JOURNAL_SRC true).modStore fun s => { s with budget := s.saved.getD s.budget }
  else
    match (if d.mounted then d.newestSlot else none) with
    | some j => ({ d with faultLog := j.log } : Dev).modStore fun s => { s with budget := j.budget, saved := some j.budget }
    | none => ({ d with faultLog := [] } : Dev).fsb st F.POWER_STATUS_JOURNAL_LOST true

/-! ### The firmware image (R39, R40, R506) -/

/-- A firmware image is being run: IMAGE names it, and its security version waits for command-ready. -/
def Dev.runImage (d : Dev) (k : Nat) (l : List Byte) : Dev :=
  let d := (d.fs R.SYS_BOOT_STATUS F.SYS_BOOT_STATUS_IMAGE k).fs R.SYS_BOOT_STATUS F.SYS_BOOT_STATUS_STAGE 4
  d.modBoot fun b => { b with svn := d.blockOk l true }

/-- The boot ROM tries some images in order; without a valid one the device enters RECOVERY (R39). -/
def Dev.tryImages (d : Dev) (ks : List Nat) : Dev :=
  match ks with
  | [] => d.fs R.SYS_BOOT_STATUS F.SYS_BOOT_STATUS_STAGE 0xF0
  | k :: rest =>
    match (if d.mounted then d.object k 0 else none) with
    | none => d.tryImages rest
    | some o => if (d.imageFail o.bytes).isNone then d.runImage k o.bytes else (d.imageRefuse o.bytes).tryImages rest

/-- The images that the straps name. -/
def Dev.bootOrder (d : Dev) : List Nat :=
  match d.fg R.SYS_BOOT_STATUS F.SYS_BOOT_STATUS_BOOT_SRC with | 0 => [1, 2] | 1 => [2, 1] | _ => []

/-- The PLLs have locked, and the reference clock is present. -/
def Dev.locksUp (d : Dev) : Dev := d.wr R.SYS_CLOCK_STATUS (d.rd R.SYS_CLOCK_STATUS ||| 0xFF#32)

/-- The firmware source of a boot: an image that IMAGE_INSTALL has left to run from Logbook staging (R40), or those of the straps; a
BLANK device enters RECOVERY (R499). -/
def Dev.bootImage (d : Dev) : Dev :=
  if d.sec.otp.lc = 0 then d.tryImages [] else
  match d.boot.staged with
  | some l =>
    let d := d.modBoot fun b => { b with staged := none }
    if (d.imageFail l).isNone then d.runImage 3 l else (d.imageRefuse l).tryImages d.bootOrder
  | none => d.tryImages d.bootOrder

/-- BOOT_IMAGE_VERIFY: after a reset the PLLs lock, the part that the outside shows is mounted, the journal is taken, and the boot ROM
verifies the firmware image (R38, R39, R477, R495); with BOOTSEL 0b11 the device stops at STAGE 0xF1. -/
def execBootImageVerify (part : NandPart) (sramOk : Bool) (s : State) : Out := s.onDev fun d =>
  if d.fg R.SYS_BOOT_STATUS F.SYS_BOOT_STATUS_STAGE ≠ 0 then d else
  let d := d.locksUp
  if d.fg R.SYS_BOOT_STATUS F.SYS_BOOT_STATUS_BOOT_SRC = 3 then d.fs R.SYS_BOOT_STATUS F.SYS_BOOT_STATUS_STAGE 0xF1
  else (((d.mount part).bootJournal sramOk).armRegs.chargeRegs.wearRegs).bootImage.attachLate

/-! ### Command-ready (R38, R41, R46, R71, R497, R506, R565) -/

/-- The default configuration set is applied, when it is stored and its values are valid (R38, R77). -/
def Dev.bootConfig (d : Dev) : Dev :=
  match d.configSet d.cmd.bootCfg with
  | none => d
  | some l =>
    let q := d.configReqs l
    let img := d.imageOf q
    if (q.findSome? (d.reachFail q)).isSome || (q.findSome? (d.ruleFail img valueRules q q)).isSome then d
    else (q.map fun r => ({ off := r.off, mask := r.mask &&& cpMask r.off, val := r.val } : PWrite)).foldl Dev.applyWrite d

/-- The version of the running firmware stands in SYS_ID (R565): free values, of which the major one is not 0. -/
def Dev.firmwareId (d : Dev) : Dev :=
  let maj := 1 + Config.freeNat d.fresh % 255
  let d := d.nextFresh.fs R.SYS_ID F.SYS_ID_FW_MAJOR maj
  d.nextFresh.fs R.SYS_ID F.SYS_ID_FW_MINOR (Config.freeNat d.fresh % 256)

/-- The security version in OTP rises to that of the image (R506). -/
def Dev.raiseSvn (d : Dev) : Dev :=
  match d.boot.svn with
  | none => d
  | some v =>
    let d := d.modBoot fun b => { b with svn := none }
    if v ≤ d.sec.otp.svn then d
    else ({ d with sec := { d.sec with otp := { d.sec.otp with svn := v } } } : Dev).fs R.SEC_LC F.SEC_LC_SVN v

/-- What a boot says of the last power fail (R494, R497). -/
def Dev.bootPower (d : Dev) : Dev :=
  let d := if d.fb R.POWER_STATUS F.POWER_STATUS_LAST_PF then (d.fsb R.POWER_EVENT F.POWER_EVENT_BOOT_PF true).raise 579 else d
  if 2 ≤ d.fg R.POWER_FLUSH F.POWER_FLUSH_RESULT then d.fsb R.POWER_EVENT F.POWER_EVENT_FLUSH_FAIL true else d

/-- COMMAND_READY: the boot completes (R38): READY is set and the READY event with ESN 0 is issued. -/
def execCommandReady (s : State) : Out := s.onDev fun d =>
  if d.fg R.SYS_BOOT_STATUS F.SYS_BOOT_STATUS_STAGE ≠ 4 then d else
  let d := d.bootConfig.firmwareId.raiseSvn
  let d := (d.fs R.SYS_BOOT_STATUS F.SYS_BOOT_STATUS_STAGE 8).fsb R.SYS_BOOT_STATUS F.SYS_BOOT_STATUS_READY true
  let d := (d.fsb R.SYS_WEDGE F.SYS_WEDGE_WEDGED false).squallRegs
  (d.stoenA.protocolEvent 0x8001 [d.rd R.SYS_BOOT_STATUS]).bootPower.attachLate

end Sys2Proof.Machine
end

