-- ==== Sys2Proof/Machine/Tick.lean ====
section
/-!
DEFINITION. The servo tick (R25–R29): its phase, its count, and what happens at it in every unit of the bank.
-/

namespace Sys2Proof.Machine

open Sys2Proof

/-! ### Phase and period (R25–R27, R201) -/

/-- One PWM count, 2.5 ns, in units of 2^−32 ns. -/
def countUnits : Nat := 5 * 2 ^ 31

/-- The PWM clocks that have passed since the instant of a lane's tick: 0, or more when the row of the tick comes after it. -/
def Dev.tickLate (d : Dev) (n : Nat) : Nat := d.clocks - tabGet d.tickDue n

/-- Time passes up to the instant of the lane's next tick; the first tick after a reset comes at the instant of its row (R25, R29). -/
def Dev.toTick (d : Dev) (n : Nat) : Dev :=
  if d.ticked.contains n then d.pass (tabGet d.tickDue n - d.clocks) else { d with tickDue := tabSet d.tickDue n d.clocks }

/-- Device time at the instant of a lane's tick, in units of 2^−32 ns. -/
def Dev.tickTime (d : Dev) (n : Nat) : Nat := ((d.time : Int) - d.tickLate n * (countUnits + d.rate)).toNat

/-- The target instant nearest to the tick of a lane, less the tick, in units of 2^−32 ns (R25, R27): targets lie where device time, in
PWM counts, is congruent to PHASE modulo T. -/
def Dev.tickErr (d : Dev) (n : Nat) : Int :=
  let m : Int := (d.tickCounts n * countUnits : Nat)
  let r := ((d.fg (R.SYS_TICK_CTRL n) F.SYS_TICK_CTRL_PHASE * countUnits : Nat) - (d.tickTime n : Int)) % m
  if m < 2 * r then r - m else r

/-- PHASE_ERR before it saturates, in whole counts. -/
def Dev.phaseErr (d : Dev) (n : Nat) : Int := roundDiv (d.tickErr n) countUnits

/-- DISCIPLINE of a lane. -/
def Dev.disciplined (d : Dev) (n : Nat) : Bool := d.fb (R.SYS_TICK_CTRL n) F.SYS_TICK_CTRL_DISCIPLINE

/-- Every axis of a lane is DISABLED, so that the phase is not limited to one count a tick (R26). -/
def Dev.laneFree (d : Dev) (n : Nat) : Bool := (laneAxes n).all fun a => d.axState a = 0

/-- The counts from this tick to the next (R25, R26): T undisciplined; one count more or less towards the target; or, with every axis
DISABLED, to the first target T or more away. -/
def Dev.tickPeriod (d : Dev) (n : Nat) : Nat :=
  let t := d.tickCounts n
  if !d.disciplined n then t
  else if d.laneFree n then t + (d.phaseErr n % (t : Int)).toNat
  else ((t : Int) + signI (d.phaseErr n)).toNat

/-- SYS_TICK_STATUS of a tick (R27). -/
def Dev.tickStatus (d : Dev) (n : Nat) : Dev :=
  let s := R.SYS_TICK_STATUS n
  let e := d.phaseErr n
  let d := d.fs s F.SYS_TICK_STATUS_PHASE_ERR (ofS 16 (clampI (-32768) 32767 e))
  let d := d.fsb s F.SYS_TICK_STATUS_SLEWING (d.disciplined n && e ≠ 0 && !d.laneFree n)
  d.fsb s F.SYS_TICK_STATUS_LOCKED (d.disciplined n && (d.tickErr n).natAbs ≤ 2 * countUnits)

/-- The tick count (R29): 0 at the first tick after a reset. -/
def Dev.tickAdvance (d : Dev) (n : Nat) : Dev :=
  if d.ticked.contains n then d.wr64 (R.SYS_TICK_COUNT n) (d.rd64 (R.SYS_TICK_COUNT n) + 1)
  else ({ d with ticked := d.ticked ++ [n] } : Dev).wr64 (R.SYS_TICK_COUNT n) 0

/-! ### The CE lane (R89, R137, R144, R174) -/

/-- CE_LANE_LOAD at a tick: the cycles of the completed one, 300 to 378 for each of its evaluations (R139); which is a free value. -/
def Dev.laneLoad (d : Dev) (n : Nat) : Dev :=
  let k := tabGet d.ce.evals n
  let used := 300 * k + Config.freeNat d.fresh % (78 * k + 1)
  let l := R.CE_LANE_LOAD n
  let d := (d.fs l F.CE_LANE_LOAD_LAST used).fs l F.CE_LANE_LOAD_PEAK (max used (d.fg l F.CE_LANE_LOAD_PEAK))
  { d.nextFresh with ce := { d.ce with evals := tabSet d.ce.evals n 0 } }

/-- The position-loop tick of a lane: a ramp of the hardware stop generator takes its step (R174). -/
def Dev.laneLoop (d : Dev) (n : Nat) : Dev :=
  if d.loopTick n F.CE_LANE_CFG_PDIV && !d.pwm.halted then d.each (laneAxes n) Dev.hsgStep else d

/-- The evaluation of every active axis is due (R137). -/
def Dev.evalsDue (d : Dev) (n : Nat) : Dev :=
  d.each (laneAxes n) fun d a =>
    if d.active a then d.modCe a fun c => { c with
      due := c.due ++ [{ tick := d.rd64 (R.SYS_TICK_COUNT n), pCmd := (d.ax a).pCmd, vCmd := (d.ax a).vCmd, aCmd := (d.ax a).aCmd }] }
    else d

/-- The lane at its tick: stops and an accepted ENABLE are applied (R87, R89, R91), and the evaluations of the active axes are due; a
stopped lane does nothing. -/
def Dev.laneTick (d : Dev) (n : Nat) : Dev :=
  let d := d.each (laneAxes n) Dev.stopTick
  if d.ce.stopped || d.dozing then d else
  let d := (d.laneLoad n).each (laneAxes n) Dev.enableApply
  (d.laneLoop n).evalsDue n

/-! ### PWM timebases (R200, R213) -/

/-- A TB0 period starts at the tick, and TB1 takes position 0 at the first tick after EN1 is set (R200); a halted timebase stands (R221). -/
def Dev.bankTick (d : Dev) (n : Nat) : Dev :=
  if d.pwm.halted then d else
  let cut := (d.bank n).cut
  let ended := if cut then d.fg (R.PWM_BANK_POS n) F.PWM_BANK_POS_TB0_POS else (d.bank n).per0
  let d := (d.modBank n fun b => { b with per0 := d.tickPeriod n, cut := false }).fs (R.PWM_BANK_POS n) F.PWM_BANK_POS_TB0_POS (d.tickLate n)
  let d := if d.dozing then d else d.each (d.bankLegs n false) (Dev.legPeriod ended cut)
  if d.fb (R.PWM_BANK_CFG n) F.PWM_BANK_CFG_EN1 && !(d.bank n).run1 then d.tb1Start n else d

/-- The gap of a takeover ends at the first period start at which a leg of the bank switches (R470). -/
def Dev.gapTick (d : Dev) (n : Nat) : Dev :=
  match d.pair.gapFrom with
  | some t =>
    if (d.bankLegs n false).any d.switching then
      (d.fs R.PAIR_TAKEOVER F.PAIR_TAKEOVER_GAP (min (2 ^ 24 - 1) (d.ns - t))).modPair fun p => { p with gapFrom := none }
    else d
  | none => d

/-! ### Homing switches at field inputs (R96) -/

/-- The first tick that sees the edge of a homing switch at a field input: method 2 goes on to the Z pulse, method 3 has its reference point. -/
def Dev.homeTick (d : Dev) (a : Nat) : Dev :=
  let c := R.AXIS_HOME_CFG a
  if (d.ax a).home ≠ .toSwitch || d.fb c F.AXIS_HOME_CFG_SRC_KIND then d else
  let lvl := d.bit R.FIELD_IN (d.fg c F.AXIS_HOME_CFG_SWITCH)
  let hit := lvl != (d.ax a).homeLvl && lvl != d.fb c F.AXIS_HOME_CFG_EDGE
  let d := d.modAx a fun x => { x with homeLvl := lvl }
  if !hit then d
  else if d.fg c F.AXIS_HOME_CFG_METHOD = 2 then d.modAx a fun x => { x with home := .toZ }
  else d.modAx a fun x => { x with home := .found, homeRef := d.actual a }

/-! ### Transit DSP triggers (R285) -/

/-- The tick triggers of a core that this tick qualifies wait for their offset; in DOZE none does (R515). -/
def Dev.trigTick (n : Nat) (d : Dev) (c : Nat) : Dev :=
  let count := d.rd64 (R.SYS_TICK_COUNT n)
  let ks := (List.range 8).filter fun k =>
    let t := R.TD_TRIG c k
    d.fb t F.TD_TRIG_EN && d.fg t F.TD_TRIG_LANE = n && count % (d.fg t F.TD_TRIG_DIV + 1) = 0
  d.modCore c fun x => { x with trigDue := x.trigDue ++ ks.filter fun k => !x.trigDue.contains k }

/-! ### LANE_MIRROR (R457, R459) -/

/-- The words of a LANE_MIRROR frame: eight for each group of the lane and for each follower on it (assumption log 24). -/
def Dev.laneMirrorWords (d : Dev) (n : Nat) : List Word :=
  (((List.range 16).filter fun g => d.grpLane g = some n).flatMap fun g =>
    let x := d.grp g
    [toW (g + d.grpState g * 2 ^ 8 + x.active.toNat * 2 ^ 16)] ++ words64 x.dist ++ words64 x.elapsed ++ [toW x.scale] ++ words64 (ofS 64 x.spd))
  ++ (laneAxes n).flatMap fun a =>
    match (d.ax a).fol with
    | some f => [toW (a + f.phase * 2 ^ 8 + 2 ^ 31)] ++ words64 (ofS 64 f.p0) ++ words64 (ofS 64 f.m0) ++ words64 (ofS 64 f.rem) ++ [toWI f.mPrev]
    | none => []

/-- A LANE_MIRROR frame that has arrived is applied (R459). -/
def Dev.laneMirrorApply (d : Dev) (m : LaneMirror) : Dev :=
  let d := m.groups.foldl (fun (d : Dev) (g : GroupMirror) =>
    (d.modGrp g.g fun x => { x with active := g.active, dist := g.prog, elapsed := g.elapsed, scale := g.scale, spd := g.spd }).fs
      (R.INTERP_GRP_STATUS g.g) F.INTERP_GRP_STATUS_STATE g.state) d
  m.follows.foldl (fun (d : Dev) (f : FollowMirror) =>
    d.modAx f.a fun x => { x with fol := x.fol.map fun y => { y with phase := f.phase, p0 := f.p0, m0 := f.m0, rem := f.rem, mPrev := f.mPrev } }) d

/-- The pair at a position-loop tick of a lane: the ACTIVE sends the frame, a STANDBY applies what has arrived. -/
def Dev.pairTick (d : Dev) (n : Nat) : Dev :=
  if !d.loopTick n F.CE_LANE_CFG_PDIV then d
  else if d.standby then
    match tabGet d.pair.laneMir n with
    | some m => (d.laneMirrorApply m).modPair fun p => { p with laneMir := tabSet p.laneMir n none }
    | none => d
  else d.sendTie 3 (d.laneMirrorWords n)

/-- The writes of a lane that have been validated are due at this tick, and carry its number (R73). -/
def Dev.writesTick (d : Dev) (n : Nat) : Dev :=
  let t := d.rd64 (R.SYS_TICK_COUNT n)
  { d with cmd := { d.cmd with writes := d.cmd.writes.map fun w => if w.lane = some n && w.tick.isNone then { w with tick := some t } else w } }

/-- The tick itself: its status, its count, its instant, and the instant of the next (R25–R29). -/
def Dev.tickGenerator (d : Dev) (n : Nat) : Dev :=
  let d := (d.tickStatus n).tickAdvance n
  { d with servoNs := tabSet d.servoNs n (d.tickTime n / 2 ^ 32) }

/-- The clock at which the lane ticks next (R25, R26). -/
def Dev.tickNext (d : Dev) (n : Nat) : Dev := { d with tickDue := tabSet d.tickDue n (tabGet d.tickDue n + d.tickPeriod n) }

/-- What happens in the units of the bank at a tick; an axis that becomes active may trip at once (R187, R218). -/
def Dev.tickUnits (d : Dev) (n : Nat) : Dev :=
  let d := d.pairTick n
  let d := (d.portsTick n).each (laneAxes n) Dev.homeTick
  let idle := (laneAxes n).filter fun a => !d.active a
  let d := d.laneTick n
  let d := (d.bankTick n).gapTick n
  let d := d.each (idle.filter d.active) Dev.activationTrip
  if d.dozing then d else
  let d := d.sampleTick n (d.rd64 (R.SYS_TICK_COUNT n)) { inst := tabGet d.servoNs n, tick := some (d.rd64 (R.SYS_TICK_COUNT n)) }
  d.each (List.range 4) (Dev.trigTick n)

/-- SERVO_TICK: lane `n` ticks, at the instant that its generator aims at (R25–R29). -/
def execServoTick (n : Fin 4) (s : State) : Out := s.onDev fun d =>
  ((((d.toTick n).tickGenerator n).writesTick n).tickUnits n).tickNext n

end Sys2Proof.Machine
end

