-- ==== Sys2Proof/Machine/HostAccess.lean ====
section
/-!
DEFINITION. Host writes and reads of REGWIN and BULKWIN (R7–R13, R31–R33), writes of the debug access port (R507), and the MSI-X mask (R346).
-/

namespace Sys2Proof.Machine

open Sys2Proof

/-! ### W1C acknowledges (R7, R8, R10) -/

/-- The level sources that a register bears on. -/
def sourcesOf (off : Nat) : List Nat :=
  (List.range 630).filter fun s => isLevelSource s && (levelBits s).any fun x => x.1 = off || x.1 + 4 = off

/-- The W1C bits of a register word. -/
def w1cMask (off : Nat) : Word :=
  match findReg off with
  | none => 0
  | some (r, _, _, i) => toW (if i = 0 then r.w1c else r.w1c / 2 ^ 32)

/-- A write of 1 clears the W1C bits of a word; a level that falls by it has not been lowered by the device (R345). -/
def Dev.ackWord (d : Dev) (off : Nat) (w : Word) : Dev :=
  let m := w1cMask off
  if w &&& m = 0 then d
  else (sourcesOf off).foldl (fun x s => x.levelFell d false s) (d.wr off (d.rd off &&& ~~~(w &&& m)))

/-! ### Doorbells and controls (R8) -/

/-- The state after an answer; an answer that is no next state leaves it. -/
def Out.after (o : Out) (s : State) : State := match o with | .next t => t | _ => s

/-- A 32-bit host write: a doorbell or control acts as its own row says; of any other register only W1C bits are writable. -/
def State.hostWord (s : State) (off : Nat) (w : Word) : State :=
  if off = R.SYS_RESET_DOORBELL then Out.after (execSysResetDoorbell w s) s
  else if off = R.SYS_STOP_DOORBELL then Out.after (execSysStopDoorbell w s) s
  else if off = R.CMDQ_REPLY_DOORBELL then Out.after (execCmdqReplyDoorbell w s) s
  else if off = R.CMDQ_EVENT_DOORBELL then Out.after (execCmdqEventDoorbell w s) s
  else if off = R.CMDQ_ATTACH_DOORBELL then Out.after (execCmdqAttachDoorbell (.lower w) s) s
  else if off = R.EVR_HOST_COMPLETE then Out.after (execEvrHostComplete w s) s
  else if off = R.EVR_HOST_IDLE then Out.after (execEvrHostIdle w s) s
  else if off = R.TRACE_CTRL then Out.after (s.onDev fun d => d.traceCtrl w) s
  else if off = R.TRACE_RDPTR then Out.after (execTraceRdptrWrite w s) s
  else match (List.finRange 4).find? fun q => off = R.CMDQ_DOORBELL q.val with
    | some q => Out.after (execCmdqDoorbell q w s) s
    | none =>
      match (List.finRange 2).find? fun c => off = R.CAN_RX_DOORBELL c.val with
      | some c => Out.after (execCanRxDoorbell c w s) s
      | none => Out.after (s.onDev fun d => d.ackWord off w) s

/-- A host write to BULKWIN reaches the staging regions only, and Logbook staging only while no command executes on it (R32, R33). -/
def Dev.bulkWrite (d : Dev) (off : Nat) (l : List Byte) : Dev :=
  let may (o : Nat) : Bool := (0x1000000 ≤ o && o < 0x2000000 && !d.stagingBusy) || (0x2000000 ≤ o && o < 0x2200000)
  (l.zipIdx).foldl (fun (d : Dev) x => if may (off + x.2) then d.setBulkByte (off + x.2) x.1 else d) d

/-! ### The MSI-X table (R30, R346) -/

/-- The mask bit of a vector is cleared: the message that is held pending on it is sent. -/
def Dev.msixUnmask (d : Dev) (v : Nat) : Dev :=
  let e := d.evr
  let d := { d with evr := { e with
    unmasked := if e.unmasked.contains v then e.unmasked else e.unmasked ++ [v], msiPend := e.msiPend.filter (· ≠ v) } }
  if e.msiPend.contains v then d.msiOut v else d

/-- A write of a word of an entry: message address, its upper half, message data, and the vector control with the mask bit. -/
def Dev.msixWrite (d : Dev) (v k : Nat) (w : Word) : Dev :=
  if k < 3 then { d with evr := { d.evr with msix := tabSet d.evr.msix (4 * v + k) w } }
  else if wbit w 0 then { d with evr := { d.evr with unmasked := d.evr.unmasked.filter (· ≠ v) } }
  else d.msixUnmask v

/-- A word of BAR4: the table, and the pending bits from 0x1000 on. -/
def Dev.msixWord (d : Dev) (off : Nat) : Word :=
  if off < 0x400 then
    if off / 4 % 4 < 3 then tabGet d.evr.msix (off / 4) else toW (!d.evr.unmasked.contains (off / 16)).toNat
  else if off = 0x1000 ∨ off = 0x1004 then
    let lo := if off = 0x1000 then 0 else 32
    toW (d.evr.msiPend.foldl (fun n v => if lo ≤ v ∧ v < lo + 32 then n + 2 ^ (v - lo) else n) 0)
  else 0

/-! ### Host reads (R12, R13, R30–R32) -/

/-- A register word as a requester reads it (R13): a read of the lower word of a 64-bit register latches the upper word, which the next
read of the upper word returns and uses up. -/
def Dev.readWord (d : Dev) (req off : Nat) : Dev × Word :=
  match findReg off with
  | some (r, _, _, 0) =>
    (if r.w64 then
      { d with latches := d.latches.filter (fun l => !(l.req = req && l.off = off)) ++ [{ req := req, off := off, upper := d.view (off + 4) }] }
    else d, d.view off)
  | some (_, _, _, _) =>
    match d.latches.find? fun l => l.req = req && l.off + 4 = off with
    | some l => ({ d with latches := d.latches.filter fun l => !(l.req = req && l.off + 4 = off) }, l.upper)
    | none => (d, d.view off)
  | none => (d, d.view off)

/-- A read by the host: of a register window, one of up to 32 bits returns the addressed bytes of its word, and one of 64 bits both words at
once (R12, R13); of BULKWIN, the bytes of its memories and 0 in a reserved region (R32). -/
def Dev.hostRead (d : Dev) (x : HostRead) : Dev :=
  match x with
  | .reg off n =>
    if n = 8 then { d with readOut := [d.view off, d.view (off + 4)].flatMap wordBytes }
    else
      let (d, w) := d.readWord 0 (off - off % 4)
      { d with readOut := ((wordBytes w).drop (off % 4)).take n }
  | .bulk off n => { d with readOut := d.bulkBytes off n }
  | .msix off n => { d with readOut := (List.range (n / 4)).flatMap fun k => wordBytes (d.msixWord (off + 4 * k)) }

/-- HOST_REGISTER_WRITE: an access of 32 or 64 bits acts under the access codes; a narrower or misaligned one is discarded (R7, R9, R12); a W1C
bit that the device sets in the clock of the write stays set (R10). -/
def execHostRegisterWrite (x : HostWrite) (s : State) : Out :=
  match x with
  | .w32 off w => .next (if off % 4 = 0 then s.hostWord off w else s)
  | .clash off w held => .next (if off % 4 = 0 then s.hostWord off (w &&& ~~~(held &&& w1cMask off)) else s)
  | .w64 off lo hi => .next (if off % 8 = 0 then (s.hostWord off lo).hostWord (off + 4) hi else s)
  | .narrow _ => .next s
  | .bulk off l => s.onDev fun d => d.bulkWrite off l
  | .msix v k w => s.onDev fun d => d.msixWrite v k w

/-- HOST_LOWER_WORD_READ: a read of the host; one of the lower word of a 64-bit register latches its upper word (R13). -/
def execHostLowerWordRead (x : HostRead) (s : State) : Out := s.onDev fun d => d.hostRead x

/-- MSIX_VECTOR_UNMASK: the message that is held pending on the vector is sent (R346). -/
def execMsixVectorUnmask (v : Fin 64) (s : State) : Out := s.onDev fun d => d.msixUnmask v

/-! ### The debug access port (R7, R507, R515, R517) -/

/-- The blocks of REGWIN whose clock runs in DOZE (R19, R515): SYS, PWM, CFE, encoder ports and Fix, Traverse, field, and the island. -/
def runsInDoze (off : Nat) : Bool :=
  off < 0x1000 || (0x60000 ≤ off && off < 0x90000) || (0xB0000 ≤ off && off < 0xC0000) || (0xD0000 ≤ off && off < 0xE0000)
  || (0x100800 ≤ off && off < 0x100840)

/-- The word of REGWIN that a read of the DAP returns (R507, R517): at OBSERVE or above; in DOZE a block with a stopped clock reads 0. -/
def Dev.dapWord (d : Dev) (off : Nat) : Option Word :=
  if d.heldInReset || !d.dapAt 1 then none else if d.dozing && !runsInDoze off then some 0 else some (d.view off)

/-- A byte of the trace SRAM that a read of the DAP returns (R507, R517). -/
def Dev.dapTraceByte (d : Dev) (off : Nat) : Option Byte :=
  if d.heldInReset || !d.dapAt 1 || 0x400000 ≤ off then none else if d.dozing then some 0 else (d.bulkBytes off 1).head?

/-- The offset is one of a TDSP memory: program, X bank or Y bank. -/
def inTdMemory (off : Nat) : Bool := 0x200000 ≤ off && off < 0x400000 && off % 0x80000 < 0x30000

/-- DAP_WRITE: at FULL, a write reaches a CP field at once and without validation, and any other writable field as a host write does; the
safety block is never written, and in DOZE only running blocks are (R507, R517). -/
def execDapWrite (off : Nat) (w : Word) (s : State) : Out :=
  let d := s.dev
  if d.heldInReset || !d.dapAt 3 || off % 4 ≠ 0 || (0xE0000 ≤ off && off < 0xF0000) || (d.dozing && !runsInDoze off) then .next s
  else if inTdMemory off then s.onDev fun d => d.wr off w
  else
    let m := cpMask off
    if m = 0 then .next (s.hostWord off w)
    else ((s.hostWord off w).onDev fun d => d.applyWrite { off := off, mask := m, val := w })

end Sys2Proof.Machine
end

