-- ==== Sys2Proof/Machine/Dispatch.lean ====
section
/-!
DEFINITION. Which meaning each command has: one arm for each constructor.
-/

namespace Sys2Proof.Machine

def exec (i : Instr) (s : State) : Host.Outcome State Fault Refusal :=
  match i with
  | .coldReset straps => Sys2Proof.Machine.execColdReset straps s
  | .warmReset => Sys2Proof.Machine.execWarmReset s
  | .sysResetDoorbell w => Sys2Proof.Machine.execSysResetDoorbell w s
  | .functionLevelReset => Sys2Proof.Machine.execFunctionLevelReset s
  | .perstRelease => Sys2Proof.Machine.execPerstRelease s
  | .vddMonitorTrip => Sys2Proof.Machine.execVddMonitorTrip s
  | .clockLoss pwm straps => Sys2Proof.Machine.execClockLoss pwm straps s
  | .pllLockLoss p straps => Sys2Proof.Machine.execPllLockLoss p straps s
  | .bootImageVerify part sramOk => Sys2Proof.Machine.execBootImageVerify part sramOk s
  | .commandReady => Sys2Proof.Machine.execCommandReady s
  | .servoTick n => Sys2Proof.Machine.execServoTick n s
  | .paramApply lane => Sys2Proof.Machine.execParamApply lane s
  | .hostRegisterWrite x => Sys2Proof.Machine.execHostRegisterWrite x s
  | .cmdqDoorbell q w => Sys2Proof.Machine.execCmdqDoorbell q w s
  | .cmdqAttachDoorbell x => Sys2Proof.Machine.execCmdqAttachDoorbell x s
  | .cmdqReplyDoorbell w => Sys2Proof.Machine.execCmdqReplyDoorbell w s
  | .cmdqEventDoorbell w => Sys2Proof.Machine.execCmdqEventDoorbell w s
  | .commandFetch q src => Sys2Proof.Machine.execCommandFetch q src s
  | .progressReply p => Sys2Proof.Machine.execProgressReply p s
  | .traverseCommandSegment => Sys2Proof.Machine.execTraverseCommandSegment s
  | .spiWritePacket q words => Sys2Proof.Machine.execSpiWritePacket q words s
  | .spiReadReply => Sys2Proof.Machine.execSpiReadReply s
  | .spiReadStatus => Sys2Proof.Machine.execSpiReadStatus s
  | .attach p => Sys2Proof.Machine.execAttach p s
  | .resync p => Sys2Proof.Machine.execResync p s
  | .ping p => Sys2Proof.Machine.execPing p s
  | .getStatus p => Sys2Proof.Machine.execGetStatus p s
  | .detach p => Sys2Proof.Machine.execDetach p s
  | .hostAlive p => Sys2Proof.Machine.execHostAlive p s
  | .readJournal p => Sys2Proof.Machine.execReadJournal p s
  | .resetDevice p => Sys2Proof.Machine.execResetDevice p s
  | .setParam p => Sys2Proof.Machine.execSetParam p s
  | .setParam64 p => Sys2Proof.Machine.execSetParam64 p s
  | .setParamBlock p => Sys2Proof.Machine.execSetParamBlock p s
  | .getParam p => Sys2Proof.Machine.execGetParam p s
  | .saveConfigSet p => Sys2Proof.Machine.execSaveConfigSet p s
  | .loadConfigSet p => Sys2Proof.Machine.execLoadConfigSet p s
  | .selectBootConfig p => Sys2Proof.Machine.execSelectBootConfig p s
  | .enable p => Sys2Proof.Machine.execEnable p s
  | .disable p => Sys2Proof.Machine.execDisable p s
  | .stop p => Sys2Proof.Machine.execStop p s
  | .home p => Sys2Proof.Machine.execHome p s
  | .resetFault p => Sys2Proof.Machine.execResetFault p s
  | .bindAxis p => Sys2Proof.Machine.execBindAxis p s
  | .alignmentComplete a => Sys2Proof.Machine.execAlignmentComplete a s
  | .brakeReleaseWaitEnd a => Sys2Proof.Machine.execBrakeReleaseWaitEnd a s
  | .enableFailTimeout a => Sys2Proof.Machine.execEnableFailTimeout a s
  | .stopRampComplete a => Sys2Proof.Machine.execStopRampComplete a s
  | .brakeEngageWaitEnd a => Sys2Proof.Machine.execBrakeEngageWaitEnd a s
  | .homeReference a => Sys2Proof.Machine.execHomeReference a s
  | .hardStopDwellEnd a => Sys2Proof.Machine.execHardStopDwellEnd a s
  | .homeTravelLimit a => Sys2Proof.Machine.execHomeTravelLimit a s
  | .hostWatchdogExpiry a => Sys2Proof.Machine.execHostWatchdogExpiry a s
  | .decisionInstant n => Sys2Proof.Machine.execDecisionInstant n s
  | .startConditionTimeout g => Sys2Proof.Machine.execStartConditionTimeout g s
  | .segment p => Sys2Proof.Machine.execSegment p s
  | .groupStart p => Sys2Proof.Machine.execGroupStart p s
  | .groupHold p => Sys2Proof.Machine.execGroupHold p s
  | .override p => Sys2Proof.Machine.execOverride p s
  | .flushGroup p => Sys2Proof.Machine.execFlushGroup p s
  | .moveAxis p => Sys2Proof.Machine.execMoveAxis p s
  | .holdComplete g => Sys2Proof.Machine.execHoldComplete g s
  | .groupStopComplete g => Sys2Proof.Machine.execGroupStopComplete g s
  | .flushComplete g => Sys2Proof.Machine.execFlushComplete g s
  | .profileComplete a => Sys2Proof.Machine.execProfileComplete a s
  | .gearEngage p => Sys2Proof.Machine.execGearEngage p s
  | .gearDisengage p => Sys2Proof.Machine.execGearDisengage p s
  | .followerRampEnd a => Sys2Proof.Machine.execFollowerRampEnd a s
  | .clutchStart a => Sys2Proof.Machine.execClutchStart a s
  | .clutchComplete a => Sys2Proof.Machine.execClutchComplete a s
  | .masterLost a => Sys2Proof.Machine.execMasterLost a s
  | .camLoad p => Sys2Proof.Machine.execCamLoad p s
  | .camEngage p => Sys2Proof.Machine.execCamEngage p s
  | .camWrapEngage a => Sys2Proof.Machine.execCamWrapEngage a s
  | .axisEvaluation a x => Sys2Proof.Machine.execAxisEvaluation a x s
  | .hookAbsent a h => Sys2Proof.Machine.execHookAbsent a h s
  | .followingErrorFault a => Sys2Proof.Machine.execFollowingErrorFault a s
  | .laneOverrun a => Sys2Proof.Machine.execLaneOverrun a s
  | .hsgAxisAtZero a => Sys2Proof.Machine.execHsgAxisAtZero a s
  | .sysStopDoorbell w => Sys2Proof.Machine.execSysStopDoorbell w s
  | .freeRunWord inp bits => Sys2Proof.Machine.execFreeRunWord inp bits s
  | .decimatorRefillComplete inp => Sys2Proof.Machine.execDecimatorRefillComplete inp s
  | .overcurrentDetect inp bits bitsB => Sys2Proof.Machine.execOvercurrentDetect inp bits bitsB s
  | .rangeFault inp => Sys2Proof.Machine.execRangeFault inp s
  | .stuckDetect inp bits => Sys2Proof.Machine.execStuckDetect inp bits s
  | .alternatingDetect inp bits => Sys2Proof.Machine.execAlternatingDetect inp bits s
  | .sdckReadbackFault k => Sys2Proof.Machine.execSdckReadbackFault k s
  | .extClockLost => Sys2Proof.Machine.execExtClockLost s
  | .calWindowOpen a => Sys2Proof.Machine.execCalWindowOpen a s
  | .offsetCalUpdate inp => Sys2Proof.Machine.execOffsetCalUpdate inp s
  | .bankGainUpdate n => Sys2Proof.Machine.execBankGainUpdate n s
  | .tb1PeriodStart n => Sys2Proof.Machine.execTb1PeriodStart n s
  | .compareValueArrival l slope2 p r => Sys2Proof.Machine.execCompareValueArrival l slope2 p r s
  | .deadTimeTurnOn l => Sys2Proof.Machine.execDeadTimeTurnOn l s
  | .minPulseEnd l => Sys2Proof.Machine.execMinPulseEnd l s
  | .tripFilteredAssert t => Sys2Proof.Machine.execTripFilteredAssert t s
  | .tripFilteredRelease t => Sys2Proof.Machine.execTripFilteredRelease t s
  | .blankingEnd t => Sys2Proof.Machine.execBlankingEnd t s
  | .tripRearm t => Sys2Proof.Machine.execTripRearm t s
  | .motionHalt => Sys2Proof.Machine.execMotionHalt s
  | .motionHaltRelease => Sys2Proof.Machine.execMotionHaltRelease s
  | .zEdge e => Sys2Proof.Machine.execZEdge e s
  | .serialFrameStart e slHigh => Sys2Proof.Machine.execSerialFrameStart e slHigh s
  | .serialFrameComplete e bits late maFault => Sys2Proof.Machine.execSerialFrameComplete e bits late maFault s
  | .encoderFailed e => Sys2Proof.Machine.execEncoderFailed e s
  | .encoderFailedClear e => Sys2Proof.Machine.execEncoderFailedClear e s
  | .fixEvent inp rising stamp => Sys2Proof.Machine.execFixEvent inp rising stamp s
  | .fixRecordComplete inp => Sys2Proof.Machine.execFixRecordComplete inp s
  | .fixArm p => Sys2Proof.Machine.execFixArm p s
  | .compareLoad p => Sys2Proof.Machine.execCompareLoad p s
  | .compareEnable p => Sys2Proof.Machine.execCompareEnable p s
  | .compareCounterFire o => Sys2Proof.Machine.execCompareCounterFire o s
  | .comparePredictFire o => Sys2Proof.Machine.execComparePredictFire o s
  | .pcoPulseEnd o => Sys2Proof.Machine.execPcoPulseEnd o s
  | .tickTrigger c k => Sys2Proof.Machine.execTickTrigger c k s
  | .level1Entry c => Sys2Proof.Machine.execLevel1Entry c s
  | .level2Entry c => Sys2Proof.Machine.execLevel2Entry c s
  | .waitWake c => Sys2Proof.Machine.execWaitWake c s
  | .tdNop c m l => Sys2Proof.Machine.execTdNop c m l s
  | .tdMpy c ad ra rb l => Sys2Proof.Machine.execTdMpy c ad ra rb l s
  | .tdMac c ad ra rb l => Sys2Proof.Machine.execTdMac c ad ra rb l s
  | .tdMsu c ad ra rb l => Sys2Proof.Machine.execTdMsu c ad ra rb l s
  | .tdMpyi c ad ra rb l => Sys2Proof.Machine.execTdMpyi c ad ra rb l s
  | .tdMaci c ad ra rb l => Sys2Proof.Machine.execTdMaci c ad ra rb l s
  | .tdMsui c ad ra rb l => Sys2Proof.Machine.execTdMsui c ad ra rb l s
  | .tdClr c ad l => Sys2Proof.Machine.execTdClr c ad l s
  | .tdAdda c ad src l => Sys2Proof.Machine.execTdAdda c ad src l s
  | .tdSuba c ad src l => Sys2Proof.Machine.execTdSuba c ad src l s
  | .tdMova c ad src l => Sys2Proof.Machine.execTdMova c ad src l s
  | .tdNega c ad src l => Sys2Proof.Machine.execTdNega c ad src l s
  | .tdAbsa c ad src l => Sys2Proof.Machine.execTdAbsa c ad src l s
  | .tdSha c ad n l => Sys2Proof.Machine.execTdSha c ad n l s
  | .tdLda c ad ra l => Sys2Proof.Machine.execTdLda c ad ra l s
  | .tdAdd c rd ra rb l => Sys2Proof.Machine.execTdAdd c rd ra rb l s
  | .tdSub c rd ra rb l => Sys2Proof.Machine.execTdSub c rd ra rb l s
  | .tdAdds c rd ra rb l => Sys2Proof.Machine.execTdAdds c rd ra rb l s
  | .tdSubs c rd ra rb l => Sys2Proof.Machine.execTdSubs c rd ra rb l s
  | .tdCmp c ra rb l => Sys2Proof.Machine.execTdCmp c ra rb l s
  | .tdAnd c rd ra rb l => Sys2Proof.Machine.execTdAnd c rd ra rb l s
  | .tdOr c rd ra rb l => Sys2Proof.Machine.execTdOr c rd ra rb l s
  | .tdXor c rd ra rb l => Sys2Proof.Machine.execTdXor c rd ra rb l s
  | .tdAsr c rd ra n l => Sys2Proof.Machine.execTdAsr c rd ra n l s
  | .tdLsr c rd ra n l => Sys2Proof.Machine.execTdLsr c rd ra n l s
  | .tdLsl c rd ra n l => Sys2Proof.Machine.execTdLsl c rd ra n l s
  | .tdAddi c rd ra imm l => Sys2Proof.Machine.execTdAddi c rd ra imm l s
  | .tdMin c rd ra rb l => Sys2Proof.Machine.execTdMin c rd ra rb l s
  | .tdMax c rd ra rb l => Sys2Proof.Machine.execTdMax c rd ra rb l s
  | .tdAbs c rd ra l => Sys2Proof.Machine.execTdAbs c rd ra l s
  | .tdNeg c rd ra l => Sys2Proof.Machine.execTdNeg c rd ra l s
  | .tdLd c reg path am pn off m => Sys2Proof.Machine.execTdLd c reg path am pn off m s
  | .tdSt c reg am pn off m => Sys2Proof.Machine.execTdSt c reg am pn off m s
  | .tdLdd c dx dy amx px amy py m => Sys2Proof.Machine.execTdLdd c dx dy amx px amy py m s
  | .tdMov c dst src m => Sys2Proof.Machine.execTdMov c dst src m s
  | .tdMovi c dst imm m => Sys2Proof.Machine.execTdMovi c dst imm m s
  | .tdMovih c dst imm m => Sys2Proof.Machine.execTdMovih c dst imm m s
  | .tdSrset c mask m => Sys2Proof.Machine.execTdSrset c mask m s
  | .tdSrclr c mask m => Sys2Proof.Machine.execTdSrclr c mask m s
  | .tdBr c cond target m => Sys2Proof.Machine.execTdBr c cond target m s
  | .tdCall c target m => Sys2Proof.Machine.execTdCall c target m s
  | .tdRet c m => Sys2Proof.Machine.execTdRet c m s
  | .tdReti1 c m => Sys2Proof.Machine.execTdReti1 c m s
  | .tdReti2 c m => Sys2Proof.Machine.execTdReti2 c m s
  | .tdDo c ofs count m => Sys2Proof.Machine.execTdDo c ofs count m s
  | .tdDor c dn ofs m => Sys2Proof.Machine.execTdDor c dn ofs m s
  | .tdEnddo c t target m => Sys2Proof.Machine.execTdEnddo c t target m s
  | .tdWait c m => Sys2Proof.Machine.execTdWait c m s
  | .tdTapd c ad sub px amx py amy m => Sys2Proof.Machine.execTdTapd c ad sub px amx py amy m s
  | .sevWrite c m l => Sys2Proof.Machine.execSevWrite c m l s
  | .evrClaimLoad c m l => Sys2Proof.Machine.execEvrClaimLoad c m l s
  | .evrCompleteStore c m l => Sys2Proof.Machine.execEvrCompleteStore c m l s
  | .hookPortStore c m l => Sys2Proof.Machine.execHookPortStore c m l s
  | .timeLRead c m l => Sys2Proof.Machine.execTimeLRead c m l s
  | .encPosLowerLoad c m l => Sys2Proof.Machine.execEncPosLowerLoad c m l s
  | .dspLoadImage p => Sys2Proof.Machine.execDspLoadImage p s
  | .dspStart p => Sys2Proof.Machine.execDspStart p s
  | .dspHalt p => Sys2Proof.Machine.execDspHalt p s
  | .dspBindHook p => Sys2Proof.Machine.execDspBindHook p s
  | .traceConfig p => Sys2Proof.Machine.execTraceConfig p s
  | .traceStream p => Sys2Proof.Machine.execTraceStream p s
  | .snapshot p => Sys2Proof.Machine.execSnapshot p s
  | .traceArm w => Sys2Proof.Machine.execTraceArm w s
  | .traceDisarm w => Sys2Proof.Machine.execTraceDisarm w s
  | .traceForce w => Sys2Proof.Machine.execTraceForce w s
  | .traceRelease w => Sys2Proof.Machine.execTraceRelease w s
  | .traceRdptrWrite w => Sys2Proof.Machine.execTraceRdptrWrite w s
  | .traceSampleClose busy => Sys2Proof.Machine.execTraceSampleClose busy s
  | .tracePostComplete => Sys2Proof.Machine.execTracePostComplete s
  | .traceAutoTimeout => Sys2Proof.Machine.execTraceAutoTimeout s
  | .snapinEdge rising => Sys2Proof.Machine.execSnapinEdge rising s
  | .snapoutPulseEnd => Sys2Proof.Machine.execSnapoutPulseEnd s
  | .snapshotTransferComplete => Sys2Proof.Machine.execSnapshotTransferComplete s
  | .snapBankFree w => Sys2Proof.Machine.execSnapBankFree w s
  | .evrSourceFiring n => Sys2Proof.Machine.execEvrSourceFiring n s
  | .evrHostPost => Sys2Proof.Machine.execEvrHostPost s
  | .supervisorClaim => Sys2Proof.Machine.execSupervisorClaim s
  | .evrHostComplete w => Sys2Proof.Machine.execEvrHostComplete w s
  | .evrHostIdle w => Sys2Proof.Machine.execEvrHostIdle w s
  | .moderationRelease u => Sys2Proof.Machine.execModerationRelease u s
  | .rehomeTimeout n => Sys2Proof.Machine.execRehomeTimeout n s
  | .wakeLatchEdge b => Sys2Proof.Machine.execWakeLatchEdge b s
  | .dozeExitComplete => Sys2Proof.Machine.execDozeExitComplete s
  | .traverseFrameReceive a b => Sys2Proof.Machine.execTraverseFrameReceive a b s
  | .traverseFrameSend j busyA busyB seen => Sys2Proof.Machine.execTraverseFrameSend j busyA busyB seen s
  | .dataFrameCommit j => Sys2Proof.Machine.execDataFrameCommit j s
  | .slotDelivery j => Sys2Proof.Machine.execSlotDelivery j s
  | .datumMiss => Sys2Proof.Machine.execDatumMiss s
  | .nlossExpiry => Sys2Proof.Machine.execNlossExpiry s
  | .coldstartTimeout busyA busyB => Sys2Proof.Machine.execColdstartTimeout busyA busyB s
  | .readbackMismatch => Sys2Proof.Machine.execReadbackMismatch s
  | .guardianCutoff => Sys2Proof.Machine.execGuardianCutoff s
  | .channelFail chB => Sys2Proof.Machine.execChannelFail chB s
  | .traverseJoin p => Sys2Proof.Machine.execTraverseJoin p s
  | .traverseJoinTimeout => Sys2Proof.Machine.execTraverseJoinTimeout s
  | .traverseLeave p => Sys2Proof.Machine.execTraverseLeave p s
  | .traverseLeaveComplete => Sys2Proof.Machine.execTraverseLeaveComplete s
  | .canEnable p => Sys2Proof.Machine.execCanEnable p s
  | .canSend p => Sys2Proof.Machine.execCanSend p s
  | .canIntegration c => Sys2Proof.Machine.execCanIntegration c s
  | .canTxComplete c => Sys2Proof.Machine.execCanTxComplete c s
  | .canTxAttemptFail c e exempt => Sys2Proof.Machine.execCanTxAttemptFail c e exempt s
  | .canRecoveryComplete c => Sys2Proof.Machine.execCanRecoveryComplete c s
  | .canFrameReceive c f stamp => Sys2Proof.Machine.execCanFrameReceive c f stamp s
  | .canDisableComplete c => Sys2Proof.Machine.execCanDisableComplete c s
  | .canCorrLatch c => Sys2Proof.Machine.execCanCorrLatch c s
  | .canRxDoorbell c w => Sys2Proof.Machine.execCanRxDoorbell c w s
  | .canTxEntryFree c x => Sys2Proof.Machine.execCanTxEntryFree c x s
  | .downstreamFrameSend => Sys2Proof.Machine.execDownstreamFrameSend s
  | .upstreamFrameReceive k crcOk safeOk act cur => Sys2Proof.Machine.execUpstreamFrameReceive k crcOk safeOk act cur s
  | .fieldDieDownstreamReceive k crcOk safeOk => Sys2Proof.Machine.execFieldDieDownstreamReceive k crcOk safeOk s
  | .linkFrameMissing k up => Sys2Proof.Machine.execLinkFrameMissing k up s
  | .linkStale k => Sys2Proof.Machine.execLinkStale k s
  | .fieldDieFallback k => Sys2Proof.Machine.execFieldDieFallback k s
  | .linkRecover k dieSide => Sys2Proof.Machine.execLinkRecover k dieSide s
  | .groupUndervoltage g => Sys2Proof.Machine.execGroupUndervoltage g s
  | .groupUvRecover g => Sys2Proof.Machine.execGroupUvRecover g s
  | .fieldLogicSupplyLoss k => Sys2Proof.Machine.execFieldLogicSupplyLoss k s
  | .groupOvercurrent g => Sys2Proof.Machine.execGroupOvercurrent g s
  | .fieldInputChange inp level => Sys2Proof.Machine.execFieldInputChange inp level s
  | .wireBreak inp => Sys2Proof.Machine.execWireBreak inp s
  | .wireBreakClear inp => Sys2Proof.Machine.execWireBreakClear inp s
  | .outputOverload o => Sys2Proof.Machine.execOutputOverload o s
  | .outputThermalOff o => Sys2Proof.Machine.execOutputThermalOff o s
  | .outputThermalRestart o => Sys2Proof.Machine.execOutputThermalRestart o s
  | .outputOffDiagnosis o v => Sys2Proof.Machine.execOutputOffDiagnosis o v s
  | .outputWrite p => Sys2Proof.Machine.execOutputWrite p s
  | .outputGroupEnable p => Sys2Proof.Machine.execOutputGroupEnable p s
  | .safetyLatch reads => Sys2Proof.Machine.execSafetyLatch reads s
  | .safetyDecision chB => Sys2Proof.Machine.execSafetyDecision chB s
  | .safetyCompareFault chB => Sys2Proof.Machine.execSafetyCompareFault chB s
  | .safetyMessageMissing chB => Sys2Proof.Machine.execSafetyMessageMissing chB s
  | .stoenBFrameLoss => Sys2Proof.Machine.execStoenBFrameLoss s
  | .lockstepFault => Sys2Proof.Machine.execLockstepFault s
  | .safetyInputFilter chB inp level => Sys2Proof.Machine.execSafetyInputFilter chB inp level s
  | .pairDiscrepancy chB p => Sys2Proof.Machine.execPairDiscrepancy chB p s
  | .resetInputPulse chB inp => Sys2Proof.Machine.execResetInputPulse chB inp s
  | .testPulse k hiA loA hiB loB readFails => Sys2Proof.Machine.execTestPulse k hiA loA hiB loB readFails s
  | .soTestPulse j readsOn => Sys2Proof.Machine.execSoTestPulse j readsOn s
  | .ss1DelayExpiry f => Sys2Proof.Machine.execSs1DelayExpiry f s
  | .safetyStartup chB => Sys2Proof.Machine.execSafetyStartup chB s
  | .safetyStartupTestComplete chB => Sys2Proof.Machine.execSafetyStartupTestComplete chB s
  | .safetySetLoad p => Sys2Proof.Machine.execSafetySetLoad p s
  | .safetySetCommit p => Sys2Proof.Machine.execSafetySetCommit p s
  | .heartbeatSend => Sys2Proof.Machine.execHeartbeatSend s
  | .pairHboToggle => Sys2Proof.Machine.execPairHboToggle s
  | .heartbeatReceive h b => Sys2Proof.Machine.execHeartbeatReceive h b s
  | .axisMirrorReceive h a m => Sys2Proof.Machine.execAxisMirrorReceive h a m s
  | .laneMirrorReceive h n m => Sys2Proof.Machine.execLaneMirrorReceive h n m s
  | .commandMirrorReceive h p => Sys2Proof.Machine.execCommandMirrorReceive h p s
  | .postMirrorReceive h m => Sys2Proof.Machine.execPostMirrorReceive h m s
  | .safetyFrameReceive h sto => Sys2Proof.Machine.execSafetyFrameReceive h sto s
  | .safetyDiff => Sys2Proof.Machine.execSafetyDiff s
  | .strobeReceive h => Sys2Proof.Machine.execStrobeReceive h s
  | .bulkReceive h ws => Sys2Proof.Machine.execBulkReceive h ws s
  | .bulkCopyComplete => Sys2Proof.Machine.execBulkCopyComplete s
  | .resignReceive h cause => Sys2Proof.Machine.execResignReceive h cause s
  | .tieLinkUp => Sys2Proof.Machine.execTieLinkUp s
  | .tieLinkDown silent => Sys2Proof.Machine.execTieLinkDown silent s
  | .partnerLost => Sys2Proof.Machine.execPartnerLost s
  | .pairWatchdogExpiry => Sys2Proof.Machine.execPairWatchdogExpiry s
  | .pairBootWaitExpiry => Sys2Proof.Machine.execPairBootWaitExpiry s
  | .pairDivergence a => Sys2Proof.Machine.execPairDivergence a s
  | .switchoverTick => Sys2Proof.Machine.execSwitchoverTick s
  | .pairEnSet => Sys2Proof.Machine.execPairEnSet s
  | .pairEnClear => Sys2Proof.Machine.execPairEnClear s
  | .pairStatus p => Sys2Proof.Machine.execPairStatus p s
  | .pairSwitchover p => Sys2Proof.Machine.execPairSwitchover p s
  | .storeWrite p => Sys2Proof.Machine.execStoreWrite p s
  | .storeRead p => Sys2Proof.Machine.execStoreRead p s
  | .storeErase p => Sys2Proof.Machine.execStoreErase p s
  | .imageInstall p => Sys2Proof.Machine.execImageInstall p s
  | .nandScrub l ends unread => Sys2Proof.Machine.execNandScrub l ends unread s
  | .wearBudgetTick => Sys2Proof.Machine.execWearBudgetTick s
  | .powerFail => Sys2Proof.Machine.execPowerFail s
  | .journalFlush slot dur ok => Sys2Proof.Machine.execJournalFlush slot dur ok s
  | .backupEntry vddFell => Sys2Proof.Machine.execBackupEntry vddFell s
  | .backupEnd straps => Sys2Proof.Machine.execBackupEnd straps s
  | .vauxLoss => Sys2Proof.Machine.execVauxLoss s
  | .vauxReturn => Sys2Proof.Machine.execVauxReturn s
  | .islandStop => Sys2Proof.Machine.execIslandStop s
  | .vbakLow => Sys2Proof.Machine.execVbakLow s
  | .debugChallenge p => Sys2Proof.Machine.execDebugChallenge p s
  | .nonceExpiry => Sys2Proof.Machine.execNonceExpiry s
  | .unlockLockoutEnd => Sys2Proof.Machine.execUnlockLockoutEnd s
  | .debugUnlock p => Sys2Proof.Machine.execDebugUnlock p s
  | .keyRevoke p => Sys2Proof.Machine.execKeyRevoke p s
  | .lifecycleAdvance p => Sys2Proof.Machine.execLifecycleAdvance p s
  | .pwrReqRun => Sys2Proof.Machine.execPwrReqRun s
  | .pwrReqServoOff => Sys2Proof.Machine.execPwrReqServoOff s
  | .pwrReqDoze => Sys2Proof.Machine.execPwrReqDoze s
  | .jtagIdcode => Sys2Proof.Machine.execJtagIdcode s
  | .jtagSamplePreload bits => Sys2Proof.Machine.execJtagSamplePreload bits s
  | .jtagExtest => Sys2Proof.Machine.execJtagExtest s
  | .jtagClamp => Sys2Proof.Machine.execJtagClamp s
  | .jtagHighz => Sys2Proof.Machine.execJtagHighz s
  | .jtagDap => Sys2Proof.Machine.execJtagDap s
  | .jtagBypass => Sys2Proof.Machine.execJtagBypass s
  | .dapWrite off w => Sys2Proof.Machine.execDapWrite off w s
  | .dapTdHalt c => Sys2Proof.Machine.execDapTdHalt c s
  | .dapTdStep c => Sys2Proof.Machine.execDapTdStep c s
  | .dapTdResume c => Sys2Proof.Machine.execDapTdResume c s
  | .sramEccScrub w addr two fg => Sys2Proof.Machine.execSramEccScrub w addr two fg s
  | .eccWriteBack => Sys2Proof.Machine.execEccWriteBack s
  | .telemetrySample t => Sys2Proof.Machine.execTelemetrySample t s
  | .wearAccounting => Sys2Proof.Machine.execWearAccounting s
  | .encoderLineHealth e glitch spread => Sys2Proof.Machine.execEncoderLineHealth e glitch spread s
  | .logbookCompaction part bytes => Sys2Proof.Machine.execLogbookCompaction part bytes s
  | .backgroundTaskLate task => Sys2Proof.Machine.execBackgroundTaskLate task s
  | .thermalWarn => Sys2Proof.Machine.execThermalWarn s
  | .thermalThrottle => Sys2Proof.Machine.execThermalThrottle s
  | .thermalStop => Sys2Proof.Machine.execThermalStop s
  | .thermalStoenHold => Sys2Proof.Machine.execThermalStoenHold s
  | .thermalShutdown straps => Sys2Proof.Machine.execThermalShutdown straps s
  | .thermalLevelExit => Sys2Proof.Machine.execThermalLevelExit s
  | .supervisorWatchdogService sup1 => Sys2Proof.Machine.execSupervisorWatchdogService sup1 s
  | .wedge c => Sys2Proof.Machine.execWedge c s
  | .wedgeWarmReset => Sys2Proof.Machine.execWedgeWarmReset s
  | .squallConfig p => Sys2Proof.Machine.execSquallConfig p s
  | .squallArm p => Sys2Proof.Machine.execSquallArm p s
  | .squallDurationExpiry => Sys2Proof.Machine.execSquallDurationExpiry s
  | .selfTest p => Sys2Proof.Machine.execSelfTest p s
  | .pllRelock p => Sys2Proof.Machine.execPllRelock p s
  | .fieldLogicSupplyReturn k => Sys2Proof.Machine.execFieldLogicSupplyReturn k s
  | .modulatorClockReturn k => Sys2Proof.Machine.execModulatorClockReturn k s
  | .quadratureEdge e a b => Sys2Proof.Machine.execQuadratureEdge e a b s
  | .switchingSignalEdge l slope2 => Sys2Proof.Machine.execSwitchingSignalEdge l slope2 s
  | .reloadPoint n tb1 => Sys2Proof.Machine.execReloadPoint n tb1 s
  | .canArbitration c stamp => Sys2Proof.Machine.execCanArbitration c stamp s
  | .canReceiveError c e more => Sys2Proof.Machine.execCanReceiveError c e more s
  | .nandOperationComplete e => Sys2Proof.Machine.execNandOperationComplete e s
  | .hostLowerWordRead x => Sys2Proof.Machine.execHostLowerWordRead x s
  | .msixVectorUnmask v => Sys2Proof.Machine.execMsixVectorUnmask v s
  | .pairHbiEdge => Sys2Proof.Machine.execPairHbiEdge s
  | .heartbeatPathLost pin => Sys2Proof.Machine.execHeartbeatPathLost pin s

end Sys2Proof.Machine
end

