-- ==== Sys2Proof/Laws/State.lean ====
section
/-!
SUPPORT. What each update of the device leaves alone: one lemma for each field and each update, true by unfolding.
-/

namespace Sys2Proof.Machine

/-! ### A register is written -/

@[simp] theorem Dev.wr_time (d : Dev) (o : Nat) (w : Word) : (d.wr o w).time = d.time := rfl
@[simp] theorem Dev.wr_rate (d : Dev) (o : Nat) (w : Word) : (d.wr o w).rate = d.rate := rfl
@[simp] theorem Dev.wr_stepped (d : Dev) (o : Nat) (w : Word) : (d.wr o w).stepped = d.stepped := rfl
@[simp] theorem Dev.wr_raised (d : Dev) (o : Nat) (w : Word) : (d.wr o w).raised = d.raised := rfl
@[simp] theorem Dev.wr_fresh (d : Dev) (o : Nat) (w : Word) : (d.wr o w).fresh = d.fresh := rfl
@[simp] theorem Dev.wr_latches (d : Dev) (o : Nat) (w : Word) : (d.wr o w).latches = d.latches := rfl
@[simp] theorem Dev.wr_cmd (d : Dev) (o : Nat) (w : Word) : (d.wr o w).cmd = d.cmd := rfl
@[simp] theorem Dev.wr_axes (d : Dev) (o : Nat) (w : Word) : (d.wr o w).axes = d.axes := rfl
@[simp] theorem Dev.wr_ip (d : Dev) (o : Nat) (w : Word) : (d.wr o w).ip = d.ip := rfl
@[simp] theorem Dev.wr_ce (d : Dev) (o : Nat) (w : Word) : (d.wr o w).ce = d.ce := rfl
@[simp] theorem Dev.wr_cfe (d : Dev) (o : Nat) (w : Word) : (d.wr o w).cfe = d.cfe := rfl
@[simp] theorem Dev.wr_pwm (d : Dev) (o : Nat) (w : Word) : (d.wr o w).pwm = d.pwm := rfl
@[simp] theorem Dev.wr_enc (d : Dev) (o : Nat) (w : Word) : (d.wr o w).enc = d.enc := rfl
@[simp] theorem Dev.wr_td (d : Dev) (o : Nat) (w : Word) : (d.wr o w).td = d.td := rfl
@[simp] theorem Dev.wr_evr (d : Dev) (o : Nat) (w : Word) : (d.wr o w).evr = d.evr := rfl
@[simp] theorem Dev.wr_faultLog (d : Dev) (o : Nat) (w : Word) : (d.wr o w).faultLog = d.faultLog := rfl
@[simp] theorem Dev.wr_bulk (d : Dev) (o : Nat) (w : Word) : (d.wr o w).bulk = d.bulk := rfl
@[simp] theorem Dev.wr_trace (d : Dev) (o : Nat) (w : Word) : (d.wr o w).trace = d.trace := rfl
@[simp] theorem Dev.wr_snap (d : Dev) (o : Nat) (w : Word) : (d.wr o w).snap = d.snap := rfl
@[simp] theorem Dev.wr_safety (d : Dev) (o : Nat) (w : Word) : (d.wr o w).safety = d.safety := rfl
@[simp] theorem Dev.wr_trv (d : Dev) (o : Nat) (w : Word) : (d.wr o w).trv = d.trv := rfl
@[simp] theorem Dev.wr_servoNs (d : Dev) (o : Nat) (w : Word) : (d.wr o w).servoNs = d.servoNs := rfl
@[simp] theorem Dev.wr_can (d : Dev) (o : Nat) (w : Word) : (d.wr o w).can = d.can := rfl
@[simp] theorem Dev.wr_clocks (d : Dev) (o : Nat) (w : Word) : (d.wr o w).clocks = d.clocks := rfl
@[simp] theorem Dev.wr_field (d : Dev) (o : Nat) (w : Word) : (d.wr o w).field = d.field := rfl
@[simp] theorem Dev.wr_pair (d : Dev) (o : Nat) (w : Word) : (d.wr o w).pair = d.pair := rfl
@[simp] theorem Dev.wr_store (d : Dev) (o : Nat) (w : Word) : (d.wr o w).store = d.store := rfl
@[simp] theorem Dev.wr_sec (d : Dev) (o : Nat) (w : Word) : (d.wr o w).sec = d.sec := rfl
@[simp] theorem Dev.wr_bg (d : Dev) (o : Nat) (w : Word) : (d.wr o w).bg = d.bg := rfl
@[simp] theorem Dev.wr_boot (d : Dev) (o : Nat) (w : Word) : (d.wr o w).boot = d.boot := rfl
@[simp] theorem Dev.wr_ticked (d : Dev) (o : Nat) (w : Word) : (d.wr o w).ticked = d.ticked := rfl
@[simp] theorem Dev.wr_readOut (d : Dev) (o : Nat) (w : Word) : (d.wr o w).readOut = d.readOut := rfl
@[simp] theorem Dev.wr_tickDue (d : Dev) (o : Nat) (w : Word) : (d.wr o w).tickDue = d.tickDue := rfl

/-! ### A source is raised -/

@[simp] theorem Dev.raise_regs (d : Dev) (s : Nat) : (d.raise s).regs = d.regs := rfl
@[simp] theorem Dev.raise_time (d : Dev) (s : Nat) : (d.raise s).time = d.time := rfl
@[simp] theorem Dev.raise_rate (d : Dev) (s : Nat) : (d.raise s).rate = d.rate := rfl
@[simp] theorem Dev.raise_stepped (d : Dev) (s : Nat) : (d.raise s).stepped = d.stepped := rfl
@[simp] theorem Dev.raise_fresh (d : Dev) (s : Nat) : (d.raise s).fresh = d.fresh := rfl
@[simp] theorem Dev.raise_latches (d : Dev) (s : Nat) : (d.raise s).latches = d.latches := rfl
@[simp] theorem Dev.raise_cmd (d : Dev) (s : Nat) : (d.raise s).cmd = d.cmd := rfl
@[simp] theorem Dev.raise_axes (d : Dev) (s : Nat) : (d.raise s).axes = d.axes := rfl
@[simp] theorem Dev.raise_ip (d : Dev) (s : Nat) : (d.raise s).ip = d.ip := rfl
@[simp] theorem Dev.raise_ce (d : Dev) (s : Nat) : (d.raise s).ce = d.ce := rfl
@[simp] theorem Dev.raise_cfe (d : Dev) (s : Nat) : (d.raise s).cfe = d.cfe := rfl
@[simp] theorem Dev.raise_pwm (d : Dev) (s : Nat) : (d.raise s).pwm = d.pwm := rfl
@[simp] theorem Dev.raise_enc (d : Dev) (s : Nat) : (d.raise s).enc = d.enc := rfl
@[simp] theorem Dev.raise_td (d : Dev) (s : Nat) : (d.raise s).td = d.td := rfl
@[simp] theorem Dev.raise_evr (d : Dev) (s : Nat) : (d.raise s).evr = d.evr := rfl
@[simp] theorem Dev.raise_faultLog (d : Dev) (s : Nat) : (d.raise s).faultLog = d.faultLog := rfl
@[simp] theorem Dev.raise_bulk (d : Dev) (s : Nat) : (d.raise s).bulk = d.bulk := rfl
@[simp] theorem Dev.raise_trace (d : Dev) (s : Nat) : (d.raise s).trace = d.trace := rfl
@[simp] theorem Dev.raise_snap (d : Dev) (s : Nat) : (d.raise s).snap = d.snap := rfl
@[simp] theorem Dev.raise_safety (d : Dev) (s : Nat) : (d.raise s).safety = d.safety := rfl
@[simp] theorem Dev.raise_trv (d : Dev) (s : Nat) : (d.raise s).trv = d.trv := rfl
@[simp] theorem Dev.raise_servoNs (d : Dev) (s : Nat) : (d.raise s).servoNs = d.servoNs := rfl
@[simp] theorem Dev.raise_can (d : Dev) (s : Nat) : (d.raise s).can = d.can := rfl
@[simp] theorem Dev.raise_clocks (d : Dev) (s : Nat) : (d.raise s).clocks = d.clocks := rfl
@[simp] theorem Dev.raise_field (d : Dev) (s : Nat) : (d.raise s).field = d.field := rfl
@[simp] theorem Dev.raise_pair (d : Dev) (s : Nat) : (d.raise s).pair = d.pair := rfl
@[simp] theorem Dev.raise_store (d : Dev) (s : Nat) : (d.raise s).store = d.store := rfl
@[simp] theorem Dev.raise_sec (d : Dev) (s : Nat) : (d.raise s).sec = d.sec := rfl
@[simp] theorem Dev.raise_bg (d : Dev) (s : Nat) : (d.raise s).bg = d.bg := rfl
@[simp] theorem Dev.raise_boot (d : Dev) (s : Nat) : (d.raise s).boot = d.boot := rfl
@[simp] theorem Dev.raise_ticked (d : Dev) (s : Nat) : (d.raise s).ticked = d.ticked := rfl
@[simp] theorem Dev.raise_readOut (d : Dev) (s : Nat) : (d.raise s).readOut = d.readOut := rfl
@[simp] theorem Dev.raise_tickDue (d : Dev) (s : Nat) : (d.raise s).tickDue = d.tickDue := rfl
@[simp] theorem Dev.raise_raised (d : Dev) (s : Nat) : (d.raise s).raised = d.raised ++ [s] := rfl

/-! ### The counter of free values advances -/

@[simp] theorem Dev.nextFresh_regs (d : Dev) : (d.nextFresh).regs = d.regs := rfl
@[simp] theorem Dev.nextFresh_time (d : Dev) : (d.nextFresh).time = d.time := rfl
@[simp] theorem Dev.nextFresh_rate (d : Dev) : (d.nextFresh).rate = d.rate := rfl
@[simp] theorem Dev.nextFresh_stepped (d : Dev) : (d.nextFresh).stepped = d.stepped := rfl
@[simp] theorem Dev.nextFresh_raised (d : Dev) : (d.nextFresh).raised = d.raised := rfl
@[simp] theorem Dev.nextFresh_latches (d : Dev) : (d.nextFresh).latches = d.latches := rfl
@[simp] theorem Dev.nextFresh_cmd (d : Dev) : (d.nextFresh).cmd = d.cmd := rfl
@[simp] theorem Dev.nextFresh_axes (d : Dev) : (d.nextFresh).axes = d.axes := rfl
@[simp] theorem Dev.nextFresh_ip (d : Dev) : (d.nextFresh).ip = d.ip := rfl
@[simp] theorem Dev.nextFresh_ce (d : Dev) : (d.nextFresh).ce = d.ce := rfl
@[simp] theorem Dev.nextFresh_cfe (d : Dev) : (d.nextFresh).cfe = d.cfe := rfl
@[simp] theorem Dev.nextFresh_pwm (d : Dev) : (d.nextFresh).pwm = d.pwm := rfl
@[simp] theorem Dev.nextFresh_enc (d : Dev) : (d.nextFresh).enc = d.enc := rfl
@[simp] theorem Dev.nextFresh_td (d : Dev) : (d.nextFresh).td = d.td := rfl
@[simp] theorem Dev.nextFresh_evr (d : Dev) : (d.nextFresh).evr = d.evr := rfl
@[simp] theorem Dev.nextFresh_faultLog (d : Dev) : (d.nextFresh).faultLog = d.faultLog := rfl
@[simp] theorem Dev.nextFresh_bulk (d : Dev) : (d.nextFresh).bulk = d.bulk := rfl
@[simp] theorem Dev.nextFresh_trace (d : Dev) : (d.nextFresh).trace = d.trace := rfl
@[simp] theorem Dev.nextFresh_snap (d : Dev) : (d.nextFresh).snap = d.snap := rfl
@[simp] theorem Dev.nextFresh_safety (d : Dev) : (d.nextFresh).safety = d.safety := rfl
@[simp] theorem Dev.nextFresh_trv (d : Dev) : (d.nextFresh).trv = d.trv := rfl
@[simp] theorem Dev.nextFresh_servoNs (d : Dev) : (d.nextFresh).servoNs = d.servoNs := rfl
@[simp] theorem Dev.nextFresh_can (d : Dev) : (d.nextFresh).can = d.can := rfl
@[simp] theorem Dev.nextFresh_clocks (d : Dev) : (d.nextFresh).clocks = d.clocks := rfl
@[simp] theorem Dev.nextFresh_field (d : Dev) : (d.nextFresh).field = d.field := rfl
@[simp] theorem Dev.nextFresh_pair (d : Dev) : (d.nextFresh).pair = d.pair := rfl
@[simp] theorem Dev.nextFresh_store (d : Dev) : (d.nextFresh).store = d.store := rfl
@[simp] theorem Dev.nextFresh_sec (d : Dev) : (d.nextFresh).sec = d.sec := rfl
@[simp] theorem Dev.nextFresh_bg (d : Dev) : (d.nextFresh).bg = d.bg := rfl
@[simp] theorem Dev.nextFresh_boot (d : Dev) : (d.nextFresh).boot = d.boot := rfl
@[simp] theorem Dev.nextFresh_ticked (d : Dev) : (d.nextFresh).ticked = d.ticked := rfl
@[simp] theorem Dev.nextFresh_readOut (d : Dev) : (d.nextFresh).readOut = d.readOut := rfl
@[simp] theorem Dev.nextFresh_tickDue (d : Dev) : (d.nextFresh).tickDue = d.tickDue := rfl
@[simp] theorem Dev.nextFresh_fresh (d : Dev) : d.nextFresh.fresh = d.fresh + 1 := rfl

/-! ### The two fields of State -/

@[simp] theorem State.onAll_eq (s : State) (f : Dev → Dev) : s.onAll f = .next { s with dev := f s.dev } := rfl

@[simp] theorem State.reset_pending : State.reset.pending = [] := rfl
@[simp] theorem State.reset_regs : State.reset.dev.regs = [] := rfl
@[simp] theorem State.reset_bulk : State.reset.dev.bulk = [] := rfl

end Sys2Proof.Machine
end

