-- ==== Sys2Proof/Laws/Tab.lean ====
section
/-!
SUPPORT. Laws of the sparse tables: a read after a write, the canonical form, and that every operation keeps it.
-/

namespace Sys2Proof.Machine

variable {α : Type}

theorem tabGetD_erase_ne (dflt : Nat → α) (t : Tab α) {k j : Nat} (h : j ≠ k) : tabGetD dflt (tabErase t k) j = tabGetD dflt t j := by
  induction t with
  | nil => rfl
  | cons e r ih =>
    obtain ⟨i, v⟩ := e
    by_cases hi : i = k
    · have : i ≠ j := fun x => h (x.symm.trans hi)
      simp [tabErase, tabGetD, hi, ih]
      intro x; exact absurd (x ▸ hi.symm ▸ rfl : i = j) this
    · simp [tabErase, tabGetD, hi, ih]

theorem tabGetD_erase_self (dflt : Nat → α) (t : Tab α) (k : Nat) : tabGetD dflt (tabErase t k) k = dflt k := by
  induction t with
  | nil => rfl
  | cons e r ih =>
    obtain ⟨i, v⟩ := e
    by_cases hi : i = k <;> simp [tabErase, tabGetD, hi, ih]

theorem tabGetD_insert_ne (dflt : Nat → α) (t : Tab α) {k j : Nat} (v : α) (h : j ≠ k) :
    tabGetD dflt (tabInsert t k v) j = tabGetD dflt t j := by
  induction t with
  | nil => simp [tabInsert, tabGetD, Ne.symm h]
  | cons e r ih =>
    obtain ⟨i, u⟩ := e
    by_cases hk : k < i <;> simp [tabInsert, tabGetD, hk, ih, Ne.symm h]

theorem tabGetD_insert_erase (dflt : Nat → α) (t : Tab α) (k : Nat) (v : α) :
    tabGetD dflt (tabInsert (tabErase t k) k v) k = v := by
  induction t with
  | nil => simp [tabErase, tabInsert, tabGetD]
  | cons e r ih =>
    obtain ⟨i, u⟩ := e
    by_cases hi : i = k
    · simp [tabErase, hi, ih]
    · by_cases hk : k < i <;> simp [tabErase, tabInsert, tabGetD, hi, hk, ih]

/-- A number reads as it was last written. -/
@[simp] theorem tabGetD_set_self [DecidableEq α] (dflt : Nat → α) (t : Tab α) (k : Nat) (v : α) :
    tabGetD dflt (tabSetD dflt t k v) k = v := by
  unfold tabSetD
  split
  · next h => rw [tabGetD_erase_self, h]
  · exact tabGetD_insert_erase dflt t k v

/-- A write leaves every other number alone. -/
theorem tabGetD_set_ne [DecidableEq α] (dflt : Nat → α) (t : Tab α) {k j : Nat} (v : α) (h : j ≠ k) :
    tabGetD dflt (tabSetD dflt t k v) j = tabGetD dflt t j := by
  unfold tabSetD
  split
  · exact tabGetD_erase_ne dflt t h
  · rw [tabGetD_insert_ne dflt _ v h, tabGetD_erase_ne dflt t h]

theorem tabWfFrom_mono [DecidableEq α] (dflt : Nat → α) {lo lo' : Nat} (t : Tab α) (h : tabWfFrom dflt lo t = true) (hl : lo' ≤ lo) :
    tabWfFrom dflt lo' t = true := by
  cases t with
  | nil => rfl
  | cons e r =>
    obtain ⟨i, v⟩ := e
    simp only [tabWfFrom, Bool.and_eq_true, decide_eq_true_eq] at h ⊢
    exact ⟨⟨hl.trans h.1.1, h.1.2⟩, h.2⟩

theorem tabWfFrom_erase [DecidableEq α] (dflt : Nat → α) (k : Nat) (t : Tab α) :
    ∀ lo, tabWfFrom dflt lo t = true → tabWfFrom dflt lo (tabErase t k) = true := by
  induction t with
  | nil => intro lo _; rfl
  | cons e r ih =>
    obtain ⟨i, v⟩ := e
    intro lo h
    simp only [tabWfFrom, Bool.and_eq_true, decide_eq_true_eq] at h
    by_cases hi : i = k
    · simp only [tabErase, hi, if_true]
      exact tabWfFrom_mono dflt _ (ih _ h.2) (h.1.1.trans (Nat.le_succ i))
    · simp only [tabErase, hi, if_false, tabWfFrom, Bool.and_eq_true, decide_eq_true_eq]
      exact ⟨h.1, ih _ h.2⟩

theorem tabWfFrom_insert [DecidableEq α] (dflt : Nat → α) (k : Nat) (v : α) (hv : v ≠ dflt k) (t : Tab α) :
    ∀ lo, lo ≤ k → tabGetD dflt t k = dflt k → tabWfFrom dflt lo t = true → tabWfFrom dflt lo (tabInsert t k v) = true := by
  induction t with
  | nil => intro lo hl _ _; simp [tabInsert, tabWfFrom, hl, hv]
  | cons e r ih =>
    obtain ⟨i, u⟩ := e
    intro lo hl hg h
    simp only [tabWfFrom, Bool.and_eq_true, decide_eq_true_eq] at h
    by_cases hk : k < i
    · simp only [tabInsert, hk, if_true, tabWfFrom, Bool.and_eq_true, decide_eq_true_eq]
      exact ⟨⟨hl, hv⟩, ⟨⟨hk, h.1.2⟩, h.2⟩⟩
    · have hne : i ≠ k := by
        intro x
        rw [x] at hg h
        simp only [tabGetD, if_true] at hg
        exact h.1.2 hg
      have hik : i + 1 ≤ k := by omega
      simp only [tabGetD, hne, if_false] at hg
      simp only [tabInsert, hk, if_false, tabWfFrom, Bool.and_eq_true, decide_eq_true_eq]
      exact ⟨h.1, ih _ hik hg h.2⟩

/-- A write keeps the canonical form. -/
theorem tabWf_set [DecidableEq α] (dflt : Nat → α) (t : Tab α) (k : Nat) (v : α) (h : tabWf dflt t = true) :
    tabWf dflt (tabSetD dflt t k v) = true := by
  unfold tabWf tabSetD at *
  split
  · exact tabWfFrom_erase dflt k t 0 h
  · next hv =>
    exact tabWfFrom_insert dflt k v hv _ 0 (Nat.zero_le k) (tabGetD_erase_self dflt t k) (tabWfFrom_erase dflt k t 0 h)

@[simp] theorem tabGet_set_self [Inhabited α] [DecidableEq α] (t : Tab α) (k : Nat) (v : α) : tabGet (tabSet t k v) k = v :=
  tabGetD_set_self _ t k v

theorem tabGet_set_ne [Inhabited α] [DecidableEq α] (t : Tab α) {k j : Nat} (v : α) (h : j ≠ k) : tabGet (tabSet t k v) j = tabGet t j :=
  tabGetD_set_ne _ t v h

end Sys2Proof.Machine
end

