-- ==== Sys2Proof/WellFormed.lean ====
section
/-!
DEFINITION. Which commands are well formed: the operands that the outside world can deliver.
-/

namespace Sys2Proof

/-- A write that reaches BAR0 or BAR2 (R30, R12): inside REGWIN or BULKWIN. -/
def HostWrite.wellFormed (x : HostWrite) : Bool :=
  match x with
  | .w32 off _ | .clash off _ _ => decide (off < 0x400000)
  | .w64 off _ _ => decide (off < 0x400000)
  | .narrow off => decide (off < 0x400000)
  | .bulk off l => decide (off + l.length ≤ 0x4000000)
  | .msix _ _ _ => true

/-- A read inside REGWIN, BULKWIN or BAR4, of 1, 2, 4 or 8 naturally aligned bytes of a register window (R12). -/
def HostRead.wellFormed (x : HostRead) : Bool :=
  match x with
  | .reg off n => (n = 1 || n = 2 || n = 4 || n = 8) && off % n = 0 && decide (off + n ≤ 0x400000)
  | .bulk off n => decide (off + n ≤ 0x4000000)
  | .msix off n => (n = 4 || n = 8) && off % n = 0 && decide (off + n ≤ 0x2000)

/-- A command is well formed: its operands are ones that the outside can deliver.  A command without a line here has operands whose types admit
no others. -/
def Instr.wellFormed (i : Instr) : Bool :=
  match i with
  | .canFrameReceive _ f _ => Machine.canFrameOk f
  | .hostRegisterWrite x => x.wellFormed
  | .hostLowerWordRead x => x.wellFormed
  | .dapWrite off _ => decide (off < 0x400000)
  | _ => true

end Sys2Proof
end

