-- ==== Sys2Proof/Safety.lean ====
section
/-!
DEFINITION. What counts as a safe run, in the terms that the statements use.
-/

namespace Sys2Proof

open Sys2Proof.Machine

/-- The answer is a next state. -/
def IsNext (o : Out) : Prop := ∃ t, o = .next t

/-- The motion die runs: the island does not hold it in reset (R492). -/
abbrev Running (s : State) : Prop := s.dev.heldInReset = false

/-- Every waiting command is well formed. -/
def QueueOk (s : State) : Prop := ∀ c ∈ s.pending, c.wellFormed = true

/-- Every table of registers and bytes has its one canonical form. -/
def MemoryOk (s : State) : Prop := tabWf resetWord s.dev.regs = true ∧ tabWf (fun _ => (default : Byte)) s.dev.bulk = true

/-- The command answers the next state in which the device is what `f` makes of it, and the queue is as it was. -/
def Effect (i : Instr) (s : State) (f : Dev → Dev) : Prop := exec i s = .next { s with dev := f s.dev }

/-- The device in which a packet has started (R51). -/
def started (p : Packet) (d : Dev) : Dev := d.modAccepted p fun a => { a with started := true }

/-- The device after the run of an opcode: the command has completed with its final reply, or it runs on until what it waits for has
happened (R57, R104). -/
def ended (p : Packet) (e : OpEnd) : Dev :=
  match e with
  | .done d st det pay => d.finish p st det pay
  | .wait d [] pay => d.finish p 0 0 pay
  | .wait d ws pay => d.modAccepted p fun a => { a with waits := ws, pay := pay }
  | .waitAll d [] st det _ pay => d.finish p st det pay
  | .waitAll d ws st det ix pay => d.modAccepted p fun a => { a with waits := ws, status := st, detail := det, failIx := ix, pay := pay }

/-- A command packet that may start and passes its checks runs its opcode: the next state is the one that the run leaves. -/
def Runs (i : Instr) (code : Nat) (o : OpSpec) (p : Packet) : Prop :=
  ∀ s : State, Running s → s.dev.runsNow code o p = true → Effect i s fun d => ended p (o.run (started p d) p)

/-- A command starts the chain that its packet begins: when the packet may start, the members start together if none of them fails on the
state as it is by then, and otherwise every one ends with its own failure or with CHAIN_REJECTED (R56). -/
def Chains (i : Instr) (code : Nat) (p : Packet) : Prop :=
  ∀ s : State, Running s → opNum p = code → s.dev.canStart p = true → 1 < (chainOf s.dev.cmd.accepted p).length →
    ((s.dev.chainFails (chainOf s.dev.cmd.accepted p)).all Option.isNone = true →
      Effect i s fun d => d.startChain (chainOf d.cmd.accepted p)) ∧
    ((s.dev.chainFails (chainOf s.dev.cmd.accepted p)).all Option.isNone = false →
      Effect i s fun d => d.rejectChain (chainOf d.cmd.accepted p) (d.chainFails (chainOf d.cmd.accepted p)))

/-- A Transit DSP core is about to issue the bundle with `mo` in slot M and `lo` in slot L: it is RUNNING, those are the words of its
next bundle, and nothing faults it (R262, R297). -/
abbrev CanIssue (d : Dev) (c : Nat) (mo : MOp) (lo : LOp) : Prop :=
  d.tdState c = 2 ∧ d.bundle c (d.core c).f0.addr = (encM mo, encL lo) ∧ (d.tdCommit c).tdFaultOf c (some mo) (some lo) = none

/-- A command runs its bundle when its core is about to issue it: what earlier stages have to write is committed, and the bundle
executes. -/
def Issues (i : Instr) (c : Nat) (mo : MOp) (lo : LOp) : Prop :=
  ∀ s : State, Running s → CanIssue s.dev c mo lo → Effect i s fun d => (d.tdCommit c).tdExec c mo lo

/-- The command acts on the motion die: not on the island, a field die or a safety channel, which go on while the die is held in reset
(R492, R493). -/
def Instr.onMotionDie (i : Instr) : Bool :=
  match i with
  | .coldReset _
  | .vddMonitorTrip
  | .fieldDieDownstreamReceive _ _ _
  | .linkFrameMissing _ _
  | .fieldDieFallback _
  | .linkRecover _ _
  | .groupUndervoltage _
  | .groupUvRecover _
  | .fieldLogicSupplyLoss _
  | .groupOvercurrent _
  | .fieldInputChange _ _
  | .wireBreak _
  | .wireBreakClear _
  | .outputOverload _
  | .outputThermalOff _
  | .outputThermalRestart _
  | .outputOffDiagnosis _ _
  | .safetyLatch _
  | .safetyDecision _
  | .safetyCompareFault _
  | .safetyMessageMissing _
  | .stoenBFrameLoss
  | .safetyInputFilter _ _ _
  | .pairDiscrepancy _ _
  | .resetInputPulse _ _
  | .testPulse _ _ _ _ _ _
  | .soTestPulse _ _
  | .ss1DelayExpiry _
  | .safetyStartup _
  | .safetyStartupTestComplete _
  | .journalFlush _ _ _
  | .backupEntry _
  | .backupEnd _
  | .vauxLoss
  | .vauxReturn
  | .islandStop
  | .vbakLow
  | .unlockLockoutEnd
  | .fieldLogicSupplyReturn _ => false
  | _ => true

/-- A command packet that may start and fails a check has no effect but its reply with the check's status. -/
def Fails (i : Instr) (code : Nat) (o : OpSpec) (p : Packet) : Prop :=
  ∀ (s : State) (st det : Nat), Running s → opNum p = code → s.dev.canStart p = true → (started p s.dev).opCheck o p = some (st, det) →
    Effect i s fun d => (started p d).finish p st det ((started p d).errPay st)

end Sys2Proof
end

