-- ==== Sys2Proof/Laws/Ops.lean ====
section
/-!
SUPPORT. Laws of the shared operations: what a register reads as after a write, which registers a write leaves alone, that every
operation keeps the canonical form of the register file, and when a meaning of the motion die answers.
-/

namespace Sys2Proof.Machine

open Sys2Proof

/-! ### Registers -/

@[simp] theorem Dev.rd_wr (d : Dev) (o : Nat) (w : Word) : (d.wr o w).rd o = w := tabGetD_set_self _ _ _ _

theorem Dev.rd_wr_ne (d : Dev) {o p : Nat} (w : Word) (h : p ≠ o) : (d.wr o w).rd p = d.rd p := tabGetD_set_ne _ _ _ h

@[simp] theorem Dev.rd_raise (d : Dev) (s o : Nat) : (d.raise s).rd o = d.rd o := rfl

@[simp] theorem Dev.fg_raise (d : Dev) (s o : Nat) (f : Fld) : (d.raise s).fg o f = d.fg o f := rfl

/-- A field of at most one word writes its register and no other. -/
theorem Dev.fs_word (d : Dev) (o : Nat) (f : Fld) (v : Nat) (h : f.lo + f.w ≤ 32) : d.fs o f v = d.wr o (fldSet (d.rd o) f v) := by
  simp [Dev.fs, h]

theorem Dev.rd_fs_ne (d : Dev) {o p : Nat} (f : Fld) (v : Nat) (h : f.lo + f.w ≤ 32) (hp : p ≠ o) : (d.fs o f v).rd p = d.rd p := by
  rw [Dev.fs_word d o f v h, Dev.rd_wr_ne d _ hp]

/-- A field of a word holds what was put into it. -/
theorem fldGet_set (w : Word) (f : Fld) (v : Nat) (h : f.lo + f.w ≤ 32) : fldGet (fldSet w f v) f = v % 2 ^ f.w := by
  apply Nat.eq_of_testBit_eq
  intro i
  unfold fldGet
  rw [Nat.testBit_mod_two_pow, Nat.testBit_shiftRight, BitVec.testBit_toNat, Nat.testBit_mod_two_pow]
  by_cases hi : i < f.w
  · have h1 : f.lo + i < 32 := by omega
    have h3 : ¬ f.lo + i < f.lo := by omega
    have h4 : f.lo + i - f.lo = i := by omega
    have h5 : i < 32 := by omega
    simp only [fldSet, BitVec.getLsbD_or, BitVec.getLsbD_and, BitVec.getLsbD_not, BitVec.getLsbD_shiftLeft, BitVec.getLsbD_ofNat,
      Nat.testBit_two_pow_sub_one, Nat.testBit_mod_two_pow, hi, h1, h3, h4, h5]
    simp
  · simp [hi]

@[simp] theorem Dev.fg_fs (d : Dev) (o : Nat) (f : Fld) (v : Nat) (h : f.lo + f.w ≤ 32) : (d.fs o f v).fg o f = v % 2 ^ f.w := by
  rw [Dev.fs_word d o f v h]
  simp only [Dev.fg, h, if_true, Dev.rd_wr]
  exact fldGet_set _ f v h

/-! ### The canonical form -/

/-- The register file has its canonical form. -/
def Dev.regsOk (d : Dev) : Prop := tabWf resetWord d.regs = true

theorem Dev.regsOk_wr (d : Dev) (o : Nat) (w : Word) (h : d.regsOk) : (d.wr o w).regsOk := tabWf_set _ _ _ _ h

theorem Dev.regsOk_wr64 (d : Dev) (o v : Nat) (h : d.regsOk) : (d.wr64 o v).regsOk := Dev.regsOk_wr _ _ _ (Dev.regsOk_wr _ _ _ h)

theorem Dev.regsOk_fs (d : Dev) (o : Nat) (f : Fld) (v : Nat) (h : d.regsOk) : (d.fs o f v).regsOk := by
  unfold Dev.fs
  split
  · exact Dev.regsOk_wr _ _ _ h
  · split
    · exact Dev.regsOk_wr _ _ _ h
    · exact Dev.regsOk_wr64 _ _ _ h

theorem Dev.regsOk_fsb (d : Dev) (o : Nat) (f : Fld) (b : Bool) (h : d.regsOk) : (d.fsb o f b).regsOk := Dev.regsOk_fs _ _ _ _ h

theorem Dev.regsOk_setBit (d : Dev) (o k : Nat) (b : Bool) (h : d.regsOk) : (d.setBit o k b).regsOk := Dev.regsOk_fs _ _ _ _ h

theorem Dev.regsOk_satInc (d : Dev) (o : Nat) (f : Fld) (h : d.regsOk) : (d.satInc o f).regsOk := Dev.regsOk_fs _ _ _ _ h

theorem Dev.regsOk_wrapInc (d : Dev) (o : Nat) (f : Fld) (h : d.regsOk) : (d.wrapInc o f).regsOk := Dev.regsOk_fs _ _ _ _ h

theorem Dev.regsOk_raise (d : Dev) (s : Nat) (h : d.regsOk) : (d.raise s).regsOk := h

/-- Each change of a list keeps the form, so the changes together do. -/
theorem Dev.regsOk_each (d : Dev) (l : List Nat) (f : Dev → Nat → Dev) (hf : ∀ d k, d.regsOk → (f d k).regsOk) (h : d.regsOk) :
    (d.each l f).regsOk := by
  unfold Dev.each
  induction l generalizing d with
  | nil => exact h
  | cons k r ih => exact ih (f d k) (hf d k h)

theorem State.reset_memoryOk : MemoryOk State.reset := ⟨rfl, rfl⟩

/-! ### BULKWIN -/

/-- The bytes of BULKWIN have their canonical form. -/
def Dev.bulkOk (d : Dev) : Prop := tabWf (fun _ => (default : Byte)) d.bulk = true

theorem Dev.bulkOk_setByte (d : Dev) (o : Nat) (b : Byte) (h : d.bulkOk) : (d.setBulkByte o b).bulkOk := tabWf_set _ _ _ _ h

theorem Dev.bulk_setByte_self (d : Dev) (o : Nat) (b : Byte) : tabGet (d.setBulkByte o b).bulk o = b := tabGet_set_self _ _ _

theorem Dev.bulk_setByte_ne (d : Dev) {o p : Nat} (b : Byte) (h : p ≠ o) : tabGet (d.setBulkByte o b).bulk p = tabGet d.bulk p :=
  tabGet_set_ne _ _ h

/-! ### Meanings of the motion die -/

/-- While the motion die runs, a meaning of the motion die takes effect. -/
theorem State.onDev_running (s : State) (f : Dev → Dev) (h : Running s) : s.onDev f = .next { s with dev := f s.dev } := by
  simp only [State.onDev, State.onAll, Running] at *
  simp [h]

/-- While the die is held in reset, nothing happens. -/
theorem State.onDev_held (s : State) (f : Dev → Dev) (h : s.dev.heldInReset = true) : s.onDev f = .next s := by
  simp [State.onDev, State.onAll, h]

end Sys2Proof.Machine
end

