-- ==== Sys2Proof/Laws/Cmd.lean ====
section
/-!
SUPPORT. What the shared course of a command packet can do, and what its final reply does to the command executive.
-/

namespace Sys2Proof.Machine

open Sys2Proof

/-- A packet of another opcode, or one that may not start, changes nothing. -/
theorem Dev.runOp_waits (d : Dev) (code : Nat) (o : OpSpec) (p : Packet) (h : opNum p ≠ code ∨ d.canStart p = false) :
    d.runOp code o p = d := by
  unfold Dev.runOp
  rcases h with h | h <;> simp [h]

/-- A packet that may start and fails a check completes with the check's status and detail. -/
theorem Dev.runOp_fails (d : Dev) (code : Nat) (o : OpSpec) (p : Packet) (st det : Nat) (hc : opNum p = code)
    (hs : d.canStart p = true) (hf : (started p d).opCheck o p = some (st, det)) :
    d.runOp code o p = (started p d).finish p st det ((started p d).errPay st) := by
  unfold Dev.runOp Dev.startOp
  unfold started at *
  simp [hc, hs, hf]

/-- Outside RECOVERY an opcode's own check stands (R78). -/
theorem Dev.recoveryFail_out (d : Dev) (p : Packet) (e : Option (Nat × Nat)) (h : d.inRecovery = false) : d.recoveryFail p e = e := by
  simp [Dev.recoveryFail, h]

/-- An opcode of RECOVERY keeps its own check there too (R78). -/
theorem Dev.recoveryFail_in (d : Dev) (p : Packet) (e : Option (Nat × Nat)) (h : recoveryAdmits (opNum p) = true) : d.recoveryFail p e = e := by
  simp [Dev.recoveryFail, h]

/-- A command that passes its checks runs when it starts. -/
theorem Dev.startOp_runs (d : Dev) (o : OpSpec) (p : Packet) (h : (started p d).opCheck o p = none) :
    d.startOp o p = ended p (o.run (started p d) p) := by
  unfold Dev.startOp
  unfold started at *
  simp only [h]
  unfold ended
  rcases o.run _ p with ⟨d', st, det, pay⟩ | ⟨d', ws, pay⟩ | ⟨d', ws, st, det, ix, pay⟩
  · simp
  · cases ws <;> simp
  · cases ws <;> simp

/-- A packet that may start and passes its checks runs. -/
theorem Dev.runOp_runs (d : Dev) (code : Nat) (o : OpSpec) (p : Packet) (h : d.runsNow code o p = true) :
    d.runOp code o p = ended p (o.run (started p d) p) := by
  unfold Dev.runsNow at h
  simp only [Bool.and_eq_true, decide_eq_true_eq, Option.isNone_iff_eq_none] at h
  unfold Dev.runOp
  simp only [h.1.1.1, h.1.1.2]
  simpa using d.startOp_runs o p h.2

/-- An unchained packet of a family that a chain may hold runs the same way (R56). -/
theorem Dev.runChained_runs (d : Dev) (code : Nat) (o : OpSpec) (p : Packet) (h : d.runsNow code o p = true) :
    d.runChained code o p = ended p (o.run (started p d) p) := by
  unfold Dev.runsNow at h
  simp only [Bool.and_eq_true, decide_eq_true_eq, Option.isNone_iff_eq_none] at h
  unfold Dev.runChained
  simp only [h.1.1.1, h.1.1.2, h.1.2]
  simpa using d.startOp_runs o p h.2

/-- The answer of a meaning that only runs an opcode. -/
theorem runs_of (i : Instr) (code : Nat) (o : OpSpec) (p : Packet) (h : ∀ s, exec i s = s.onDev fun d => d.runOp code o p) :
    Runs i code o p := by
  intro s hr hn
  unfold Effect
  rw [h s, State.onDev_running s _ hr, Dev.runOp_runs _ _ _ _ hn]

/-- The answer of a meaning that runs an opcode of a family that a chain may hold. -/
theorem runs_of_chained (i : Instr) (code : Nat) (o : OpSpec) (p : Packet) (h : ∀ s, exec i s = s.onDev fun d => d.runChained code o p) :
    Runs i code o p := by
  intro s hr hn
  unfold Effect
  rw [h s, State.onDev_running s _ hr, Dev.runChained_runs _ _ _ _ hn]

end Sys2Proof.Machine
end

