-- ==== Sys2Proof/Certificates/Slice0/Obligations.lean ====
section
/-!
DEFINITION. The statements for the provers: the commands of every family complete with their effect, the frames that come with it, and
the rules of the spec that reach beyond one command.
-/

open Sys2Proof Sys2Proof.Machine

/-- For every command c, list of waiting commands rest and device d, the step of the state whose queue is c followed by rest is
exec of c on the state with the queue rest and the device d. -/
def Obligations.StepRunsTheFrontCommand : Prop :=
  ∀ (c : Instr) (rest : List Instr) (d : Dev),
    step { pending := c :: rest, dev := d } = exec c { pending := rest, dev := d }

/-- On an empty queue a step answers the next state with an empty queue in which one PWM clock has passed; this is the choice that
assumption log 3 names, not a rule of the spec. -/
def Obligations.EmptyQueueStepIsOneClock : Prop :=
  ∀ d : Dev, step { pending := [], dev := d } = .next { pending := [], dev := d.clockTick }

/-- After reset no command waits; every REGWIN offset reads the reset word of the register table, and so an offset where no
register stands reads 0; CE_AX_PARAM_24 and CE_AX_PARAM_26 of every axis read 1.0; SPH of every axis is its slot number modulo 4;
SYS_BOOT_STATUS, AXIS_STATUS and CMDQ_SESSION read 0; each PWM_BANK_CFG reads its reset word; the registers and bytes have their
canonical form. SYS_ID and the values the spec leaves to the part are the choices of assumption logs 2 and 25 and are not stated
here. -/
def Obligations.ResetRegisters : Prop :=
  State.reset.pending = [] ∧ MemoryOk State.reset ∧
    (∀ off : Nat, State.reset.dev.rd off = resetWord off) ∧
    (∀ a : Fin 64, State.reset.dev.rd (R.CE_AX_PARAM a 24) = 0x3F800000#32 ∧ State.reset.dev.rd (R.CE_AX_PARAM a 26) = 0x3F800000#32 ∧
      State.reset.dev.fg (R.CE_AX_CFG a) F.CE_AX_CFG_SPH = a.val % 4 ∧ State.reset.dev.rd (R.AXIS_STATUS a) = 0) ∧
    State.reset.dev.rd R.SYS_BOOT_STATUS = 0 ∧ State.reset.dev.rd R.CMDQ_SESSION = 0 ∧
    (∀ off : Nat, findReg off = none → specialReset off = none → State.reset.dev.rd off = 0)

/-- The state right after reset satisfies the invariant that every waiting command is well formed. -/
def Obligations.QueueOkAtReset : Prop :=
  QueueOk State.reset

/-- For every state whose waiting commands are all well formed, whatever its device is, the step answers a next state, and every
command that still waits there is well formed. So no well-formed command ends a run, and no command puts another one into the
queue. -/
def Obligations.WellFormedQueueAlwaysSteps : Prop :=
  ∀ s : State, QueueOk s → ∃ t, step s = .next t ∧ QueueOk t

/-- For every command and state: when exec answers a next state, the queue of waiting commands there is the one before. -/
def Obligations.CommandsKeepTheQueue : Prop :=
  ∀ (c : Instr) (s t : State), exec c s = .next t → t.pending = s.pending

/-- CAN_FRAME_RECEIVE with an operand that is no CAN frame of a possible form (its identifier, length and payload do not go
together) answers the fault illFormed, whatever the state; with a frame of a possible form it answers a next state. -/
def Obligations.IllFormedFrameFaults : Prop :=
  ∀ (c : Fin 2) (f : CanFrame) (w : Word) (s : State),
    (canFrameOk f = false → exec (.canFrameReceive c f w) s = .fault (.illFormed "CAN_FRAME_RECEIVE")) ∧
    (canFrameOk f = true → ∃ t, exec (.canFrameReceive c f w) s = .next t)

/-- While the motion die runs: WARMRESETn is a warm reset of cause 2; the reset doorbell is a warm reset of cause 3 exactly when
bits 15 to 0 carry the key 0xA5C3 and otherwise changes nothing; PCIe function level reset and PERST release act as the function
level reset; PORn with the device not held by the island is a cold reset of cause 0 with the straps latched and the power-fail
journal slot frozen where a flush ran; a VDD monitor trip during the power-fail sequence takes the die to BACKUP, and without one
it starts an unwarned flush and puts the die into the reset in which the island holds it, with the NAND part kept. -/
def Obligations.ResetsTakeEffect : Prop :=
    (∀ (s : State), Running s → Effect .warmReset s fun d => d.warmReset 2) ∧
    (∀ (w : Word) (s : State), Running s → wbits w 15 0 = 0xA5C3 → Effect (.sysResetDoorbell w) s fun d => d.warmReset 3) ∧
    (∀ (w : Word) (s : State), Running s → wbits w 15 0 ≠ 0xA5C3 → Effect (.sysResetDoorbell w) s id) ∧
    (∀ (s : State), Running s → Effect .functionLevelReset s Dev.flr) ∧
    (∀ (s : State), Running s → Effect .perstRelease s Dev.flr) ∧
    (∀ (x : Straps) (s : State), Running s → Effect (.coldReset x) s fun d =>
      ((d.modBoot fun b => { b with held := false }).modStore fun y => { y with frozen := y.flush }).coldReset x 0 0) ∧
    (∀ (s : State), Running s → s.dev.fb R.POWER_STATUS F.POWER_STATUS_PF_ACTIVE = true → Effect .vddMonitorTrip s Dev.toBackup) ∧
    (∀ (s : State), Running s → s.dev.fb R.POWER_STATUS F.POWER_STATUS_PF_ACTIVE = false → Effect .vddMonitorTrip s fun d =>
      (((d.startFlush true).motionReset islandReg [] (fun _ => false) false 1).modBoot fun b => { b with held := true }).modStore fun x => { x with part := d.store.part })

/-- While the motion die runs: the loss of the PWM clock or of the reference sets its bit of SYS_CLOCK_STATUS, puts every leg
high-impedance and starts a cold reset of cause 5 that keeps the bit; so does the loss of lock of the CE, Transit DSP or
supervisor PLL, that of the CE PLL after the part has resigned as PAIR ACTIVE with cause 4 (the order is assumption log 47); the
loss of the CAN PLL stops both CAN channels, and that of the safety PLL stops safety channel A, each with its lost bit set and its
lock bit cleared; the relock of the CAN or Tie PLL outside DOZE sets its lock bit again, and that of the safety PLL does so too
and starts channel A unless it runs or has stopped with LOCKSTEP. -/
def Obligations.ClockAndPllLoss : Prop :=
    (∀ (x : Straps) (s : State), Running s → Effect (.clockLoss true x) s fun d => (d.fsb R.SYS_CLOCK_STATUS F.SYS_CLOCK_STATUS_PWM_LOST true).legsOff.coldReset x 5 (2 ^ F.SYS_CLOCK_STATUS_PWM_LOST.lo)) ∧
    (∀ (x : Straps) (s : State), Running s → Effect (.clockLoss false x) s fun d => (d.fsb R.SYS_CLOCK_STATUS F.SYS_CLOCK_STATUS_REF_LOST true).legsOff.coldReset x 5 (2 ^ F.SYS_CLOCK_STATUS_REF_LOST.lo)) ∧
    (∀ (p : Pll) (x : Straps) (s : State), Running s → p = .dsp ∨ p = .sup → s.dev.pllStopped p = false → Effect (.pllLockLoss p x) s fun d =>
      (((d.fsb R.SYS_CLOCK_STATUS (pllLock p) false).setBit R.SYS_CLOCK_STATUS (pllLostBit p) true).legsOff).coldReset x 5 (2 ^ pllLostBit p)) ∧
    (∀ (x : Straps) (s : State), Running s → s.dev.pllStopped .ce = false → Effect (.pllLockLoss .ce x) s fun d =>
      ((((d.fsb R.SYS_CLOCK_STATUS (pllLock .ce) false).setBit R.SYS_CLOCK_STATUS (pllLostBit .ce) true).resign 4).legsOff).coldReset x 5 (2 ^ pllLostBit .ce)) ∧
    (∀ (x : Straps) (s : State), Running s → s.dev.pllStopped .can = false → Effect (.pllLockLoss .can x) s fun d =>
      (((d.fsb R.SYS_CLOCK_STATUS (pllLock .can) false).setBit R.SYS_CLOCK_STATUS (pllLostBit .can) true)).each [0, 1] Dev.canDrop) ∧
    (∀ (x : Straps) (s : State), Running s → s.dev.pllStopped .safA = false → Effect (.pllLockLoss .safA x) s fun d =>
      ((d.fsb R.SYS_CLOCK_STATUS (pllLock .safA) false).setBit R.SYS_CLOCK_STATUS (pllLostBit .safA) true).chanStop false) ∧
    (∀ (p : Pll) (s : State), Running s → p = .can ∨ p = .tie → s.dev.fb R.SYS_CLOCK_STATUS (pllLock p) = false → s.dev.dozing = false → Effect (.pllRelock p) s fun d => d.fsb R.SYS_CLOCK_STATUS (pllLock p) true) ∧
    (∀ (s : State), Running s → s.dev.fb R.SYS_CLOCK_STATUS (pllLock .safA) = false → s.dev.safety.a.on = false → s.dev.safety.a.faults.testBit 6 = false → Effect (.pllRelock .safA) s fun d => (d.fsb R.SYS_CLOCK_STATUS (pllLock .safA) true).safetyStart false) ∧
    (∀ (s : State), Running s → s.dev.fb R.SYS_CLOCK_STATUS (pllLock .safA) = false → s.dev.safety.a.on = true ∨ s.dev.safety.a.faults.testBit 6 = true → Effect (.pllRelock .safA) s fun d => d.fsb R.SYS_CLOCK_STATUS (pllLock .safA) true)

/-- While the motion die runs: with STAGE at 0 and BOOTSEL other than 3, BOOT_IMAGE_VERIFY sets the PLL locks, mounts the Logbook
store, recovers the power-fail journal and takes the boot image; with BOOTSEL 3 it sets the locks and STAGE becomes 0xF1. With
STAGE at 4, COMMAND_READY applies the boot configuration, sets STAGE 8 and READY, clears SYS_WEDGE.WEDGED, posts the READY event
0x8001 with SYS_BOOT_STATUS as its payload, and arms the power supervision; an attach doorbell that has been recorded before is
read where the device then takes commands. The order of these parts is the model's (assumption log 27). -/
def Obligations.BootStepsTakeEffect : Prop :=
    (∀ (x : NandPart) (ok : Bool) (s : State), Running s → s.dev.fg R.SYS_BOOT_STATUS F.SYS_BOOT_STATUS_STAGE = 0 → s.dev.locksUp.fg R.SYS_BOOT_STATUS F.SYS_BOOT_STATUS_BOOT_SRC ≠ 3 → Effect (.bootImageVerify x ok) s fun d => (((d.locksUp.mount x).bootJournal ok).armRegs.chargeRegs.wearRegs).bootImage.attachLate) ∧
    (∀ (x : NandPart) (ok : Bool) (s : State), Running s → s.dev.fg R.SYS_BOOT_STATUS F.SYS_BOOT_STATUS_STAGE = 0 → s.dev.locksUp.fg R.SYS_BOOT_STATUS F.SYS_BOOT_STATUS_BOOT_SRC = 3 → Effect (.bootImageVerify x ok) s fun d => d.locksUp.fs R.SYS_BOOT_STATUS F.SYS_BOOT_STATUS_STAGE 0xF1) ∧
    (∀ (s : State), Running s → s.dev.fg R.SYS_BOOT_STATUS F.SYS_BOOT_STATUS_STAGE = 4 → Effect .commandReady s fun d =>
      let d := d.bootConfig.firmwareId.raiseSvn
      let d := (d.fs R.SYS_BOOT_STATUS F.SYS_BOOT_STATUS_STAGE 8).fsb R.SYS_BOOT_STATUS F.SYS_BOOT_STATUS_READY true
      let d := (d.fsb R.SYS_WEDGE F.SYS_WEDGE_WEDGED false).squallRegs
      (d.stoenA.protocolEvent 0x8001 [d.rd R.SYS_BOOT_STATUS]).bootPower.attachLate)

/-- A write narrower than 32 bits changes nothing; a 32-bit write at an offset that is a multiple of 4 acts on that word and one
at any other offset changes nothing; a 64-bit write at a multiple of 8 acts on both words, lower word first; a 32-bit write at a
multiple of 4 in a clock in which the device sets write-1-to-clear bits leaves those bits set. A write to BULKWIN reaches the
staging regions, and one to the MSI-X table its word. A read of 1, 2 or 4 bytes returns the addressed bytes of its word: of the
lower word of a 64-bit register, latching the upper word of that instant; of the upper word, those of the latched word, which it
uses up; of a 32-bit register, those of the register. A 64-bit read returns both words at once; a read of BULKWIN and one of the
MSI-X table and pending bits return their bytes. Unmasking an MSI-X vector records that it is unmasked, and a held message is
sent. At debug level FULL with the die running and awake, a DAP write outside the safety block to a Transit DSP memory writes the
word. -/
def Obligations.HostWritesReachRegisters : Prop :=
    (∀ (o : Nat) (s : State), Effect (.hostRegisterWrite (.narrow o)) s id) ∧
    (∀ (o : Nat) (w : Word) (s : State), o % 4 = 0 → exec (.hostRegisterWrite (.w32 o w)) s = .next (s.hostWord o w)) ∧
    (∀ (o : Nat) (w : Word) (s : State), o % 4 ≠ 0 → Effect (.hostRegisterWrite (.w32 o w)) s id) ∧
    (∀ (o : Nat) (w h : Word) (s : State), o % 4 = 0 → exec (.hostRegisterWrite (.clash o w h)) s = .next (s.hostWord o (w &&& ~~~(h &&& w1cMask o)))) ∧
    (∀ (o : Nat) (lo hi : Word) (s : State), o % 8 = 0 → exec (.hostRegisterWrite (.w64 o lo hi)) s = .next ((s.hostWord o lo).hostWord (o + 4) hi)) ∧
    (∀ (o : Nat) (lo hi : Word) (s : State), o % 8 ≠ 0 → Effect (.hostRegisterWrite (.w64 o lo hi)) s id) ∧
    (∀ (o : Nat) (l : List Byte) (s : State), Running s → Effect (.hostRegisterWrite (.bulk o l)) s fun d => d.bulkWrite o l) ∧
    (∀ (v : Fin 64) (k : Fin 4) (w : Word) (s : State), Running s → Effect (.hostRegisterWrite (.msix v k w)) s fun d => d.msixWrite v k w) ∧
    (∀ (o n : Nat) (r : RegRow) (i j : Nat) (s : State), Running s → n = 1 ∨ n = 2 ∨ n = 4 → findReg (o - o % 4) = some (r, i, j, 0) → r.w64 = true → Effect (.hostLowerWordRead (.reg o n)) s fun d =>
      { d with latches := d.latches.filter (fun l => !(l.req = 0 && l.off = o - o % 4)) ++ [{ req := 0, off := o - o % 4, upper := d.view (o - o % 4 + 4) }]
               readOut := ((wordBytes (d.view (o - o % 4))).drop (o % 4)).take n }) ∧
    (∀ (o n : Nat) (r : RegRow) (i j : Nat) (l : UpperLatch) (s : State), Running s → n = 1 ∨ n = 2 ∨ n = 4 → findReg (o - o % 4) = some (r, i, j, 1) → s.dev.latches.find? (fun l => l.req = 0 && l.off + 4 = o - o % 4) = some l → Effect (.hostLowerWordRead (.reg o n)) s fun d =>
      { d with latches := d.latches.filter (fun l => !(l.req = 0 && l.off + 4 = o - o % 4))
               readOut := ((wordBytes l.upper).drop (o % 4)).take n }) ∧
    (∀ (o n : Nat) (r : RegRow) (i j : Nat) (s : State), Running s → n = 1 ∨ n = 2 ∨ n = 4 → findReg (o - o % 4) = some (r, i, j, 0) → r.w64 = false → Effect (.hostLowerWordRead (.reg o n)) s fun d =>
      { d with readOut := ((wordBytes (d.view (o - o % 4))).drop (o % 4)).take n }) ∧
    (∀ (o : Nat) (s : State), Running s → Effect (.hostLowerWordRead (.reg o 8)) s fun d => { d with readOut := [d.view o, d.view (o + 4)].flatMap wordBytes }) ∧
    (∀ (o n : Nat) (s : State), Running s → Effect (.hostLowerWordRead (.bulk o n)) s fun d => { d with readOut := d.bulkBytes o n }) ∧
    (∀ (o n : Nat) (s : State), Running s → Effect (.hostLowerWordRead (.msix o n)) s fun d => { d with readOut := (List.range (n / 4)).flatMap fun k => wordBytes (d.msixWord (o + 4 * k)) }) ∧
    (∀ (v : Fin 64) (s : State), Running s → s.dev.evr.msiPend.contains v.val = false → Effect (.msixVectorUnmask v) s fun d =>
      { d with evr := { d.evr with unmasked := if d.evr.unmasked.contains v.val then d.evr.unmasked else d.evr.unmasked ++ [v.val], msiPend := d.evr.msiPend.filter (· ≠ v.val) } }) ∧
    (∀ (v : Fin 64) (s : State), Running s → s.dev.evr.msiPend.contains v.val = true → Effect (.msixVectorUnmask v) s fun d =>
      ({ d with evr := { d.evr with unmasked := if d.evr.unmasked.contains v.val then d.evr.unmasked else d.evr.unmasked ++ [v.val], msiPend := d.evr.msiPend.filter (· ≠ v.val) } } : Dev).msiOut v) ∧
    (∀ (o : Nat) (w : Word) (s : State), Running s → s.dev.dapAt 3 = true → o % 4 = 0 → ¬ (0xE0000 ≤ o ∧ o < 0xF0000) → s.dev.dozing = false → inTdMemory o = true → Effect (.dapWrite o w) s fun d => d.wr o w)

/-- At debug level FULL with the die running and awake, a DAP write to a word with parameter fields, outside the safety block and
the Transit DSP memories, acts as the host write on the other fields and puts the parameter fields into effect at once, without
validation; to a word without parameter fields it acts as the host write; within the safety block it changes nothing. -/
def Obligations.DebugWriteOfParameters : Prop :=
    (∀ (o : Nat) (w : Word) (s : State), Running (s.hostWord o w) → Running s → s.dev.dapAt 3 = true → o % 4 = 0 → ¬ (0xE0000 ≤ o ∧ o < 0xF0000) → s.dev.dozing = false → inTdMemory o = false → cpMask o ≠ 0 → exec (.dapWrite o w) s =
      .next { s.hostWord o w with dev := (s.hostWord o w).dev.applyWrite { off := o, mask := cpMask o, val := w } }) ∧
    (∀ (o : Nat) (w : Word) (s : State), Running s → s.dev.dapAt 3 = true → o % 4 = 0 → ¬ (0xE0000 ≤ o ∧ o < 0xF0000) → s.dev.dozing = false → inTdMemory o = false → cpMask o = 0 → exec (.dapWrite o w) s = .next (s.hostWord o w)) ∧
    (∀ (o : Nat) (w : Word) (s : State), 0xE0000 ≤ o → o < 0xF0000 → Effect (.dapWrite o w) s id)

/-- While the motion die runs: SERVO_TICK of a lane lets time pass up to the instant of that tick, counts it and gives its status,
marks the writes validated before it, acts in the units of the bank, and sets the instant of the next tick: T counts later
undisciplined, and one count more or less, towards the target, while disciplined with an axis that is not DISABLED, or, with every
axis DISABLED, to the first target T or more away; DECISION_INSTANT before a position-loop tick with the lanes not halted computes
the set points (Dev.decision) and records the tick instant 2 microseconds later, and at any other changes nothing; PARAM_APPLY
puts the writes of that lane that a tick has found validated, or the global ones, into effect in validation order and takes them
off the list. -/
def Obligations.TicksAndApplicationPoints : Prop :=
    (∀ (n : Fin 4) (s : State), Running s → Effect (.servoTick n) s fun d => ((((d.toTick n).tickGenerator n).writesTick n).tickUnits n).tickNext n) ∧
    (∀ (d : Dev) (n : Nat), d.ticked.contains n = true → d.clocks ≤ tabGet d.tickDue n → d.toTick n = d.pass (tabGet d.tickDue n - d.clocks)) ∧
    (∀ (d : Dev) (n : Nat), d.disciplined n = false → tabGet (d.tickNext n).tickDue n = tabGet d.tickDue n + d.tickCounts n) ∧
    (∀ (d : Dev) (n : Nat), d.disciplined n = true → d.laneFree n = false → tabGet (d.tickNext n).tickDue n = tabGet d.tickDue n + ((d.tickCounts n : Int) + signI (d.phaseErr n)).toNat) ∧
    (∀ (d : Dev) (n : Nat), d.disciplined n = true → d.laneFree n = true → tabGet (d.tickNext n).tickDue n = tabGet d.tickDue n + (d.tickCounts n + (d.phaseErr n % (d.tickCounts n : Int)).toNat)) ∧
    (∀ (n : Fin 4) (s : State), Running s → Effect (.decisionInstant n) s fun d => d.decision n) ∧
    (∀ (d : Dev) (n : Nat), d.ce.stopped = false → d.loopNext n = true → tabGet (d.decision n).ip.tickNs n = d.ns + 2000) ∧
    (∀ (d : Dev) (n : Nat), d.ce.stopped = true ∨ d.loopNext n = false → d.decision n = d) ∧
    (∀ (lane : Option (Fin 4)) (s : State), Running s → Effect (.paramApply lane) s fun d =>
      let ws := d.cmd.writes.filter fun w => w.ripe (lane.map Fin.val)
      (groupIds ws).foldl (Dev.applyGroup ws) { d with cmd := { d.cmd with writes := d.cmd.writes.filter fun w => !w.ripe (lane.map Fin.val) } })

/-- While the motion die runs: a write of the attach doorbell raises source 628, and one of a command doorbell source 624 and on;
while the device takes commands, a doorbell of a command queue whose producer index lies no more than the ring ahead of the fetch
index records the index, and one that lies further ahead is counted and ignored; the lower word of the attach doorbell is kept
when it is aligned to 64 bytes and counted otherwise, and the upper word or both make the device fetch the packet, which is
recorded instead while the device reads no doorbells (assumption log 49); while it takes commands, the reply doorbell frees
returned slots and lets held replies follow; the event doorbell frees returned slots and lets JOURNAL_GAP follow. A fetch takes
the next packet of a queue with room from its source, inspects it for the hardware stop and lets it arrive. -/
def Obligations.DoorbellsTakeEffect : Prop :=
    (∀ (q : Fin 4) (w : Word) (s : State), Running s → s.dev.takesCommands = true → (wbits w 15 0 + 65536 - s.dev.fg (R.CMDQ_FETCH q) F.CMDQ_FETCH_FETCH) % 65536 ≤ queueDepth q → Effect (.cmdqDoorbell q w) s fun d => (d.cmdEdge q).modCmd fun c => { c with ringProd := tabSet c.ringProd q (wbits w 15 0) }) ∧
    (∀ (q : Fin 4) (w : Word) (s : State), Running s → s.dev.takesCommands = true → queueDepth q < (wbits w 15 0 + 65536 - s.dev.fg (R.CMDQ_FETCH q) F.CMDQ_FETCH_FETCH) % 65536 → Effect (.cmdqDoorbell q w) s fun d => (d.cmdEdge q).satInc R.CMDQ_ERRORS F.CMDQ_ERRORS_DB_BAD) ∧
    (∀ (w : Word) (s : State), Running s → wbits w 5 0 = 0 → Effect (.cmdqAttachDoorbell (.lower w)) s fun d => (d.cmdEdge 4).modCmd fun c => { c with attachLow := w }) ∧
    (∀ (w : Word) (s : State), Running s → wbits w 5 0 ≠ 0 → Effect (.cmdqAttachDoorbell (.lower w)) s fun d => (d.cmdEdge 4).satInc R.CMDQ_ERRORS F.CMDQ_ERRORS_DB_BAD) ∧
    (∀ (w : Word) (ws : List Word) (s : State), Running s → Effect (.cmdqAttachDoorbell (.upper w ws)) s fun d => (d.cmdEdge 4).attachRing (d.cmdEdge 4).cmd.attachLow ws) ∧
    (∀ (lo hi : Word) (ws : List Word) (s : State), Running s → Effect (.cmdqAttachDoorbell (.whole lo hi ws)) s fun d => (d.cmdEdge 4).attachRing lo ws) ∧
    (∀ (d : Dev) (lo : Word) (ws : List Word), d.readsDoorbells = true → d.attachRing lo ws = d.attachFetch lo ws) ∧
    (∀ (d : Dev) (lo : Word) (ws : List Word), d.readsDoorbells = false → d.attachRing lo ws = d.modCmd fun c => { c with attachDue := some (lo, ws) }) ∧
    (∀ (w : Word) (s : State), Running s → s.dev.takesCommands = true → Effect (.cmdqReplyDoorbell w) s fun d => (d.modCmd fun c =>
      { c with replyRing := c.replyRing.drop (returned (wbits w 15 0) c.replyCons c.replyRing.length), replyCons := wbits w 15 0 }).drainAll) ∧
    (∀ (w : Word) (s : State), Running s → s.dev.takesCommands = true → Effect (.cmdqEventDoorbell w) s fun d => (d.modCmd fun c =>
      { c with eventRing := c.eventRing.drop (returned (wbits w 15 0) c.eventCons c.eventRing.length), eventCons := wbits w 15 0 }).postGap) ∧
    (∀ (q : Fin 4) (w : List Word) (s : State), Running s → s.dev.fetches q = true → s.dev.cmd.rings.valid = true → tabGet s.dev.cmd.ringProd q ≠ s.dev.fg (R.CMDQ_FETCH q) F.CMDQ_FETCH_FETCH → Effect (.commandFetch q (.ring w)) s fun d => 
      let ws := arrived (.ring w) w
      (((d.modCmd fun c => { c with slotAt := d.slotAddr q (d.fg (R.CMDQ_FETCH q) F.CMDQ_FETCH_FETCH) }).wrapInc (R.CMDQ_FETCH q) F.CMDQ_FETCH_FETCH).inspect (parsePacket .pcie q ws) ws).arrive (parsePacket .pcie q ws) ws) ∧
    (∀ (q : Fin 4) (ws : List Word) (s : State), Running s → s.dev.fetches q = true → tabGet s.dev.cmd.xbuf q = ws → ws ≠ [] → Effect (.commandFetch q .traverse) s fun d => 
      ((d.modCmd fun c => { c with xbuf := tabSet c.xbuf q [] }).inspect (parsePacket .traverse q ws) ws).arrive (parsePacket .traverse q ws) ws) ∧
    (∀ (q : Fin 4) (ws : List Word) (s : State), Running s → s.dev.fetches q = true → tabGet s.dev.cmd.xbuf (4 + q) = ws → ws ≠ [] → Effect (.commandFetch q .spi) s fun d => 
      ((d.modCmd fun c => { c with xbuf := tabSet c.xbuf (4 + q) [] }).inspect (parsePacket .spi q ws) ws).arrive (parsePacket .spi q ws) ws)

/-- While the motion die runs, each transfer of the SPI port raising source 629 and a write of a packet the source of its queue:
the oldest delivered Traverse command slot is taken, an empty one discarding the open packets and another one continuing the
packet of its queue; an SPI packet enters the free buffer of its queue and is counted and discarded otherwise; an SPI read of a
reply sends and removes the oldest waiting packet, or sends four zero bytes; a read of the status sends the status byte; a started
command without a progress reply posts one with KIND 2 and status 0x0001. -/
def Obligations.TransportsTakeEffect : Prop :=
    (∀ (w : Word) (pay : List Word) (rest : List (Option (List Word))) (s : State), Running s → s.dev.trv.cmdSlots = some (w :: pay) :: rest → Effect .traverseCommandSegment s fun d => ({ d with trv := { d.trv with cmdSlots := rest } } : Dev).segment w pay) ∧
    (∀ (rest : List (Option (List Word))) (s : State), Running s → s.dev.trv.cmdSlots = none :: rest ∨ s.dev.trv.cmdSlots = some [] :: rest → Effect .traverseCommandSegment s fun d => ({ d with trv := { d.trv with cmdSlots := rest } } : Dev).each (List.range 4) Dev.discardSeg) ∧
    (∀ (q : Fin 4) (ws : List Word) (s : State), Running s → tabGet s.dev.cmd.xbuf (4 + q) = [] → Effect (.spiWritePacket q ws) s fun d => (((d.cmdEdge 5).cmdEdge q).spiSend []).modCmd fun c => { c with xbuf := tabSet c.xbuf (4 + q) ws }) ∧
    (∀ (q : Fin 4) (ws : List Word) (s : State), Running s → tabGet s.dev.cmd.xbuf (4 + q) ≠ [] → Effect (.spiWritePacket q ws) s fun d => (((d.cmdEdge 5).cmdEdge q).spiSend []).satInc R.CMDQ_ERRORS F.CMDQ_ERRORS_XPORT) ∧
    (∀ (r : Reply) (rest : List Reply) (s : State), Running s → s.dev.cmd.spiOut = r :: rest → Effect .spiReadReply s fun d => ((d.cmdEdge 5).spiSend (r.wire.flatMap wordBytes)).modCmd fun c => { c with spiOut := rest }) ∧
    (∀ (s : State), Running s → s.dev.cmd.spiOut = [] → Effect .spiReadReply s fun d => (d.cmdEdge 5).spiSend [0, 0, 0, 0]) ∧
    (∀ (s : State), Running s → Effect .spiReadStatus s fun d => (d.cmdEdge 5).spiSend [d.spiStatus]) ∧
    (∀ (p : Packet) (a : Accepted) (s : State), Running s → s.dev.cmd.accepted.find? (fun a => a.pkt = p) = some a → a.started = true → a.progressed = false → Effect (.progressReply p) s fun d => ((d.modAccepted p fun a => { a with progressed := true }).postReply p 2 1 0 []).1)

/-- While the motion die runs: PING that passes its checks completes with status 0 and its own word 3 as payload, and HOST_ALIVE
with no payload. DETACH completes, and the session then ends and its claimed sources are completed. READ_JOURNAL collects the
copies and the reply channel takes them. RESET_DEVICE with the key 0xA5C3 completes and then acts as the reset doorbell. A
received GET_STATUS answers with SYS_BOOT_STATUS, CMDQ_SESSION and the device time; a RESYNC raises the epoch and answers with the
session words; an ATTACH that passes its checks attaches its transport. Each goes to the transport that sent it. -/
def Obligations.SessionCommandsTakeEffect : Prop :=
    (∀ (p : Packet) (s : State), Running s → s.dev.runsNow 3 (plainSpec 1 (fun _ => none) fun p => [pw p 3]) p = true → Effect (.ping p) s fun d => (started p d).finish p 0 0 [pw p 3]) ∧
    (∀ (p : Packet) (s : State), Running s → s.dev.runsNow 6 (plainSpec 0 (fun _ => none) fun _ => []) p = true → Effect (.hostAlive p) s fun d => (started p d).finish p 0 0 []) ∧
    (∀ (p : Packet) (s : State), Running s → s.dev.runsNow 5 specDetach p = true → Effect (.detach p) s fun d =>
      (((started p d).finish p 0 0 []).fsb R.CMDQ_SESSION F.CMDQ_SESSION_ATTACHED false).forceComplete 0) ∧
    (∀ (p : Packet) (s : State), Running s → s.dev.runsNow 7 specReadJournal p = true → Effect (.readJournal p) s fun d => (ended p (specReadJournal.run (started p d) p)).drainAll) ∧
    (∀ (p : Packet) (s : State), Running s → s.dev.runsNow 8 specResetDevice p = true → Effect (.resetDevice p) s fun d => ((started p d).finish p 0 0 []).warmReset 3) ∧
    (∀ (p : Packet) (s : State), Running s → opNum p = 4 → p ∈ s.dev.cmd.unseq → s.dev.cmd.heldUrgent.length < 16 → p.params = [] → Effect (.getStatus p) s fun d =>
      let d := d.modCmd fun c => { c with unseq := c.unseq.erase p }
      d.postDirect p (some p.xport) 0 0 0 ([d.rd R.SYS_BOOT_STATUS, d.rd R.CMDQ_SESSION] ++ words64 d.ns)) ∧
    (∀ (p : Packet) (s : State), Running s → opNum p = 2 → p ∈ s.dev.cmd.unseq → s.dev.cmd.heldUrgent.length < 16 → p.params = [] → s.dev.inRecovery = false → Effect (.resync p) s fun d =>
      let d := (d.modCmd fun c => { c with unseq := c.unseq.erase p }).nextEpoch
      d.postDirect p (some p.xport) 0 0 0 d.sessionWords) ∧
    (∀ (p : Packet) (s : State), Running s → s.dev.cmd.unseq.find? (fun r => opNum r = 1) = some p → lenCheck p (if p.xport = .pcie then 16 else 1) = none → attachCheck p = none → Effect (.attach p) s fun d => (d.modCmd fun c => { c with unseq := c.unseq.erase p }).attach p)

/-- Whatever the packet: when the motion die runs, the packet may start and every check of R47 passes on it, SET_PARAM,
SET_PARAM64 and SET_PARAM_BLOCK queue their writes for the application point and wait for it, GET_PARAM completes with the words
read, SAVE_CONFIG_SET starts its Logbook write, LOAD_CONFIG_SET queues the writes of its set, and SELECT_BOOT_CONFIG records its
set: the next state is the one that the opcode's run leaves, with the final reply posted where it ends at once. -/
def Obligations.ParameterCommandsTakeEffect : Prop :=
  ∀ p : Packet,
    Runs (.setParam p) 0x0100 specParam p ∧
    Runs (.setParam64 p) 0x0101 specParam p ∧
    Runs (.setParamBlock p) 0x0102 specParam p ∧
    Runs (.getParam p) 0x0103 specParam p ∧
    Runs (.saveConfigSet p) 0x0104 specSaveConfigSet p ∧
    Runs (.loadConfigSet p) 0x0105 specLoadConfigSet p ∧
    Runs (.selectBootConfig p) 0x0106 specSelectBootConfig p

/-- Whatever the packet: when the motion die runs, the packet may start and every check passes, ENABLE accepts its axes and waits
for READY, DISABLE and STOP let their stop reach the axes, HOME starts its search, RESET_FAULT clears the faults, and BIND_AXIS
applies the binding: the next state is the one that the opcode's run leaves, with the final reply posted where it ends at once. -/
def Obligations.AxisCommandsTakeEffect : Prop :=
  ∀ p : Packet,
    Runs (.enable p) 0x0200 specEnable p ∧
    Runs (.disable p) 0x0201 specDisable p ∧
    Runs (.stop p) 0x0202 specStop p ∧
    Runs (.home p) 0x0203 specHome p ∧
    Runs (.resetFault p) 0x0204 specResetFault p ∧
    Runs (.bindAxis p) 0x0205 specBindAxis p

/-- Whatever the packet: when the motion die runs, the packet may start and every check passes, SEGMENT queues its segment,
GROUP_START starts or arms its group, GROUP_HOLD holds or resumes it, OVERRIDE queues its write, FLUSH_GROUP discards segments,
MOVE_AXIS arms its profile, GEAR_ENGAGE and CAM_ENGAGE record their follower and wait, GEAR_DISENGAGE lets the follower ramp to
rest, and CAM_LOAD writes cam points: the next state is the one that the opcode's run leaves, with the final reply posted where it
ends at once. -/
def Obligations.MotionCommandsTakeEffect : Prop :=
  ∀ p : Packet,
    Runs (.segment p) 0x0300 specSegment p ∧
    Runs (.groupStart p) 0x0301 specGroupStart p ∧
    Runs (.groupHold p) 0x0302 specGroupHold p ∧
    Runs (.override p) 0x0303 specOverride p ∧
    Runs (.flushGroup p) 0x0304 specFlushGroup p ∧
    Runs (.moveAxis p) 0x0305 specMoveAxis p ∧
    Runs (.gearEngage p) 0x0400 specGearEngage p ∧
    Runs (.gearDisengage p) 0x0401 specGearDisengage p ∧
    Runs (.camLoad p) 0x0402 specCamLoad p ∧
    Runs (.camEngage p) 0x0403 specCamEngage p

/-- Whatever the packet: when the motion die runs, the packet may start and every check passes, FIX_ARM arms the input,
COMPARE_LOAD writes targets, COMPARE_ENABLE switches the output, DSP_LOAD_IMAGE loads a verified image, DSP_START starts or
resumes the core, DSP_HALT halts it, DSP_BIND_HOOK queues its write, TRACE_CONFIG and TRACE_STREAM set up the Barograph, and
SNAPSHOT strobes and completes with the bank: the next state is the one that the opcode's run leaves, with the final reply posted
where it ends at once. -/
def Obligations.FixCompareDspTraceCommandsTakeEffect : Prop :=
  ∀ p : Packet,
    Runs (.fixArm p) 0x0500 specFixArm p ∧
    Runs (.compareLoad p) 0x0501 specCompareLoad p ∧
    Runs (.compareEnable p) 0x0502 specCompareEnable p ∧
    Runs (.dspLoadImage p) 0x0600 specDspLoadImage p ∧
    Runs (.dspStart p) 0x0601 specDspStart p ∧
    Runs (.dspHalt p) 0x0602 specDspHalt p ∧
    Runs (.dspBindHook p) 0x0603 specDspBindHook p ∧
    Runs (.traceConfig p) 0x0700 specTraceConfig p ∧
    Runs (.traceStream p) 0x0701 specTraceStream p ∧
    Runs (.snapshot p) 0x0702 specSnapshot p

/-- Whatever the packet: when the motion die runs, the packet may start and every check passes, TRAVERSE_JOIN starts integration,
TRAVERSE_LEAVE ends it, CAN_ENABLE sends the channel to its state, CAN_SEND accepts its entry or aborts one, OUTPUT_WRITE and
OUTPUT_GROUP_ENABLE queue their writes, SAFETY_SET_LOAD loads a verified set, SAFETY_SET_COMMIT commits it or clears the safety
faults, PAIR_STATUS completes with the state of the pair, and PAIR_SWITCHOVER waits for its tick: the next state is the one that
the opcode's run leaves, with the final reply posted where it ends at once. -/
def Obligations.BusFieldSafetyPairCommandsTakeEffect : Prop :=
  ∀ p : Packet,
    Runs (.traverseJoin p) 0x0A00 specTraverseJoin p ∧
    Runs (.traverseLeave p) 0x0A01 specTraverseLeave p ∧
    Runs (.canEnable p) 0x0A02 specCanEnable p ∧
    Runs (.canSend p) 0x0A03 specCanSend p ∧
    Runs (.outputWrite p) 0x0800 specOutputWrite p ∧
    Runs (.outputGroupEnable p) 0x0801 specOutputGroupEnable p ∧
    Runs (.safetySetLoad p) 0x0B00 specSafetySetLoad p ∧
    Runs (.safetySetCommit p) 0x0B01 specSafetySetCommit p ∧
    Runs (.pairStatus p) 0x0D00 specPairStatus p ∧
    Runs (.pairSwitchover p) 0x0D01 specPairSwitchover p

/-- Whatever the packet: when the motion die runs, the packet may start and every check passes, STORE_WRITE, STORE_READ and
STORE_ERASE start their Logbook operation, DEBUG_CHALLENGE completes with a nonce, DEBUG_UNLOCK sets the debug level, KEY_REVOKE
revokes a verified slot's partner, LIFECYCLE_ADVANCE advances the lifecycle, SQUALL_CONFIG writes its rule, SQUALL_ARM arms rules,
and SELF_TEST runs its items: the next state is the one that the opcode's run leaves, with the final reply posted where it ends at
once. IMAGE_INSTALL does the same, and where it runs an image in RECOVERY the warm reset of cause 3 follows. -/
def Obligations.StoreSecuritySquallCommandsTakeEffect : Prop :=
  ∀ p : Packet,
    Runs (.storeWrite p) 0x0900 specStoreWrite p ∧
    Runs (.storeRead p) 0x0901 specStoreRead p ∧
    Runs (.storeErase p) 0x0902 specStoreErase p ∧
    Runs (.debugChallenge p) 0x0C00 specDebugChallenge p ∧
    Runs (.debugUnlock p) 0x0C01 specDebugUnlock p ∧
    Runs (.keyRevoke p) 0x0C02 specKeyRevoke p ∧
    Runs (.lifecycleAdvance p) 0x0C03 specLifecycleAdvance p ∧
    Runs (.squallConfig p) 0x0E00 specSquallConfig p ∧
    Runs (.squallArm p) 0x0E01 specSquallArm p ∧
    Runs (.selfTest p) 0x0E02 specSelfTest p ∧
    (∀ s : State, Running s → s.dev.runsNow 0x0903 specImageInstall p = true →
      exec (.imageInstall p) s = .next { s with dev := (let d := ended p (specImageInstall.run (started p s.dev) p)
        if d.cmd.resetReq then d.warmReset 3 else d) })

/-- Whatever the packet: when the motion die runs and the packet may start as the first of a chain of two or more, each opcode of
the families 01, 03, 04 and 05 starts every member of its chain one after the other, at this one point, where no member fails on
the state as those before it would leave it; where one fails, nothing starts, a failing member ends with its own failure, and
every other one with CHAIN_REJECTED 0x010B. -/
def Obligations.ChainsStartTogether : Prop :=
  ∀ p : Packet,
    Chains (.setParam p) 0x0100 p ∧
    Chains (.setParam64 p) 0x0101 p ∧
    Chains (.setParamBlock p) 0x0102 p ∧
    Chains (.getParam p) 0x0103 p ∧
    Chains (.saveConfigSet p) 0x0104 p ∧
    Chains (.loadConfigSet p) 0x0105 p ∧
    Chains (.selectBootConfig p) 0x0106 p ∧
    Chains (.segment p) 0x0300 p ∧
    Chains (.groupStart p) 0x0301 p ∧
    Chains (.groupHold p) 0x0302 p ∧
    Chains (.override p) 0x0303 p ∧
    Chains (.flushGroup p) 0x0304 p ∧
    Chains (.moveAxis p) 0x0305 p ∧
    Chains (.gearEngage p) 0x0400 p ∧
    Chains (.gearDisengage p) 0x0401 p ∧
    Chains (.camLoad p) 0x0402 p ∧
    Chains (.camEngage p) 0x0403 p ∧
    Chains (.fixArm p) 0x0500 p ∧
    Chains (.compareLoad p) 0x0501 p ∧
    Chains (.compareEnable p) 0x0502 p

/-- While the motion die runs: the end of alignment of an aligning axis without a pending stop writes the actual position to
AXIS_COMM_MEAS, sets ALIGNED and goes on to the brake step; the end of the brake wait makes it READY; the enabling timeout gives
the ENABLE_FAIL fault; a firmware ramp at zero velocity ends as its class says; the brake engage wait ends the stop in its final
state; the homing reference shifts the position of the axis and its gantry mate so that the reference equals AXIS_HOME_OFFSET,
sets HOMED and starts a class 2 stop; the hard-stop dwell that has lasted HS_TIME takes the present position as reference; a Z
search over 2^31 counts gives HOME_FAIL; and a host watchdog that is due outside a halt runs the stop of WD_CLASS, which for
classes 1 and 2 of an axis that is not ENABLING is a start of the hardware stop generator. -/
def Obligations.AxisEventsTakeEffect : Prop :=
    (∀ (a : Fin 64) (s : State), Running s → s.dev.axState a = 1 → (s.dev.ax a).enab = .align → (s.dev.ax a).stop = none → Effect (.alignmentComplete a) s fun d => ((d.wrS (R.AXIS_COMM_MEAS a) (d.actual a)).fsb (R.AXIS_STATUS a) F.AXIS_STATUS_ALIGNED true).enableBrake a) ∧
    (∀ (a : Fin 64) (s : State), Running s → s.dev.axState a = 1 → (s.dev.ax a).enab = .brake → (s.dev.ax a).stop = none → Effect (.brakeReleaseWaitEnd a) s fun d => d.toReady a) ∧
    (∀ (a : Fin 64) (s : State), Running s → s.dev.axState a = 1 → Effect (.enableFailTimeout a) s fun d => d.axisFault a 5) ∧
    (∀ (a : Fin 64) (r : StopRun) (s : State), Running s → s.dev.axState a = 4 → (s.dev.ax a).stop = some r → r.ramp = true → (s.dev.ax a).vCmd = 0 → s.dev.fb (R.CE_AX_STATUS a) F.CE_AX_STATUS_HSG = false → Effect (.stopRampComplete a) s fun d => d.rampDone a (rankClass r.rank)) ∧
    (∀ (a : Fin 64) (r : StopRun) (s : State), Running s → s.dev.axState a = 4 → (s.dev.ax a).stop = some r → r.ramp = false → Effect (.brakeEngageWaitEnd a) s fun d => d.endStop a r.final) ∧
    (∀ (a : Fin 64) (s : State), Running s → s.dev.axState a = 3 → (s.dev.ax a).home = .found → (s.dev.ax a).stop = none → Effect (.homeReference a) s fun d => 
      let d := d.each (d.withMate a) (Dev.shiftAxis (d.rdS (R.AXIS_HOME_OFFSET a) - (d.ax a).homeRef))
      let d := (d.fsb (R.AXIS_STATUS a) F.AXIS_STATUS_HOMED true).fs (R.AXIS_STATUS a) F.AXIS_STATUS_STOP_CLASS 2
      (d.modAx a fun x => { x with home := .after, motion := .rampDown, stop := some { rank := 5, ramp := true, final := 2 } }).setState a 4) ∧
    (∀ (a : Fin 64) (s : State), Running s → (s.dev.ax a).home = .hardStop → s.dev.hardStop a = true → Effect (.hardStopDwellEnd a) s fun d => d.modAx a fun x => { x with home := .found, homeRef := d.actual a }) ∧
    (∀ (a : Fin 64) (s : State), Running s → (s.dev.ax a).home = .toZ ∨ ((s.dev.ax a).home = .toSwitch ∧ s.dev.homeMethod a = 2) → 2 ^ 55 ≤ (s.dev.actual a - (s.dev.ax a).homeStart).natAbs → Effect (.homeTravelLimit a) s fun d => d.axisFault a 6) ∧
    (∀ (a : Fin 64) (s : State), Running s → s.dev.wdDue a = true → s.dev.pwm.halted = false → s.dev.axState a ≠ 1 → s.dev.fg (R.AXIS_REACT a) F.AXIS_REACT_WD_CLASS = 1 ∨ s.dev.fg (R.AXIS_REACT a) F.AXIS_REACT_WD_CLASS = 2 → Effect (.hostWatchdogExpiry a) s fun d => 
      ((d.fsb (R.AXIS_STATUS a) F.AXIS_STATUS_WD_EXPIRED true).raise a).hsgStart [a.val] 3 (d.fg (R.AXIS_REACT a) F.AXIS_REACT_WD_CLASS) true) ∧
    (∀ (a : Fin 64) (s : State), Running s → s.dev.wdDue a = true → s.dev.pwm.halted = false → Effect (.hostWatchdogExpiry a) s fun d => d.wdExpire a)

/-- While the motion die runs: a start-condition timeout of a waiting head segment with a TIMEOUT sets WAIT_TIMEOUT of its group;
a HOLDING group whose path is at rest becomes HELD, and IDLE when it is being flushed; a STOPPING group whose path is at rest
becomes IDLE; a flushed running group that has left the last segment kept becomes IDLE; a profile that has run its whole movement,
or a velocity profile to target 0, puts its axis at the end of the movement in READY with its command completed, and a velocity
profile to a target other than 0 completes its command and runs on. -/
def Obligations.GroupAndProfileEventsTakeEffect : Prop :=
    (∀ (g : Fin 16) (sg : Segment) (q : List Segment) (s : State), Running s → (s.dev.grp g).queue = sg :: q → s.dev.grpState g = 2 ∨ s.dev.grpState g = 4 → (s.dev.grp g).active = false → sg.cond.start ≠ 0 → sg.cond.timeout ≠ 0 → Effect (.startConditionTimeout g) s fun d => d.grpEvent g F.INTERP_GRP_EVENT_WAIT_TIMEOUT) ∧
    (∀ (g : Fin 16) (s : State), Running s → s.dev.grpState g = 3 → s.dev.pathRest g = true → Effect (.holdComplete g) s fun d => 
      let d := (d.groupRest g).modGrp g fun x => { x with pacc := 0, scale := 0, scaleFrom := 0, scaleTo := 0 }
      let d := (d.setGrpState g 4).resolve ⟨.groupHeld, g⟩ 0 0 []
      if (d.grp g).flush then d.groupToIdle g else d) ∧
    (∀ (g : Fin 16) (s : State), Running s → s.dev.grpState g = 5 → s.dev.pathRest g = true → Effect (.groupStopComplete g) s fun d => (d.groupRest g).groupToIdle g) ∧
    (∀ (g : Fin 16) (s : State), Running s → s.dev.grpState g = 1 → (s.dev.grp g).flush = true → (s.dev.grp g).keep = 0 → Effect (.flushComplete g) s fun d => (d.groupRest g).groupToIdle g) ∧
    (∀ (a : Fin 64) (p : Profile) (s : State), Running s → (s.dev.ax a).running = some p → s.dev.axState a = 3 → p.move.total ≤ p.elapsed → p.reached = false → p.mode ≠ 2 ∨ p.target = 0 → Effect (.profileComplete a) s fun d => 
      let d := d.modAx a fun x => { x with running := none, motion := .hold, pCmd := (p.move.at' p.move.total).1 - x.gCorr, vCmd := 0, aCmd := 0 }
      (d.setState a 2).resolve ⟨.profile, a⟩ 0 0 []) ∧
    (∀ (a : Fin 64) (p : Profile) (s : State), Running s → (s.dev.ax a).running = some p → s.dev.axState a = 3 → p.move.total ≤ p.elapsed → p.mode = 2 → p.reached = false → p.target ≠ 0 → Effect (.profileComplete a) s fun d => 
      (d.modAx a fun x => { x with running := some { p with reached := true } }).resolve ⟨.profile, a⟩ 0 0 [])

/-- While the motion die runs: a disengaged follower whose ramp is at zero velocity, with no stop pending, is READY; a waiting
gear whose master crosses the engage position, with no stop pending, starts at the master's value; a clutching gear whose master
has travelled L takes the exact ratio; a gear or cam that follows and loses its master sets MASTER_LOST and takes a class 2 stop,
and an engagement that waits and loses it ends with MASTER_LOST and 0x0306; a waiting cam whose cyclic position wraps engages, and
an engaged one switches its profile. -/
def Obligations.FollowerEventsTakeEffect : Prop :=
    (∀ (a : Fin 64) (s : State), Running s → s.dev.axState a = 3 → (s.dev.ax a).motion = .rampDown → (s.dev.ax a).vCmd = 0 → (s.dev.ax a).stop = none → Effect (.followerRampEnd a) s fun d => ((d.modAx a fun x => { x with motion := .hold, aCmd := 0 }).setState a 2).resolve ⟨.rest, a⟩ 0 0 []) ∧
    (∀ (a : Fin 64) (f : Follower) (s : State), Running s → (s.dev.ax a).folNext = some f → (s.dev.ax a).stop = none → f.cam = false → f.phase = 0 → f.crosses (s.dev.masterNow f) = true → Effect (.clutchStart a) s fun d => d.gearStart a f (d.masterNow f)) ∧
    (∀ (a : Fin 64) (f : Follower) (s : State), Running s → (s.dev.ax a).fol = some f → f.cam = false → f.phase = 1 → f.clutchEnds (s.dev.masterNow f) = true → Effect (.clutchComplete a) s fun d => 
      (d.modAx a fun x => { x with fol := some (f.clutchDone (d.masterNow f)).1, pCmd := (f.clutchDone (d.masterNow f)).2, gCorr := 0 }).followStatus a
        (f.clutchDone (d.masterNow f)).1) ∧
    (∀ (a : Fin 64) (f : Follower) (s : State), Running s → (s.dev.ax a).fol = some f → s.dev.masterLost f = true → Effect (.masterLost a) s fun d => (d.fsb (R.INTERP_FOLLOW_STATUS a) F.INTERP_FOLLOW_STATUS_MASTER_LOST true).stopAxis a 5 2) ∧
    (∀ (a : Fin 64) (f : Follower) (s : State), Running s → (s.dev.ax a).fol = none → (s.dev.ax a).folNext = some f → s.dev.masterLost f = true → Effect (.masterLost a) s fun d => 
      ((d.fsb (R.INTERP_FOLLOW_STATUS a) F.INTERP_FOLLOW_STATUS_MASTER_LOST true).modAx a fun x => { x with folNext := none }).resolve ⟨.engage, a⟩ 0x0306 0 []) ∧
    (∀ (a : Fin 64) (f : Follower) (s : State), Running s → (s.dev.ax a).folNext = some f → (s.dev.ax a).stop = none → f.cam = true → s.dev.camWraps f (s.dev.masterNow f) = true → f.phase = 0 → Effect (.camWrapEngage a) s fun d => d.camStart a f (d.masterNow f)) ∧
    (∀ (a : Fin 64) (f : Follower) (s : State), Running s → (s.dev.ax a).folNext = none → (s.dev.ax a).fol = some f → (s.dev.ax a).stop = none → f.cam = true → s.dev.camWraps f (s.dev.masterNow f) = true → f.nextProf.isSome = true → Effect (.camWrapEngage a) s fun d => d.camSwitch a f)

/-- While the motion die runs: a due evaluation of an active axis of a running lane is the cascade; an enabled hook that its stale
limit makes absent, and that is not marked yet, is marked and sets the lane's event bit; an axis in READY, MOVING or STOPPING
whose error has exceeded FE_LIMIT on FE_TIME ticks takes FOLLOW; an overrun (an evaluation still due when its successor is due)
drops the older evaluation, counts, sets the lane's event bit, gives LANE_OVERRUN and makes the ACTIVE of a pair resign; an axis
at zero velocity in a ramp of the hardware stop generator leaves it; and the stop doorbell with the key 0x3C5A starts the
generator on every axis. -/
def Obligations.ControlEngineEventsTakeEffect : Prop :=
    (∀ (a : Fin 64) (x : EvalIn) (e : EvalDue) (l : List EvalDue) (s : State), Running s → s.dev.active a = true → (s.dev.ceAx a).due = e :: l → s.dev.ce.stopped = false → Effect (.axisEvaluation a x) s fun d => d.evaluate a e x) ∧
    (∀ (a : Fin 64) (h : Fin 5) (s : State), Running s → s.dev.bit (R.CE_AX_HOOK a) h = true → s.dev.hookAbsent a h = true → s.dev.bit (R.CE_AX_STATUS a) (16 + h) = false → Effect (.hookAbsent a h) s fun d => 
      (d.setBit (R.CE_AX_STATUS a) (16 + h) true).setFlag (R.CE_LANE_EVENT (laneOf a)) 1 (265 + 2 * laneOf a)) ∧
    (∀ (a : Fin 64) (s : State), Running s → 2 ≤ s.dev.axState a → s.dev.active a = true → s.dev.fg (R.CE_AX_FE a) F.CE_AX_FE_FE_LIMIT ≠ 0 → s.dev.fg (R.CE_AX_FE a) F.CE_AX_FE_FE_TIME ≤ (s.dev.ceAx a).feN → 0 < (s.dev.ceAx a).feN → Effect (.followingErrorFault a) s fun d => d.axisFault a 3) ∧
    (∀ (a : Fin 64) (e y : EvalDue) (l : List EvalDue) (s : State), Running s → s.dev.active a = true → (s.dev.ceAx a).due = e :: y :: l → Effect (.laneOverrun a) s fun d => 
      let d := (d.sampleSigs a e.tick).modCe a fun c => { c with due := c.due.drop 1 }
      let d := (d.satInc (R.CE_LANE_OVR_COUNT (laneOf a)) F.CE_LANE_OVR_COUNT_COUNT).setFlag (R.CE_LANE_EVENT (laneOf a)) 0 (264 + 2 * laneOf a)
      (d.axisFault a 4).resign 2) ∧
    (∀ (a : Fin 64) (r : StopRun) (s : State), Running s → (s.dev.ax a).stop = some r → (s.dev.ceAx a).hsgRamp = true → (s.dev.ax a).vCmd = 0 → s.dev.axState a = 4 → rankClass r.rank ≠ 0 → Effect (.hsgAxisAtZero a) s fun d => 
      ((d.modCe a fun x => { x with hsgRamp := false }).rampDone a (rankClass r.rank)).hsgUpdate) ∧
    (∀ (w : Word) (s : State), Running s → wbits w 15 0 = 0x3C5A → Effect (.sysStopDoorbell w) s fun d => d.hsgAll 1) ∧
    (∀ (w : Word) (s : State), Running s → wbits w 15 0 ≠ 0x3C5A → Effect (.sysStopDoorbell w) s fun d => d)

/-- While the motion die runs, on an enabled input: a stream that is beyond the over-current limits, by itself or as the W
estimate, sets the status bits that apply and trips; STUCK_N equal bits with STUCK_EN set STUCK, spoil the running average and
trip; alternating bits with ALT_EN set ALT and trip; more than RANGE_N words out of range set RANGE and spoil the average. A
readback fault of an enabled SDCK output sets its status bit, with its source, and fails its clock; the loss of SDCLK_IN in
external clock mode sets EXT_LOST, with the sources of all four banks, and fails clock 20; a clock that returns lets the inputs on
it refill. -/
def Obligations.FrontEndDetectionsTakeEffect : Prop :=
    (∀ (i : Fin 160) (x y : Nat) (s : State), Running s → s.dev.fb (R.CFE_SD_CFG i) F.CFE_SD_CFG_EN = true → s.dev.isOc i x = true ∨ s.dev.isOcW i x y = true → Effect (.overcurrentDetect i x y) s fun d => 
      let own := d.isOc i x
      let w := d.isOcW i x y
      let d := d.modSd i fun x => { x with ocNow := own, ocW := w }
      let d := if own && d.fgS (R.CFE_SD_OC i) F.CFE_SD_OC_OC_HI < sinc2 x 0 then d.sdFlag i F.CFE_SD_STATUS_OC_HI else d
      let d := if own && sinc2 x 0 < d.fgS (R.CFE_SD_OC i) F.CFE_SD_OC_OC_LO then d.sdFlag i F.CFE_SD_STATUS_OC_LO else d
      let d := if w then d.sdFlag i F.CFE_SD_STATUS_OC_W else d
      d.inputTrip i) ∧
    (∀ (i : Fin 160) (x : Nat) (s : State), Running s → s.dev.fb (R.CFE_SD_CFG i) F.CFE_SD_CFG_EN = true → s.dev.fb (R.CFE_SD_CFG i) F.CFE_SD_CFG_STUCK_EN = true → allEqual (s.dev.stuckN i) x = true → Effect (.stuckDetect i x) s fun d => 
      (((d.sdFlag i F.CFE_SD_STATUS_STUCK).calSpoil i).modSd i fun x => { x with stuckNow := true }).inputTrip i) ∧
    (∀ (i : Fin 160) (x : Nat) (s : State), Running s → s.dev.fb (R.CFE_SD_CFG i) F.CFE_SD_CFG_EN = true → s.dev.fb (R.CFE_SD_CFG i) F.CFE_SD_CFG_ALT_EN = true → alternates (s.dev.stuckN i) x = true → Effect (.alternatingDetect i x) s fun d => 
      ((d.sdFlag i F.CFE_SD_STATUS_ALT).modSd i fun x => { x with altNow := true }).inputTrip i) ∧
    (∀ (i : Fin 160) (s : State), Running s → s.dev.fb (R.CFE_SD_CFG i) F.CFE_SD_CFG_EN = true → s.dev.fg (R.CFE_SD_CFG i) F.CFE_SD_CFG_RANGE_N < (s.dev.sd i).rangeN → Effect (.rangeFault i) s fun d => (d.sdFlag i F.CFE_SD_STATUS_RANGE).calSpoil i) ∧
    (∀ (k : Fin 20) (s : State), Running s → s.dev.fb R.CFE_CLK_CFG F.CFE_CLK_CFG_EXT = false → s.dev.fb (R.CFE_SDCK_CFG k) F.CFE_SDCK_CFG_EN = true → Effect (.sdckReadbackFault k) s fun d => 
      let d := d.setFlag R.CFE_CLK_STATUS k (260 + k / 5)
      let d := { d with cfe := { d.cfe with sdckNow := d.cfe.sdckNow.filter (· ≠ k.val) ++ [k.val] } }
      d.clockFailed k) ∧
    (∀ (s : State), Running s → s.dev.fb R.CFE_CLK_CFG F.CFE_CLK_CFG_EXT = true → s.dev.fb R.CFE_CLK_STATUS F.CFE_CLK_STATUS_EXT_LOST = false → Effect .extClockLost s fun d => 
      let d := [260, 261, 262, 263].foldl (fun x s => x.raiseBit d s) (d.fsb R.CFE_CLK_STATUS F.CFE_CLK_STATUS_EXT_LOST true)
      ({ d with cfe := { d.cfe with extNow := true } } : Dev).clockFailed 20) ∧
    (∀ (k : Fin 21) (s : State), Running s → k.val ≠ 20 → s.dev.cfe.sdckNow.contains k.val = true → Effect (.modulatorClockReturn k) s fun d => 
      ({ d with cfe := { d.cfe with sdckNow := d.cfe.sdckNow.filter (· ≠ k.val) } } : Dev).each (d.clockInputs k.val) Dev.refill) ∧
    (∀ (s : State), Running s → s.dev.cfe.extNow = true → Effect (.modulatorClockReturn 20) s fun d => 
      let e : Dev := { d with cfe := { d.cfe with extNow := false } }
      e.each (e.clockInputs 20) Dev.refill)

/-- While the motion die runs: a decimator of an enabled, filled input on a running clock delivers the corrected sinc3 word to
CFE_SD_VALUE, and its range check, conditions and averages follow; a filling decimator on a running clock stops filling; the
calibration window of a bound axis with its legs off opens once, outside THROTTLE, and restarts the averages of its current
inputs; a full average of an unspoiled window moves OFFSET by a quarter of the mean with ties to even and sets CAL_VALID, or sets
CAL_LIMIT when the mean is beyond 2^19; a full average of the bank reference gives CFE_BANK_GAIN within 0.95 and 1.05 and clears
the age. -/
def Obligations.FrontEndWordsTakeEffect : Prop :=
    (∀ (i : Fin 160) (x : Nat) (s : State), Running s → s.dev.fb (R.CFE_SD_CFG i) F.CFE_SD_CFG_EN = true → s.dev.fb (R.CFE_SD_STATUS i) F.CFE_SD_STATUS_FILLING = false → s.dev.clockRuns (s.dev.sdClock i) = true → Effect (.freeRunWord i x) s fun d => 
      let w := sinc3 (d.osr i) x
      let v := d.sdCorrect i w
      let d := d.wr (R.CFE_SD_VALUE i) (toWI v)
      let out := d.fgS (R.CFE_SD_RANGE i) F.CFE_SD_RANGE_RANGE_HI * 256 < v || v < d.fgS (R.CFE_SD_RANGE i) F.CFE_SD_RANGE_RANGE_LO * 256
      let len := 3 * d.osr i - 2
      let avg := d.averaging i
      let oc := d.isOc i x
      let d := d.modSd i fun y => { y with
        raw := w
        rangeN := if out then y.rangeN + 1 else 0
        ocNow := y.ocNow && oc
        stuckNow := y.stuckNow && allEqual len x
        altNow := y.altNow && alternates len x
        calSum := if !avg then 0 else if y.calN < 4096 then y.calSum + w else y.calSum
        calN := if !avg then 0 else min 4096 (y.calN + 1)
        calBad := avg && y.calBad }
      if d.fg R.TRACE_CLK F.TRACE_CLK_INPUT = i then
        let d := { d with trace := { d.trace with words := d.trace.words + 1 } }
        d.sampleTick 4 d.trace.words { inst := d.ns, word := w }
      else d) ∧
    (∀ (i : Fin 160) (s : State), Running s → s.dev.fb (R.CFE_SD_STATUS i) F.CFE_SD_STATUS_FILLING = true → s.dev.clockRuns (s.dev.sdClock i) = true → Effect (.decimatorRefillComplete i) s fun d => d.fsb (R.CFE_SD_STATUS i) F.CFE_SD_STATUS_FILLING false) ∧
    (∀ (a : Fin 64) (s : State), Running s → s.dev.bound a = true → s.dev.pwmOff a = true → s.dev.throttled = false → s.dev.cfe.window.contains a.val = false → Effect (.calWindowOpen a) s fun d => 
      ({ d with cfe := { d.cfe with window := d.cfe.window ++ [a.val] } } : Dev).each (d.curIns a) Dev.calRestart) ∧
    (∀ (i : Fin 160) (s : State), Running s → s.dev.throttled = false → 4096 ≤ (s.dev.sd i).calN → s.dev.fb (R.CFE_SD_CFG i) F.CFE_SD_CFG_CAL_EN = true → s.dev.averaging i = true → (s.dev.sd i).calBad = false → (s.dev.sd i).calSum.natAbs ≤ 2 ^ 19 * 4096 → Effect (.offsetCalUpdate i) s fun d => 
      let x := d.sd i
      let d := d.calRestart i
      let o := d.fgS (R.CFE_SD_OFFSET i) F.CFE_SD_OFFSET_OFFSET
      (d.fs (R.CFE_SD_OFFSET i) F.CFE_SD_OFFSET_OFFSET (ofS 24 (roundDiv (3 * 4096 * o + x.calSum) 16384))).fsb
        (R.CFE_SD_STATUS i) F.CFE_SD_STATUS_CAL_VALID true) ∧
    (∀ (i : Fin 160) (s : State), Running s → s.dev.throttled = false → 4096 ≤ (s.dev.sd i).calN → s.dev.fb (R.CFE_SD_CFG i) F.CFE_SD_CFG_CAL_EN = true → s.dev.averaging i = true → (s.dev.sd i).calBad = false → 2 ^ 19 * 4096 < (s.dev.sd i).calSum.natAbs → Effect (.offsetCalUpdate i) s fun d => (d.calRestart i).sdFlag i F.CFE_SD_STATUS_CAL_LIMIT) ∧
    (∀ (n : Fin 4) (i : Nat) (s : State), Running s → s.dev.fg (R.CFE_BANK_CAL n) F.CFE_BANK_CAL_REF_IN = i → 4096 ≤ (s.dev.sd i).calN → s.dev.isRef i = true → s.dev.bankOff n = true → i / 40 = n.val → (s.dev.sd i).calBad = false → 0 < (s.dev.sd i).calSum → (95 : Int) * (s.dev.sd i).calSum ≤ (s.dev.fg (R.CFE_BANK_REF n) F.CFE_BANK_REF_REF_NOM : Int) * 4096 * 100 → (s.dev.fg (R.CFE_BANK_REF n) F.CFE_BANK_REF_REF_NOM : Int) * 4096 * 100 ≤ 105 * (s.dev.sd i).calSum → Effect (.bankGainUpdate n) s fun d => 
      let e := (d.calRestart i).nextFresh
      (e.wr (R.CFE_BANK_GAIN n) (ratF32 (((d.calRestart i).fg (R.CFE_BANK_REF n) F.CFE_BANK_REF_REF_NOM : Int) * 4096) (d.sd i).calSum.toNat)).wr (R.CFE_BANK_AGE n) 0)

/-- While the motion die runs: a period start of a running TB1 outside a halt starts its period; the oldest issued compare value
of a switching leg arrives; the edge of S of a switching leg in its slope moves S once, at the edge position; a peak reload of an
up-down timebase outside a halt reloads its switching legs; the dead time's end turns a switching leg without a held output on;
the end of a minimum pulse of a switching leg ends the hold. -/
def Obligations.PwmEventsTakeEffect : Prop :=
    (∀ (n : Fin 4) (s : State), Running s → s.dev.pwm.halted = false → (s.dev.bank n).run1 = true → Effect (.tb1PeriodStart n) s fun d => d.tb1Start n) ∧
    (∀ (l : Fin 192) (u : Bool) (p r c : Nat) (rest : List Nat) (s : State), Running s → s.dev.switching l = true → (s.dev.leg l).issued = c :: rest → Effect (.compareValueArrival l u p r) s fun d => ((d.modLeg l fun x => { x with issued := rest }).sampleArrive l).cmpArrive l c u p r) ∧
    (∀ (l : Fin 192) (u : Bool) (e : Nat) (s : State), Running s → s.dev.switching l = true → s.dev.upMode l = false ∨ u = false → (s.dev.leg l).slope2 = u → (s.dev.leg l).edged = false → s.dev.edgePos l (s.dev.leg l).c u = some e → Effect (.switchingSignalEdge l u) s fun d => 
      (d.sEdge l (!(d.upMode l || u)) (d.slopeStart l u + e)).modLeg l fun x => { x with edged := true }) ∧
    (∀ (n : Fin 4) (s : State), Running s → s.dev.pwm.halted = false → s.dev.fg (R.PWM_BANK_CFG n) F.PWM_BANK_CFG_MODE0 ≠ 1 → s.dev.fb (R.PWM_BANK_CFG n) F.PWM_BANK_CFG_RPEAK0 = true → Effect (.reloadPoint n false) s fun d => d.each ((d.bankLegs n false).filter d.switching) Dev.reload) ∧
    (∀ (n : Fin 4) (s : State), Running s → s.dev.pwm.halted = false → (s.dev.bank n).mode1 ≠ 1 → (s.dev.bank n).rpeak1 = 1 → Effect (.reloadPoint n true) s fun d => d.each ((d.bankLegs n true).filter d.switching) Dev.reload) ∧
    (∀ (l : Fin 192) (s : State), Running s → s.dev.switching l = true → (s.dev.leg l).held = none → Effect (.deadTimeTurnOn l) s fun d => d.turnOn l) ∧
    (∀ (l : Fin 192) (s : State), Running s → s.dev.switching l = true → Effect (.minPulseEnd l) s fun d => d.minEnd l)

/-- While the motion die runs: a trip input that is enabled, not at its level and not blanked raises LEVEL and acts; a filtered
level that goes away clears LEVEL; the end of blanking acts on an unfiltered level that is still there; a trip input without its
level is re-armed, and one whose level is still there stays latched. At debug level HALT or above with the DAP connected, a motion
halt outside DOZE raises 609 and, unless HALT_GUARD is set while an axis is active or a host leg switches, freezes the switching
legs and the lanes and sets MHALT; with HALT_GUARD so refused, and in DOZE, where its wake latch is offered the edge, it is
counted in HALT_REFUSED; its release thaws them and cuts the next period of every bank. -/
def Obligations.TripsAndHaltTakeEffect : Prop :=
    (∀ (t : Fin 68) (s : State), Running s → s.dev.fb (R.PWM_TRIP_CFG t) F.PWM_TRIP_CFG_EN = true → s.dev.fb (R.PWM_TRIP_STATUS t) F.PWM_TRIP_STATUS_LEVEL = false → (s.dev.trip t).blocked = false → Effect (.tripFilteredAssert t) s fun d => (d.fsb (R.PWM_TRIP_STATUS t) F.PWM_TRIP_STATUS_LEVEL true).tripAct t) ∧
    (∀ (t : Fin 68) (s : State), Running s → (s.dev.trip t).blocked = false → Effect (.tripFilteredRelease t) s fun d => d.fsb (R.PWM_TRIP_STATUS t) F.PWM_TRIP_STATUS_LEVEL false) ∧
    (∀ (t : Fin 68) (s : State), Running s → (s.dev.trip t).blocked = true → s.dev.tripFilt t = 0 → s.dev.fb (R.PWM_TRIP_STATUS t) F.PWM_TRIP_STATUS_LEVEL = true → s.dev.fb (R.PWM_TRIP_CFG t) F.PWM_TRIP_CFG_EN = true → Effect (.blankingEnd t) s fun d => (d.modTrip t fun x => { x with blocked := false }).tripAct t) ∧
    (∀ (t : Fin 68) (s : State), Running s → s.dev.fb (R.PWM_TRIP_STATUS t) F.PWM_TRIP_STATUS_LEVEL = false → Effect (.tripRearm t) s fun d => d.unlatch t) ∧
    (∀ (t : Fin 68) (s : State), Running s → s.dev.fb (R.PWM_TRIP_STATUS t) F.PWM_TRIP_STATUS_LEVEL = true → Effect (.tripRearm t) s fun d => d) ∧
    (∀ (s : State), Running s → s.dev.dapAt 2 = true → s.dev.dozing = false → s.dev.fb R.DEBUG_CFG F.DEBUG_CFG_HALT_GUARD = false → Effect .motionHalt s fun d => 
      let d := ((d.raise 609).legsFrom .switching .frozen).bankFrozen true
      ({ d with pwm := { d.pwm with halted := true }, ce := { d.ce with stopped := true } } : Dev).fsb R.DEBUG_STATUS F.DEBUG_STATUS_MHALT true) ∧
    (∀ (s : State), Running s → s.dev.dapAt 2 = true → s.dev.dozing = false → s.dev.firstActive = none → s.dev.hostSwitching = false → Effect .motionHalt s fun d => 
      let d := ((d.raise 609).legsFrom .switching .frozen).bankFrozen true
      ({ d with pwm := { d.pwm with halted := true }, ce := { d.ce with stopped := true } } : Dev).fsb R.DEBUG_STATUS F.DEBUG_STATUS_MHALT true) ∧
    (∀ (s : State), Running s → s.dev.dapAt 2 = true → s.dev.dozing = false → s.dev.fb R.DEBUG_CFG F.DEBUG_CFG_HALT_GUARD = true → s.dev.firstActive.isSome = true ∨ s.dev.hostSwitching = true → Effect .motionHalt s fun d => (d.raise 609).haltRefuse) ∧
    (∀ (s : State), Running s → s.dev.dapAt 2 = true → s.dev.dozing = true → Effect .motionHalt s fun d => (d.wakeEdge 41).haltRefuse) ∧
    (∀ (s : State), Running s → s.dev.dapAt 2 = true → s.dev.pwm.halted = true → Effect .motionHaltRelease s fun d => 
      let d := { d with pwm := { d.pwm with halted := false }, ce := { d.ce with stopped := false } }
      let d := d.each (List.range 4) fun d n => d.modBank n fun b => { b with cut := true }
      ((d.legsFrom .frozen .switching).bankFrozen false).fsb R.DEBUG_STATUS F.DEBUG_STATUS_MHALT false)

/-- While the motion die runs: in quadrature mode, an edge of one line moves the counter by the step of the two levels, negated by
DIR, and compare outputs on the counter may return; an edge of both lines at once flags QERR and counts nothing; a Z pulse at its
gate levels writes ENC_ZPOS and sets ZSEEN, and homing axes in their Z search find it. In a serial mode, a due frame starts when
SL is high and delivers a bad sample with NOT_IDLE otherwise; a running frame without bits flags TIMEOUT and delivers a bad
sample, and one with bits is checked and delivered. A port with more than BAD_N bad samples fails once, with the ENCODER fault on
its axes and its compare outputs stopped, and recovers after 16 good ones. -/
def Obligations.EncoderEventsTakeEffect : Prop :=
    (∀ (e : Fin 64) (a b : Bool) (s : State), Running s → s.dev.encMode e = 1 → (s.dev.port e).a = a ∨ (s.dev.port e).b = b → ¬ ((s.dev.port e).a = a ∧ (s.dev.port e).b = b) → Effect (.quadratureEdge e a b) s fun d => 
      let st := quadStep (d.port e).a a b
      let st := if d.fb (R.ENC_CFG e) F.ENC_CFG_DIR then -st else st
      let d := d.modPort e fun x => { x with a := a, b := b, counter := toS 40 (ofS 40 (x.counter + st)) }
      d.each (d.portOutputs e false) Dev.pcoReturn) ∧
    (∀ (e : Fin 64) (a b : Bool) (s : State), Running s → s.dev.encMode e = 1 → (s.dev.port e).a ≠ a → (s.dev.port e).b ≠ b → Effect (.quadratureEdge e a b) s fun d => (d.encFlag e F.ENC_STATUS_QERR).modPort e fun x => { x with a := a, b := b, qerr := true }) ∧
    (∀ (e : Fin 64) (s : State), Running s → s.dev.encMode e = 1 → zGate (s.dev.fg (R.ENC_CFG e) F.ENC_CFG_ZGATE) (s.dev.port e).a (s.dev.port e).b = true → Effect (.zEdge e) s fun d => 
      let x := d.port e
      let p := wrap64 (x.counter * 2 ^ 24)
      let d := (d.wrS (R.ENC_ZPOS e) p).fsb (R.ENC_STATUS e) F.ENC_STATUS_ZSEEN true
      d.each (d.portAxes e) fun d a =>
        if (d.ax a).home = .toZ then d.modAx a fun x => { x with home := .found, homeRef := p + x.shift } else d) ∧
    (∀ (e : Fin 64) (s : State), Running s → 2 ≤ s.dev.encMode e → (s.dev.port e).due = true → (s.dev.port e).running = false → Effect (.serialFrameStart e true) s fun d => d.modPort e fun x => { x with due := false, running := true, startNs := d.ns }) ∧
    (∀ (e : Fin 64) (s : State), Running s → 2 ≤ s.dev.encMode e → (s.dev.port e).due = true → (s.dev.port e).running = false → Effect (.serialFrameStart e false) s fun d => 
      ((d.encFlag e F.ENC_STATUS_NOT_IDLE).modPort e fun x => { x with due := false }).deliver e (d.ns + d.fg (R.ENC_DLY e) F.ENC_DLY_LATCH_DLY) none true) ∧
    (∀ (e : Fin 64) (late : Bool) (s : State), Running s → (s.dev.port e).running = true → Effect (.serialFrameComplete e none late false) s fun d => 
      ((d.modPort e fun x => { x with running := false }).encFlag e F.ENC_STATUS_TIMEOUT).deliver e
        ((d.port e).startNs + d.fg (R.ENC_DLY e) F.ENC_DLY_LATCH_DLY) none true) ∧
    (∀ (e : Fin 64) (raw : Nat) (s : State), Running s → (s.dev.port e).running = true → s.dev.encMode e = 2 → Effect (.serialFrameComplete e (some raw) false false) s fun d => 
      let time := (d.port e).startNs + d.fg (R.ENC_DLY e) F.ENC_DLY_LATCH_DLY
      let d := d.modPort e fun x => { x with running := false }
      let r := d.frameChecks e raw
      let d := r.1.foldl (fun d f => d.encFlag e f) d
      let w := d.posWord e r.2
      let p := d.wordPos e w
      let d := d.deliver e time (some p) !r.1.isEmpty
      match (d.port e).hist with
      | x :: _ => if x.good then d.modPort e fun y => { y with ref := some (w, p) } else d
      | [] => d) ∧
    (∀ (e : Fin 64) (s : State), Running s → s.dev.encMode e ≠ 0 → s.dev.fg (R.ENC_CFG e) F.ENC_CFG_BAD_N < (s.dev.port e).badRun → s.dev.fb (R.ENC_STATUS e) F.ENC_STATUS_FAILED = false → Effect (.encoderFailed e) s fun d => 
      let d := d.encFlag e F.ENC_STATUS_FAILED
      let d := d.each (d.portAxes e) fun d a => d.axisFault a 2
      d.each (d.portOutputs e false ++ d.portOutputs e true) fun d o => (d.pcoStop o).raise (160 + o)) ∧
    (∀ (e : Fin 64) (s : State), Running s → s.dev.fb (R.ENC_STATUS e) F.ENC_STATUS_FAILED = true → 16 ≤ (s.dev.port e).goodRun → Effect (.encoderFailedClear e) s fun d => (d.fsb (R.ENC_STATUS e) F.ENC_STATUS_FAILED false).levelFell d true (192 + e))

/-- While the motion die runs, at an enabled fix input: an edge at its pin, 20 ns or more after the last event or the first one,
is offered to the homing searches, and, where the edge selection admits it, is an event: it becomes the last one, counts in EVENTS
and reaches the start conditions; then a forming record counts it as MISSED, and an armed input that forms none starts a record
with its stamp. An admitted edge less than 20 ns after the last event counts as MISSED, and one not admitted changes nothing. At
an input that listens to its compare output, the edge of that output is such an event at the output's stamp, or MISSED. A forming
record whose needed entries have all been written, but for axes unbound or without a port, completes: those have the entry 0 and
are not valid, the other entries stay, SEQ is even again, FORMING ends and source 144 + i is raised. An enabled, armed output
fires when with SRC 0 the counter has reached the armed target, and when with SRC 1 a predicted instant stands: on an inactive
output the pulse starts and is stamped, on an active one it is prolonged and OVERLAP counts with source 160 + o; then the next
target is armed, or with REPEAT the first one for after the return, or DONE is set with its source. The end of the pulse takes the
output to its inactive level. -/
def Obligations.FixAndCompareEventsTakeEffect : Prop :=
    (∀ (i : Fin 16) (up : Bool) (t : Nat) (s : State), Running s → s.dev.fb (R.FIX_CFG i) F.FIX_CFG_EN = true → s.dev.fb (R.FIX_CFG i) F.FIX_CFG_SRC = false → (s.dev.fix i).last = none → s.dev.fixWants i up = true → Effect (.fixEvent i up t) s fun d => 
      let x := ((d.homeEdge i up t).modFix i fun x => { x with last := some t }).wrapInc (R.FIX_STATUS i) F.FIX_STATUS_EVENTS
      let x := x.startEvent 1 i t
      if x.fb (R.FIX_STATUS i) F.FIX_STATUS_FORMING then x.satInc (R.FIX_STATUS i) F.FIX_STATUS_MISSED
      else if x.fb (R.FIX_STATUS i) F.FIX_STATUS_ARMED then x.fixRecord i t else x) ∧
    (∀ (i : Fin 16) (up : Bool) (t l : Nat) (s : State), Running s → s.dev.fb (R.FIX_CFG i) F.FIX_CFG_EN = true → s.dev.fb (R.FIX_CFG i) F.FIX_CFG_SRC = false → (s.dev.fix i).last = some l → l + 20 ≤ t → s.dev.fixWants i up = true → Effect (.fixEvent i up t) s fun d => 
      let x := ((d.homeEdge i up t).modFix i fun x => { x with last := some t }).wrapInc (R.FIX_STATUS i) F.FIX_STATUS_EVENTS
      let x := x.startEvent 1 i t
      if x.fb (R.FIX_STATUS i) F.FIX_STATUS_FORMING then x.satInc (R.FIX_STATUS i) F.FIX_STATUS_MISSED
      else if x.fb (R.FIX_STATUS i) F.FIX_STATUS_ARMED then x.fixRecord i t else x) ∧
    (∀ (i : Fin 16) (up : Bool) (t : Nat) (s : State), Running s → s.dev.fb (R.FIX_CFG i) F.FIX_CFG_EN = true → s.dev.fb (R.FIX_CFG i) F.FIX_CFG_SRC = false → (∀ l : Nat, (s.dev.fix i).last = some l → l + 20 ≤ t) → s.dev.fixWants i up = false → Effect (.fixEvent i up t) s fun d => d.homeEdge i up t) ∧
    (∀ (i : Fin 16) (up : Bool) (t l : Nat) (s : State), Running s → s.dev.fb (R.FIX_CFG i) F.FIX_CFG_EN = true → s.dev.fb (R.FIX_CFG i) F.FIX_CFG_SRC = false → (s.dev.fix i).last = some l → t < l + 20 → s.dev.fixWants i up = true → Effect (.fixEvent i up t) s fun d => d.satInc (R.FIX_STATUS i) F.FIX_STATUS_MISSED) ∧
    (∀ (i : Fin 16) (up : Bool) (t l : Nat) (s : State), Running s → s.dev.fb (R.FIX_CFG i) F.FIX_CFG_EN = true → s.dev.fb (R.FIX_CFG i) F.FIX_CFG_SRC = false → (s.dev.fix i).last = some l → t < l + 20 → s.dev.fixWants i up = false → Effect (.fixEvent i up t) s fun d => d) ∧
    (∀ (i : Fin 16) (up : Bool) (t u : Nat) (s : State), Running s → s.dev.fb (R.FIX_CFG i) F.FIX_CFG_EN = true → s.dev.fb (R.FIX_CFG i) F.FIX_CFG_SRC = true → (s.dev.fix i).pco = some u → (∀ l : Nat, (s.dev.fix i).last = some l → l + 20 ≤ u) → Effect (.fixEvent i up t) s fun d => 
      let x := ((d.modFix i fun x => { x with pco := none }).modFix i fun x => { x with last := some u }).wrapInc (R.FIX_STATUS i) F.FIX_STATUS_EVENTS
      let x := x.startEvent 1 i u
      if x.fb (R.FIX_STATUS i) F.FIX_STATUS_FORMING then x.satInc (R.FIX_STATUS i) F.FIX_STATUS_MISSED
      else if x.fb (R.FIX_STATUS i) F.FIX_STATUS_ARMED then x.fixRecord i u else x) ∧
    (∀ (i : Fin 16) (up : Bool) (t u l : Nat) (s : State), Running s → s.dev.fb (R.FIX_CFG i) F.FIX_CFG_EN = true → s.dev.fb (R.FIX_CFG i) F.FIX_CFG_SRC = true → (s.dev.fix i).pco = some u → (s.dev.fix i).last = some l → u < l + 20 → Effect (.fixEvent i up t) s fun d => (d.modFix i fun x => { x with pco := none }).satInc (R.FIX_STATUS i) F.FIX_STATUS_MISSED) ∧
    (∀ (i : Fin 16) (s : State), Running s → s.dev.fb (R.FIX_STATUS i) F.FIX_STATUS_FORMING = true → (s.dev.fix i).need = [] → Effect (.fixRecordComplete i) s fun d => 
      ((d.modFix i fun x => { x with need := [] }).wrapInc (R.FIX_REC_HDR i) F.FIX_REC_HDR_SEQ |>.fsb (R.FIX_STATUS i) F.FIX_STATUS_FORMING false).raise (144 + i)) ∧
    (∀ (i : Fin 16) (l : List Nat) (s : State), Running s → s.dev.fb (R.FIX_STATUS i) F.FIX_STATUS_FORMING = true → (s.dev.fix i).need = l → (∀ a : Nat, a ∈ l → s.dev.bound a = false ∨ s.dev.encMode (s.dev.portOf a) = 0) → Effect (.fixRecordComplete i) s fun d => 
      let d := d.each l fun d a => (d.wr64 (R.FIX_REC_POS i a) 0).setBit (R.FIX_REC_VALID i) a false
      ((d.modFix i fun x => { x with need := [] }).wrapInc (R.FIX_REC_HDR i) F.FIX_REC_HDR_SEQ |>.fsb (R.FIX_STATUS i) F.FIX_STATUS_FORMING false).raise (144 + i)) ∧
    (∀ (o : Fin 16) (s : State), Running s → s.dev.pcoOn o = true → (s.dev.pco o).armed = true → s.dev.fb (R.PCO_CFG o) F.PCO_CFG_SRC = false → s.dev.reached o (s.dev.pcoPos o) (s.dev.target o (s.dev.fg (R.PCO_STATUS o) F.PCO_STATUS_NEXT)) = true → Effect (.compareCounterFire o) s fun d => d.pcoFire o) ∧
    (∀ (o : Fin 16) (s : State), Running s → s.dev.pcoOn o = true → (s.dev.pco o).armed = true → s.dev.fb (R.PCO_CFG o) F.PCO_CFG_SRC = true → (s.dev.pco o).pred.isSome = true → Effect (.comparePredictFire o) s fun d => d.pcoFire o) ∧
    (∀ (d : Dev) (o : Nat), (d.pco o).active = false → d.pcoFire o =
      (let d := (d.modPco o fun x => { x with active := true }).modFix o fun x => { x with pco := some d.ns }
       d.pcoNextTarget o)) ∧
    (∀ (d : Dev) (o : Nat), (d.pco o).active = true → d.pcoFire o = ((d.satInc (R.PCO_STATUS o) F.PCO_STATUS_OVERLAP).raise (160 + o)).pcoNextTarget o) ∧
    (∀ (d : Dev) (o : Nat), d.fg (R.PCO_STATUS o) F.PCO_STATUS_NEXT + 1 < d.targets o → d.pcoNextTarget o = (d.fs (R.PCO_STATUS o) F.PCO_STATUS_NEXT (d.fg (R.PCO_STATUS o) F.PCO_STATUS_NEXT + 1)).pcoPredict o) ∧
    (∀ (d : Dev) (o : Nat), d.targets o ≤ d.fg (R.PCO_STATUS o) F.PCO_STATUS_NEXT + 1 → d.fb (R.PCO_CFG o) F.PCO_CFG_REPEAT = true → d.pcoNextTarget o = (d.fs (R.PCO_STATUS o) F.PCO_STATUS_NEXT 0).modPco o fun x => { x with armed := false, back := true, pred := none }) ∧
    (∀ (d : Dev) (o : Nat), d.targets o ≤ d.fg (R.PCO_STATUS o) F.PCO_STATUS_NEXT + 1 → d.fb (R.PCO_CFG o) F.PCO_CFG_REPEAT = false → d.pcoNextTarget o = ((d.modPco o fun x => { x with armed := false, pred := none }).fsb (R.PCO_STATUS o) F.PCO_STATUS_DONE true).raise (160 + o)) ∧
    (∀ (o : Fin 16) (s : State), Running s → Effect (.pcoPulseEnd o) s fun d => d.modPco o fun x => { x with active := false })

/-- For every core, all operands and every operation of slot L: when the motion die runs and the core is about to issue the bundle
(RUNNING, its next bundle holds the encodings of the two operations, and no fault applies to it), MPY, MAC, MSU, MPYI, MACI, MSUI,
CLR, ADDA, SUBA, MOVA, NEGA, ABSA, SHA, LDA, ADD, SUB, ADDS, SUBS, AND, OR, XOR, MIN, MAX, ASR, LSR, LSL, CMP, ADDI, ABS and NEG
answer the next state in which the earlier stages are committed and the bundle has executed. -/
def Obligations.SlotMBundlesIssue : Prop :=
  (∀ (c : Fin 4) (ad : Fin 4) (ra rb : Fin 16) (lo : LOp), Issues (.tdMpy c ad ra rb (encL lo)) c (.mul .mpy ad ra rb) lo) ∧
    (∀ (c : Fin 4) (ad : Fin 4) (ra rb : Fin 16) (lo : LOp), Issues (.tdMac c ad ra rb (encL lo)) c (.mul .mac ad ra rb) lo) ∧
    (∀ (c : Fin 4) (ad : Fin 4) (ra rb : Fin 16) (lo : LOp), Issues (.tdMsu c ad ra rb (encL lo)) c (.mul .msu ad ra rb) lo) ∧
    (∀ (c : Fin 4) (ad : Fin 4) (ra rb : Fin 16) (lo : LOp), Issues (.tdMpyi c ad ra rb (encL lo)) c (.mul .mpyi ad ra rb) lo) ∧
    (∀ (c : Fin 4) (ad : Fin 4) (ra rb : Fin 16) (lo : LOp), Issues (.tdMaci c ad ra rb (encL lo)) c (.mul .maci ad ra rb) lo) ∧
    (∀ (c : Fin 4) (ad : Fin 4) (ra rb : Fin 16) (lo : LOp), Issues (.tdMsui c ad ra rb (encL lo)) c (.mul .msui ad ra rb) lo) ∧
    (∀ (c : Fin 4) (ad : Fin 4) (lo : LOp), Issues (.tdClr c ad (encL lo)) c (.clr ad) lo) ∧
    (∀ (c : Fin 4) (ad src : Fin 4) (lo : LOp), Issues (.tdAdda c ad src (encL lo)) c (.acc .adda ad src) lo) ∧
    (∀ (c : Fin 4) (ad src : Fin 4) (lo : LOp), Issues (.tdSuba c ad src (encL lo)) c (.acc .suba ad src) lo) ∧
    (∀ (c : Fin 4) (ad src : Fin 4) (lo : LOp), Issues (.tdMova c ad src (encL lo)) c (.acc .mova ad src) lo) ∧
    (∀ (c : Fin 4) (ad src : Fin 4) (lo : LOp), Issues (.tdNega c ad src (encL lo)) c (.acc .nega ad src) lo) ∧
    (∀ (c : Fin 4) (ad src : Fin 4) (lo : LOp), Issues (.tdAbsa c ad src (encL lo)) c (.acc .absa ad src) lo) ∧
    (∀ (c : Fin 4) (ad : Fin 4) (n : BitVec 6) (lo : LOp), Issues (.tdSha c ad n (encL lo)) c (.sha ad n) lo) ∧
    (∀ (c : Fin 4) (ad : Fin 4) (ra : Fin 16) (lo : LOp), Issues (.tdLda c ad ra (encL lo)) c (.lda ad ra) lo) ∧
    (∀ (c : Fin 4) (rd ra rb : Fin 16) (lo : LOp), Issues (.tdAdd c rd ra rb (encL lo)) c (.alu .add rd ra rb) lo) ∧
    (∀ (c : Fin 4) (rd ra rb : Fin 16) (lo : LOp), Issues (.tdSub c rd ra rb (encL lo)) c (.alu .sub rd ra rb) lo) ∧
    (∀ (c : Fin 4) (rd ra rb : Fin 16) (lo : LOp), Issues (.tdAdds c rd ra rb (encL lo)) c (.alu .adds rd ra rb) lo) ∧
    (∀ (c : Fin 4) (rd ra rb : Fin 16) (lo : LOp), Issues (.tdSubs c rd ra rb (encL lo)) c (.alu .subs rd ra rb) lo) ∧
    (∀ (c : Fin 4) (rd ra rb : Fin 16) (lo : LOp), Issues (.tdAnd c rd ra rb (encL lo)) c (.alu .and rd ra rb) lo) ∧
    (∀ (c : Fin 4) (rd ra rb : Fin 16) (lo : LOp), Issues (.tdOr c rd ra rb (encL lo)) c (.alu .or rd ra rb) lo) ∧
    (∀ (c : Fin 4) (rd ra rb : Fin 16) (lo : LOp), Issues (.tdXor c rd ra rb (encL lo)) c (.alu .xor rd ra rb) lo) ∧
    (∀ (c : Fin 4) (rd ra rb : Fin 16) (lo : LOp), Issues (.tdMin c rd ra rb (encL lo)) c (.alu .min rd ra rb) lo) ∧
    (∀ (c : Fin 4) (rd ra rb : Fin 16) (lo : LOp), Issues (.tdMax c rd ra rb (encL lo)) c (.alu .max rd ra rb) lo) ∧
    (∀ (c : Fin 4) (rd ra : Fin 16) (n : Fin 32) (lo : LOp), Issues (.tdAsr c rd ra n (encL lo)) c (.shift .asr rd ra n) lo) ∧
    (∀ (c : Fin 4) (rd ra : Fin 16) (n : Fin 32) (lo : LOp), Issues (.tdLsr c rd ra n (encL lo)) c (.shift .lsr rd ra n) lo) ∧
    (∀ (c : Fin 4) (rd ra : Fin 16) (n : Fin 32) (lo : LOp), Issues (.tdLsl c rd ra n (encL lo)) c (.shift .lsl rd ra n) lo) ∧
    (∀ (c : Fin 4) (ra rb : Fin 16) (lo : LOp), Issues (.tdCmp c ra rb (encL lo)) c (.cmp ra rb) lo) ∧
    (∀ (c : Fin 4) (rd ra : Fin 16) (imm : BitVec 16) (lo : LOp), Issues (.tdAddi c rd ra imm (encL lo)) c (.addi rd ra imm) lo) ∧
    (∀ (c : Fin 4) (rd ra : Fin 16) (lo : LOp), Issues (.tdAbs c rd ra (encL lo)) c (.abs rd ra) lo) ∧
    (∀ (c : Fin 4) (rd ra : Fin 16) (lo : LOp), Issues (.tdNeg c rd ra (encL lo)) c (.neg rd ra) lo)

/-- For every core, all operands and every operation of slot M: when the motion die runs and the core is about to issue the
bundle, LD, ST, LDD, MOV, MOVI, MOVIH, SRSET, SRCLR, TAPD, BR, CALL, RET, RETI1, RETI2, DO, DOR, ENDDO and WAIT answer the next
state in which the earlier stages are committed and the bundle has executed; so does the row NOP with the words of two NOPs. -/
def Obligations.SlotLBundlesIssue : Prop :=
  (∀ (c : Fin 4) (reg : BitVec 7) (path : Bool) (am pn : Fin 8) (off : BitVec 6) (mo : MOp), Issues (.tdLd c reg path am pn off (encM mo)) c mo (.ld reg path am pn off)) ∧
    (∀ (c : Fin 4) (reg : BitVec 7) (am pn : Fin 8) (off : BitVec 6) (mo : MOp), Issues (.tdSt c reg am pn off (encM mo)) c mo (.st reg am pn off)) ∧
    (∀ (c : Fin 4) (dx dy : Fin 16) (amx : Fin 4) (px : Fin 8) (amy : Fin 4) (py : Fin 8) (mo : MOp), Issues (.tdLdd c dx dy amx px amy py (encM mo)) c mo (.ldd dx dy amx px amy py)) ∧
    (∀ (c : Fin 4) (dst src : BitVec 7) (mo : MOp), Issues (.tdMov c dst src (encM mo)) c mo (.mov dst src)) ∧
    (∀ (c : Fin 4) (dst : BitVec 7) (imm : BitVec 16) (mo : MOp), Issues (.tdMovi c dst imm (encM mo)) c mo (.movi dst imm)) ∧
    (∀ (c : Fin 4) (dst : BitVec 7) (imm : BitVec 16) (mo : MOp), Issues (.tdMovih c dst imm (encM mo)) c mo (.movih dst imm)) ∧
    (∀ (c : Fin 4) (mask : BitVec 6) (mo : MOp), Issues (.tdSrset c mask (encM mo)) c mo (.srset mask)) ∧
    (∀ (c : Fin 4) (mask : BitVec 6) (mo : MOp), Issues (.tdSrclr c mask (encM mo)) c mo (.srclr mask)) ∧
    (∀ (c : Fin 4) (ad : Fin 4) (sub : Bool) (px : Fin 8) (amx : Fin 4) (py : Fin 8) (amy : Fin 4) (mo : MOp), Issues (.tdTapd c ad sub px amx py amy (encM mo)) c mo (.tapd ad sub px amx py amy)) ∧
    (∀ (c : Fin 4) (cond : Fin 16) (target : BitVec 13) (mo : MOp), Issues (.tdBr c cond target (encM mo)) c mo (.br cond target)) ∧
    (∀ (c : Fin 4) (target : BitVec 13) (mo : MOp), Issues (.tdCall c target (encM mo)) c mo (.call target)) ∧
    (∀ (c : Fin 4) (mo : MOp), Issues (.tdRet c (encM mo)) c mo .ret) ∧
    (∀ (c : Fin 4) (mo : MOp), Issues (.tdReti1 c (encM mo)) c mo .reti1) ∧
    (∀ (c : Fin 4) (mo : MOp), Issues (.tdReti2 c (encM mo)) c mo .reti2) ∧
    (∀ (c : Fin 4) (ofs : BitVec 10) (count : BitVec 16) (mo : MOp), Issues (.tdDo c ofs count (encM mo)) c mo (.doI ofs count)) ∧
    (∀ (c : Fin 4) (dn : Fin 16) (ofs : BitVec 10) (mo : MOp), Issues (.tdDor c dn ofs (encM mo)) c mo (.dor dn ofs)) ∧
    (∀ (c : Fin 4) (t : Bool) (target : BitVec 13) (mo : MOp), Issues (.tdEnddo c t target (encM mo)) c mo (.enddo t target)) ∧
    (∀ (c : Fin 4) (mo : MOp), Issues (.tdWait c (encM mo)) c mo .wait) ∧
    (∀ c : Fin 4, Issues (.tdNop c (encM .nop) (encL .nop)) c .nop .nop)

/-- For every core and all operations of the two slots: when the motion die runs, the core is about to issue the bundle and the
address of its load or store is the one that the row names (SEV 9804h, EVR_CLAIM 9805h, EVR_COMPLETE 9806h, a hook port 9000h to
91FFh, TIME_L 9800h, the lower word of an encoder position 8800h to 887Fh), the command answers the next state in which the
earlier stages are committed and the bundle has executed. -/
def Obligations.WindowBundlesIssue : Prop :=
    (∀ (c : Fin 4) (mo : MOp) (lo : LOp) (s : State), Running s → CanIssue s.dev c mo lo → s.dev.tdStoreAddr c (encL lo) = some 0x9804 → Effect (.sevWrite c (encM mo) (encL lo)) s fun d => (d.tdCommit c).tdExec c mo lo) ∧
    (∀ (c : Fin 4) (mo : MOp) (lo : LOp) (s : State), Running s → CanIssue s.dev c mo lo → (s.dev.tdLoadAddrs c (encL lo)).contains 0x9805 = true → Effect (.evrClaimLoad c (encM mo) (encL lo)) s fun d => (d.tdCommit c).tdExec c mo lo) ∧
    (∀ (c : Fin 4) (mo : MOp) (lo : LOp) (s : State), Running s → CanIssue s.dev c mo lo → s.dev.tdStoreAddr c (encL lo) = some 0x9806 → Effect (.evrCompleteStore c (encM mo) (encL lo)) s fun d => (d.tdCommit c).tdExec c mo lo) ∧
    (∀ (c : Fin 4) (mo : MOp) (lo : LOp) (s : State), Running s → CanIssue s.dev c mo lo → (s.dev.tdStoreAddr c (encL lo)).any (fun a => decide (0x9000 ≤ a) && decide (a < 0x9200)) = true → Effect (.hookPortStore c (encM mo) (encL lo)) s fun d => (d.tdCommit c).tdExec c mo lo) ∧
    (∀ (c : Fin 4) (mo : MOp) (lo : LOp) (s : State), Running s → CanIssue s.dev c mo lo → (s.dev.tdLoadAddrs c (encL lo)).contains 0x9800 = true → Effect (.timeLRead c (encM mo) (encL lo)) s fun d => (d.tdCommit c).tdExec c mo lo) ∧
    (∀ (c : Fin 4) (mo : MOp) (lo : LOp) (s : State), Running s → CanIssue s.dev c mo lo → (s.dev.tdLoadAddrs c (encL lo)).any (fun a => decide (0x8800 ≤ a) && decide (a < 0x8880) && decide (a % 2 = 0)) = true → Effect (.encPosLowerLoad c (encM mo) (encL lo)) s fun d => (d.tdCommit c).tdExec c mo lo)

/-- For every core and all slot words: when the motion die runs, the core is RUNNING, the words are those of its next bundle, and
a fault applies to it (ILLEGAL, ADDR or LOOP, by bit number; with words that decode to nothing, ILLEGAL), the bundle has none of
its effects and the core takes that fault. Stated for the rows whose operands are the two words (NOP, of two NOPs, and the window
rows); an unencodable word is always a fault. -/
def Obligations.FaultingBundlesFault : Prop :=
    (∀ (c : Fin 4) (m l : Word) (b : Nat) (s : State), Running s → s.dev.tdState c = 2 → s.dev.bundle c (s.dev.core c).f0.addr = (m, l) → (s.dev.tdStoreAddr c l).any (fun a => decide (0x9000 ≤ a) && decide (a < 0x9200)) = true → (s.dev.tdCommit c).tdFaultOf c (decM m) (decL l) = some b → Effect (.hookPortStore c m l) s fun d => (d.tdCommit c).tdFault c b) ∧
    (∀ (d : Dev) (c : Nat) (m : Word) (l : Option LOp), decM m = none → d.tdFaultOf c (decM m) l = some 1) ∧
    (∀ (d : Dev) (c : Nat) (m : Option MOp) (l : Word), decL l = none → d.tdFaultOf c m (decL l) = some 1)

/-- While the motion die runs: a due trigger of an enabled TD_TRIG of a RUNNING or WAITING core outside DOZE sets its pending bit,
or, when it is pending already, counts an overrun and sets TRIG_OVR; in any other case it is dropped; a RUNNING core at level 0,
at an eligible bundle and with IE1 in its status, enters level 1 for its first request; one below level 2 enters level 2 for a
requested AOV trap, and, without one and with IE2, for its first level-2 request; a WAITING core with a request and outside DOZE
is RUNNING again from the bundle after WAIT. At debug level HALT or above with the DAP connected, a halt outside DOZE stops a
RUNNING or WAITING core at its next eligible bundle; outside DOZE, resume starts a halted core, and step starts it with a halt
pending and runs its next bundle. -/
def Obligations.CoreEntriesAndWakesTakeEffect : Prop :=
    (∀ (c : Fin 4) (k : Fin 8) (s : State), Running s → (s.dev.core c).trigDue.contains k.val = true → s.dev.fb (R.TD_TRIG c k) F.TD_TRIG_EN = true → s.dev.tdState c = 2 ∨ s.dev.tdState c = 3 → s.dev.fg R.PWR_STATUS F.PWR_STATUS_STATE ≠ 2 → s.dev.bit (R.TD_TRIG_STATUS c) k = false → Effect (.tickTrigger c k) s fun d => 
      (d.modCore c fun x => { x with trigDue := x.trigDue.filter (· ≠ k.val) }).setBit (R.TD_TRIG_STATUS c) k true) ∧
    (∀ (c : Fin 4) (k : Fin 8) (s : State), Running s → (s.dev.core c).trigDue.contains k.val = true → s.dev.fb (R.TD_TRIG c k) F.TD_TRIG_EN = true → s.dev.tdState c = 2 ∨ s.dev.tdState c = 3 → s.dev.fg R.PWR_STATUS F.PWR_STATUS_STATE ≠ 2 → s.dev.bit (R.TD_TRIG_STATUS c) k = true → Effect (.tickTrigger c k) s fun d => 
      let d := d.modCore c fun x => { x with trigDue := x.trigDue.filter (· ≠ k.val) }
      (d.satInc (R.TD_TRIG_STATUS c) F.TD_TRIG_STATUS_OVR_COUNT).setFlag (R.TD_FAULT c) F.TD_FAULT_TRIG_OVR.lo (337 + 4 * c)) ∧
    (∀ (c : Fin 4) (k : Fin 8) (s : State), Running s → (s.dev.core c).trigDue.contains k.val = true → s.dev.fb (R.TD_TRIG c k) F.TD_TRIG_EN = false ∨ s.dev.tdState c < 2 ∨ 3 < s.dev.tdState c ∨ s.dev.fg R.PWR_STATUS F.PWR_STATUS_STATE = 2 → Effect (.tickTrigger c k) s fun d => d.modCore c fun x => { x with trigDue := x.trigDue.filter (· ≠ k.val) }) ∧
    (∀ (c : Fin 4) (cause : Nat) (s : State), Running s → s.dev.mayEnter c = true → s.dev.request1 c = some cause → ((s.dev.core c).commit (s.dev.core c).cyc).lvl = 0 → (((s.dev.core c).commit (s.dev.core c).cyc).reg (kSR ((s.dev.core c).commit (s.dev.core c).cyc).shadow)).getLsbD 28 = true → Effect (.level1Entry c) s fun d => d.enter1 c cause) ∧
    (∀ (c : Fin 4) (cause : Nat) (s : State), Running s → s.dev.mayEnter c = true → ((s.dev.core c).commit (s.dev.core c).cyc).lvl < 2 → ((s.dev.core c).commit (s.dev.core c).cyc).aov = false → s.dev.request2 c = some cause → (((s.dev.core c).commit (s.dev.core c).cyc).reg (kSR ((s.dev.core c).commit (s.dev.core c).cyc).shadow)).getLsbD 29 = true → Effect (.level2Entry c) s fun d => d.enter2 c cause 0x40) ∧
    (∀ (c : Fin 4) (s : State), Running s → s.dev.mayEnter c = true → ((s.dev.core c).commit (s.dev.core c).cyc).lvl < 2 → ((s.dev.core c).commit (s.dev.core c).cyc).aov = true → Effect (.level2Entry c) s fun d => d.enter2 c 0xFE 0x20) ∧
    (∀ (c : Fin 4) (s : State), Running s → s.dev.tdState c = 3 → s.dev.dozing = false → s.dev.anyRequest c = true → Effect (.waitWake c) s fun d => (((d.tdGap c).modCore c fun k => k.refill k.f0.addr).setTdState c 2).tdSync c) ∧
    (∀ (c : Fin 4) (s : State), Running s → s.dev.dapAt 2 = true → s.dev.dozing = false → s.dev.tdState c = 2 ∨ s.dev.tdState c = 3 → Effect (.dapTdHalt c) s fun d => d.tdHalt c) ∧
    (∀ (c : Fin 4) (s : State), Running s → s.dev.dapAt 2 = true → s.dev.dozing = false → s.dev.tdState c = 1 → (s.dev.core c).halted = true → Effect (.dapTdResume c) s fun d => d.tdResume c) ∧
    (∀ (c : Fin 4) (s : State), Running s → s.dev.dapAt 2 = true → s.dev.dozing = false → s.dev.tdState c = 1 → (s.dev.core c).halted = true → Effect (.dapTdStep c) s fun d => 
      let d := (d.tdResume c).modCore c fun k => { k with haltReq := true }
      let b := d.bundle c (d.core c).f0.addr
      d.tdIssue c b.1 b.2)

/-- While the motion die runs: a write of TRACE_CTRL with the bit of ARM, DISARM, FORCE or RELEASE set acts as that word, in which
ARM alone arms an enabled or DONE trace, DISARM ends a capture, FORCE of an ARMED one forces the trigger, and RELEASE outside
SINGLE re-arms a DONE trace and is otherwise remembered in REL; a read pointer that leaves no more unread than now is taken, and
another one sets RDPTR_BAD; the oldest due sample that is ready is closed while ARMED, streaming or with post-trigger samples
left, and is no sample in another state; a triggered trace with no sample left is DONE; the timeout of AUTO while ARMED forces the
trigger; an edge of SNAPIN that PIN_EN and PIN_EDGE select strobes; the pulse of SNAPOUT ends; the transfer of the bank that is
filling writes the latched words, ends FILLING and BUSY, marks the bank FULL, moves NEXT and raises its source; a write of
SNAP_STATUS frees the banks whose FULL bits it sets. -/
def Obligations.TraceAndSnapshotEventsTakeEffect : Prop :=
    (∀ (w : Word) (s : State), Running s → wbit w 0 = true → Effect (.traceArm w) s fun d => d.traceCtrl w) ∧
    (∀ (w : Word) (s : State), Running s → wbit w 1 = true → Effect (.traceDisarm w) s fun d => d.traceCtrl w) ∧
    (∀ (w : Word) (s : State), Running s → wbit w 2 = true → Effect (.traceForce w) s fun d => d.traceCtrl w) ∧
    (∀ (w : Word) (s : State), Running s → wbit w 3 = true → Effect (.traceRelease w) s fun d => d.traceCtrl w) ∧
    (∀ (d : Dev) (w : Word), wbit w 0 = true → wbit w 1 = false → wbit w 2 = false → wbit w 3 = false → d.trcState = 1 ∨ d.trcState = 4 → d.traceCtrl w = d.traceArm) ∧
    (∀ (d : Dev) (w : Word), wbit w 1 = true → wbit w 2 = false → wbit w 3 = false → 2 ≤ d.trcState → d.traceCtrl w = d.traceEnd 1) ∧
    (∀ (d : Dev) (w : Word), wbit w 0 = false → wbit w 1 = false → wbit w 2 = true → wbit w 3 = false → d.trcState = 2 → d.traceCtrl w = { d with trace := { d.trace with force := true } }) ∧
    (∀ (d : Dev) (w : Word), wbit w 0 = false → wbit w 1 = false → wbit w 2 = false → wbit w 3 = true → d.fg R.TRACE_CFG F.TRACE_CFG_MODE ≠ 0 → d.traceCtrl w = (if d.trcState = 4 then d.traceArm else d.fsb R.TRACE_STATUS F.TRACE_STATUS_REL true)) ∧
    (∀ (w : Word) (s : State), Running s → s.dev.unreadFrom (wbits w 19 0) ≤ s.dev.unread → Effect (.traceRdptrWrite w) s fun d => d.fs R.TRACE_RDPTR F.TRACE_RDPTR_RDPTR (wbits w 19 0)) ∧
    (∀ (w : Word) (s : State), Running s → s.dev.unread < s.dev.unreadFrom (wbits w 19 0) → Effect (.traceRdptrWrite w) s fun d => d.fsb R.TRACE_STATUS F.TRACE_STATUS_RDPTR_BAD true) ∧
    (∀ (busy : Bool) (x : SampleDue) (rest : List SampleDue) (s : State), Running s → s.dev.trace.due = x :: rest → s.dev.sampleReady x = true → s.dev.trcState = 2 ∨ s.dev.trcState = 5 ∨ (s.dev.trcState = 3 ∧ 0 < s.dev.trace.postLeft) → Effect (.traceSampleClose busy) s fun d => ({ d with trace := { d.trace with due := rest } } : Dev).closeSample x busy) ∧
    (∀ (busy : Bool) (x : SampleDue) (rest : List SampleDue) (s : State), Running s → s.dev.trace.due = x :: rest → s.dev.sampleReady x = true → s.dev.trcState ≠ 2 → s.dev.trcState ≠ 5 → s.dev.trcState ≠ 3 ∨ s.dev.trace.postLeft = 0 → Effect (.traceSampleClose busy) s fun d => { d with trace := { d.trace with due := rest } }) ∧
    (∀ (s : State), Running s → s.dev.trcState = 3 → s.dev.trace.postLeft = 0 → Effect .tracePostComplete s fun d => d.traceDone) ∧
    (∀ (s : State), Running s → s.dev.trcState = 2 → s.dev.fg R.TRACE_CFG F.TRACE_CFG_MODE = 2 → Effect .traceAutoTimeout s fun d => { d with trace := { d.trace with force := true } }) ∧
    (∀ (up : Bool) (s : State), Running s → s.dev.fb R.SNAP_CFG F.SNAP_CFG_PIN_EN = true → s.dev.fb R.SNAP_CFG F.SNAP_CFG_PIN_EDGE = !up → Effect (.snapinEdge up) s fun d => d.strobe 4 0) ∧
    (∀ (s : State), Running s → Effect .snapoutPulseEnd s fun d => { d with snap := { d.snap with outHigh := false } }) ∧
    (∀ (b : Nat) (s : State), Running s → s.dev.snap.bank = some b → Effect .snapshotTransferComplete s fun d => 
      let d := d.snapWords.foldl (fun d x => d.wr (0x130000 + 0x2000 * b + x.1) x.2) d
      let d := (d.fsb (R.SNAP_HDR b) F.SNAP_HDR_FILLING false).fsb R.SNAP_STATUS F.SNAP_STATUS_BUSY false
      let d := (d.setBit R.SNAP_STATUS (F.SNAP_STATUS_FULL.lo + b) true).fs R.SNAP_STATUS F.SNAP_STATUS_NEXT (b + 1)
      ({ d with snap := { d.snap with bank := none, latch := [], extra := [] } } : Dev).raise (184 + b)) ∧
    (∀ (w : Word) (s : State), Running s → Effect (.snapBankFree w) s fun d => d.wr R.SNAP_STATUS (d.rd R.SNAP_STATUS &&& ~~~(w &&& 0x000F0000#32)))

/-- While the motion die runs: a raised source below 630 with EN set fires outside DOZE: the router takes it, and the start
conditions and the Barograph see it; another raised source is lost; outside DOZE, with the host attached, the first pending source
of target 0 is claimed and posted as an event with its detail, its instant and its vector, and the supervisor claims and completes
its own first source at once; a host completion completes its source; the write of EVR_HOST_IDLE sets IDLE; a running hold-off
timer of a moderation unit ends outside DOZE; a source that is pending on a sleeping target without WAKE, its own or one it was
redirected to, is redirected after the timeout; a wake edge latches in DOZE where the source has EN and WAKE, and otherwise
changes nothing; a latched wake or a power failure ends DOZE, and a recorded attach doorbell is then read; a requested change
takes place: RUN from SERVO_OFF, SERVO_OFF from RUN with the legs high-impedance, DOZE from RUN or SERVO_OFF; a request to the
present state is taken off. -/
def Obligations.EventRouterEventsTakeEffect : Prop :=
    (∀ (n : Fin 640) (s : State), Running s → s.dev.raised.contains n.val = true → s.dev.dozing = false → n.val < 630 → s.dev.srcEn n = true → Effect (.evrSourceFiring n) s fun d => 
      let d := (({ d with raised := d.raised.erase n.val } : Dev).fire n).startEvent 2 n d.ns
      { d with trace := { d.trace with fired := if d.trace.fired.contains n.val then d.trace.fired else d.trace.fired ++ [n.val] } }) ∧
    (∀ (n : Fin 640) (s : State), Running s → s.dev.raised.contains n.val = true → s.dev.dozing = true ∨ 630 ≤ n.val ∨ s.dev.srcEn n = false → Effect (.evrSourceFiring n) s fun d => { d with raised := d.raised.erase n.val }) ∧
    (∀ (n : Nat) (s : State), Running s → s.dev.asleep 0 = false → s.dev.dozing = false → s.dev.nextFor 0 = some n → Effect .evrHostPost s fun d => (d.claim n 0).postEvent n (d.evrDetail n) (words64 (d.src n).pendNs) (d.srcVector n)) ∧
    (∀ (n : Nat) (s : State), Running s → s.dev.dozing = false → s.dev.nextFor 5 = some n → Effect .supervisorClaim s fun d => (d.claim n 5).complete n 5) ∧
    (∀ (w : Word) (s : State), Running s → Effect (.evrHostComplete w) s fun d => d.complete (wbits w 9 0) 0) ∧
    (∀ (w : Word) (s : State), Running s → Effect (.evrHostIdle w) s fun d => d.fsb R.EVR_HOST_IDLE F.EVR_HOST_IDLE_IDLE (wbit w 0)) ∧
    (∀ (u : Fin 68) (s : State), Running s → (tabGet s.dev.evr.units u).timer = true → s.dev.dozing = false → Effect (.moderationRelease u) s fun d => d.unitRelease u) ∧
    (∀ (n : Fin 640) (s : State), Running s → s.dev.srcState n = 1 → s.dev.srcTarget n ≤ 4 → s.dev.asleep (s.dev.srcTarget n) = true → s.dev.wakeOf (s.dev.srcTarget n) = false → s.dev.dozing = false → Effect (.rehomeTimeout n) s fun d => d.rehome n) ∧
    (∀ (b : Fin 48) (s : State), Running s → s.dev.dozing = true → s.dev.srcEn (wakeSource b) = true → s.dev.fb (R.EVR_SRC_CFG (wakeSource b)) F.EVR_SRC_CFG_WAKE = true → Effect (.wakeLatchEdge b) s fun d => d.setBit R.EVR_WAKE_LATCH b true) ∧
    (∀ (b : Fin 48) (s : State), Running s → s.dev.dozing = false ∨ s.dev.srcEn (wakeSource b) = false ∨ s.dev.fb (R.EVR_SRC_CFG (wakeSource b)) F.EVR_SRC_CFG_WAKE = false → Effect (.wakeLatchEdge b) s fun d => d) ∧
    (∀ (s : State), Running s → s.dev.dozing = true → s.dev.rd64 R.EVR_WAKE_LATCH ≠ 0 ∨ s.dev.fb R.POWER_STATUS F.POWER_STATUS_PF_ACTIVE = true → Effect .dozeExitComplete s fun d => d.exitDoze.attachLate) ∧
    (∀ (s : State), Running s → s.dev.sec.pwrReq = some 0 → s.dev.power = 1 → Effect .pwrReqRun s fun d => (d.modSec fun s => { s with pwrReq := none }).setPower 0) ∧
    (∀ (s : State), Running s → s.dev.sec.pwrReq = some 0 → s.dev.power ≠ 1 → Effect .pwrReqRun s fun d => d.modSec fun s => { s with pwrReq := none }) ∧
    (∀ (s : State), Running s → s.dev.sec.pwrReq = some 1 → s.dev.power ≠ 0 → Effect .pwrReqServoOff s fun d => d.modSec fun s => { s with pwrReq := none }) ∧
    (∀ (s : State), Running s → s.dev.sec.pwrReq = some 1 → s.dev.power = 0 → Effect .pwrReqServoOff s fun d => ((d.modSec fun s => { s with pwrReq := none }).legsOff).setPower 1) ∧
    (∀ (s : State), Running s → s.dev.sec.pwrReq = some 2 → s.dev.power ≤ 1 → Effect .pwrReqDoze s fun d => (d.modSec fun s => { s with pwrReq := none }).enterDoze)

/-- While the motion die runs: the frames of the enabled channels are taken where no Squall rule hits; a rule that hits drops
them, spoils their CRC, or replaces or delays what was taken, and with no frame on an enabled channel nothing changes. At its send
instant an unmuted node, past its takeover, sends an own data or reply slot in SYNC or HOLDOVER; in slot 0 a node of rank 3 or
below sends a coldstart frame in COLDSTART with fewer than two sent, and else becomes SYNC and sends a datum frame, and in SYNC it
sends one where no frame start has been seen in the slot and the guardian lets it, a blocked send being flagged and counted. The
commit of an own data slot takes its words, and keeps the old buffer for a send instant less than AP away; an assigned slot
delivers in SYNC, HOLDOVER or LEAVING; a missed datum in SYNC or HOLDOVER counts, advances the cycle and gives HOLDOVER, and NLOSS
misses give LISTEN; silence makes an unmuted listening node of rank 3 or below start cold with a coldstart frame of cycle 0; a
readback mismatch of the running frame sets its error, and for a datum or coldstart frame also COLLISION, ends it and, except in
LEAVING, makes the node LISTEN; the guardian cutoff ends the running frame; a channel that falls 8 cycles behind the other fails;
a timed TRAVERSE_JOIN before SYNC ends with 0x0801; a leaving node is OFF. -/
def Obligations.TraverseEventsTakeEffect : Prop :=
    (∀ (a b : Option TrvFrame) (f : TrvFrame) (s : State), Running s → ((if s.dev.chA = true then a else none)).or (if s.dev.chB = true then b else none) = some f → (s.dev.squall 1 0 [hSlot f.hdr] 0).2 = none → Effect (.traverseFrameReceive a b) s fun d => (d.squall 1 0 [hSlot f.hdr] 0).1.trvTake (if d.chA = true then a else none) (if d.chB = true then b else none)) ∧
    (∀ (a b : Option TrvFrame) (f : TrvFrame) (x m : Nat) (s : State), Running s → ((if s.dev.chA = true then a else none)).or (if s.dev.chB = true then b else none) = some f → (s.dev.squall 1 0 [hSlot f.hdr] 0).2 = some (x, m) → Effect (.traverseFrameReceive a b) s fun d => 
      let e := (d.squall 1 0 [hSlot f.hdr] 0).1
      if m = 0 then e
      else if m = 1 then e.trvTake ((if d.chA = true then a else none).map fun f => { f with crc := f.crc ^^^ 1 }) ((if d.chB = true then b else none).map fun f => { f with crc := f.crc ^^^ 1 })
      else e.trvSwap (e.trvTake (if d.chA = true then a else none) (if d.chB = true then b else none)) (hSlot f.hdr) m) ∧
    (∀ (a b : Option TrvFrame) (s : State), Running s → ((if s.dev.chA = true then a else none)).or (if s.dev.chB = true then b else none) = none → Effect (.traverseFrameReceive a b) s fun d => d) ∧
    (∀ (j : Fin 64) (x y z : Bool) (s : State), Running s → s.dev.fb R.PAIR_STATUS F.PAIR_STATUS_TRV_MUTED = false → s.dev.pair.trvFrom ≤ s.dev.ns → j.val ≠ 0 → s.dev.trvState = 3 ∨ s.dev.trvState = 4 → j.val < s.dev.nslot → s.dev.slotOwner j = s.dev.trvNode → s.dev.slotKind j = 2 ∨ s.dev.slotKind j = 4 → Effect (.traverseFrameSend j x y z) s fun d => d.sendSlot j x y) ∧
    (∀ (x y z : Bool) (s : State), Running s → s.dev.fb R.PAIR_STATUS F.PAIR_STATUS_TRV_MUTED = false → s.dev.pair.trvFrom ≤ s.dev.ns → s.dev.trvRank ≤ 3 → s.dev.trvState = 2 → s.dev.trv.csSent < 2 → Effect (.traverseFrameSend 0 x y z) s fun d => d.sendDatum 5 d.cycleNow.1 d.cycleNow.2 x y) ∧
    (∀ (x y z : Bool) (s : State), Running s → s.dev.fb R.PAIR_STATUS F.PAIR_STATUS_TRV_MUTED = false → s.dev.pair.trvFrom ≤ s.dev.ns → s.dev.trvRank ≤ 3 → s.dev.trvState = 2 → 2 ≤ s.dev.trv.csSent → Effect (.traverseFrameSend 0 x y z) s fun d => (d.setTrvState 3).sendDatum 1 d.cycleNow.1 d.cycleNow.2 x y) ∧
    (∀ (x y : Bool) (s : State), Running s → s.dev.fb R.PAIR_STATUS F.PAIR_STATUS_TRV_MUTED = false → s.dev.pair.trvFrom ≤ s.dev.ns → s.dev.trvRank ≤ 3 → s.dev.trvState = 3 → (s.dev.guarded2).2 = false → Effect (.traverseFrameSend 0 x y false) s fun d => (d.guarded2).1.sendDatum 1 d.cycleNow.1 d.cycleNow.2 x y) ∧
    (∀ (x y : Bool) (s : State), Running s → s.dev.fb R.PAIR_STATUS F.PAIR_STATUS_TRV_MUTED = false → s.dev.pair.trvFrom ≤ s.dev.ns → s.dev.trvRank ≤ 3 → s.dev.trvState = 3 → (s.dev.guarded2).2 = true → Effect (.traverseFrameSend 0 x y false) s fun d => (d.guarded2).1) ∧
    (∀ (x y : Bool) (s : State), Running s → s.dev.fb R.PAIR_STATUS F.PAIR_STATUS_TRV_MUTED = false → s.dev.pair.trvFrom ≤ s.dev.ns → s.dev.trvState = 3 → Effect (.traverseFrameSend 0 x y true) s fun d => d) ∧
    (∀ (j : Fin 64) (s : State), Running s → s.dev.trvState ≠ 0 → j.val < s.dev.nslot → s.dev.slotKind j = 2 → s.dev.slotOwner j = s.dev.trvNode → Effect (.dataFrameCommit j) s fun d => 
      let b := tabGet d.trv.tx j
      d.modTrv fun t => { t with tx := tabSet t.tx j { words := d.dataWords j, age := 0, atNs := d.ns, old := (b.words, b.age) } }) ∧
    (∀ (j : Fin 64) (s : State), Running s → s.dev.trvState = 3 ∨ s.dev.trvState = 4 ∨ s.dev.trvState = 5 → j.val < s.dev.nslot → s.dev.slotKind j ≠ 0 → Effect (.slotDelivery j) s fun d => d.deliverSlot j) ∧
    (∀ (s : State), Running s → s.dev.trvState = 3 ∨ s.dev.trvState = 4 → Effect .datumMiss s fun d => 
      let d := d.modTrv fun t => { t with miss := t.miss + 1, oPrev := 0, cycStart := t.cycStart + d.trvC }
      ((d.satInc R.TRV_STATUS F.TRV_STATUS_MISS).wrapInc R.TRV_CYCLE_COUNT F.TRV_CYCLE_COUNT_CYCLE).setTrvState 4) ∧
    (∀ (s : State), Running s → s.dev.trvState = 4 → s.dev.fg R.TRV_TIMING F.TRV_TIMING_NLOSS ≤ s.dev.trv.miss → Effect .nlossExpiry s fun d => d.setTrvState 1) ∧
    (∀ (x y : Bool) (s : State), Running s → s.dev.trvState = 1 → s.dev.trvRank ≤ 3 → s.dev.fb R.PAIR_STATUS F.PAIR_STATUS_TRV_MUTED = false → Effect (.coldstartTimeout x y) s fun d => 
      let e := (d.setTrvState 2).modTrv fun t => { t with csSent := 0 }
      e.sendDatum 5 (e.ns - e.trvAP) 0 x y) ∧
    (∀ (f : TrvFrameOut) (s : State), Running s → s.dev.trv.out = some f → hKind f.hdr = 1 ∨ hKind f.hdr = 5 → Effect .readbackMismatch s fun d => 
      let d := ((d.trvErr F.TRV_ERR_READBACK 356).trvErr F.TRV_ERR_COLLISION 358).modTrv fun t => { t with out := none, csSent := 0 }
      if d.trvState = 5 then d else d.setTrvState 1) ∧
    (∀ (f : TrvFrameOut) (s : State), Running s → s.dev.trv.out = some f → hKind f.hdr ≠ 1 → hKind f.hdr ≠ 5 → Effect .readbackMismatch s fun d => d.trvErr F.TRV_ERR_READBACK 356) ∧
    (∀ (s : State), Running s → Effect .guardianCutoff s fun d => d.modTrv fun t => { t with out := none }) ∧
    (∀ (s : State), Running s → s.dev.chA = true → s.dev.chB = true → s.dev.trv.goodB + 8 ≤ s.dev.trv.goodA → Effect (.channelFail true) s fun d => (d.trvErr F.TRV_ERR_CH_B_FAIL 359).fsb R.TRV_STATUS F.TRV_STATUS_B_OK false) ∧
    (∀ (s : State), Running s → s.dev.chA = true → s.dev.chB = true → s.dev.trv.goodA + 8 ≤ s.dev.trv.goodB → Effect (.channelFail false) s fun d => (d.trvErr F.TRV_ERR_CH_A_FAIL 359).fsb R.TRV_STATUS F.TRV_STATUS_A_OK false) ∧
    (∀ (s : State), Running s → s.dev.trvState ≠ 3 → (s.dev.cmd.accepted.any fun a => a.waits.contains ⟨.trvJoin, 0⟩ && decide (pb a.pkt 3 15 0 ≠ 0)) = true → Effect .traverseJoinTimeout s fun d => d.resolve ⟨.trvJoin, 0⟩ 0x0801 0 []) ∧
    (∀ (s : State), Running s → s.dev.trvState = 5 → Effect .traverseLeaveComplete s fun d => d.trvOff)

/-- While the motion die runs: a channel that runs outside DOZE, sends nothing and is not being disabled starts the frame of the
entry it chooses, with its stamp; a Squall rule that hits withholds it, meets it with a bit error, has it sent twice or lets the
next choice go first. A completed frame lowers TEC by one and ends its entry as sent, or is sent once more. A lost arbitration
counts and counts as an attempt; an error while sending takes the error rules of a transmitter, with TEC raised by 8 unless
exempt, to BUS_OFF above 255. A receive error in ACTIVE or SHADOW raises REC by 1 or 9 up to 255. A received frame lowers REC, is
rejected or stored by the first filter that matches, and a frame held back before follows it; a Squall rule gives it a CRC error,
discards it, stores it twice or holds it back. The receive doorbell takes an index within the fill and flags another one; freeing
a transmit entry clears its done bit; a correlation latch outside DOZE keeps the last pair and takes a new one; integration ends
in ACTIVE, or SHADOW in listen mode or while muted; BUS_OFF recovery clears the counters and ends in ACTIVE, or SHADOW while
muted; a disable ends every entry and answers its command. Outside DOZE is a condition of all events at the bus but a completed or
failed frame. -/
def Obligations.CanEventsTakeEffect : Prop :=
    (∀ (c : Fin 2) (stamp : Word) (x : Nat) (s : State), Running s → s.dev.dozing = false → s.dev.canRuns c = true → (s.dev.canCh c).sending = none → (s.dev.canCh c).disabling = false → s.dev.canChoice c = some x → (s.dev.squall 2 1 [c] (wbits (s.dev.rd (canTx c x 1)) 28 0)).2 = none → Effect (.canArbitration c stamp) s fun d => (d.squall 2 1 [c] (wbits (d.rd (canTx c x 1)) 28 0)).1.canSof c x stamp false) ∧
    (∀ (c : Fin 2) (stamp : Word) (x r m : Nat) (s : State), Running s → s.dev.dozing = false → s.dev.canRuns c = true → (s.dev.canCh c).sending = none → (s.dev.canCh c).disabling = false → s.dev.canChoice c = some x → (s.dev.squall 2 1 [c] (wbits (s.dev.rd (canTx c x 1)) 28 0)).2 = some (r, m) → Effect (.canArbitration c stamp) s fun d => 
      let e := (d.squall 2 1 [c] (wbits (d.rd (canTx c x 1)) 28 0)).1
      if m = 0 then e
      else if m = 1 then (e.canSof c x stamp false).canTxError c x .bit false
      else if m = 2 then e.canSof c x stamp true
      else if m = 3 then (e.canFirst c ((e.canCh c).order.filter (· ≠ x))).elim e fun y => e.canSof c y stamp false
      else e.canSof c x stamp false) ∧
    (∀ (c : Fin 2) (x : Nat) (s : State), Running s → (s.dev.canCh c).sending = some x → (s.dev.canCh c).again = false → Effect (.canTxComplete c) s fun d => (d.canCounts c (d.canTec c - 1) (d.canRec c)).canEnd c x 1) ∧
    (∀ (c : Fin 2) (x : Nat) (s : State), Running s → (s.dev.canCh c).sending = some x → (s.dev.canCh c).again = true → Effect (.canTxComplete c) s fun d => (d.canCounts c (d.canTec c - 1) (d.canRec c)).modCan c fun s => { s with again := false }) ∧
    (∀ (c : Fin 2) (x : Nat) (ex : Bool) (s : State), Running s → (s.dev.canCh c).sending = some x → Effect (.canTxAttemptFail c none ex) s fun d => (d.satInc (R.CAN_COUNTS c) F.CAN_COUNTS_ARB_LOST).canAttempt c x) ∧
    (∀ (c : Fin 2) (x : Nat) (k : CanErrKind) (ex : Bool) (s : State), Running s → (s.dev.canCh c).sending = some x → Effect (.canTxAttemptFail c (some k) ex) s fun d => 
      let e := d.canError c k
      let tec := e.canTec c + (if ex then 0 else 8)
      if 255 < tec then
        (if (e.canCh c).aborts.contains x || (e.canCh c).disabling then (e.canBusOff c tec).canEnd c x 3 else e.canBusOff c tec)
      else (e.canCounts c tec (e.canRec c)).canAttempt c x) ∧
    (∀ (c : Fin 2) (k : CanErrKind) (more : Bool) (s : State), Running s → s.dev.dozing = false → s.dev.canState c = 2 ∨ s.dev.canState c = 3 → (s.dev.canCh c).sending = none → Effect (.canReceiveError c k more) s fun d => (d.canError c k).canCounts c (d.canTec c) (min 255 (d.canRec c + (if more then 9 else 1)))) ∧
    (∀ (c : Fin 2) (f : CanFrame) (stamp : Word) (s : State), Running s → canFrameOk f = true → s.dev.dozing = false → s.dev.canState c = 2 ∨ s.dev.canState c = 3 → (s.dev.canCh c).sending = none → (s.dev.squall 2 0 [c.val] f.id.toNat).2 = none → Effect (.canFrameReceive c f stamp) s fun d => 
      let d := (d.squall 2 0 [c.val] f.id.toNat).1.canRecOk c
      if (d.canFate c f).2 = 2 then d else (d.canStore c f stamp (d.canFate c f).1 (d.canFate c f).2).canLate c) ∧
    (∀ (c : Fin 2) (f : CanFrame) (stamp : Word) (r m : Nat) (s : State), Running s → canFrameOk f = true → s.dev.dozing = false → s.dev.canState c = 2 ∨ s.dev.canState c = 3 → (s.dev.canCh c).sending = none → (s.dev.squall 2 0 [c.val] f.id.toNat).2 = some (r, m) → m = 1 → Effect (.canFrameReceive c f stamp) s fun d => 
      let e := (d.squall 2 0 [c.val] f.id.toNat).1
      (e.canError c .crc).canCounts c (e.canTec c) (min 255 (e.canRec c + 1))) ∧
    (∀ (c : Fin 2) (f : CanFrame) (stamp : Word) (r m : Nat) (s : State), Running s → canFrameOk f = true → s.dev.dozing = false → s.dev.canState c = 2 ∨ s.dev.canState c = 3 → (s.dev.canCh c).sending = none → (s.dev.squall 2 0 [c.val] f.id.toNat).2 = some (r, m) → m ≠ 1 → Effect (.canFrameReceive c f stamp) s fun d => 
      let d := (d.squall 2 0 [c.val] f.id.toNat).1.canRecOk c
      let once (d : Dev) : Dev := d.canStore c f stamp (d.canFate c f).1 (d.canFate c f).2
      if (d.canFate c f).2 = 2 then d
      else if m = 0 then d
      else if m = 2 then ((once d).canStore c f stamp (d.canFate c f).1 (d.canFate c f).2).canLate c
      else if m = 3 ∧ (d.canCh c).late = none then d.modCan c fun x => { x with late := some (f, stamp, (d.canFate c f).1, (d.canFate c f).2) }
      else (once d).canLate c) ∧
    (∀ (c : Fin 2) (w : Word) (s : State), Running s → (wbits w 15 0 + 65536 - s.dev.fg (R.CAN_RX_PTR c) F.CAN_RX_PTR_CONS) % 65536 ≤ s.dev.canFill c → Effect (.canRxDoorbell c w) s fun d => d.fs (R.CAN_RX_PTR c) F.CAN_RX_PTR_CONS (wbits w 15 0)) ∧
    (∀ (c : Fin 2) (w : Word) (s : State), Running s → s.dev.canFill c < (wbits w 15 0 + 65536 - s.dev.fg (R.CAN_RX_PTR c) F.CAN_RX_PTR_CONS) % 65536 → Effect (.canRxDoorbell c w) s fun d => d.fsb (R.CAN_ERR c) F.CAN_ERR_DB_BAD true) ∧
    (∀ (c : Fin 2) (x : Fin 64) (s : State), Running s → Effect (.canTxEntryFree c x) s fun d => (d.setBit (R.CAN_TX_DONE c) x false).levelFell d false (canSrc c 3)) ∧
    (∀ (c : Fin 2) (s : State), Running s → s.dev.dozing = false → Effect (.canCorrLatch c) s fun d => 
      let seq := d.fg (R.CAN_CORR_TS c 0) F.CAN_CORR_TS_SEQ
      let d := (d.wr64 (R.CAN_CORR_TIME c 1) (d.rd64 (R.CAN_CORR_TIME c 0))).wr64 (R.CAN_CORR_TS c 1) (d.rd64 (R.CAN_CORR_TS c 0))
      let d := (d.wr64 (R.CAN_CORR_TIME c 0) d.ns).wr64 (R.CAN_CORR_TS c 0) ((seq + 1) % 65536 * 2 ^ 48 + d.canTsc)
      d.raise (canSrc c 10)) ∧
    (∀ (c : Fin 2) (s : State), Running s → s.dev.dozing = false → s.dev.canState c = 1 → (s.dev.canCh c).listen = false → s.dev.muted = false → Effect (.canIntegration c) s fun d => (d.setCanState c 2).resolve ⟨.can, c⟩ 0 0 []) ∧
    (∀ (c : Fin 2) (s : State), Running s → s.dev.dozing = false → s.dev.canState c = 1 → (s.dev.canCh c).listen = true ∨ s.dev.muted = true → Effect (.canIntegration c) s fun d => ((d.setCanState c 3).modCan c fun s => { s with shadowRun := !s.listen }).resolve ⟨.can, c⟩ 0 0 []) ∧
    (∀ (c : Fin 2) (s : State), Running s → s.dev.dozing = false → s.dev.canState c = 4 → (s.dev.canCh c).recovering = true → Effect (.canRecoveryComplete c) s fun d => 
      let e := (d.canCounts c 0 0).setCanState c (if d.muted then 3 else 2)
      ((e.modCan c fun s => { s with recovering := false, shadowRun := e.muted }).raise (canSrc c 8)).resolve ⟨.can, c⟩ 0 0 []) ∧
    (∀ (c : Fin 2) (s : State), Running s → s.dev.dozing = false → (s.dev.canCh c).disabling = true → (s.dev.canCh c).sending = none → Effect (.canDisableComplete c) s fun d => 
      let d := d.each (d.canCh c).order fun d x => d.canEnd c x 3
      let n := (d.canCh c).abN
      let d := ((d.canCounts c 0 0).setCanState c 0).modCan c fun s => { s with disabling := false, recovering := false, abN := 0, shadowRun := false }
      (d.resolve ⟨.can, c⟩ 0x0306 0 []).resolve ⟨.can, 2 + c.val⟩ 0 0 [toW n])

/-- Whatever the motion die does, and, where the motion die acts, while it runs: a downstream frame goes out on both links. A die
that is on takes a frame: a good one brings its commands, outside fallback, and a configuration word; one with a bad CRC, or with
a wrong SEQ, which is then the last one, counts as bad; the safety part of die A is judged by the CRCs alone; a die that is off
drops it. An upstream frame of a running die is taken; a swapped one is followed by its forerunner, and a Squall rule drops it,
spoils it, repeats the last SEQ or swaps it. A missing frame counts for its side. Three bad upstream frames make a link STALE and
clear the commands of the outputs without fallback; three bad downstream ones put a die into fallback; two good ones end either.
Undervoltage of a group sets UV and its end clears it; overcurrent drops the commands and disables the group. Overload, thermal
shut-off and thermal restart with RESTART 0 set and clear their conditions; the voltage of an off output gives short to supply, to
its pair's other output too, open load, or none. A changed input level is kept with its change bit; a wire break is shown and
cleared. The loss of the logic supply turns a die off, with SUPPLY_LOST where the supply was shown, and stops channel B with die
A; its return restarts the die and, with die A, channel B. -/
def Obligations.FieldEventsTakeEffect : Prop :=
    (∀ (s : State), Running s → Effect .downstreamFrameSend s fun d => 
      let so := if d.safety.a.on then d.soCmdA else 0
      let e := d.each [0, 1] fun d' k =>
        d'.downOut k { seq := ((d'.die k).dnSeq + 1) % 256, cmds := d'.downCmds k, cfg := (d'.die k).cfgQ.head?,
                       ix := if k = 0 then d.safety.downIdx else 0, msg := if k = 0 then d.frameMsg false d.safety.downIdx else none,
                       so := if k = 0 then so else 0 }
      e.modSafety fun s => { s with downIdx := (d.safety.downIdx + 1) % 25 }) ∧
    (∀ (k : Fin 2) (f : DownFrame) (y : Bool) (s : State), (s.dev.die k).down = some f → (s.dev.die k).on = true → f.bad = false → f.seq = ((s.dev.die k).rxSeq + 1) % 256 → Effect (.fieldDieDownstreamReceive k true y) s fun d => 
      let e := (d.modDie k fun x => { x with down := none }).modDie k fun x => { x with rxSeq := f.seq }
      let e := e.modDie k fun x => { x with bad := 0, good := x.good + 1, lastBad := false, lastCmd := f.cmds }
      let e := (if (d.die k).fallback then e else e.dieCmds k f.cmds).takeCfg k f.cfg
      if k.val = 0 && y && e.safety.b.on then
        let e := e.modChan true fun c => { c with cmd := f.so }
        match f.msg with
        | some m => e.chanTake true m (f.ix % 3)
        | none => e
      else e) ∧
    (∀ (k : Fin 2) (f : DownFrame) (y : Bool) (s : State), (s.dev.die k).down = some f → (s.dev.die k).on = true → f.bad = false → f.seq ≠ ((s.dev.die k).rxSeq + 1) % 256 → Effect (.fieldDieDownstreamReceive k true y) s fun d => 
      let e := (d.modDie k fun x => { x with down := none }).modDie k fun x => { x with rxSeq := f.seq }
      let e := e.modDie k fun x => { x with bad := x.bad + 1, good := 0, lastBad := true }
      if k.val = 0 && y && e.safety.b.on then
        let e := e.modChan true fun c => { c with cmd := f.so }
        match f.msg with
        | some m => e.chanTake true m (f.ix % 3)
        | none => e
      else e) ∧
    (∀ (k : Fin 2) (f : DownFrame) (x y : Bool) (s : State), (s.dev.die k).down = some f → (s.dev.die k).on = true → x = false ∨ f.bad = true → Effect (.fieldDieDownstreamReceive k x y) s fun d => (d.modDie k fun x => { x with down := none }).modDie k fun x => { x with bad := x.bad + 1, good := 0, lastBad := true }) ∧
    (∀ (k : Fin 2) (f : DownFrame) (x y : Bool) (s : State), (s.dev.die k).down = some f → (s.dev.die k).on = false → Effect (.fieldDieDownstreamReceive k x y) s fun d => d.modDie k fun x => { x with down := none }) ∧
    (∀ (k : Fin 2) (x y : Bool) (s : State), (s.dev.die k).down = none → Effect (.fieldDieDownstreamReceive k x y) s fun d => d) ∧
    (∀ (k : Fin 2) (x y : Bool) (act : UpSample) (cur : Option (Fin 6 × BitVec 12)) (s : State), Running s → (s.dev.die k).on = true → (s.dev.die k).upSwap = false → (s.dev.squall 3 0 [k.val] 0).2 = none → Effect (.upstreamFrameReceive k x y act cur) s fun d => (d.squall 3 0 [k.val] 0).1.upstream k (((d.die k).upSeq + 1) % 256) ((d.die k).upSeq + 1) x y act cur) ∧
    (∀ (k : Fin 2) (x y : Bool) (act : UpSample) (cur : Option (Fin 6 × BitVec 12)) (s : State), Running s → (s.dev.die k).on = true → (s.dev.die k).upSwap = true → Effect (.upstreamFrameReceive k x y act cur) s fun d => (d.modDie k fun x => { x with upSwap := false }).upstream k (((d.die k).upSeq + 255) % 256) (d.die k).upSeq x y act cur) ∧
    (∀ (k : Fin 2) (x y : Bool) (act : UpSample) (cur : Option (Fin 6 × BitVec 12)) (r m : Nat) (s : State), Running s → (s.dev.die k).on = true → (s.dev.die k).upSwap = false → (s.dev.squall 3 0 [k.val] 0).2 = some (r, m) → Effect (.upstreamFrameReceive k x y act cur) s fun d => 
      let n := (d.die k).upSeq
      let e := (d.squall 3 0 [k.val] 0).1
      if m = 0 then e.upstreamMissing k
      else if m = 1 then e.upstream k ((n + 1) % 256) (n + 1) false y act cur
      else if m = 2 then e.upstream k n (n + 1) x y act cur
      else if m = 3 then (e.modDie k fun x => { x with upSwap := true }).upstream k ((n + 2) % 256) (n + 2) x y act cur
      else e.upstream k ((n + 1) % 256) (n + 1) x y act cur) ∧
    (∀ (k : Fin 2) (s : State), Effect (.linkFrameMissing k true) s fun d => d.upstreamMissing k) ∧
    (∀ (k : Fin 2) (s : State), (s.dev.die k).on = true → Effect (.linkFrameMissing k false) s fun d => d.modDie k fun x => { x with bad := x.bad + 1, good := 0, lastBad := true, down := none }) ∧
    (∀ (k : Fin 2) (s : State), (s.dev.die k).on = false → Effect (.linkFrameMissing k false) s fun d => d.modDie k fun x => { x with down := none }) ∧
    (∀ (k : Fin 2) (s : State), Running s → 3 ≤ (s.dev.die k).upBad → s.dev.fb (R.FIELD_LINK_STATUS k) F.FIELD_LINK_STATUS_STALE = false → Effect (.linkStale k) s fun d => 
      let d := (d.fsb (R.FIELD_LINK_STATUS k) F.FIELD_LINK_STATUS_STALE true).setFlag (R.FIELD_LINK_STATUS k) F.FIELD_LINK_STATUS_STALE_HIT.lo (528 + k)
      d.each ((dieOuts k).filter fun o => !d.fb (R.FIELD_OUT_CFG o) F.FIELD_OUT_CFG_FB) fun d o => d.setBit R.FIELD_OUT_CMD o false) ∧
    (∀ (k : Fin 2) (s : State), (s.dev.die k).on = true → 3 ≤ (s.dev.die k).bad → (s.dev.die k).fallback = false → Effect (.fieldDieFallback k) s fun d => 
      (d.modDie k fun x => { x with fallback := true }).dieCmds k
        (maskOf 48 fun o => (d.die k).cmd.testBit o && d.dieFld (R.FIELD_OUT_CFG o) F.FIELD_OUT_CFG_FB = 1)) ∧
    (∀ (k : Fin 2) (s : State), (s.dev.die k).on = true → (s.dev.die k).fallback = true → 2 ≤ (s.dev.die k).good → Effect (.linkRecover k true) s fun d => (d.modDie k fun x => { x with fallback := false }).dieCmds k (d.die k).lastCmd) ∧
    (∀ (k : Fin 2) (s : State), s.dev.fb (R.FIELD_LINK_STATUS k) F.FIELD_LINK_STATUS_STALE = true → 2 ≤ (s.dev.die k).upGood → Effect (.linkRecover k false) s fun d => (d.fsb (R.FIELD_LINK_STATUS k) F.FIELD_LINK_STATUS_STALE false).modDie k fun x => { x with resync := true }) ∧
    (∀ (g : Fin 6) (s : State), Effect (.groupUndervoltage g) s fun d => ((d.fsb (R.FIELD_GROUP_STATUS g) F.FIELD_GROUP_STATUS_UV true).setFlag (R.FIELD_GROUP_STATUS g) F.FIELD_GROUP_STATUS_UV_HIT.lo (532 + g)).reclass (grpOuts g)) ∧
    (∀ (g : Fin 6) (s : State), Effect (.groupUvRecover g) s fun d => (d.fsb (R.FIELD_GROUP_STATUS g) F.FIELD_GROUP_STATUS_UV false).reclass (grpOuts g)) ∧
    (∀ (g : Fin 6) (s : State), Effect (.groupOvercurrent g) s fun d => 
      let d := (d.dropCmds (grpOuts g)).fsb (R.FIELD_GROUP_STATUS g) F.FIELD_GROUP_STATUS_EN false
      (d.setFlag (R.FIELD_GROUP_STATUS g) F.FIELD_GROUP_STATUS_OC.lo (538 + g)).reclass (grpOuts g)) ∧
    (∀ (o : Fin 48) (s : State), s.dev.outOn o = true → Effect (.outputOverload o) s fun d => 
      let d := d.setFlag (R.FIELD_OUT_DIAG o) F.FIELD_OUT_DIAG_OVERLOAD.lo (480 + o)
      (d.modDie (outDie o) fun k => { k with ovl := if k.ovl.contains o.val then k.ovl else k.ovl ++ [o.val] }).reclass [o.val]) ∧
    (∀ (o : Fin 48) (s : State), (s.dev.die (outDie o)).on = true → Effect (.outputThermalOff o) s fun d => 
      let d := d.setFlag (R.FIELD_OUT_DIAG o) F.FIELD_OUT_DIAG_THERMAL.lo (480 + o)
      (d.modDie (outDie o) fun k => { k with hot := if k.hot.contains o.val then k.hot else k.hot ++ [o.val] }).reclass [o.val]) ∧
    (∀ (o : Fin 48) (s : State), s.dev.dieFld (R.FIELD_OUT_CFG o) F.FIELD_OUT_CFG_RESTART ≠ 1 → Effect (.outputThermalRestart o) s fun d => (d.modDie (outDie o) fun k => { k with hot := k.hot.filter (· ≠ o.val) }).reclass [o.val]) ∧
    (∀ (o : Fin 48) (s : State), s.dev.dieFld (R.FIELD_OUT_CFG o) F.FIELD_OUT_CFG_RESTART = 1 → Effect (.outputThermalRestart o) s fun d => d) ∧
    (∀ (o : Fin 48) (s : State), (s.dev.die (outDie o)).on = true → s.dev.outOn o = false → Effect (.outputOffDiagnosis o 0) s fun d => (d.modDie (outDie o.val) fun k => { k with cond := tabSet k.cond o.val 0 }).reclass [o.val]) ∧
    (∀ (o : Fin 48) (s : State), (s.dev.die (outDie o)).on = true → s.dev.outOn o = false → s.dev.dieFld (R.FIELD_OUT_CFG o) F.FIELD_OUT_CFG_OL_EN = 1 → Effect (.outputOffDiagnosis o 1) s fun d => ((d.setFlag (R.FIELD_OUT_DIAG o) F.FIELD_OUT_DIAG_OPEN.lo (480 + o)).modDie (outDie o.val) fun k => { k with cond := tabSet k.cond o.val 2 }).reclass [o.val]) ∧
    (∀ (o : Fin 48) (s : State), (s.dev.die (outDie o)).on = true → s.dev.outOn o = false → s.dev.dieFld (R.FIELD_OUT_CFG o) F.FIELD_OUT_CFG_OL_EN ≠ 1 → Effect (.outputOffDiagnosis o 1) s fun d => (d.modDie (outDie o.val) fun k => { k with cond := tabSet k.cond o.val 0 }).reclass [o.val]) ∧
    (∀ (o : Fin 48) (s : State), (s.dev.die (outDie o)).on = true → s.dev.outOn o = false → s.dev.muted = true → s.dev.bit R.FIELD_OUT_CMD o = true → Effect (.outputOffDiagnosis o 2) s fun d => (d.modDie (outDie o.val) fun k => { k with cond := tabSet k.cond o.val 4 }).reclass [o.val]) ∧
    (∀ (o : Fin 48) (s : State), (s.dev.die (outDie o)).on = true → s.dev.outOn o = false → s.dev.muted = false ∨ s.dev.bit R.FIELD_OUT_CMD o = false → s.dev.outMate o = none → Effect (.outputOffDiagnosis o 2) s fun d => ((d.setFlag (R.FIELD_OUT_DIAG o) F.FIELD_OUT_DIAG_VOLT_OFF.lo (480 + o)).modDie (outDie o.val) fun k => { k with cond := tabSet k.cond o.val 3 }).reclass [o.val]) ∧
    (∀ (o : Fin 48) (m : Nat) (s : State), (s.dev.die (outDie o)).on = true → s.dev.outOn o = false → s.dev.muted = false ∨ s.dev.bit R.FIELD_OUT_CMD o = false → s.dev.outMate o = some m → s.dev.outOn m = true → Effect (.outputOffDiagnosis o 2) s fun d => (d.modDie (outDie o.val) fun k => { k with cond := tabSet k.cond o.val 4 }).reclass [o.val]) ∧
    (∀ (o : Fin 48) (m : Nat) (s : State), (s.dev.die (outDie o)).on = true → s.dev.outOn o = false → s.dev.muted = false ∨ s.dev.bit R.FIELD_OUT_CMD o = false → s.dev.outMate o = some m → s.dev.outOn m = false → Effect (.outputOffDiagnosis o 2) s fun d => 
      let e := (((d.setFlag (R.FIELD_OUT_DIAG o) F.FIELD_OUT_DIAG_VOLT_OFF.lo (480 + o)).setFlag (R.FIELD_OUT_DIAG m) F.FIELD_OUT_DIAG_VOLT_OFF.lo (480 + m)).modDie (outDie o.val) fun k => { k with cond := tabSet k.cond o.val 3 }).reclass [o.val]
      (e.modDie (outDie m) fun k => { k with cond := tabSet k.cond m 3 }).reclass [m]) ∧
    (∀ (i : Fin 64) (lv : Bool) (s : State), (s.dev.die (inDie i)).on = true → s.dev.field.levels.testBit i ≠ lv → Effect (.fieldInputChange i lv) s fun d => d.modField fun f => { f with levels := f.levels ^^^ 2 ^ i.val, chg := f.chg ||| 2 ^ i.val }) ∧
    (∀ (i : Fin 64) (s : State), (s.dev.die (inDie i)).on = true → s.dev.dieFld (R.FIELD_IN_CFG i) F.FIELD_IN_CFG_WB_EN ≠ 0 → Effect (.wireBreak i) s fun d => (d.modField fun f => { f with wb := f.wb ||| 2 ^ i.val }).wbSync (inDie i)) ∧
    (∀ (i : Fin 64) (s : State), (s.dev.die (inDie i)).on = true → Effect (.wireBreakClear i) s fun d => (d.modField fun f => { f with wb := andNot f.wb (2 ^ i.val) }).wbSync (inDie i)) ∧
    (∀ (s : State), (s.dev.die 0).on = true → s.dev.fb (R.FIELD_LINK_STATUS 0) F.FIELD_LINK_STATUS_SUPPLY = true → Effect (.fieldLogicSupplyLoss 0) s fun d => (((d.modDie 0 fun x => { x with on := false, down := none, cmd := 0, lastCmd := 0, hot := [], ovl := [], cond := [], fallback := false }).fsb (R.FIELD_LINK_STATUS 0) F.FIELD_LINK_STATUS_SUPPLY false).setFlag (R.FIELD_LINK_STATUS 0) F.FIELD_LINK_STATUS_SUPPLY_LOST.lo 530).chanStop true) ∧
    (∀ (s : State), (s.dev.die 0).on = true → s.dev.fb (R.FIELD_LINK_STATUS 0) F.FIELD_LINK_STATUS_SUPPLY = false → Effect (.fieldLogicSupplyLoss 0) s fun d => (d.modDie 0 fun x => { x with on := false, down := none, cmd := 0, lastCmd := 0, hot := [], ovl := [], cond := [], fallback := false }).chanStop true) ∧
    (∀ (s : State), (s.dev.die 1).on = true → s.dev.fb (R.FIELD_LINK_STATUS 1) F.FIELD_LINK_STATUS_SUPPLY = true → Effect (.fieldLogicSupplyLoss 1) s fun d => ((d.modDie 1 fun x => { x with on := false, down := none, cmd := 0, lastCmd := 0, hot := [], ovl := [], cond := [], fallback := false }).fsb (R.FIELD_LINK_STATUS 1) F.FIELD_LINK_STATUS_SUPPLY false).setFlag (R.FIELD_LINK_STATUS 1) F.FIELD_LINK_STATUS_SUPPLY_LOST.lo 531) ∧
    (∀ (s : State), (s.dev.die 1).on = true → s.dev.fb (R.FIELD_LINK_STATUS 1) F.FIELD_LINK_STATUS_SUPPLY = false → Effect (.fieldLogicSupplyLoss 1) s fun d => d.modDie 1 fun x => { x with on := false, down := none, cmd := 0, lastCmd := 0, hot := [], ovl := [], cond := [], fallback := false }) ∧
    (∀ (k : Fin 2) (s : State), (s.dev.die k).on = true → Effect (.fieldLogicSupplyReturn k) s fun d => d) ∧
    (∀ (s : State), (s.dev.die 0).on = false → Effect (.fieldLogicSupplyReturn 0) s fun d => 
      let w := d.dieWords 0
      let e := d.modDie 0 fun x => { x with on := true, upSeq := 0, rxSeq := 0, bad := 0, good := 0, lastBad := false, cfgQ := w }
      let e := e.modField fun f =>
        let ins := maskOf 64 fun i => inDie i = 0
        { f with cfg := f.cfg.filter (fun c => !((dieIns 0).any fun i => R.FIELD_IN_CFG i = c.1) && !((dieOuts 0).any fun o => R.FIELD_OUT_CFG o = c.1))
                 levels := andNot f.levels ins, chg := andNot f.chg ins, wb := andNot f.wb ins }
      e.safetyStart true) ∧
    (∀ (s : State), (s.dev.die 1).on = false → Effect (.fieldLogicSupplyReturn 1) s fun d => 
      let w := d.dieWords 1
      let e := d.modDie 1 fun x => { x with on := true, upSeq := 0, rxSeq := 0, bad := 0, good := 0, lastBad := false, cfgQ := w }
      let e := e.modField fun f =>
        let ins := maskOf 64 fun i => inDie i = 1
        { f with cfg := f.cfg.filter (fun c => !((dieIns 1).any fun i => R.FIELD_IN_CFG i = c.1) && !((dieOuts 1).any fun o => R.FIELD_OUT_CFG o = c.1))
                 levels := andNot f.levels ins, chg := andNot f.chg ins, wb := andNot f.wb ins }
      e)

/-- Whatever the motion die does: an input filter of a channel that is on takes the level, and SAFETY_IN shows channel A's; a
discrepancy of a used pair whose inputs differ is recorded; a reset input is kept for the next decision. A test pulse in its
safety cycle, while channel B is on, is checked in every channel that is on; a readback that fails twice running is TP_OUTPUT of
channel B, the fourth pulse ends the period in both channels, and channel A shows its faults; in another cycle it does nothing.
The readback test of a switch that is on counts, and the second failure running is SO_READBACK. A due decision of a channel
decides, and keeps and, for channel A, shows and sends its message. The latch checks the readbacks, applies the decisions of both
channels, counts the cycle and takes a committed set. A comparison that differs for 8 cycles, or in its set, is COMPARE; two
missing messages are MESSAGE of that channel's side, and channel A then shows B as not running; three bad upstream frames take the
STOEN_B lines low; a lockstep fault stops channel A with its fault; the delay of a running SS1 ends in each channel with its
function held and STO applied; a channel starts when its die or its clock runs, channel A not after LOCKSTEP, and ends its startup
with a set. -/
def Obligations.SafetyEventsTakeEffect : Prop :=
    (∀ (b : Bool) (i : Fin 16) (lv : Bool) (s : State), (s.dev.chan b).on = true → Effect (.safetyInputFilter b i lv) s fun d => 
      let d := d.modChan b fun c => { c with filt := putBit c.filt i lv }
      if b then d else d.fs R.SAFETY_IN F.SAFETY_IN_CH_A d.safety.a.filt) ∧
    (∀ (b : Bool) (p : Fin 8) (w : List Word) (s : State), (s.dev.chan b).on = true → (s.dev.chan b).set = some w → pairUsed w p = true → (s.dev.chan b).disc.testBit p = false → (s.dev.chan b).inDemands (s.dev.chan b).filt (2 * p) ≠ (s.dev.chan b).inDemands (s.dev.chan b).filt (2 * p + 1) → Effect (.pairDiscrepancy b p) s fun d => 
      let d := d.modChan b fun c => { c with disc := c.disc + 2 ^ p.val, both := putBit c.both p false }
      if b then d else d.setFlag R.SAFETY_PAIR (F.SAFETY_PAIR_DISC.lo + p) 546) ∧
    (∀ (b : Bool) (i : Fin 16) (s : State), (s.dev.chan b).on = true → Effect (.resetInputPulse b i) s fun d => d.modChan b fun c => { c with resets := putBit c.resets i true }) ∧
    (∀ (k : Fin 4) (x y z w : BitVec 16) (r : Bool) (s : State), s.dev.safety.b.on = false ∨ s.dev.safety.cyc % 80 ≠ 20 * k.val → Effect (.testPulse k x y z w r) s fun d => d) ∧
    (∀ (k : Fin 4) (x y z w : BitVec 16) (r : Bool) (s : State), s.dev.safety.b.on = true → s.dev.safety.cyc % 80 = 20 * k.val → Effect (.testPulse k x y z w r) s fun d => 
      let e := if d.safety.a.on then d.modChan false fun c => c.pulse k x.toNat y.toNat else d
      let e := e.modChan true fun c => c.pulse k z.toNat w.toNat
      let n := if r then tabGet d.safety.tpOut k + 1 else 0
      let e := e.modSafety fun s => { s with tpOut := tabSet s.tpOut k (min 2 n) }
      let e := if 2 ≤ n then e.chanFault true 5 else e
      let e := if k.val = 3 then (e.modChan false SChan.periodEnd).modChan true SChan.periodEnd else e
      if e.safety.a.on then e.showTp else e) ∧
    (∀ (j : Fin 4) (r : Bool) (s : State), (s.dev.chan (j.val % 2 = 1)).on = true → (s.dev.chan (j.val % 2 = 1)).so.testBit (j.val / 2) = true → Effect (.soTestPulse j r) s fun d => 
      let b := decide (j.val % 2 = 1)
      let n := if r then tabGet (d.chan b).soBad (2 + j.val / 2) + 1 else 0
      let d := d.modChan b fun c => { c with soBad := tabSet c.soBad (2 + j.val / 2) (min 2 n) }
      if 2 ≤ n then d.chanFault b 4 else d) ∧
    (∀ (j : Fin 4) (r : Bool) (s : State), (s.dev.chan (j.val % 2 = 1)).on = false ∨ (s.dev.chan (j.val % 2 = 1)).so.testBit (j.val / 2) = false → Effect (.soTestPulse j r) s fun d => d) ∧
    (∀ (s : State), s.dev.safety.b.on = true → s.dev.safety.b.due = true → Effect (.safetyDecision true) s fun d => 
      let old := d.safety.b
      let d := d.modChan true SChan.decide
      let d := d.modChan true fun c => { c with soNext := if c.faults = 0 && !c.startup then maskOf 2 (soOn c.set c.next old.cmd) else 0 }
      d.modChan true fun c => { c with prev := c.cur, cur := some (d.ownMsg true) }) ∧
    (∀ (s : State), s.dev.safety.a.on = true → s.dev.safety.a.due = true → Effect (.safetyDecision false) s fun d => 
      let old := d.safety.a
      let d := d.modChan false SChan.decide
      let cmd := d.soCmdA
      let d := d.modChan false fun c => { c with soNext := if c.faults = 0 && !c.startup then maskOf 2 (soOn c.set c.next cmd) else 0 }
      let d := d.showDecision old
      (d.sendSafety (d.ownMsg false)).modChan false fun c => { c with prev := c.cur, cur := some (d.ownMsg false) }) ∧
    (∀ (r : BitVec 4) (s : State), Effect (.safetyLatch r) s fun d => 
      let q (i : Nat) : Nat := if r.getLsbD i then 1 else 0
      let d := ((d.fs R.SAFETY_OUT F.SAFETY_OUT_SO_STATE r.toNat).soCheck false (q 0 + 2 * q 2)).soCheck true (q 1 + 2 * q 3)
      let d := (d.chanLatch false).chanLatch true
      let d := if d.safety.a.on && d.safety.a.missing = 0 && d.safety.a.peer.isSome && !d.fb R.SAFETY_STATUS F.SAFETY_STATUS_CH_B_RUN then
        (d.fsb R.SAFETY_STATUS F.SAFETY_STATUS_CH_B_RUN true).raise 550 else d
      let d := d.modSafety fun s => { s with cyc := s.cyc + 1, downIdx := 1, upIdx := 0 }
      let d := if d.safety.a.on then d.wrapInc R.SAFETY_CYCLE F.SAFETY_CYCLE_CYCLE else d
      if d.safety.commit then d.commitLatch else d) ∧
    (∀ (b : Bool) (s : State), (s.dev.chan b).on = true → (s.dev.chan b).crcDiff = true ∨ (s.dev.chan b).diff = 8 → (s.dev.chan b).faults.testBit 0 = false → Effect (.safetyCompareFault b) s fun d => d.chanFault b 0) ∧
    (∀ (b : Bool) (s : State), (s.dev.chan b).on = true → 2 ≤ (s.dev.chan b).missing → Effect (.safetyMessageMissing b) s fun d => 
      let n := if b then 2 else 3
      let e := if (d.chan b).faults.testBit n then d else d.chanFault b n
      if !b && e.fb R.SAFETY_STATUS F.SAFETY_STATUS_CH_B_RUN then (e.fsb R.SAFETY_STATUS F.SAFETY_STATUS_CH_B_RUN false).raise 550 else e) ∧
    (∀ (s : State), 3 ≤ s.dev.safety.upBad → Effect .stoenBFrameLoss s fun d => d.stoenB 0) ∧
    (∀ (s : State), Running s → s.dev.safety.a.on = true → Effect .lockstepFault s fun d => (d.chanFault false 6).chanStop false) ∧
    (∀ (f : Fin 8) (s : State), (s.dev.safety.b.on = true ∧ s.dev.safety.b.ss1.testBit f = true) ∨ (s.dev.safety.a.on = true ∧ s.dev.safety.a.ss1.testBit f = true) → Effect (.ss1DelayExpiry f) s fun d => 
      let ends (d : Dev) (b : Bool) (w : List Word) : Dev :=
        if (d.chan b).on && (d.chan b).ss1.testBit f then
          let m := (d.chan b).sto ||| fnBanks w f
          let e := (d.modChan b fun c => { c with ss1 := putBit c.ss1 f false, hold := putBit c.hold f true }).chanApply b m
            (maskOf 2 fun x => (d.chan b).so.testBit x && soOn (some w) m (d.chan b).so x)
          if b then e else e.ss1Start
        else d
      let e := d.safety.b.set.elim d fun w => ends d true w
      e.safety.a.set.elim e fun w => ends e false w) ∧
    (∀ (s : State), s.dev.safety.b.on = false → (tabGet s.dev.field.dies 0).on = true → Effect (.safetyStartup true) s fun d => d.safetyStart true) ∧
    (∀ (s : State), Running s → s.dev.safety.a.on = false → s.dev.fb R.SYS_CLOCK_STATUS F.SYS_CLOCK_STATUS_SAFA_LOCK = true → s.dev.safety.a.faults.testBit 6 = false → Effect (.safetyStartup false) s fun d => d.safetyStart false) ∧
    (∀ (b : Bool) (w : List Word) (s : State), (s.dev.chan b).on = true → (s.dev.chan b).startup = true → (s.dev.chan b).set = some w → Effect (.safetyStartupTestComplete b) s fun d => 
      let d := d.modChan b fun c => { c with startup := false }
      if b then d else d.fsb R.SAFETY_STATUS F.SAFETY_STATUS_STARTUP false)

/-- While the motion die runs: setting EN from SINGLE enters SEEKING with no partner known and every axis DISABLED; clearing it
from ACTIVE enters SINGLE, after RESIGN with RELEASE from ACTIVE_PAIRED. The boot wait without a heartbeat ends SEEKING. A part in
the states 1 to 5 sends its heartbeat, counts a period without one of the partner, and toggles HBO; an ACTIVE without CE_LOCK or
PWM_LOCK resigns with cause LOCK at either instead. An edge of HBI shows the pin alive; a silent path is shown. A partner heard
before and lost outside SEEKING is lost on both paths. The pair watchdog makes the part resign with cause 3. In a standby an axis
off on 8 records sets DIVERGE; safety records that differ 8 in a row set SAFETY_DIFF. The Tie link is up after 8 good frames
outside SINGLE, and goes down by silence or 4 bad ones. The bulk copy of a SYNC part whose link is up completes. The switchover of
an ACTIVE_PAIRED part, 1 ms or more after its acceptance, and of a STANDBY_READY part changes its side and answers its command.
The health mask of the heartbeat is a free value (log 24). -/
def Obligations.PairStateEventsTakeEffect : Prop :=
    (∀ (s : State), Running s → s.dev.pairEn = true → s.dev.pairState = 0 → Effect .pairEnSet s fun d => (((d.setPairState 1).fs R.PAIR_STATUS F.PAIR_STATUS_PARTNER 7).modPair fun p => { p with heard := false, bulk := false }).allDisabled) ∧
    (∀ (s : State), Running s → s.dev.pairEn = false → s.dev.pairState = 2 → Effect .pairEnClear s fun d => (d.setPairState 0).modPair fun p => { p with heard := false, switch := false }) ∧
    (∀ (s : State), Running s → s.dev.pairEn = false → s.dev.pairState = 3 → Effect .pairEnClear s fun d => ((d.sendTie 8 [5]).setPairState 0).modPair fun p => { p with heard := false, switch := false }) ∧
    (∀ (s : State), Running s → s.dev.pairEn = true → s.dev.pairState = 1 → s.dev.pair.heard = false → Effect .pairBootWaitExpiry s fun d => d.seekAlone) ∧
    (∀ (s : State), Running s → s.dev.beats = true → s.dev.pairActive = false ∨ s.dev.lockLost = false → Effect .heartbeatSend s fun d => 
      let d := if d.pair.heardNow then d else d.satInc R.PAIR_COUNTS F.PAIR_COUNTS_HB_MISSED
      let pay := [toW d.pairState, Config.freeWord d.fresh] ++ words64 d.ns ++ [d.cfgCrc, d.rd R.SAFETY_SET_CRC] ++ words64 (d.rd64 (R.SYS_TICK_COUNT 0))
      (d.nextFresh.modPair fun p => { p with heardNow := false }).tieFrame 1 pay) ∧
    (∀ (s : State), Running s → s.dev.beats = true → s.dev.pairActive = true → s.dev.lockLost = true → Effect .heartbeatSend s fun d => d.resign 4) ∧
    (∀ (s : State), Running s → s.dev.beats = true → s.dev.pairActive = false ∨ s.dev.lockLost = false → Effect .pairHboToggle s fun d => d.modPair fun p => { p with hbo := !p.hbo }) ∧
    (∀ (s : State), Running s → s.dev.beats = true → s.dev.pairActive = true → s.dev.lockLost = true → Effect .pairHboToggle s fun d => d.resign 4) ∧
    (∀ (s : State), Running s → s.dev.beats = true → Effect .pairHbiEdge s fun d => ((d.fsb R.PAIR_STATUS F.PAIR_STATUS_HB_PIN true).modPair fun p => { p with hbNs := d.ns }).pairReview) ∧
    (∀ (p : Bool) (s : State), Running s → Effect (.heartbeatPathLost p) s fun d => (d.fsb R.PAIR_STATUS (if p then F.PAIR_STATUS_HB_PIN else F.PAIR_STATUS_HB_TIE) false).pairReview) ∧
    (∀ (s : State), Running s → s.dev.beats = true → s.dev.pairState ≠ 1 → s.dev.pair.heard = true → Effect .partnerLost s fun d => 
      (((d.fsb R.PAIR_STATUS F.PAIR_STATUS_HB_TIE false).fsb R.PAIR_STATUS F.PAIR_STATUS_HB_PIN false).partnerLost 1).modPair fun p => { p with heard := false }) ∧
    (∀ (s : State), Running s → Effect .pairWatchdogExpiry s fun d => d.resign 3) ∧
    (∀ (a : Fin 64) (s : State), Running s → s.dev.standby = true → 8 ≤ tabGet s.dev.pair.div a → Effect (.pairDivergence a) s fun d => (d.setFlag R.PAIR_EVENT F.PAIR_EVENT_DIVERGE.lo 565).pairReview) ∧
    (∀ (s : State), Running s → s.dev.beats = true → 8 ≤ s.dev.pair.stoDiff → Effect .safetyDiff s fun d => (d.setFlag R.PAIR_EVENT F.PAIR_EVENT_SAFETY_DIFF.lo 567).pairReview) ∧
    (∀ (s : State), Running s → 8 ≤ s.dev.pair.goodRun → s.dev.pairState ≠ 0 → Effect .tieLinkUp s fun d => (d.fsb R.PAIR_STATUS F.PAIR_STATUS_LINK_UP true).pairReview) ∧
    (∀ (x : Bool) (s : State), Running s → s.dev.fb R.PAIR_STATUS F.PAIR_STATUS_LINK_UP = true → x = true ∨ 4 ≤ s.dev.pair.badRun → Effect (.tieLinkDown x) s fun d => d.tieDown) ∧
    (∀ (s : State), Running s → s.dev.pairState = 4 → s.dev.fb R.PAIR_STATUS F.PAIR_STATUS_LINK_UP = true → Effect .bulkCopyComplete s fun d => (d.modPair fun p => { p with bulk := true }).pairReview) ∧
    (∀ (s : State), Running s → s.dev.pair.switch = true → s.dev.pairState = 3 → s.dev.pair.switchAt + 1000000 ≤ s.dev.ns → Effect .switchoverTick s fun d => 
      let e := d.modPair fun p => { p with switch := false }
      ((e.wr64 R.PAIR_TAKEOVER_TIME e.ns).toStandby).resolve ⟨.switchover, 0⟩ 0 0 (words64 (e.rd64 (R.SYS_TICK_COUNT 0)))) ∧
    (∀ (s : State), Running s → s.dev.pair.switch = true → s.dev.pairState = 5 → Effect .switchoverTick s fun d => 
      let e := d.modPair fun p => { p with switch := false }
      (e.takeover 3 none).resolve ⟨.switchover, 0⟩ 0 0 (words64 (e.rd64 (R.SYS_TICK_COUNT 0))))

/-- While the motion die runs, each frame of the Tie has the effect named here behind the checks of its header and behind a Squall
rule that hits it (Dev.tieTake): HEARTBEAT of a part in the states 1 to 5 notes the partner, its state, the two matches and the
time, and reviews the pair; AXIS_MIRROR of a standby, of the present tick or of the tick before while its evaluation is due, is
compared and taken, and a later one is counted; LANE_MIRROR waits; COMMAND_MIRROR is accepted with its CSN, epoch and cache entry;
POST_MIRROR moves the journal and the producer indexes; SAFETY_FRAME is compared and 8 in a row are counted; RESIGN with RELEASE
ends a standby, and any other cause outside SEEKING is the loss of the partner; STROBE strobes where TIE_IN is set; bulk words
reach the registers of a STANDBY_SYNC part. Outside these states of the pair a frame changes nothing. -/
def Obligations.PairFramesTakeEffect : Prop :=
    (∀ (h : TieHead) (b : Heartbeat) (s : State), Running s → s.dev.beats = true → Effect (.heartbeatReceive h b) s fun d => d.tieTake 1 h fun d =>
      let d := d.modPair fun p => { p with heard := true, heardNow := true, health := b.health, hbNs := d.ns }
      let d := (d.fsb R.PAIR_STATUS F.PAIR_STATUS_HB_TIE true).fs R.PAIR_STATUS F.PAIR_STATUS_PARTNER b.state
      (((d.heartbeatMatch b).heartbeatTime b).heartbeatState b.state).pairReview) ∧
    (∀ (h : TieHead) (a : Fin 64) (m : AxisMirror) (s : State), Running s → s.dev.standby = true → Effect (.axisMirrorReceive h a m) s fun d => d.tieTake 2 h fun d =>
      let n := d.rd64 (R.SYS_TICK_COUNT (laneOf a))
      if m.tick = n || (m.tick + 1 = n && (d.ceAx a).due.any fun e => e.tick = n) then
        let lim : Int := (d.fg R.PAIR_CFG F.PAIR_CFG_DIV_LIM : Int) * 2 ^ 24
        let off := lim < (d.ax a).pCmd - m.pCmd || (d.ax a).pCmd - m.pCmd < -lim || d.axState a ≠ m.state.val
        let d := if off then d.satInc R.PAIR_COUNTS F.PAIR_COUNTS_DIVERGE else d
        (d.modPair fun p => { p with div := tabSet p.div a (if off then min 8 (tabGet p.div a + 1) else 0) }).mirrorAxis a m
      else d.satInc R.PAIR_COUNTS F.PAIR_COUNTS_MIRROR_LATE) ∧
    (∀ (h : TieHead) (n : Fin 4) (m : LaneMirror) (s : State), Running s → s.dev.standby = true → Effect (.laneMirrorReceive h n m) s fun d => d.tieTake 3 h fun d => d.modPair fun p => { p with laneMir := tabSet p.laneMir n (some m) }) ∧
    (∀ (h : TieHead) (p : Packet) (s : State), Running s → s.dev.standby = true → Effect (.commandMirrorReceive h p) s fun d => d.tieTake 4 h fun d =>
      let ch := match (d.cmd.accepted.filter fun a => a.pkt.q = p.q).getLast? with | some a => a.pkt.chain | none => false
      let d := (d.wr (R.CMDQ_ACCEPTED p.q) p.csn).fs (R.CMDQ_FETCH p.q) F.CMDQ_FETCH_FILL (d.fg (R.CMDQ_FETCH p.q) F.CMDQ_FETCH_FILL + 1)
      let d := (d.fs R.CMDQ_SESSION F.CMDQ_SESSION_EPOCH p.epoch.toNat).wrapInc (R.CMDQ_FETCH p.q) F.CMDQ_FETCH_FETCH
      d.modCmd fun c => { c with accepted := c.accepted ++ [{ pkt := p, inChain := p.chain || ch, closed := true }]
                                 cache := tabMod c.cache p.q fun l => ({ csn := p.csn, crc := p.crc } :: l).take 64 }) ∧
    (∀ (h : TieHead) (m : PostMirror) (s : State), Running s → s.dev.standby = true → Effect (.postMirrorReceive h m) s fun d => d.tieTake 5 h fun d => d.postMirror m) ∧
    (∀ (h : TieHead) (x : BitVec 4) (s : State), Running s → s.dev.beats = true → Effect (.safetyFrameReceive h x) s fun d => d.tieTake 6 h fun d =>
      let n := if x.toNat = d.fg R.SAFETY_STATUS F.SAFETY_STATUS_STO then 0 else min 8 (d.pair.stoDiff + 1)
      (d.modPair fun p => { p with stoDiff := n }).pairReview) ∧
    (∀ (h : TieHead) (x : Fin 8) (s : State), Running s → s.dev.beats = true → Effect (.resignReceive h x) s fun d => d.tieTake 8 h fun d =>
      if x.val = 5 then
        if d.standby then d.setPairState 6 else d
      else if d.pairState = 1 then d
      else (d.modPair fun p => { p with hbNs := d.ns }).partnerLost 2) ∧
    (∀ (h : TieHead) (s : State), Running s → Effect (.strobeReceive h) s fun d => d.tieTake 7 h fun d => if d.fb R.SNAP_CFG F.SNAP_CFG_TIE_IN then d.strobe 5 0 else d) ∧
    (∀ (h : TieHead) (l : List (Nat × Word)) (s : State), Running s → s.dev.pairState = 4 → Effect (.bulkReceive h l) s fun d => d.tieTake 9 h fun d => l.foldl Dev.bulkTake d) ∧
    (∀ (h : TieHead) (b : Heartbeat) (s : State), Running s → s.dev.beats = false → Effect (.heartbeatReceive h b) s fun d => d) ∧
    (∀ (h : TieHead) (x : BitVec 4) (s : State), Running s → s.dev.beats = false → Effect (.safetyFrameReceive h x) s fun d => d) ∧
    (∀ (h : TieHead) (x : Fin 8) (s : State), Running s → s.dev.beats = false → Effect (.resignReceive h x) s fun d => d) ∧
    (∀ (h : TieHead) (a : Fin 64) (m : AxisMirror) (s : State), Running s → s.dev.standby = false → Effect (.axisMirrorReceive h a m) s fun d => d) ∧
    (∀ (h : TieHead) (n : Fin 4) (m : LaneMirror) (s : State), Running s → s.dev.standby = false → Effect (.laneMirrorReceive h n m) s fun d => d) ∧
    (∀ (h : TieHead) (p : Packet) (s : State), Running s → s.dev.standby = false → Effect (.commandMirrorReceive h p) s fun d => d) ∧
    (∀ (h : TieHead) (m : PostMirror) (s : State), Running s → s.dev.standby = false → Effect (.postMirrorReceive h m) s fun d => d) ∧
    (∀ (h : TieHead) (l : List (Nat × Word)) (s : State), Running s → s.dev.pairState ≠ 4 → Effect (.bulkReceive h l) s fun d => d)

/-- While the motion die runs and the store is mounted, the first running operation meets the end of a NAND operation: a program
of a write draws its bytes from the wear budget and, as the last and without a power failure, ends the write; an erase of a write
counts for its block, levels the wear and, as the last of an erasing operation and without a power failure, ends it; a read is
corrected and, as the last of a reading one, ends it; a block that fails a write is retired; an uncorrectable block of a reading
operation counts and is retired, and with one copy sets UNCORR and ends the operation with 0x0703, with two it is refreshed. A
scrub in RUN or SERVO_OFF, not throttled and without a power failure, scrubs its blocks; the end of a period raises 583, with
SCRUB_LATE where pages are unread. The budget gains its second. A power failure sets PF and PF_ACTIVE, starts the flush, raises
576 and starts the stop of every axis. Whatever the motion die does: a running flush ends with its result, slot and duration; with
PF_ACTIVE, BACKUP is entered when VDD falls or when the flush and the stops are done, and the held part enters it when its flush
is done; from BACKUP the island releases a cold reset of cause 1; VAUX loss and return, an island stop and a low VBAK change their
status, with VAUX_LOST only while no sequence runs. -/
def Obligations.StoreAndPowerEventsTakeEffect : Prop :=
    (∀ (o : StoreOp) (l : List StoreOp) (n : Nat) (z : Bool) (s : State), Running s → s.dev.store.ops = o :: l → s.dev.mounted = true → o.kind ≠ .read → Effect (.nandOperationComplete (.programmed n z)) s fun d => 
      let d := d.wearDraw n
      let p := { o with phys := o.phys + n }
      let d := d.modStore fun s => { s with ops := s.ops.map fun x => if x.id = p.id then p else x }
      if z && !d.fb R.POWER_STATUS F.POWER_STATUS_PF_ACTIVE then d.finishStore p else d) ∧
    (∀ (o : StoreOp) (l : List StoreOp) (b : Nat) (z : Bool) (s : State), Running s → s.dev.store.ops = o :: l → s.dev.mounted = true → o.kind ≠ .read → Effect (.nandOperationComplete (.erased b z)) s fun d => 
      let d := (d.modStore fun s => { s with erases := tabMod s.erases b (· + 1) }).wearRegs.levelWear
      if z && o.kind = .erase && !d.fb R.POWER_STATUS F.POWER_STATUS_PF_ACTIVE then d.finishStore o else d) ∧
    (∀ (o : StoreOp) (l : List StoreOp) (b x w : Nat) (z : Bool) (s : State), Running s → s.dev.store.ops = o :: l → s.dev.mounted = true → Effect (.nandOperationComplete (.read b x w z)) s fun d => 
      let d := d.corrected b x w
      if z && o.kind = .read then d.finishStore o else d) ∧
    (∀ (o : StoreOp) (l : List StoreOp) (b : Nat) (s : State), Running s → s.dev.store.ops = o :: l → s.dev.mounted = true → o.kind ≠ .read → Effect (.nandOperationComplete (.failed b)) s fun d => d.retire b) ∧
    (∀ (o : StoreOp) (l : List StoreOp) (b : Nat) (s : State), Running s → s.dev.store.ops = o :: l → s.dev.mounted = true → o.kind = .read → twoCopies o.part = false → Effect (.nandOperationComplete (.uncorrectable b)) s fun d => ((((d.storeCount F.STORE_COUNTS_UNCORR 1).retire b).setFlag R.STORE_ERR F.STORE_ERR_UNCORR.lo 581).endStore o 0x0703 [])) ∧
    (∀ (o : StoreOp) (l : List StoreOp) (b : Nat) (s : State), Running s → s.dev.store.ops = o :: l → s.dev.mounted = true → o.kind = .read → twoCopies o.part = true → Effect (.nandOperationComplete (.uncorrectable b)) s fun d => ((d.storeCount F.STORE_COUNTS_UNCORR 1).retire b).storeCount F.STORE_COUNTS_REFRESH 1) ∧
    (∀ (l : List ScrubBlock) (z u : Bool) (s : State), Running s → s.dev.mounted = true → s.dev.throttled = false → s.dev.dozing = false → s.dev.fb R.POWER_STATUS F.POWER_STATUS_PF_ACTIVE = false → Effect (.nandScrub l z u) s fun d => 
      let e := l.foldl Dev.scrubBlock d
      let f := (e.modStore fun s => { s with hits := [] }).raise 583
      if z then (if u then f.fsb R.STORE_ERR F.STORE_ERR_SCRUB_LATE true else f) else e) ∧
    (∀ (s : State), Running s → s.dev.mounted = true → Effect .wearBudgetTick s fun d => (d.modStore fun s => { s with budget := min (d.wearDepth : Nat) (s.budget + (d.wearGain : Nat)) }).wearRegs) ∧
    (∀ (s : State), Running s → s.dev.fb R.POWER_STATUS F.POWER_STATUS_PF_ACTIVE = false → Effect .powerFail s fun d => 
      let d := (d.fsb R.POWER_EVENT F.POWER_EVENT_PF true).fsb R.POWER_STATUS F.POWER_STATUS_PF_ACTIVE true
      (((d.startFlush false).raise 576).modStore fun s => { s with saved := some s.budget }).hsgAll 1) ∧
    (∀ (k : Fin 16) (n : Nat) (ok : Bool) (s : State), s.dev.store.flush = true → Effect (.journalFlush k n ok) s fun d => 
      let good := ok && d.store.part.isSome
      let j := d.journalNow
      let d := d.modStore fun s =>
        { s with flush := false, frozen := true
                 slots := if good then tabSet s.slots k (some j) else s.slots, jseq := if good then s.jseq + 1 else s.jseq }
      let d := ((d.fs R.POWER_FLUSH F.POWER_FLUSH_RESULT (if good then 1 else 2)).fs R.POWER_FLUSH F.POWER_FLUSH_SLOT k).fs
        R.POWER_FLUSH F.POWER_FLUSH_DURATION (min 65535 n)
      let d := if good then d else d.fsb R.POWER_EVENT F.POWER_EVENT_FLUSH_FAIL true
      d.armRegs) ∧
    (∀ (s : State), Running s → s.dev.fb R.POWER_STATUS F.POWER_STATUS_PF_ACTIVE = true → Effect (.backupEntry true) s fun d => d.toBackup) ∧
    (∀ (s : State), Running s → s.dev.fb R.POWER_STATUS F.POWER_STATUS_PF_ACTIVE = true → s.dev.store.flush = false → s.dev.stopsDone = true → Effect (.backupEntry false) s fun d => d.toBackup) ∧
    (∀ (x : Bool) (s : State), s.dev.heldInReset = true → s.dev.store.flush = false → s.dev.power < 3 → Effect (.backupEntry x) s fun d => d.fs R.PWR_STATUS F.PWR_STATUS_STATE 3) ∧
    (∀ (x : Straps) (s : State), s.dev.heldInReset = true → s.dev.power = 3 → Effect (.backupEnd x) s fun d => 
      ((d.modBoot fun b => { b with held := false }).modStore fun s => { s with flush := false, frozen := false }).coldReset x 1 0) ∧
    (∀ (s : State), Effect .vauxLoss s fun d => 
      let d := (d.fsb R.POWER_STATUS F.POWER_STATUS_ON_VBAK true).chargeRegs
      if d.fb R.POWER_STATUS F.POWER_STATUS_PF_ACTIVE || d.heldInReset then d
      else d.setFlag R.POWER_EVENT F.POWER_EVENT_VAUX_LOST.lo 577) ∧
    (∀ (s : State), Effect .vauxReturn s fun d => (d.fsb R.POWER_STATUS F.POWER_STATUS_ON_VBAK false).chargeRegs) ∧
    (∀ (s : State), Effect .islandStop s fun d => 
      let cut := d.store.flush
      let d := d.modStore fun s => { s with lost := true, flush := false, saved := none, rtcAcc := 0 }
      let d := (({ d with faultLog := [] } : Dev).wr64 R.RTC_TIME 0).wr64 R.POWER_PF_TIME 0
      let d := (d.wr R.POWER_FLUSH 0).fs R.POWER_FLUSH F.POWER_FLUSH_RESULT (if cut then 3 else 0)
      let d := d.wr R.POWER_STATUS (d.rd R.POWER_STATUS &&& ~~~0x03800000#32)
      if d.heldInReset then d.fs R.PWR_STATUS F.PWR_STATUS_STATE 4 else d) ∧
    (∀ (s : State), s.dev.fb R.POWER_STATUS F.POWER_STATUS_BAK_OK = true → Effect .vbakLow s fun d => ((d.fsb R.POWER_STATUS F.POWER_STATUS_BAK_OK false).armRegs).setFlag R.POWER_EVENT F.POWER_EVENT_VBAK_LOW.lo 578)

/-- While the motion die runs: IDCODE, SAMPLE/PRELOAD and BYPASS load their instruction, drive nothing and disconnect the DAP,
SAMPLE/PRELOAD with the scanned bits kept; EXTEST, CLAMP and HIGHZ drive the pins at debug level FULL in SERVO_OFF and are
otherwise refused as BYPASS and counted; DAP connects the debug port at level OBSERVE or above, with source 608 where it was not
connected, and is refused at level NONE. The nonce of DEBUG_CHALLENGE expires, and, whatever the motion die does, the unlock
lockout ends. -/
def Obligations.DebugAndJtagEventsTakeEffect : Prop :=
    (∀ (s : State), Running s → Effect .jtagIdcode s fun d => d.jtag 0x01 .none) ∧
    (∀ (l : List Bool) (s : State), Running s → Effect (.jtagSamplePreload l) s fun d => (d.jtag 0x02 .none).modSec fun s => { s with bsr := l }) ∧
    (∀ (s : State), Running s → Effect .jtagBypass s fun d => d.jtag 0xFF .none) ∧
    (∀ (s : State), Running s → s.dev.scanOk = true → Effect .jtagExtest s fun d => d.jtag 0x03 .extest) ∧
    (∀ (s : State), Running s → s.dev.scanOk = true → Effect .jtagClamp s fun d => d.jtag 0x04 .clamp) ∧
    (∀ (s : State), Running s → s.dev.scanOk = true → Effect .jtagHighz s fun d => d.jtag 0x05 .highz) ∧
    (∀ (s : State), Running s → s.dev.scanOk = false → Effect .jtagExtest s fun d => (d.jtag 0xFF .none).satInc R.SEC_COUNTS F.SEC_COUNTS_JTAG_REFUSED) ∧
    (∀ (s : State), Running s → s.dev.scanOk = false → Effect .jtagClamp s fun d => (d.jtag 0xFF .none).satInc R.SEC_COUNTS F.SEC_COUNTS_JTAG_REFUSED) ∧
    (∀ (s : State), Running s → s.dev.scanOk = false → Effect .jtagHighz s fun d => (d.jtag 0xFF .none).satInc R.SEC_COUNTS F.SEC_COUNTS_JTAG_REFUSED) ∧
    (∀ (s : State), Running s → 1 ≤ s.dev.debugLevel → s.dev.fb R.DEBUG_STATUS F.DEBUG_STATUS_DAP = false → Effect .jtagDap s fun d => ((d.jtag 0x20 .none).fsb R.DEBUG_STATUS F.DEBUG_STATUS_DAP true).raise 608) ∧
    (∀ (s : State), Running s → 1 ≤ s.dev.debugLevel → s.dev.fb R.DEBUG_STATUS F.DEBUG_STATUS_DAP = true → Effect .jtagDap s fun d => (d.jtag 0x20 .none).fsb R.DEBUG_STATUS F.DEBUG_STATUS_DAP true) ∧
    (∀ (s : State), Running s → s.dev.debugLevel = 0 → Effect .jtagDap s fun d => (d.jtag 0xFF .none).satInc R.SEC_COUNTS F.SEC_COUNTS_JTAG_REFUSED) ∧
    (∀ (s : State), Running s → Effect .nonceExpiry s fun d => d.modSec fun s => { s with nonce := none }) ∧
    (∀ (s : State), Effect .unlockLockoutEnd s fun d => d.modSec fun s => { s with lockout := false })

/-- While the motion die runs: a corrected ECC error counts, sets its flag and waits for its write-back, and an uncorrectable one
counts, records its place and sets its flag, with the outcome of the word where it is met in the foreground; a write-back ends.
Outside DOZE telemetry is sampled, and a supervisor service counts. The calibration ages of the banks advance each second in every
state. Unthrottled and outside DOZE the wear time advances, the budget is written every 600 s, the line health of a port in MODE 1
or MODE 3 is recorded, and compaction of a mounted store without a power failure draws on its budget. A late task sets its bit. A
part below WARN, THROTTLE or STOP enters that level; STOP holds STOEN_A low once every axis has stopped; shutdown is a cold reset
of cause 4; a level is left for the next lower one while no sensor has failed, and leaving STOP releases STOEN_A. Firmware not
found wedged yet, or wedged before it was ready, is found wedged: cause, ACTION, time, source 598, and the vector, pin, stop and
pending warm reset that the configuration names; that reset comes with cause 3 and PRIOR once the stop generator has ended. The
end of the duration of a Squall campaign disarms its rules. -/
def Obligations.BackgroundEventsTakeEffect : Prop :=
    (∀ (w : EccWord) (x : BitVec 28) (f : Bool) (s : State), Running s → Effect (.sramEccScrub w x false f) s fun d => ((d.satInc R.BG_ECC F.BG_ECC_CORRECTED).setFlag R.BG_STATUS F.BG_STATUS_ECC_CORR.lo 596).modBg fun b => { b with wb := b.wb ++ [(eccMem w, x.toNat)] }) ∧
    (∀ (w : EccWord) (x : BitVec 28) (f : Bool) (s : State), Running s → Effect (.sramEccScrub w x true f) s fun d => 
      let d := d.satInc R.BG_ECC F.BG_ECC_UNCORR
      let d := (d.fs R.BG_ECC_LAST F.BG_ECC_LAST_MEM (eccMem w)).fs R.BG_ECC_LAST F.BG_ECC_LAST_ADDR x.toNat
      let d := d.setFlag R.BG_STATUS F.BG_STATUS_ECC_UNCORR.lo 597
      if f then d.eccOutcome w else d) ∧
    (∀ (s : State), Running s → Effect .eccWriteBack s fun d => d.modBg fun b => { b with wb := b.wb.drop 1 }) ∧
    (∀ (t : Telemetry) (s : State), Running s → s.dev.dozing = false → Effect (.telemetrySample t) s fun d => 
      let d := d.tempSample (tempsOf t)
      let d := d.each (List.range 4) fun d k => d.fs (R.TELEM_VOLT k) F.TELEM_VOLT_MV ([t.vdd, t.vddm, t.vdd18, t.vio33].getD k 0).toNat
      let d := t.lplus.foldl (fun (d : Dev) x => d.fs (R.TELEM_VOLT (4 + x.1.val)) F.TELEM_VOLT_MV x.2.toNat) d
      ((d.each (List.range 10) Dev.railSample).loadSample).backupSample t) ∧
    (∀ (s : State), Running s → Effect .wearAccounting s fun d => 
      let d := d.each (List.range 4) fun d n => d.satInc (R.CFE_BANK_AGE n) F.CFE_BANK_AGE_CAL_AGE
      if d.throttled || d.dozing then d else
      d.modStore fun s =>
        if s.wearSec + 1 < 600 then { s with wearSec := s.wearSec + 1 } else { s with wearSec := 0, saved := some s.budget }) ∧
    (∀ (e : Fin 64) (g x : Nat) (s : State), Running s → s.dev.throttled = false → s.dev.dozing = false → s.dev.encMode e = 1 → Effect (.encoderLineHealth e g x) s fun d => (d.wr (R.BG_ENC e) 0).fs (R.BG_ENC e) F.BG_ENC_GLITCH (min 65535 g)) ∧
    (∀ (e : Fin 64) (g x : Nat) (s : State), Running s → s.dev.throttled = false → s.dev.dozing = false → s.dev.encMode e = 3 → Effect (.encoderLineHealth e g x) s fun d => (d.wr (R.BG_ENC e) 0).fs (R.BG_ENC e) F.BG_ENC_DSPREAD (min 255 x)) ∧
    (∀ (p : Fin 12) (n : Nat) (s : State), Running s → s.dev.throttled = false → s.dev.dozing = false → s.dev.mounted = true → s.dev.fb R.POWER_STATUS F.POWER_STATUS_PF_ACTIVE = false → Effect (.logbookCompaction p n) s fun d => (d.wearDraw n).partRegs p) ∧
    (∀ (t : Fin 6) (s : State), Running s → Effect (.backgroundTaskLate t) s fun d => d.setFlag R.BG_STATUS t 599) ∧
    (∀ (s : State), Running s → s.dev.thermalLevel < 1 → Effect .thermalWarn s fun d => (d.setThermal 1).setFlag R.THERMAL_EVENT F.THERMAL_EVENT_WARN.lo 592) ∧
    (∀ (s : State), Running s → s.dev.thermalLevel = 1 → Effect .thermalThrottle s fun d => (d.setThermal 2).setFlag R.THERMAL_EVENT F.THERMAL_EVENT_THROTTLE.lo 593) ∧
    (∀ (s : State), Running s → s.dev.thermalLevel = 0 → Effect .thermalThrottle s fun d => ((d.setThermal 2).setFlag R.THERMAL_EVENT F.THERMAL_EVENT_WARN.lo 592).setFlag R.THERMAL_EVENT F.THERMAL_EVENT_THROTTLE.lo 593) ∧
    (∀ (s : State), Running s → s.dev.thermalLevel = 2 → Effect .thermalStop s fun d => (((d.setThermal 3).setFlag R.THERMAL_EVENT F.THERMAL_EVENT_STOP.lo 594).hsgAll 1).hostLegsOff) ∧
    (∀ (s : State), Running s → s.dev.thermalLevel < 2 → Effect .thermalStop s fun d => d.thermalEnter 3) ∧
    (∀ (s : State), Running s → s.dev.thermalLevel = 3 → s.dev.stopsDone = true → Effect .thermalStoenHold s fun d => (d.modSafety fun x => { x with thermal := true }).stoenA) ∧
    (∀ (x : Straps) (s : State), Running s → Effect (.thermalShutdown x) s fun d => d.coldReset x 4 0) ∧
    (∀ (s : State), Running s → s.dev.thermalLevel ≠ 0 → s.dev.fb R.THERMAL_STATUS F.THERMAL_STATUS_SENSOR_FAIL = false → Effect .thermalLevelExit s fun d => 
      let e := d.setThermal (d.thermalLevel - 1)
      if d.thermalLevel = 3 then (e.modSafety fun x => { x with thermal := false }).stoenA else e) ∧
    (∀ (b : Bool) (s : State), Running s → s.dev.dozing = false → Effect (.supervisorWatchdogService b) s fun d => d.wrapInc R.SYS_WEDGE (if b then F.SYS_WEDGE_SUP1_CNT else F.SYS_WEDGE_SUP0_CNT)) ∧
    (∀ (c : WedgeCause) (s : State), Running s → s.dev.fb R.SYS_WEDGE F.SYS_WEDGE_WEDGED = false ∨ s.dev.fb R.SYS_BOOT_STATUS F.SYS_BOOT_STATUS_READY = false → Effect (.wedge c) s fun d => 
      let cfg := R.SYS_WEDGE_CFG
      let act := d.fg cfg F.SYS_WEDGE_CFG_ACTION
      let d := (d.fsb R.SYS_WEDGE F.SYS_WEDGE_WEDGED true).fsb R.SYS_WEDGE (wedgeBit c) true
      let d := ((d.fs R.SYS_WEDGE F.SYS_WEDGE_ACTION act).wr64 R.SYS_WEDGE_TIME d.ns).raise 598
      let v := d.fg cfg F.SYS_WEDGE_CFG_VECTOR
      let d := if v < 64 then d.sendMsi v else d
      let d := if d.fb cfg F.SYS_WEDGE_CFG_PIN then ({ d with evr := { d.evr with int0Low := true } } : Dev).fsb R.EVR_HOST_IDLE F.EVR_HOST_IDLE_IDLE false else d
      let d := if act = 1 ∨ act = 2 then d.hsgAll 1 else d
      if act = 2 then d.modBg fun b => { b with wedgeReset := true } else d) ∧
    (∀ (s : State), Running s → s.dev.bg.wedgeReset = true → s.dev.fb R.CE_HSG_STATUS F.CE_HSG_STATUS_ACTIVE = false → Effect .wedgeWarmReset s fun d => (d.warmReset 3).fsb R.SYS_WEDGE F.SYS_WEDGE_PRIOR true) ∧
    (∀ (s : State), Running s → s.dev.bg.dur = true → Effect .squallDurationExpiry s fun d => ((d.fs R.SQ_STATUS F.SQ_STATUS_ARMED 0).modBg fun b => { b with dur := false }).squallRegs)

/-- For each of 52 sequenced command opcodes of every family, every packet and state: when the motion die runs, the packet may
start and one of its checks (R47 to R48 for its form, and the opcode's own) fails with a status and a detail, the command is
started and completes with that status and detail and, for RES_JOURNAL_EXPIRED, the oldest ESN; nothing else of the device
changes. SNAPSHOT, which strobes all the same, and IMAGE_INSTALL, which may reset, stand beside this statement. -/
def Obligations.FailedChecksOnlyReply : Prop :=
  ∀ p : Packet,
    Fails (.setParam p) 0x0100 specParam p ∧
    Fails (.setParam64 p) 0x0101 specParam p ∧
    Fails (.setParamBlock p) 0x0102 specParam p ∧
    Fails (.getParam p) 0x0103 specParam p ∧
    Fails (.saveConfigSet p) 0x0104 specSaveConfigSet p ∧
    Fails (.loadConfigSet p) 0x0105 specLoadConfigSet p ∧
    Fails (.selectBootConfig p) 0x0106 specSelectBootConfig p ∧
    Fails (.enable p) 0x0200 specEnable p ∧
    Fails (.disable p) 0x0201 specDisable p ∧
    Fails (.stop p) 0x0202 specStop p ∧
    Fails (.home p) 0x0203 specHome p ∧
    Fails (.resetFault p) 0x0204 specResetFault p ∧
    Fails (.bindAxis p) 0x0205 specBindAxis p ∧
    Fails (.segment p) 0x0300 specSegment p ∧
    Fails (.groupStart p) 0x0301 specGroupStart p ∧
    Fails (.groupHold p) 0x0302 specGroupHold p ∧
    Fails (.override p) 0x0303 specOverride p ∧
    Fails (.flushGroup p) 0x0304 specFlushGroup p ∧
    Fails (.moveAxis p) 0x0305 specMoveAxis p ∧
    Fails (.gearEngage p) 0x0400 specGearEngage p ∧
    Fails (.gearDisengage p) 0x0401 specGearDisengage p ∧
    Fails (.camLoad p) 0x0402 specCamLoad p ∧
    Fails (.camEngage p) 0x0403 specCamEngage p ∧
    Fails (.fixArm p) 0x0500 specFixArm p ∧
    Fails (.compareLoad p) 0x0501 specCompareLoad p ∧
    Fails (.compareEnable p) 0x0502 specCompareEnable p ∧
    Fails (.dspLoadImage p) 0x0600 specDspLoadImage p ∧
    Fails (.dspStart p) 0x0601 specDspStart p ∧
    Fails (.dspHalt p) 0x0602 specDspHalt p ∧
    Fails (.dspBindHook p) 0x0603 specDspBindHook p ∧
    Fails (.traceConfig p) 0x0700 specTraceConfig p ∧
    Fails (.traceStream p) 0x0701 specTraceStream p ∧
    Fails (.outputWrite p) 0x0800 specOutputWrite p ∧
    Fails (.outputGroupEnable p) 0x0801 specOutputGroupEnable p ∧
    Fails (.storeWrite p) 0x0900 specStoreWrite p ∧
    Fails (.storeRead p) 0x0901 specStoreRead p ∧
    Fails (.storeErase p) 0x0902 specStoreErase p ∧
    Fails (.traverseJoin p) 0x0A00 specTraverseJoin p ∧
    Fails (.traverseLeave p) 0x0A01 specTraverseLeave p ∧
    Fails (.canEnable p) 0x0A02 specCanEnable p ∧
    Fails (.canSend p) 0x0A03 specCanSend p ∧
    Fails (.safetySetLoad p) 0x0B00 specSafetySetLoad p ∧
    Fails (.safetySetCommit p) 0x0B01 specSafetySetCommit p ∧
    Fails (.debugChallenge p) 0x0C00 specDebugChallenge p ∧
    Fails (.debugUnlock p) 0x0C01 specDebugUnlock p ∧
    Fails (.keyRevoke p) 0x0C02 specKeyRevoke p ∧
    Fails (.lifecycleAdvance p) 0x0C03 specLifecycleAdvance p ∧
    Fails (.pairStatus p) 0x0D00 specPairStatus p ∧
    Fails (.pairSwitchover p) 0x0D01 specPairSwitchover p ∧
    Fails (.squallConfig p) 0x0E00 specSquallConfig p ∧
    Fails (.squallArm p) 0x0E01 specSquallArm p ∧
    Fails (.selfTest p) 0x0E02 specSelfTest p

/-- For every state in which the motion die is held in reset and every well-formed command that acts on the motion die (every row
but those of the island, the field dies, the safety channels and the resets), the next state is the state itself: no register,
memory byte, queue or pin changes. -/
def Obligations.HeldDieDoesNothing : Prop :=
  ∀ (i : Instr) (s : State), i.wellFormed = true → i.onMotionDie = true → s.dev.heldInReset = true → exec i s = .next s

/-- For every operation of slot M and of slot L with every operand at every value its type admits: the decoder reads the operation
back from its encoding; and a word that the decoder reads as an operation is that operation's encoding, so a word with a reserved
opcode or a set bit in an unused field reads as none. -/
def Obligations.TdspSlotWordsRoundTrip : Prop :=
  (∀ o : MOp, decM (encM o) = some o) ∧ (∀ o : LOp, decL (encL o) = some o) ∧
    (∀ (w : Word) (o : MOp), decM w = some o → w = encM o) ∧ (∀ (w : Word) (o : LOp), decL w = some o → w = encL o) ∧
    (∀ w : Word, (32 ≤ w.toNat / 2 ^ 26 ∨ w.toNat / 2 ^ 26 = 7) → decM w = none)

/-- For every core, stage, pointer n and offset: with L, B and M the length, base and modifier of n, the change of P by δ gives B
+ ((P − B + δ) mod L) when L is not 0, with the remainder from 0 to L − 1, and P + δ when L is 0, both modulo 2^16, wherever P
lies; post-increment, post-decrement and post-modify access P and leave the pointer changed by 1, −1 and M, pre-increment and
pre-decrement access the changed pointer, and the changed pointer is written to P. Rule: “When Ln is not 0, each update of Pn by a
change δ produces the following value, including when Pn lies outside the buffer before the update” -/
def Obligations.CircularPointersWrap : Prop :=
  ∀ (k : Core) (t i n v : Nat) (off : BitVec 6),
    let p := k.ptr t n
    let upd (δ : Int) : Nat :=
      if k.len t n = 0 then (((p : Int) + δ) % 65536).toNat
      else (((k.base t n : Int) + ((p : Int) - k.base t n + δ) % (k.len t n : Int)) % 65536).toNat
    (∀ δ : Int, k.len t n ≠ 0 → 0 ≤ ((p : Int) - k.base t n + δ) % (k.len t n : Int) ∧
      ((p : Int) - k.base t n + δ) % (k.len t n : Int) < k.len t n) ∧
    k.addr t 1 n off = some (p, upd 1) ∧ k.addr t 2 n off = some (p, upd (-1)) ∧
    k.addr t 3 n off = some (upd 1, upd 1) ∧ k.addr t 4 n off = some (upd (-1), upd (-1)) ∧
    k.addr t 5 n off = some (p, upd (k.modifier t n)) ∧
    (∀ am : Nat, 1 ≤ am → am ≤ 5 →
      k.ptrWrites i am n v = [{ due := i + 2, key := tdKey k.shadow (0x20 + n), mask := 0xFFFF, val := BitVec.ofNat 72 v }])

/-- For every core, stage and accumulator code, with SMM at 0: the stored word is the nearest multiple of 2^−31 to the
accumulator's value, the even one on a tie, held to −1 to 1 − 2^−31; the writes that come with it are SAT alone, exactly when that
multiple lies outside the range, so the accumulator is unchanged; and a store writes that word at its address, with those writes
and the pointer's. Rule: “With SMM at 0, a store of an accumulator to 32 bits rounds the value to a multiple of 2^−31, to nearest
with ties to even.” -/
def Obligations.AccumulatorStoresRoundAndSaturate : Prop :=
  ∀ (k look : Core) (d : Dev) (c i a p : Nat) (reg : BitVec 7) (am pn : Fin 8) (off : BitVec 6),
    isConv reg.toNat = true → (k.see (i + 2) (kSR k.shadow)).getLsbD 31 = false → k.addr (i + 1) am pn off = some (a, p) →
    (∃ q : Int, let x := k.accI false i (reg.toNat - 0x1C)
      2 * (x - q * 2 ^ 32).natAbs ≤ 2 ^ 32 ∧ (2 * (x - q * 2 ^ 32).natAbs = 2 ^ 32 → q % 2 = 0) ∧
      ((k.source look i reg.toNat).2).toInt = (if q < -(2 ^ 31) then -(2 ^ 31) else if 2 ^ 31 - 1 < q then 2 ^ 31 - 1 else q) ∧
      (k.source look i reg.toNat).1 =
        (if q < -(2 ^ 31) ∨ 2 ^ 31 - 1 < q then [{ due := i + 4, key := kSR k.shadow, mask := srBit 6, val := srBit 6 }] else [])) ∧
    d.tdRunL c i k look (.st reg am pn off) =
      (d.tdStore c i a (k.source look i reg.toNat).2, k.ptrWrites i am pn p ++ (k.source look i reg.toNat).1)

/-- For every core, bundle number and operand registers: with a and b the signed values of RA and RB, and ua and ub the unsigned
ones, ADD and ADDI give ua + ub modulo 2^32, with C where the sum reaches 2^32 and V where a + b is out of the signed range; SUB
gives ua − ub modulo 2^32, with C where ub is no greater than ua and V where a − b is out of range, and CMP sets the flags of SUB;
ADDS, SUBS, ABS and NEG give a + b, a − b, the magnitude of a and −a held to the range, with V where they leave it, C unchanged;
MIN and MAX give the smaller and the larger with V at 0; ASR, LSR and LSL by n give a and ua divided by 2^n, and ua times 2^n
modulo 2^32, with V at 0 and C the last bit shifted out, 0 for n at 0; and for each of them N is bit 31 of the result and Z says
that it is 0. An accumulator result is the exact one held to 72 bits, with N its sign, Z, and V where it was held. -/
def Obligations.ArithmeticResultsAndFlags : Prop :=
  ∀ (k : Core) (i : Nat) (rd ra rb : Fin 16) (imm : BitVec 16) (n : Fin 32),
    let a := (k.dreg i ra).toInt
    let b := (k.dreg i rb).toInt
    let ua := (k.dreg i ra).toNat
    let ub := (k.dreg i rb).toNat
    let out (x : Int) : Bool := decide (x < -(2 ^ 31) ∨ 2 ^ 31 - 1 < x)
    let held (x : Int) : Int := if x < -(2 ^ 31) then -(2 ^ 31) else if 2 ^ 31 - 1 < x then 2 ^ 31 - 1 else x
    let has (o : MOp) (val : Word → Prop) (v : Bool) (c : Option Bool) : Prop :=
      val (k.aluResult i o).1 ∧ (k.aluResult i o).2 =
        { n := decide (2 ^ 31 ≤ (k.aluResult i o).1.toNat), z := decide ((k.aluResult i o).1.toNat = 0), v := v, c := c }
    has (.alu .add rd ra rb) (fun r => r.toNat = (ua + ub) % 2 ^ 32) (out (a + b)) (some (decide (2 ^ 32 ≤ ua + ub))) ∧
    has (.addi rd ra imm) (fun r => r.toInt = (a + imm.toInt).bmod (2 ^ 32)) (out (a + imm.toInt)) (some (decide (2 ^ 32 ≤ ua + (imm.signExtend 32).toNat))) ∧
    has (.alu .sub rd ra rb) (fun r => r.toNat = (ua + 2 ^ 32 - ub) % 2 ^ 32) (out (a - b)) (some (decide (ub ≤ ua))) ∧
    (k.aluResult i (.cmp ra rb)).2 = (k.aluResult i (.alu .sub rd ra rb)).2 ∧ destM (.cmp ra rb) = none ∧
    has (.alu .adds rd ra rb) (fun r => r.toInt = held (a + b)) (out (a + b)) none ∧
    has (.alu .subs rd ra rb) (fun r => r.toInt = held (a - b)) (out (a - b)) none ∧
    has (.abs rd ra) (fun r => r.toInt = held a.natAbs) (out a.natAbs) none ∧
    has (.neg rd ra) (fun r => r.toInt = held (-a)) (out (-a)) none ∧
    has (.alu .min rd ra rb) (fun r => r.toInt = min a b) false none ∧
    has (.alu .max rd ra rb) (fun r => r.toInt = max a b) false none ∧
    has (.shift .asr rd ra n) (fun r => r.toInt = a / 2 ^ n.val) false (some (decide (n.val ≠ 0 ∧ ua / 2 ^ (n.val - 1) % 2 = 1))) ∧
    has (.shift .lsr rd ra n) (fun r => r.toNat = ua / 2 ^ n.val) false (some (decide (n.val ≠ 0 ∧ ua / 2 ^ (n.val - 1) % 2 = 1))) ∧
    has (.shift .lsl rd ra n) (fun r => r.toNat = ua * 2 ^ n.val % 2 ^ 32) false (some (decide (n.val ≠ 0 ∧ ua / 2 ^ (32 - n.val) % 2 = 1))) ∧
    (∀ x : Int, (accSat x).1.toInt = (if x < -(2 ^ 71) then -(2 ^ 71) else if 2 ^ 71 - 1 < x then 2 ^ 71 - 1 else x) ∧
      flagsAcc (accSat x) = { n := decide (x < 0), z := decide (x = 0), v := decide (x < -(2 ^ 71) ∨ 2 ^ 71 - 1 < x), c := none })

/-- For every device and axis whose engaged gear is at full ratio with no stop and no other engagement pending, N over D, D
positive: if the follower's travel times D plus the remainder is N times the master's travel since the engagement, with the
remainder from 0 to D − 1, then after a step the same holds at the master's present value; and the follower's travel is then the
floor of N times the master's travel divided by D. -/
def Obligations.GearFollowersKeepTheExactRatio : Prop :=
  ∀ (d : Dev) (a tick : Nat) (f : Follower) (m0 p0 : Int),
    (d.ax a).stop = none → (d.ax a).folNext = none → (d.ax a).fol = some f → f.cam = false → f.phase = 2 → 0 < f.d → 0 ≤ f.rem → f.rem < f.d →
    (d.setPoint a - p0) * f.d + f.rem = f.n * (f.mPrev - m0) →
    let m := (d.master f.kind f.index f.extrap tick).1
    let e := d.followerStep a tick
    ∃ g : Follower, (e.ax a).fol = some g ∧ g.n = f.n ∧ g.d = f.d ∧ g.phase = 2 ∧ g.mPrev = m ∧ 0 ≤ g.rem ∧ g.rem < g.d ∧
      (e.setPoint a - p0) * g.d + g.rem = g.n * (m - m0) ∧ e.setPoint a - p0 = Int.fdiv (f.n * (m - m0)) f.d

/-- For each OSR (16, 32, 64, 128, 256) and every captured bitstream: the filter word lies from −2^23 to 2^23 − 1; a stream of
ones gives 0x7FFFFF and a stream of zeros gives −2^23; and, for every input and filter word, the corrected word lies from −(2^23 −
1) to 2^23 − 1. -/
def Obligations.SincWordsAreInRange : Prop :=
  (∀ osr bits : Nat, osr = 16 ∨ osr = 32 ∨ osr = 64 ∨ osr = 128 ∨ osr = 256 →
      -(2 ^ 23) ≤ sinc3 osr bits ∧ sinc3 osr bits ≤ 2 ^ 23 - 1 ∧ sinc3 osr (2 ^ (3 * osr - 2) - 1) = 0x7FFFFF ∧ sinc3 osr 0 = -(2 ^ 23)) ∧
    (∀ (d : Dev) (i : Nat) (w : Int), -(2 ^ 23 - 1) ≤ d.sdCorrect i w ∧ d.sdCorrect i w ≤ 2 ^ 23 - 1)

/-- For every exact value m × 2^x with |m| below 2^1200: the stored result is zero with exponent −128, or its mantissa has a
magnitude of at least 2^22 and below 2^23 and its exponent lies from −128 to 127; it has the sign of m or is zero; and above
exponent 127 it is ±(2^23 − 1) with exponent 127. -/
def Obligations.BfpResultsAreNormalised : Prop :=
  ∀ m x : Int, m.natAbs < 2 ^ 1200 →
    let b := bfpOf m x
    (b.m = 0 ∧ b.e = -128 ∨ 2 ^ 22 ≤ b.m.natAbs ∧ b.m.natAbs < 2 ^ 23 ∧ -128 ≤ b.e ∧ b.e ≤ 127) ∧
    (0 < m → 0 ≤ b.m) ∧ (m < 0 → b.m ≤ 0) ∧ (127 < (round24 m x).2 → b.e = 127 ∧ b.m.natAbs = 2 ^ 23 - 1)

/-- For each channel: when it is on and its comparison differs, or two messages are missing, and the fault is not held yet, the
command answers a next state in which that channel has the fault COMPARE, or MESSAGE of its side, holds STO on all four banks,
drives both safe outputs off, and will hold both at its next latch. -/
def Obligations.SafetyFaultsHoldSto : Prop :=
  ∀ (b : Bool) (s : State), (s.dev.chan b).on = true →
    ((s.dev.chan b).crcDiff = true ∨ (s.dev.chan b).diff = 8 → (s.dev.chan b).faults.testBit 0 = false →
      ∃ t, exec (.safetyCompareFault b) s = .next t ∧ (t.dev.chan b).faults.testBit 0 = true ∧ (t.dev.chan b).sto = 15 ∧
        (t.dev.chan b).so = 0 ∧ (t.dev.chan b).next ||| 15 = (t.dev.chan b).next ∧ (t.dev.chan b).soNext = 0) ∧
    (2 ≤ (s.dev.chan b).missing → (s.dev.chan b).faults.testBit (if b then 2 else 3) = false →
      ∃ t, exec (.safetyMessageMissing b) s = .next t ∧ (t.dev.chan b).faults.testBit (if b then 2 else 3) = true ∧
        (t.dev.chan b).sto = 15 ∧ (t.dev.chan b).so = 0 ∧ (t.dev.chan b).next ||| 15 = (t.dev.chan b).next ∧ (t.dev.chan b).soNext = 0)

/-- For every offset, list of bytes and state in which the motion die runs: the write answers a next state that differs in the
bytes of BULKWIN alone; every byte outside the written range, and every byte outside Logbook staging and the image staging, reads
as before; with no command on Logbook staging, every written byte inside the staging regions reads as written; and the bytes keep
their canonical form. -/
def Obligations.BulkWritesTouchOnlyStaging : Prop :=
  ∀ (o : Nat) (l : List Byte) (s : State), Running s → tabWf (fun _ => (default : Byte)) s.dev.bulk = true →
    ∃ b : Tab Byte, exec (.hostRegisterWrite (.bulk o l)) s = .next { s with dev := { s.dev with bulk := b } } ∧
      tabWf (fun _ => (default : Byte)) b = true ∧
      (∀ k : Nat, (k < o ∨ o + l.length ≤ k ∨ k < 0x1000000 ∨ 0x2200000 ≤ k) → tabGet b k = tabGet s.dev.bulk k) ∧
      (s.dev.stagingBusy = true → ∀ k : Nat, k < 0x2000000 → tabGet b k = tabGet s.dev.bulk k) ∧
      (∀ n : Nat, n < l.length → (0x1000000 ≤ o + n ∧ o + n < 0x2000000 ∧ s.dev.stagingBusy = false ∨ 0x2000000 ≤ o + n ∧ o + n < 0x2200000) →
        tabGet b (o + n) = l.getD n 0)
end

