-- ==== Sys2Proof/Laws/Frame.lean ====
section
/-!
SUPPORT. What the shared operations of commands, axes and groups leave alone: the safety channels.
-/

namespace Sys2Proof.Machine

open Sys2Proof

/-- An operation over a list leaves the safety channels alone when each of its steps does. -/
theorem foldl_safety {α : Type} (f : Dev → α → Dev) (h : ∀ d x, (f d x).safety = d.safety) (l : List α) :
    ∀ d : Dev, (l.foldl f d).safety = d.safety := by
  induction l with
  | nil => intro d; rfl
  | cons x l ih => intro d; exact (ih (f d x)).trans (h d x)

theorem Dev.each_safety (d : Dev) (l : List Nat) (f : Dev → Nat → Dev) (h : ∀ d n, (f d n).safety = d.safety) :
    (d.each l f).safety = d.safety := foldl_safety f h l d

@[simp] theorem Dev.wr64_safety (d : Dev) (o v : Nat) : (d.wr64 o v).safety = d.safety := by
  simp [Dev.wr64]

@[simp] theorem Dev.fs_safety (d : Dev) (o : Nat) (f : Fld) (v : Nat) : (d.fs o f v).safety = d.safety := by
  by_cases h : f.lo + f.w ≤ 32
  · rw [Dev.fs, if_pos h]; exact Dev.wr_safety d _ _
  · by_cases g : 32 ≤ f.lo
    · rw [Dev.fs, if_neg h, if_pos g]; exact Dev.wr_safety d _ _
    · rw [Dev.fs, if_neg h, if_neg g, Dev.wr64_safety]

@[simp] theorem Dev.fsb_safety (d : Dev) (o : Nat) (f : Fld) (b : Bool) : (d.fsb o f b).safety = d.safety := by
  simp [Dev.fsb]

@[simp] theorem Dev.satInc_safety (d : Dev) (o : Nat) (f : Fld) : (d.satInc o f).safety = d.safety := by
  simp [Dev.satInc]

@[simp] theorem Dev.setBit_safety (d : Dev) (o k : Nat) (b : Bool) : (d.setBit o k b).safety = d.safety := by
  simp [Dev.setBit]

@[simp] theorem Dev.raiseBit_safety (d old : Dev) (s : Nat) : (d.raiseBit old s).safety = d.safety := by
  simp [Dev.raiseBit, apply_ite Dev.safety]

@[simp] theorem Dev.levelFell_safety (d old : Dev) (own : Bool) (s : Nat) : (d.levelFell old own s).safety = d.safety := by
  unfold Dev.levelFell; split <;> rfl

@[simp] theorem Dev.setFlag_safety (d : Dev) (o k s : Nat) : (d.setFlag o k s).safety = d.safety := by
  simp [Dev.setFlag, apply_ite Dev.safety]

@[simp] theorem Dev.modLeg_safety (d : Dev) (l : Nat) (f : Leg → Leg) : (d.modLeg l f).safety = d.safety := by
  simp [Dev.modLeg]

@[simp] theorem Dev.modAx_safety (d : Dev) (a : Nat) (f : AxisSt → AxisSt) : (d.modAx a f).safety = d.safety := by
  simp [Dev.modAx]

@[simp] theorem Dev.modCe_safety (d : Dev) (a : Nat) (f : CeAxis → CeAxis) : (d.modCe a f).safety = d.safety := by
  simp [Dev.modCe]

@[simp] theorem Dev.modGrp_safety (d : Dev) (g : Nat) (f : GroupSt → GroupSt) : (d.modGrp g f).safety = d.safety := by
  simp [Dev.modGrp]

@[simp] theorem Dev.modAccepted_safety (d : Dev) (p : Packet) (f : Accepted → Accepted) : (d.modAccepted p f).safety = d.safety := by
  simp [Dev.modAccepted]

@[simp] theorem Dev.cacheReply_safety (d : Dev) (p : Packet) (r : Reply) : (d.cacheReply p r).safety = d.safety := by
  simp [Dev.cacheReply]

@[simp] theorem Dev.legHiz_safety (d : Dev) (l : Nat) : (d.legHiz l).safety = d.safety := by
  simp [Dev.legHiz]

@[simp] theorem Dev.axisHiz_safety (d : Dev) (a : Nat) : (d.axisHiz a).safety = d.safety := 
  Dev.each_safety _ _ _ fun d l => d.legHiz_safety l

@[simp] theorem Dev.brake_safety (d : Dev) (a : Nat) (on : Bool) : (d.brake a on).safety = d.safety := by
  simp [Dev.brake, apply_ite Dev.safety]

@[simp] theorem Dev.laneUpdate_safety (d : Dev) (n : Nat) : (d.laneUpdate n).safety = d.safety := by
  simp only [Dev.laneUpdate, Dev.fs_safety]

@[simp] theorem Dev.msiOut_safety (d : Dev) (v : Nat) : (d.msiOut v).safety = d.safety := by
  simp [Dev.msiOut]

@[simp] theorem Dev.sendMsi_safety (d : Dev) (v : Nat) : (d.sendMsi v).safety = d.safety := by
  simp [Dev.sendMsi, apply_ite Dev.safety]

@[simp] theorem Dev.assertPins_safety (d : Dev) (v : Nat) : (d.assertPins v).safety = d.safety := by
  simp [Dev.assertPins, apply_ite Dev.safety]

@[simp] theorem Dev.releasePins_safety (d : Dev) : (d.releasePins).safety = d.safety := by
  simp [Dev.releasePins]

@[simp] theorem Dev.unitRelease_safety (d : Dev) (u : Nat) : (d.unitRelease u).safety = d.safety := by
  unfold Dev.unitRelease; dsimp only; (repeat' split) <;> simp

@[simp] theorem Dev.unitDeliver_safety (d : Dev) (u : Nat) : (d.unitDeliver u).safety = d.safety := by
  simp [Dev.unitDeliver, apply_ite Dev.safety]

@[simp] theorem Dev.writeBack_safety (d : Dev) : (d.writeBack).safety = d.safety := by
  simp [Dev.writeBack]

@[simp] theorem Dev.pushReply_safety (d : Dev) (r : Reply) : (d.pushReply r).safety = d.safety := by
  simp [Dev.pushReply]

@[simp] theorem Dev.hold_safety (d : Dev) (u : Bool) (h : Held) : (d.hold u h).safety = d.safety := by
  unfold Dev.hold; dsimp only; (repeat' split) <;> rfl

@[simp] theorem Dev.putReply_safety (d : Dev) (x : Xport) (y : Option Xport) (u : Bool) (r : Reply) : (d.putReply x y u r).safety = d.safety := by
  unfold Dev.putReply; dsimp only; (repeat' split) <;> simp

@[simp] theorem Dev.pushEvent_safety (d : Dev) (r : Reply) (v : Nat) : (d.pushEvent r v).safety = d.safety := by
  simp [Dev.pushEvent]

@[simp] theorem Dev.countVector_safety (d : Dev) (v : Nat) : (d.countVector v).safety = d.safety := by
  simp [Dev.countVector, apply_ite Dev.safety]

@[simp] theorem Dev.putEvent_safety (d : Dev) (r : Reply) (v : Nat) : (d.putEvent r v).safety = d.safety := by
  unfold Dev.putEvent; dsimp only; (repeat' split) <;> first | rfl | simp

@[simp] theorem Dev.flushLate_safety (d : Dev) : (d.flushLate).safety = d.safety := by
  unfold Dev.flushLate; dsimp only; (repeat' split) <;> simp

@[simp] theorem Dev.squallCount_safety (d : Dev) (r : Nat) : (d.squallCount r).safety = d.safety := by
  simp [Dev.squallCount, apply_ite Dev.safety]

@[simp] theorem Dev.squallTrig_safety (d : Dev) (r : Nat) : (d.squallTrig r).1.safety = d.safety := by
  unfold Dev.squallTrig; dsimp only; (repeat' split) <;> simp

@[simp] theorem Dev.squall_safety (d : Dev) (t dir : Nat) (u : List Nat) (i : Nat) : (d.squall t dir u i).1.safety = d.safety := by
  unfold Dev.squall; dsimp only; (repeat' split) <;> simp

@[simp] theorem Dev.squallPost_safety (d : Dev) (u : Nat) (r : Reply) (v : Option Nat) (put : Dev → Reply → Dev)
    (h : ∀ d r, (put d r).safety = d.safety) : (d.squallPost u r v put).safety = d.safety := by
  have e := d.squall_safety 5 1 [0, u] 0
  unfold Dev.squallPost; generalize d.squall 5 1 [0, u] 0 = x at e; obtain ⟨y, z⟩ := x
  dsimp only at e ⊢; (repeat' split) <;> simp [h, e]

@[simp] theorem Dev.sendReply_safety (d : Dev) (x : Option Xport) (u : Bool) (r : Reply) : (d.sendReply x u r).safety = d.safety := by
  unfold Dev.sendReply; split
  · rfl
  · exact Dev.squallPost_safety _ _ _ _ _ fun d r => Dev.putReply_safety ..

@[simp] theorem Dev.tieOut_safety (d : Dev) (k : Nat) (p : List Word) : (d.tieOut k p).safety = d.safety := by
  simp [Dev.tieOut]

@[simp] theorem Dev.tieFrame_safety (d : Dev) (k : Nat) (p : List Word) : (d.tieFrame k p).safety = d.safety := by
  unfold Dev.tieFrame; dsimp only; (repeat' split) <;> simp

@[simp] theorem Dev.sendTie_safety (d : Dev) (k : Nat) (p : List Word) : (d.sendTie k p).safety = d.safety := by
  simp [Dev.sendTie, apply_ite Dev.safety]

@[simp] theorem Dev.journal_safety (d : Dev) (r : Reply) : (d.journal r).safety = d.safety := by
  simp [Dev.journal]

@[simp] theorem Dev.postDirect_safety (d : Dev) (p : Packet) (x : Option Xport) (k st det : Nat) (y : List Word) :
    (d.postDirect p x k st det y).safety = d.safety := by
  unfold Dev.postDirect; dsimp only; (repeat' split) <;> simp

@[simp] theorem Dev.postReply_safety (d : Dev) (p : Packet) (k st det : Nat) (y : List Word) :
    (d.postReply p k st det y).1.safety = d.safety := by
  unfold Dev.postReply Dev.takePosted; dsimp only; (repeat' split) <;> simp

@[simp] theorem Dev.finish_safety (d : Dev) (p : Packet) (st det : Nat) (y : List Word) : (d.finish p st det y).safety = d.safety := by
  simp only [Dev.finish, Dev.cacheReply_safety, Dev.postReply_safety, Dev.wr_safety, Dev.fs_safety]

@[simp] theorem Dev.resolveOne_safety (d : Dev) (w : Wait) (st det : Nat) (y : List Word) (a : Accepted) :
    (Dev.resolveOne w st det y d a).safety = d.safety := by
  simp [Dev.resolveOne, apply_ite Dev.safety]

@[simp] theorem Dev.resolve_safety (d : Dev) (w : Wait) (st det : Nat) (y : List Word) : (d.resolve w st det y).safety = d.safety := 
  foldl_safety _ (fun d a => d.resolveOne_safety w st det y a) _ d

@[simp] theorem Dev.setState_safety (d : Dev) (a st : Nat) : (d.setState a st).safety = d.safety := by
  unfold Dev.setState; split
  · rfl
  · rw [Dev.raise_safety, Dev.laneUpdate_safety]
    have e : ∀ (c : Bool) (x : Dev) (y : CfeState), (if c then { x with cfe := y } else x).safety = x.safety := by intro c x y; cases c <;> rfl
    have g : ∀ x : Dev, (if st = 0 then (x.fsb (R.AXIS_STATUS a) F.AXIS_STATUS_ALIGNED false).fsb (R.AXIS_STATUS a)
        F.AXIS_STATUS_HOMED false else x).safety = x.safety := by intro x; split <;> simp
    rw [e, g]; simp

@[simp] theorem Dev.setGrpState_safety (d : Dev) (g st : Nat) : (d.setGrpState g st).safety = d.safety := by
  simp only [Dev.setGrpState, Dev.grpEvent, apply_ite Dev.safety, Dev.setFlag_safety, Dev.fs_safety, ite_self]

@[simp] theorem Dev.setQueue_safety (d : Dev) (g : Nat) (q : List Segment) : (d.setQueue g q).safety = d.safety := by
  simp only [Dev.setQueue, Dev.grpEvent, apply_ite Dev.safety, Dev.setFlag_safety, Dev.fs_safety, Dev.modGrp_safety, ite_self]

@[simp] theorem Dev.membersReady_safety (d : Dev) (g : Nat) : (d.membersReady g).safety = d.safety := by
  refine Dev.each_safety _ _ _ fun d a => ?_
  simp only [apply_ite Dev.safety, Dev.setState_safety, Dev.modAx_safety, ite_self]

@[simp] theorem Dev.groupToIdle_safety (d : Dev) (g : Nat) : (d.groupToIdle g).safety = d.safety := by
  simp [Dev.groupToIdle]

@[simp] theorem Dev.groupStop_safety (d : Dev) (g c : Nat) : (d.groupStop g c).safety = d.safety := by
  simp [Dev.groupStop, apply_ite Dev.safety]

@[simp] theorem Dev.followOff_safety (d : Dev) (a : Nat) : (d.followOff a).safety = d.safety := by
  simp [Dev.followOff]

@[simp] theorem Dev.disengage_safety (d : Dev) (a : Nat) : (d.disengage a).safety = d.safety := by
  simp [Dev.disengage]

@[simp] theorem Dev.leaveMotion_safety (d : Dev) (a c : Nat) : (d.leaveMotion a c).safety = d.safety := by
  unfold Dev.leaveMotion; dsimp only; (repeat' split) <;> simp

@[simp] theorem Dev.hsgUpdate_safety (d : Dev) : (d.hsgUpdate).safety = d.safety := by
  simp [Dev.hsgUpdate, apply_ite Dev.safety]

@[simp] theorem Dev.endStop_safety (d : Dev) (a f : Nat) : (d.endStop a f).safety = d.safety := by
  simp only [Dev.endStop, apply_ite Dev.safety, Dev.resolve_safety, Dev.hsgUpdate_safety, Dev.setState_safety, Dev.brake_safety, Dev.axisHiz_safety,
    Dev.fsb_safety, Dev.modCe_safety, Dev.modAx_safety, ite_self]

@[simp] theorem Dev.safeOff_safety (d : Dev) (a : Nat) : (d.safeOff a).safety = d.safety := by
  simp [Dev.safeOff, apply_ite Dev.safety]

@[simp] theorem Dev.safeRelease_safety (d : Dev) (a : Nat) : (d.safeRelease a).safety = d.safety := by
  simp only [Dev.safeRelease, apply_ite Dev.safety, Dev.setState_safety, ite_self]

@[simp] theorem Dev.strobeOut_safety (d : Dev) (s : Nat) : (d.strobeOut s).safety = d.safety := by
  simp [Dev.strobeOut, apply_ite Dev.safety]

@[simp] theorem Dev.strobeJoin_safety (d : Dev) (b s a : Nat) : (d.strobeJoin b s a).safety = d.safety := by
  simp [Dev.strobeJoin, apply_ite Dev.safety]

@[simp] theorem Dev.strobe_safety (d : Dev) (s a : Nat) : (d.strobe s a).safety = d.safety := by
  unfold Dev.strobe; split
  · rfl
  · split
    · simp [apply_ite Dev.safety]
    · dsimp only; split
      · simp only [Dev.raise_safety, Dev.satInc_safety]
      · simp only [Dev.strobeOut_safety, Dev.fsb_safety, Dev.wr64_safety, Dev.wr_safety]

@[simp] theorem Dev.soRegs_safety (d : Dev) : (d.soRegs).safety = d.safety := by simp [Dev.soRegs]

@[simp] theorem Dev.stoenA_safety (d : Dev) : (d.stoenA).safety = d.safety := by simp [Dev.stoenA]

@[simp] theorem Dev.stoApply_safety (d : Dev) (m : Nat) : (d.stoApply m).safety = d.safety := by
  unfold Dev.stoApply; dsimp only; split
  · rfl
  · rw [Dev.each_safety _ _ _ fun d n => Dev.each_safety _ _ _ fun d a => d.safeRelease_safety a,
      Dev.each_safety _ _ _ fun d n => Dev.each_safety _ _ _ fun d a => d.safeOff_safety a]
    simp [apply_ite Dev.safety]

@[simp] theorem Dev.showFaults_safety (d : Dev) : (d.showFaults).safety = d.safety := by
  unfold Dev.showFaults
  rw [Dev.fsb_safety, Dev.each_safety]
  intro d n; simp [apply_ite Dev.safety]

/-- What taking a fault leaves in the channel that takes it (R444). -/
theorem Dev.chanFault_chan (d : Dev) (b : Bool) (k : Nat) : (d.chanFault b k).chan b =
    { d.chan b with faults := (d.chan b).faults ||| 2 ^ k, starts := 0, sto := 15, next := 15, so := 0, soNext := 0 } := by
  cases b <;> simp [Dev.chanFault, Dev.chanApply, Dev.chan, Dev.modChan]

end Sys2Proof.Machine
end

