-- ==== Sys2Proof/Laws/Mods.lean ====
section
/-!
SUPPORT. The state beside the registers: an update of it changes no register, and its record reads as the update leaves it.
-/

namespace Sys2Proof.Machine

open Sys2Proof

/-- A record of a table reads as its change leaves it. -/
theorem tabGet_mod_self {α : Type} [Inhabited α] [DecidableEq α] (t : Tab α) (k : Nat) (f : α → α) :
    tabGet (tabMod t k f) k = f (tabGet t k) := by
  unfold tabMod; simp

/-- A record of another number stands. -/
theorem tabGet_mod_ne {α : Type} [Inhabited α] [DecidableEq α] (t : Tab α) {k j : Nat} (f : α → α) (h : j ≠ k) :
    tabGet (tabMod t k f) j = tabGet t j := by
  unfold tabMod; exact tabGet_set_ne _ _ h

/-- Reads of a field, a flag and a bit depend on the registers only. -/
theorem Dev.fg_congr (d e : Dev) (h : d.regs = e.regs) (o : Nat) (f : Fld) : d.fg o f = e.fg o f := by
  unfold Dev.fg Dev.rd64 Dev.rd; rw [h]

/-! ### modAx -/

@[simp] theorem Dev.modAx_rd (d : Dev) (a : Nat) (g : AxisSt → AxisSt) (o : Nat) : (d.modAx a g).rd o = d.rd o := rfl
@[simp] theorem Dev.modAx_rd64 (d : Dev) (a : Nat) (g : AxisSt → AxisSt) (o : Nat) : (d.modAx a g).rd64 o = d.rd64 o := rfl
@[simp] theorem Dev.modAx_fg (d : Dev) (a : Nat) (g : AxisSt → AxisSt) (o : Nat) (f : Fld) : (d.modAx a g).fg o f = d.fg o f := rfl
@[simp] theorem Dev.modAx_fb (d : Dev) (a : Nat) (g : AxisSt → AxisSt) (o : Nat) (f : Fld) : (d.modAx a g).fb o f = d.fb o f := rfl
@[simp] theorem Dev.modAx_fgS (d : Dev) (a : Nat) (g : AxisSt → AxisSt) (o : Nat) (f : Fld) : (d.modAx a g).fgS o f = d.fgS o f := rfl
@[simp] theorem Dev.modAx_bit (d : Dev) (a : Nat) (g : AxisSt → AxisSt) (o k : Nat) : (d.modAx a g).bit o k = d.bit o k := rfl
@[simp] theorem Dev.ax_modAx (d : Dev) (a : Nat) (g : AxisSt → AxisSt) : (d.modAx a g).ax a = g (d.ax a) := tabGet_mod_self _ _ _
theorem Dev.ax_modAx_ne (d : Dev) (a : Nat) (g : AxisSt → AxisSt) {b : Nat} (h : b ≠ a) : (d.modAx a g).ax b = d.ax b := tabGet_mod_ne _ _ h

/-! ### modCe -/

@[simp] theorem Dev.modCe_rd (d : Dev) (a : Nat) (g : CeAxis → CeAxis) (o : Nat) : (d.modCe a g).rd o = d.rd o := rfl
@[simp] theorem Dev.modCe_rd64 (d : Dev) (a : Nat) (g : CeAxis → CeAxis) (o : Nat) : (d.modCe a g).rd64 o = d.rd64 o := rfl
@[simp] theorem Dev.modCe_fg (d : Dev) (a : Nat) (g : CeAxis → CeAxis) (o : Nat) (f : Fld) : (d.modCe a g).fg o f = d.fg o f := rfl
@[simp] theorem Dev.modCe_fb (d : Dev) (a : Nat) (g : CeAxis → CeAxis) (o : Nat) (f : Fld) : (d.modCe a g).fb o f = d.fb o f := rfl
@[simp] theorem Dev.modCe_fgS (d : Dev) (a : Nat) (g : CeAxis → CeAxis) (o : Nat) (f : Fld) : (d.modCe a g).fgS o f = d.fgS o f := rfl
@[simp] theorem Dev.modCe_bit (d : Dev) (a : Nat) (g : CeAxis → CeAxis) (o k : Nat) : (d.modCe a g).bit o k = d.bit o k := rfl
@[simp] theorem Dev.ceAx_modCe (d : Dev) (a : Nat) (g : CeAxis → CeAxis) : (d.modCe a g).ceAx a = g (d.ceAx a) := tabGet_mod_self _ _ _
theorem Dev.ceAx_modCe_ne (d : Dev) (a : Nat) (g : CeAxis → CeAxis) {b : Nat} (h : b ≠ a) : (d.modCe a g).ceAx b = d.ceAx b := tabGet_mod_ne _ _ h

/-! ### modGrp -/

@[simp] theorem Dev.modGrp_rd (d : Dev) (a : Nat) (g : GroupSt → GroupSt) (o : Nat) : (d.modGrp a g).rd o = d.rd o := rfl
@[simp] theorem Dev.modGrp_rd64 (d : Dev) (a : Nat) (g : GroupSt → GroupSt) (o : Nat) : (d.modGrp a g).rd64 o = d.rd64 o := rfl
@[simp] theorem Dev.modGrp_fg (d : Dev) (a : Nat) (g : GroupSt → GroupSt) (o : Nat) (f : Fld) : (d.modGrp a g).fg o f = d.fg o f := rfl
@[simp] theorem Dev.modGrp_fb (d : Dev) (a : Nat) (g : GroupSt → GroupSt) (o : Nat) (f : Fld) : (d.modGrp a g).fb o f = d.fb o f := rfl
@[simp] theorem Dev.modGrp_fgS (d : Dev) (a : Nat) (g : GroupSt → GroupSt) (o : Nat) (f : Fld) : (d.modGrp a g).fgS o f = d.fgS o f := rfl
@[simp] theorem Dev.modGrp_bit (d : Dev) (a : Nat) (g : GroupSt → GroupSt) (o k : Nat) : (d.modGrp a g).bit o k = d.bit o k := rfl
@[simp] theorem Dev.grp_modGrp (d : Dev) (a : Nat) (g : GroupSt → GroupSt) : (d.modGrp a g).grp a = g (d.grp a) := tabGet_mod_self _ _ _
theorem Dev.grp_modGrp_ne (d : Dev) (a : Nat) (g : GroupSt → GroupSt) {b : Nat} (h : b ≠ a) : (d.modGrp a g).grp b = d.grp b := tabGet_mod_ne _ _ h

/-! ### modCan -/

@[simp] theorem Dev.modCan_rd (d : Dev) (a : Nat) (g : CanSt → CanSt) (o : Nat) : (d.modCan a g).rd o = d.rd o := rfl
@[simp] theorem Dev.modCan_rd64 (d : Dev) (a : Nat) (g : CanSt → CanSt) (o : Nat) : (d.modCan a g).rd64 o = d.rd64 o := rfl
@[simp] theorem Dev.modCan_fg (d : Dev) (a : Nat) (g : CanSt → CanSt) (o : Nat) (f : Fld) : (d.modCan a g).fg o f = d.fg o f := rfl
@[simp] theorem Dev.modCan_fb (d : Dev) (a : Nat) (g : CanSt → CanSt) (o : Nat) (f : Fld) : (d.modCan a g).fb o f = d.fb o f := rfl
@[simp] theorem Dev.modCan_fgS (d : Dev) (a : Nat) (g : CanSt → CanSt) (o : Nat) (f : Fld) : (d.modCan a g).fgS o f = d.fgS o f := rfl
@[simp] theorem Dev.modCan_bit (d : Dev) (a : Nat) (g : CanSt → CanSt) (o k : Nat) : (d.modCan a g).bit o k = d.bit o k := rfl
@[simp] theorem Dev.canCh_modCan (d : Dev) (a : Nat) (g : CanSt → CanSt) : (d.modCan a g).canCh a = g (d.canCh a) := tabGet_mod_self _ _ _
theorem Dev.canCh_modCan_ne (d : Dev) (a : Nat) (g : CanSt → CanSt) {b : Nat} (h : b ≠ a) : (d.modCan a g).canCh b = d.canCh b := tabGet_mod_ne _ _ h

/-! ### modSd -/

@[simp] theorem Dev.modSd_rd (d : Dev) (a : Nat) (g : SdIn → SdIn) (o : Nat) : (d.modSd a g).rd o = d.rd o := rfl
@[simp] theorem Dev.modSd_rd64 (d : Dev) (a : Nat) (g : SdIn → SdIn) (o : Nat) : (d.modSd a g).rd64 o = d.rd64 o := rfl
@[simp] theorem Dev.modSd_fg (d : Dev) (a : Nat) (g : SdIn → SdIn) (o : Nat) (f : Fld) : (d.modSd a g).fg o f = d.fg o f := rfl
@[simp] theorem Dev.modSd_fb (d : Dev) (a : Nat) (g : SdIn → SdIn) (o : Nat) (f : Fld) : (d.modSd a g).fb o f = d.fb o f := rfl
@[simp] theorem Dev.modSd_fgS (d : Dev) (a : Nat) (g : SdIn → SdIn) (o : Nat) (f : Fld) : (d.modSd a g).fgS o f = d.fgS o f := rfl
@[simp] theorem Dev.modSd_bit (d : Dev) (a : Nat) (g : SdIn → SdIn) (o k : Nat) : (d.modSd a g).bit o k = d.bit o k := rfl
@[simp] theorem Dev.sd_modSd (d : Dev) (a : Nat) (g : SdIn → SdIn) : (d.modSd a g).sd a = g (d.sd a) := tabGet_mod_self _ _ _
theorem Dev.sd_modSd_ne (d : Dev) (a : Nat) (g : SdIn → SdIn) {b : Nat} (h : b ≠ a) : (d.modSd a g).sd b = d.sd b := tabGet_mod_ne _ _ h

/-! ### modPort -/

@[simp] theorem Dev.modPort_rd (d : Dev) (a : Nat) (g : Port → Port) (o : Nat) : (d.modPort a g).rd o = d.rd o := rfl
@[simp] theorem Dev.modPort_rd64 (d : Dev) (a : Nat) (g : Port → Port) (o : Nat) : (d.modPort a g).rd64 o = d.rd64 o := rfl
@[simp] theorem Dev.modPort_fg (d : Dev) (a : Nat) (g : Port → Port) (o : Nat) (f : Fld) : (d.modPort a g).fg o f = d.fg o f := rfl
@[simp] theorem Dev.modPort_fb (d : Dev) (a : Nat) (g : Port → Port) (o : Nat) (f : Fld) : (d.modPort a g).fb o f = d.fb o f := rfl
@[simp] theorem Dev.modPort_fgS (d : Dev) (a : Nat) (g : Port → Port) (o : Nat) (f : Fld) : (d.modPort a g).fgS o f = d.fgS o f := rfl
@[simp] theorem Dev.modPort_bit (d : Dev) (a : Nat) (g : Port → Port) (o k : Nat) : (d.modPort a g).bit o k = d.bit o k := rfl
@[simp] theorem Dev.port_modPort (d : Dev) (a : Nat) (g : Port → Port) : (d.modPort a g).port a = g (d.port a) := tabGet_mod_self _ _ _
theorem Dev.port_modPort_ne (d : Dev) (a : Nat) (g : Port → Port) {b : Nat} (h : b ≠ a) : (d.modPort a g).port b = d.port b := tabGet_mod_ne _ _ h

/-! ### modFix -/

@[simp] theorem Dev.modFix_rd (d : Dev) (a : Nat) (g : FixIn → FixIn) (o : Nat) : (d.modFix a g).rd o = d.rd o := rfl
@[simp] theorem Dev.modFix_rd64 (d : Dev) (a : Nat) (g : FixIn → FixIn) (o : Nat) : (d.modFix a g).rd64 o = d.rd64 o := rfl
@[simp] theorem Dev.modFix_fg (d : Dev) (a : Nat) (g : FixIn → FixIn) (o : Nat) (f : Fld) : (d.modFix a g).fg o f = d.fg o f := rfl
@[simp] theorem Dev.modFix_fb (d : Dev) (a : Nat) (g : FixIn → FixIn) (o : Nat) (f : Fld) : (d.modFix a g).fb o f = d.fb o f := rfl
@[simp] theorem Dev.modFix_fgS (d : Dev) (a : Nat) (g : FixIn → FixIn) (o : Nat) (f : Fld) : (d.modFix a g).fgS o f = d.fgS o f := rfl
@[simp] theorem Dev.modFix_bit (d : Dev) (a : Nat) (g : FixIn → FixIn) (o k : Nat) : (d.modFix a g).bit o k = d.bit o k := rfl
@[simp] theorem Dev.fix_modFix (d : Dev) (a : Nat) (g : FixIn → FixIn) : (d.modFix a g).fix a = g (d.fix a) := tabGet_mod_self _ _ _
theorem Dev.fix_modFix_ne (d : Dev) (a : Nat) (g : FixIn → FixIn) {b : Nat} (h : b ≠ a) : (d.modFix a g).fix b = d.fix b := tabGet_mod_ne _ _ h

/-! ### modPco -/

@[simp] theorem Dev.modPco_rd (d : Dev) (a : Nat) (g : Pco → Pco) (o : Nat) : (d.modPco a g).rd o = d.rd o := rfl
@[simp] theorem Dev.modPco_rd64 (d : Dev) (a : Nat) (g : Pco → Pco) (o : Nat) : (d.modPco a g).rd64 o = d.rd64 o := rfl
@[simp] theorem Dev.modPco_fg (d : Dev) (a : Nat) (g : Pco → Pco) (o : Nat) (f : Fld) : (d.modPco a g).fg o f = d.fg o f := rfl
@[simp] theorem Dev.modPco_fb (d : Dev) (a : Nat) (g : Pco → Pco) (o : Nat) (f : Fld) : (d.modPco a g).fb o f = d.fb o f := rfl
@[simp] theorem Dev.modPco_fgS (d : Dev) (a : Nat) (g : Pco → Pco) (o : Nat) (f : Fld) : (d.modPco a g).fgS o f = d.fgS o f := rfl
@[simp] theorem Dev.modPco_bit (d : Dev) (a : Nat) (g : Pco → Pco) (o k : Nat) : (d.modPco a g).bit o k = d.bit o k := rfl
@[simp] theorem Dev.pco_modPco (d : Dev) (a : Nat) (g : Pco → Pco) : (d.modPco a g).pco a = g (d.pco a) := tabGet_mod_self _ _ _
theorem Dev.pco_modPco_ne (d : Dev) (a : Nat) (g : Pco → Pco) {b : Nat} (h : b ≠ a) : (d.modPco a g).pco b = d.pco b := tabGet_mod_ne _ _ h

/-! ### modLeg -/

@[simp] theorem Dev.modLeg_rd (d : Dev) (a : Nat) (g : Leg → Leg) (o : Nat) : (d.modLeg a g).rd o = d.rd o := rfl
@[simp] theorem Dev.modLeg_rd64 (d : Dev) (a : Nat) (g : Leg → Leg) (o : Nat) : (d.modLeg a g).rd64 o = d.rd64 o := rfl
@[simp] theorem Dev.modLeg_fg (d : Dev) (a : Nat) (g : Leg → Leg) (o : Nat) (f : Fld) : (d.modLeg a g).fg o f = d.fg o f := rfl
@[simp] theorem Dev.modLeg_fb (d : Dev) (a : Nat) (g : Leg → Leg) (o : Nat) (f : Fld) : (d.modLeg a g).fb o f = d.fb o f := rfl
@[simp] theorem Dev.modLeg_fgS (d : Dev) (a : Nat) (g : Leg → Leg) (o : Nat) (f : Fld) : (d.modLeg a g).fgS o f = d.fgS o f := rfl
@[simp] theorem Dev.modLeg_bit (d : Dev) (a : Nat) (g : Leg → Leg) (o k : Nat) : (d.modLeg a g).bit o k = d.bit o k := rfl
@[simp] theorem Dev.leg_modLeg (d : Dev) (a : Nat) (g : Leg → Leg) : (d.modLeg a g).leg a = g (d.leg a) := tabGet_mod_self _ _ _
theorem Dev.leg_modLeg_ne (d : Dev) (a : Nat) (g : Leg → Leg) {b : Nat} (h : b ≠ a) : (d.modLeg a g).leg b = d.leg b := tabGet_mod_ne _ _ h

/-! ### modBank -/

@[simp] theorem Dev.modBank_rd (d : Dev) (a : Nat) (g : Bank → Bank) (o : Nat) : (d.modBank a g).rd o = d.rd o := rfl
@[simp] theorem Dev.modBank_rd64 (d : Dev) (a : Nat) (g : Bank → Bank) (o : Nat) : (d.modBank a g).rd64 o = d.rd64 o := rfl
@[simp] theorem Dev.modBank_fg (d : Dev) (a : Nat) (g : Bank → Bank) (o : Nat) (f : Fld) : (d.modBank a g).fg o f = d.fg o f := rfl
@[simp] theorem Dev.modBank_fb (d : Dev) (a : Nat) (g : Bank → Bank) (o : Nat) (f : Fld) : (d.modBank a g).fb o f = d.fb o f := rfl
@[simp] theorem Dev.modBank_fgS (d : Dev) (a : Nat) (g : Bank → Bank) (o : Nat) (f : Fld) : (d.modBank a g).fgS o f = d.fgS o f := rfl
@[simp] theorem Dev.modBank_bit (d : Dev) (a : Nat) (g : Bank → Bank) (o k : Nat) : (d.modBank a g).bit o k = d.bit o k := rfl
@[simp] theorem Dev.bank_modBank (d : Dev) (a : Nat) (g : Bank → Bank) : (d.modBank a g).bank a = g (d.bank a) := tabGet_mod_self _ _ _
theorem Dev.bank_modBank_ne (d : Dev) (a : Nat) (g : Bank → Bank) {b : Nat} (h : b ≠ a) : (d.modBank a g).bank b = d.bank b := tabGet_mod_ne _ _ h

/-! ### modTrip -/

@[simp] theorem Dev.modTrip_rd (d : Dev) (a : Nat) (g : Trip → Trip) (o : Nat) : (d.modTrip a g).rd o = d.rd o := rfl
@[simp] theorem Dev.modTrip_rd64 (d : Dev) (a : Nat) (g : Trip → Trip) (o : Nat) : (d.modTrip a g).rd64 o = d.rd64 o := rfl
@[simp] theorem Dev.modTrip_fg (d : Dev) (a : Nat) (g : Trip → Trip) (o : Nat) (f : Fld) : (d.modTrip a g).fg o f = d.fg o f := rfl
@[simp] theorem Dev.modTrip_fb (d : Dev) (a : Nat) (g : Trip → Trip) (o : Nat) (f : Fld) : (d.modTrip a g).fb o f = d.fb o f := rfl
@[simp] theorem Dev.modTrip_fgS (d : Dev) (a : Nat) (g : Trip → Trip) (o : Nat) (f : Fld) : (d.modTrip a g).fgS o f = d.fgS o f := rfl
@[simp] theorem Dev.modTrip_bit (d : Dev) (a : Nat) (g : Trip → Trip) (o k : Nat) : (d.modTrip a g).bit o k = d.bit o k := rfl
@[simp] theorem Dev.trip_modTrip (d : Dev) (a : Nat) (g : Trip → Trip) : (d.modTrip a g).trip a = g (d.trip a) := tabGet_mod_self _ _ _
theorem Dev.trip_modTrip_ne (d : Dev) (a : Nat) (g : Trip → Trip) {b : Nat} (h : b ≠ a) : (d.modTrip a g).trip b = d.trip b := tabGet_mod_ne _ _ h

/-! ### modCore -/

@[simp] theorem Dev.modCore_rd (d : Dev) (a : Nat) (g : Core → Core) (o : Nat) : (d.modCore a g).rd o = d.rd o := rfl
@[simp] theorem Dev.modCore_rd64 (d : Dev) (a : Nat) (g : Core → Core) (o : Nat) : (d.modCore a g).rd64 o = d.rd64 o := rfl
@[simp] theorem Dev.modCore_fg (d : Dev) (a : Nat) (g : Core → Core) (o : Nat) (f : Fld) : (d.modCore a g).fg o f = d.fg o f := rfl
@[simp] theorem Dev.modCore_fb (d : Dev) (a : Nat) (g : Core → Core) (o : Nat) (f : Fld) : (d.modCore a g).fb o f = d.fb o f := rfl
@[simp] theorem Dev.modCore_fgS (d : Dev) (a : Nat) (g : Core → Core) (o : Nat) (f : Fld) : (d.modCore a g).fgS o f = d.fgS o f := rfl
@[simp] theorem Dev.modCore_bit (d : Dev) (a : Nat) (g : Core → Core) (o k : Nat) : (d.modCore a g).bit o k = d.bit o k := rfl
@[simp] theorem Dev.core_modCore (d : Dev) (a : Nat) (g : Core → Core) : (d.modCore a g).core a = g (d.core a) := tabGet_mod_self _ _ _
theorem Dev.core_modCore_ne (d : Dev) (a : Nat) (g : Core → Core) {b : Nat} (h : b ≠ a) : (d.modCore a g).core b = d.core b := tabGet_mod_ne _ _ h

/-! ### modSrc -/

@[simp] theorem Dev.modSrc_rd (d : Dev) (a : Nat) (g : EvrSrc → EvrSrc) (o : Nat) : (d.modSrc a g).rd o = d.rd o := rfl
@[simp] theorem Dev.modSrc_rd64 (d : Dev) (a : Nat) (g : EvrSrc → EvrSrc) (o : Nat) : (d.modSrc a g).rd64 o = d.rd64 o := rfl
@[simp] theorem Dev.modSrc_fg (d : Dev) (a : Nat) (g : EvrSrc → EvrSrc) (o : Nat) (f : Fld) : (d.modSrc a g).fg o f = d.fg o f := rfl
@[simp] theorem Dev.modSrc_fb (d : Dev) (a : Nat) (g : EvrSrc → EvrSrc) (o : Nat) (f : Fld) : (d.modSrc a g).fb o f = d.fb o f := rfl
@[simp] theorem Dev.modSrc_fgS (d : Dev) (a : Nat) (g : EvrSrc → EvrSrc) (o : Nat) (f : Fld) : (d.modSrc a g).fgS o f = d.fgS o f := rfl
@[simp] theorem Dev.modSrc_bit (d : Dev) (a : Nat) (g : EvrSrc → EvrSrc) (o k : Nat) : (d.modSrc a g).bit o k = d.bit o k := rfl
@[simp] theorem Dev.src_modSrc (d : Dev) (a : Nat) (g : EvrSrc → EvrSrc) : (d.modSrc a g).src a = g (d.src a) := tabGet_mod_self _ _ _
theorem Dev.src_modSrc_ne (d : Dev) (a : Nat) (g : EvrSrc → EvrSrc) {b : Nat} (h : b ≠ a) : (d.modSrc a g).src b = d.src b := tabGet_mod_ne _ _ h

/-! ### modDie -/

@[simp] theorem Dev.modDie_rd (d : Dev) (a : Nat) (g : FieldDie → FieldDie) (o : Nat) : (d.modDie a g).rd o = d.rd o := rfl
@[simp] theorem Dev.modDie_rd64 (d : Dev) (a : Nat) (g : FieldDie → FieldDie) (o : Nat) : (d.modDie a g).rd64 o = d.rd64 o := rfl
@[simp] theorem Dev.modDie_fg (d : Dev) (a : Nat) (g : FieldDie → FieldDie) (o : Nat) (f : Fld) : (d.modDie a g).fg o f = d.fg o f := rfl
@[simp] theorem Dev.modDie_fb (d : Dev) (a : Nat) (g : FieldDie → FieldDie) (o : Nat) (f : Fld) : (d.modDie a g).fb o f = d.fb o f := rfl
@[simp] theorem Dev.modDie_fgS (d : Dev) (a : Nat) (g : FieldDie → FieldDie) (o : Nat) (f : Fld) : (d.modDie a g).fgS o f = d.fgS o f := rfl
@[simp] theorem Dev.modDie_bit (d : Dev) (a : Nat) (g : FieldDie → FieldDie) (o k : Nat) : (d.modDie a g).bit o k = d.bit o k := rfl
@[simp] theorem Dev.die_modDie (d : Dev) (a : Nat) (g : FieldDie → FieldDie) : (d.modDie a g).die a = g (d.die a) := tabGet_mod_self _ _ _
theorem Dev.die_modDie_ne (d : Dev) (a : Nat) (g : FieldDie → FieldDie) {b : Nat} (h : b ≠ a) : (d.modDie a g).die b = d.die b := tabGet_mod_ne _ _ h

/-! ### modHook -/

@[simp] theorem Dev.modHook_rd (d : Dev) (a h : Nat) (g : Hook → Hook) (o : Nat) : (d.modHook a h g).rd o = d.rd o := rfl
@[simp] theorem Dev.modHook_rd64 (d : Dev) (a h : Nat) (g : Hook → Hook) (o : Nat) : (d.modHook a h g).rd64 o = d.rd64 o := rfl
@[simp] theorem Dev.modHook_fg (d : Dev) (a h : Nat) (g : Hook → Hook) (o : Nat) (f : Fld) : (d.modHook a h g).fg o f = d.fg o f := rfl
@[simp] theorem Dev.modHook_fb (d : Dev) (a h : Nat) (g : Hook → Hook) (o : Nat) (f : Fld) : (d.modHook a h g).fb o f = d.fb o f := rfl
@[simp] theorem Dev.modHook_fgS (d : Dev) (a h : Nat) (g : Hook → Hook) (o : Nat) (f : Fld) : (d.modHook a h g).fgS o f = d.fgS o f := rfl
@[simp] theorem Dev.modHook_bit (d : Dev) (a h : Nat) (g : Hook → Hook) (o k : Nat) : (d.modHook a h g).bit o k = d.bit o k := rfl

/-! ### modCmd -/

@[simp] theorem Dev.modCmd_rd (d : Dev) (g : CmdState → CmdState) (o : Nat) : (d.modCmd g).rd o = d.rd o := rfl
@[simp] theorem Dev.modCmd_rd64 (d : Dev) (g : CmdState → CmdState) (o : Nat) : (d.modCmd g).rd64 o = d.rd64 o := rfl
@[simp] theorem Dev.modCmd_fg (d : Dev) (g : CmdState → CmdState) (o : Nat) (f : Fld) : (d.modCmd g).fg o f = d.fg o f := rfl
@[simp] theorem Dev.modCmd_fb (d : Dev) (g : CmdState → CmdState) (o : Nat) (f : Fld) : (d.modCmd g).fb o f = d.fb o f := rfl
@[simp] theorem Dev.modCmd_fgS (d : Dev) (g : CmdState → CmdState) (o : Nat) (f : Fld) : (d.modCmd g).fgS o f = d.fgS o f := rfl
@[simp] theorem Dev.modCmd_bit (d : Dev) (g : CmdState → CmdState) (o k : Nat) : (d.modCmd g).bit o k = d.bit o k := rfl

/-! ### modAccepted -/

@[simp] theorem Dev.modAccepted_rd (d : Dev) (p : Packet) (g : Accepted → Accepted) (o : Nat) : (d.modAccepted p g).rd o = d.rd o := rfl
@[simp] theorem Dev.modAccepted_rd64 (d : Dev) (p : Packet) (g : Accepted → Accepted) (o : Nat) : (d.modAccepted p g).rd64 o = d.rd64 o := rfl
@[simp] theorem Dev.modAccepted_fg (d : Dev) (p : Packet) (g : Accepted → Accepted) (o : Nat) (f : Fld) : (d.modAccepted p g).fg o f = d.fg o f := rfl
@[simp] theorem Dev.modAccepted_fb (d : Dev) (p : Packet) (g : Accepted → Accepted) (o : Nat) (f : Fld) : (d.modAccepted p g).fb o f = d.fb o f := rfl
@[simp] theorem Dev.modAccepted_fgS (d : Dev) (p : Packet) (g : Accepted → Accepted) (o : Nat) (f : Fld) : (d.modAccepted p g).fgS o f = d.fgS o f := rfl
@[simp] theorem Dev.modAccepted_bit (d : Dev) (p : Packet) (g : Accepted → Accepted) (o k : Nat) : (d.modAccepted p g).bit o k = d.bit o k := rfl

/-! ### modField -/

@[simp] theorem Dev.modField_rd (d : Dev) (g : FieldSt → FieldSt) (o : Nat) : (d.modField g).rd o = d.rd o := rfl
@[simp] theorem Dev.modField_rd64 (d : Dev) (g : FieldSt → FieldSt) (o : Nat) : (d.modField g).rd64 o = d.rd64 o := rfl
@[simp] theorem Dev.modField_fg (d : Dev) (g : FieldSt → FieldSt) (o : Nat) (f : Fld) : (d.modField g).fg o f = d.fg o f := rfl
@[simp] theorem Dev.modField_fb (d : Dev) (g : FieldSt → FieldSt) (o : Nat) (f : Fld) : (d.modField g).fb o f = d.fb o f := rfl
@[simp] theorem Dev.modField_fgS (d : Dev) (g : FieldSt → FieldSt) (o : Nat) (f : Fld) : (d.modField g).fgS o f = d.fgS o f := rfl
@[simp] theorem Dev.modField_bit (d : Dev) (g : FieldSt → FieldSt) (o k : Nat) : (d.modField g).bit o k = d.bit o k := rfl

/-! ### modPair -/

@[simp] theorem Dev.modPair_rd (d : Dev) (g : PairSt → PairSt) (o : Nat) : (d.modPair g).rd o = d.rd o := rfl
@[simp] theorem Dev.modPair_rd64 (d : Dev) (g : PairSt → PairSt) (o : Nat) : (d.modPair g).rd64 o = d.rd64 o := rfl
@[simp] theorem Dev.modPair_fg (d : Dev) (g : PairSt → PairSt) (o : Nat) (f : Fld) : (d.modPair g).fg o f = d.fg o f := rfl
@[simp] theorem Dev.modPair_fb (d : Dev) (g : PairSt → PairSt) (o : Nat) (f : Fld) : (d.modPair g).fb o f = d.fb o f := rfl
@[simp] theorem Dev.modPair_fgS (d : Dev) (g : PairSt → PairSt) (o : Nat) (f : Fld) : (d.modPair g).fgS o f = d.fgS o f := rfl
@[simp] theorem Dev.modPair_bit (d : Dev) (g : PairSt → PairSt) (o k : Nat) : (d.modPair g).bit o k = d.bit o k := rfl

/-! ### modChan -/

@[simp] theorem Dev.modChan_rd (d : Dev) (a : Bool) (g : SChan → SChan) (o : Nat) : (d.modChan a g).rd o = d.rd o := by unfold Dev.modChan; split <;> rfl
@[simp] theorem Dev.modChan_rd64 (d : Dev) (a : Bool) (g : SChan → SChan) (o : Nat) : (d.modChan a g).rd64 o = d.rd64 o := by unfold Dev.modChan; split <;> rfl
@[simp] theorem Dev.modChan_fg (d : Dev) (a : Bool) (g : SChan → SChan) (o : Nat) (f : Fld) : (d.modChan a g).fg o f = d.fg o f := by unfold Dev.modChan; split <;> rfl
@[simp] theorem Dev.modChan_fb (d : Dev) (a : Bool) (g : SChan → SChan) (o : Nat) (f : Fld) : (d.modChan a g).fb o f = d.fb o f := by unfold Dev.modChan; split <;> rfl
@[simp] theorem Dev.modChan_fgS (d : Dev) (a : Bool) (g : SChan → SChan) (o : Nat) (f : Fld) : (d.modChan a g).fgS o f = d.fgS o f := by unfold Dev.modChan; split <;> rfl
@[simp] theorem Dev.modChan_bit (d : Dev) (a : Bool) (g : SChan → SChan) (o k : Nat) : (d.modChan a g).bit o k = d.bit o k := by unfold Dev.modChan; split <;> rfl

/-! ### modSafety -/

@[simp] theorem Dev.modSafety_rd (d : Dev) (g : SafetySt → SafetySt) (o : Nat) : (d.modSafety g).rd o = d.rd o := rfl
@[simp] theorem Dev.modSafety_rd64 (d : Dev) (g : SafetySt → SafetySt) (o : Nat) : (d.modSafety g).rd64 o = d.rd64 o := rfl
@[simp] theorem Dev.modSafety_fg (d : Dev) (g : SafetySt → SafetySt) (o : Nat) (f : Fld) : (d.modSafety g).fg o f = d.fg o f := rfl
@[simp] theorem Dev.modSafety_fb (d : Dev) (g : SafetySt → SafetySt) (o : Nat) (f : Fld) : (d.modSafety g).fb o f = d.fb o f := rfl
@[simp] theorem Dev.modSafety_fgS (d : Dev) (g : SafetySt → SafetySt) (o : Nat) (f : Fld) : (d.modSafety g).fgS o f = d.fgS o f := rfl
@[simp] theorem Dev.modSafety_bit (d : Dev) (g : SafetySt → SafetySt) (o k : Nat) : (d.modSafety g).bit o k = d.bit o k := rfl

/-! ### modSec -/

@[simp] theorem Dev.modSec_rd (d : Dev) (g : SecSt → SecSt) (o : Nat) : (d.modSec g).rd o = d.rd o := rfl
@[simp] theorem Dev.modSec_rd64 (d : Dev) (g : SecSt → SecSt) (o : Nat) : (d.modSec g).rd64 o = d.rd64 o := rfl
@[simp] theorem Dev.modSec_fg (d : Dev) (g : SecSt → SecSt) (o : Nat) (f : Fld) : (d.modSec g).fg o f = d.fg o f := rfl
@[simp] theorem Dev.modSec_fb (d : Dev) (g : SecSt → SecSt) (o : Nat) (f : Fld) : (d.modSec g).fb o f = d.fb o f := rfl
@[simp] theorem Dev.modSec_fgS (d : Dev) (g : SecSt → SecSt) (o : Nat) (f : Fld) : (d.modSec g).fgS o f = d.fgS o f := rfl
@[simp] theorem Dev.modSec_bit (d : Dev) (g : SecSt → SecSt) (o k : Nat) : (d.modSec g).bit o k = d.bit o k := rfl

/-! ### modStore -/

@[simp] theorem Dev.modStore_rd (d : Dev) (g : StoreSt → StoreSt) (o : Nat) : (d.modStore g).rd o = d.rd o := rfl
@[simp] theorem Dev.modStore_rd64 (d : Dev) (g : StoreSt → StoreSt) (o : Nat) : (d.modStore g).rd64 o = d.rd64 o := rfl
@[simp] theorem Dev.modStore_fg (d : Dev) (g : StoreSt → StoreSt) (o : Nat) (f : Fld) : (d.modStore g).fg o f = d.fg o f := rfl
@[simp] theorem Dev.modStore_fb (d : Dev) (g : StoreSt → StoreSt) (o : Nat) (f : Fld) : (d.modStore g).fb o f = d.fb o f := rfl
@[simp] theorem Dev.modStore_fgS (d : Dev) (g : StoreSt → StoreSt) (o : Nat) (f : Fld) : (d.modStore g).fgS o f = d.fgS o f := rfl
@[simp] theorem Dev.modStore_bit (d : Dev) (g : StoreSt → StoreSt) (o k : Nat) : (d.modStore g).bit o k = d.bit o k := rfl

/-! ### modBg -/

@[simp] theorem Dev.modBg_rd (d : Dev) (g : BgSt → BgSt) (o : Nat) : (d.modBg g).rd o = d.rd o := rfl
@[simp] theorem Dev.modBg_rd64 (d : Dev) (g : BgSt → BgSt) (o : Nat) : (d.modBg g).rd64 o = d.rd64 o := rfl
@[simp] theorem Dev.modBg_fg (d : Dev) (g : BgSt → BgSt) (o : Nat) (f : Fld) : (d.modBg g).fg o f = d.fg o f := rfl
@[simp] theorem Dev.modBg_fb (d : Dev) (g : BgSt → BgSt) (o : Nat) (f : Fld) : (d.modBg g).fb o f = d.fb o f := rfl
@[simp] theorem Dev.modBg_fgS (d : Dev) (g : BgSt → BgSt) (o : Nat) (f : Fld) : (d.modBg g).fgS o f = d.fgS o f := rfl
@[simp] theorem Dev.modBg_bit (d : Dev) (g : BgSt → BgSt) (o k : Nat) : (d.modBg g).bit o k = d.bit o k := rfl

/-! ### modBoot -/

@[simp] theorem Dev.modBoot_rd (d : Dev) (g : BootSt → BootSt) (o : Nat) : (d.modBoot g).rd o = d.rd o := rfl
@[simp] theorem Dev.modBoot_rd64 (d : Dev) (g : BootSt → BootSt) (o : Nat) : (d.modBoot g).rd64 o = d.rd64 o := rfl
@[simp] theorem Dev.modBoot_fg (d : Dev) (g : BootSt → BootSt) (o : Nat) (f : Fld) : (d.modBoot g).fg o f = d.fg o f := rfl
@[simp] theorem Dev.modBoot_fb (d : Dev) (g : BootSt → BootSt) (o : Nat) (f : Fld) : (d.modBoot g).fb o f = d.fb o f := rfl
@[simp] theorem Dev.modBoot_fgS (d : Dev) (g : BootSt → BootSt) (o : Nat) (f : Fld) : (d.modBoot g).fgS o f = d.fgS o f := rfl
@[simp] theorem Dev.modBoot_bit (d : Dev) (g : BootSt → BootSt) (o k : Nat) : (d.modBoot g).bit o k = d.bit o k := rfl

/-! ### modTrv -/

@[simp] theorem Dev.modTrv_rd (d : Dev) (g : TrvSt → TrvSt) (o : Nat) : (d.modTrv g).rd o = d.rd o := rfl
@[simp] theorem Dev.modTrv_rd64 (d : Dev) (g : TrvSt → TrvSt) (o : Nat) : (d.modTrv g).rd64 o = d.rd64 o := rfl
@[simp] theorem Dev.modTrv_fg (d : Dev) (g : TrvSt → TrvSt) (o : Nat) (f : Fld) : (d.modTrv g).fg o f = d.fg o f := rfl
@[simp] theorem Dev.modTrv_fb (d : Dev) (g : TrvSt → TrvSt) (o : Nat) (f : Fld) : (d.modTrv g).fb o f = d.fb o f := rfl
@[simp] theorem Dev.modTrv_fgS (d : Dev) (g : TrvSt → TrvSt) (o : Nat) (f : Fld) : (d.modTrv g).fgS o f = d.fgS o f := rfl
@[simp] theorem Dev.modTrv_bit (d : Dev) (g : TrvSt → TrvSt) (o k : Nat) : (d.modTrv g).bit o k = d.bit o k := rfl

end Sys2Proof.Machine
end

