-- ==== Sys2Proof/Tests/Slice0.lean ====
section
/-!
SUPPORT. Small tests: ill-formed commands are refused by the check, reset values, register offsets, the worked examples of the
specification, slot words written out from its encoding tables, and for each statement with hypotheses a state that meets them.
-/

namespace Sys2Proof.Tests

set_option maxRecDepth 20000
set_option Elab.async false

open Sys2Proof Sys2Proof.Machine

/-- The state after reset with a change of its device. -/
def st (f : Dev → Dev) : State := { dev := f {} }

/-- Core TD0 is RUNNING, with one bundle at its program counter, and pointer register P0 holds `p`. -/
def tdWith (mo : MOp) (lo : LOp) (p : Nat) : State := st fun d =>
  (((d.fs (R.TD_STATUS 0) F.TD_STATUS_STATE 2).wr (tdWindow 0) (encM mo)).wr (tdWindow 0 + 4) (encL lo)).modCore 0 fun k =>
    (k.setReg (bankKey false 0x20) (BitVec.ofNat 72 p)).setReg (bankKey false 0x21) 0x4000

/-- A command waits accepted in its queue. -/
def accepted (p : Packet) : State := st fun d => { d with cmd := { d.cmd with accepted := [{ pkt := p }] } }

/-! ### The check of commands -/

/-- 0x800 is no 11-bit identifier (R371). -/
theorem test_illformed_can_id : (Instr.canFrameReceive 0 { id := 0x800 } 0).wellFormed = false := by decide

/-- A classic frame of DLC 2 carries 2 bytes. -/
theorem test_illformed_can_length : (Instr.canFrameReceive 0 { dlc := 2, data := [1] } 0).wellFormed = false := by decide

theorem test_illformed_can_stops : exec (.canFrameReceive 0 { id := 0x800 } 0) .reset = .fault (.illFormed "CAN_FRAME_RECEIVE") := rfl

theorem test_wellformed_can : (Instr.canFrameReceive 0 { id := 0x7FF, dlc := 2, data := [1, 2] } 0).wellFormed = true := by decide

/-- REGWIN is 4 MiB and BULKWIN 64 MiB (R12). -/
theorem test_illformed_write : (Instr.hostRegisterWrite (.w32 0x400000 0)).wellFormed = false := by decide

theorem test_illformed_bulk : (Instr.hostRegisterWrite (.bulk 0x3FFFFFF [0, 0])).wellFormed = false := by decide

theorem test_illformed_read : (Instr.hostLowerWordRead (.reg 0x400000 4)).wellFormed = false := by decide

theorem test_illformed_dap : (Instr.dapWrite 0x400000 0).wellFormed = false := by decide

/-! ### Reset and the register map -/

/-- The register index's example: CE_AX_PARAM_26 of AX32. -/
theorem test_offset_param : R.CE_AX_PARAM 32 26 = 0x5C0A8 := by decide

theorem test_offset_enc_cfg : R.ENC_CFG 50 = 0x80C80 := by decide

theorem test_offset_src_cfg : R.EVR_SRC_CFG 257 = 0x2404 := by decide

theorem test_offset_pco : R.PCO_CFG 3 = 0x82060 ∧ R.FIX_OFS 3 = 0x81064 := by decide

/-- Reset values that the register tables give. -/
theorem test_reset_values : State.reset.dev.rd R.INTERP_POOL = 0x10000000 ∧ State.reset.dev.rd (R.CAN_CFG 1) = 0xC0640000 ∧
    State.reset.pending = [] := by decide +kernel

/-! ### Worked examples of the specification -/

/-- The check value of CRC-32C (R43). -/
theorem test_crc_check_value : crc32c [0x31, 0x32, 0x33, 0x34, 0x35, 0x36, 0x37, 0x38, 0x39] = 0xE3069283#32 := by decide +kernel

/-- BIND_AXIS of AX17: its words 0 and 2. -/
theorem test_packet_words :
    let p := parsePacket .pcie 1 [0x02050061, 7, 0x00120111, 0x80321111, 0xFF4F2A29, 0]
    opNum p = 0x0205 ∧ p.ack = true ∧ p.chain = false ∧ p.epoch = 0x12 ∧ p.tclass = 1 ∧ p.tindex = 17 ∧
      p.params = [0x80321111, 0xFF4F2A29] := by decide

/-- The BIND_AXIS of AX17 binds it. -/
theorem test_bind_axis :
    let p := parsePacket .pcie 1 [0x02050061, 7, 0x00120111, 0x80321111, 0xFF4F2A29, 0]
    ∃ t, exec (.bindAxis p) (accepted p) = .next t ∧ t.dev.rd 0x18800 = 0x80321111 ∧ t.dev.rd 0x18804 = 0xFF4F2A29 ∧
      t.dev.cmd.accepted = [] := ⟨_, rfl, by decide +kernel⟩

/-- ACC0 holds 3.2: a plain store saturates, a scaled one writes 0.8 with g of 2. -/
theorem test_acc_store : convPlain (32 * 2 ^ 63 / 10) = (0x7FFFFFFF, true) ∧ convScaled (32 * 2 ^ 63 / 10) = (0x66666666, 2) := by decide +kernel

/-- 10,240,000 as binary32, to BFP24 and back. -/
theorem test_binary32 : f32Parts 0x4B1C4000 = (10240000, 0) ∧ (f32Bfp 0x4B1C4000).f32 = 0x4B1C4000 := by decide +kernel

/-- The rate of the wear budget of a 4 Gbit part with 40 bad blocks: 45,485 B/s. -/
theorem test_wear_rate :
    let p : NandPart := { crcOk := true, pageLog := 11, ppbLog := 6, blocks := 4096, endurance := 60000 }
    ({ ({} : Dev) with store := { ({} : Dev).store with part := some p, bad := List.range 40 } } : Dev).wearRate = 45485 := by
  decide +kernel

/-! ### Slot words of the cores, as the examples and the encoding tables write them -/

theorem test_words_flags : decL 0x20000001 = some (.srclr 1) ∧ decL 0x1C000008 = some (.srset 8) := by decide +kernel

theorem test_words_branch : decL 0x40000002 = some (.br 0 2) ∧ decL 0x40800114 = some (.br 2 0x114) := by decide +kernel

theorem test_words_movi : decL 0x150088B2 = some (.movi 0x20 0x88B2) := by decide +kernel

theorem test_words_load : decL 0x04000000 = some (.ld 0 false 0 0 0) := by decide +kernel

theorem test_words_store : decL 0x08E05000 = some (.st 0x1C 0 5 0) := by decide +kernel

theorem test_words_loop : decL 0x5400001F = some (.doI 0 31) ∧ decL 0x4C000000 = some .reti1 := by decide +kernel

theorem test_words_tapd : decL 0x803A4000 = some (.tapd 0 false 3 2 4 2) := by decide +kernel

/-- MPY ACC0, D5, D6; MOP 0x01, AD 0, RA 5, RB 6. -/
theorem test_words_mpy : decM 0x04056000 = some (.mul .mpy 0 5 6) := by decide +kernel

/-- XOR D3, D0, D2: MOP 0x17, RD 3, RA 0, RB 2; ASR D4, D2, #31: MOP 0x18, RD 4, RA 2, IMM16 31. -/
theorem test_words_logic : decM 0x5C302000 = some (.alu .xor 3 0 2) ∧ decM 0x6042001F = some (.shift .asr 4 2 31) := by decide +kernel

/-- Reserved operations, and a bit where an operation has none (R297). -/
theorem test_words_illegal : decM 0x1C000000 = none ∧ decM 0x04056001 = none ∧ decL 0x24000000 = none ∧ decL 0x4C000001 = none := by decide +kernel

/-! ### A step -/

theorem test_step_idle : ∃ t, step .reset = .next t := ⟨_, rfl⟩

theorem test_step_front : (match step { State.reset with pending := [.islandStop, .vbakLow] } with
    | .next t => t.pending | _ => []) = [.vbakLow] := by decide +kernel

/-! ### States that meet the hypotheses of the statements -/

theorem test_meets_ResetsTakeEffect :
    (∃ (s : State), (Running s)) ∧
    (∃ (w : Word) (s : State), (Running s) ∧ (wbits w 15 0 = 0xA5C3)) ∧
    (∃ (w : Word) (s : State), (Running s) ∧ (wbits w 15 0 ≠ 0xA5C3)) ∧
    (∃ (s : State), (Running s)) ∧
    (∃ (s : State), (Running s)) ∧
    (∃ (x : Straps) (s : State), (Running s)) ∧
    (∃ (s : State), (Running s) ∧ (s.dev.fb R.POWER_STATUS F.POWER_STATUS_PF_ACTIVE = true)) ∧
    (∃ (s : State), (Running s) ∧ (s.dev.fb R.POWER_STATUS F.POWER_STATUS_PF_ACTIVE = false)) :=
  ⟨⟨st id, by decide +kernel⟩,
   ⟨0xA5C3, st id, by decide +kernel⟩,
   ⟨0xA5C2, st id, by decide +kernel⟩,
   ⟨st id, by decide +kernel⟩,
   ⟨st id, by decide +kernel⟩,
   ⟨{}, st id, by decide +kernel⟩,
   ⟨st fun d => d.fsb R.POWER_STATUS F.POWER_STATUS_PF_ACTIVE true, by decide +kernel⟩,
   ⟨st id, by decide +kernel⟩⟩

theorem test_meets_ClockAndPllLoss :
    (∃ (x : Straps) (s : State), (Running s)) ∧
    (∃ (x : Straps) (s : State), (Running s)) ∧
    (∃ (p : Pll) (x : Straps) (s : State), (Running s) ∧ (p = .dsp ∨ p = .sup) ∧ (s.dev.pllStopped p = false)) ∧
    (∃ (x : Straps) (s : State), (Running s) ∧ (s.dev.pllStopped .ce = false)) ∧
    (∃ (x : Straps) (s : State), (Running s) ∧ (s.dev.pllStopped .can = false)) ∧
    (∃ (x : Straps) (s : State), (Running s) ∧ (s.dev.pllStopped .safA = false)) ∧
    (∃ (p : Pll) (s : State), (Running s) ∧ (p = .can ∨ p = .tie) ∧ (s.dev.fb R.SYS_CLOCK_STATUS (pllLock p) = false) ∧ (s.dev.dozing = false)) ∧
    (∃ (s : State), (Running s) ∧ (s.dev.fb R.SYS_CLOCK_STATUS (pllLock .safA) = false) ∧ (s.dev.safety.a.on = false) ∧ (s.dev.safety.a.faults.testBit 6 = false)) ∧
    (∃ (s : State), (Running s) ∧ (s.dev.fb R.SYS_CLOCK_STATUS (pllLock .safA) = false) ∧ (s.dev.safety.a.on = true ∨ s.dev.safety.a.faults.testBit 6 = true)) :=
  ⟨⟨{}, st id, by decide +kernel⟩,
   ⟨{}, st id, by decide +kernel⟩,
   ⟨.dsp, {}, st id, by decide +kernel⟩,
   ⟨{}, st id, by decide +kernel⟩,
   ⟨{}, st id, by decide +kernel⟩,
   ⟨{}, st id, by decide +kernel⟩,
   ⟨.tie, st id, by decide +kernel⟩,
   ⟨st id, by decide +kernel⟩,
   ⟨st fun d => d.modSafety fun x => { x with a := { x.a with on := true } }, by decide +kernel⟩⟩

theorem test_meets_BootStepsTakeEffect :
    (∃ (x : NandPart) (ok : Bool) (s : State), (Running s) ∧ (s.dev.fg R.SYS_BOOT_STATUS F.SYS_BOOT_STATUS_STAGE = 0) ∧ (s.dev.locksUp.fg R.SYS_BOOT_STATUS F.SYS_BOOT_STATUS_BOOT_SRC ≠ 3)) ∧
    (∃ (x : NandPart) (ok : Bool) (s : State), (Running s) ∧ (s.dev.fg R.SYS_BOOT_STATUS F.SYS_BOOT_STATUS_STAGE = 0) ∧ (s.dev.locksUp.fg R.SYS_BOOT_STATUS F.SYS_BOOT_STATUS_BOOT_SRC = 3)) ∧
    (∃ (s : State), (Running s) ∧ (s.dev.fg R.SYS_BOOT_STATUS F.SYS_BOOT_STATUS_STAGE = 4)) :=
  ⟨⟨{}, true, st id, by decide +kernel⟩,
   ⟨{}, true, st fun d => d.fs R.SYS_BOOT_STATUS F.SYS_BOOT_STATUS_BOOT_SRC 3, by decide +kernel⟩,
   ⟨st fun d => d.fs R.SYS_BOOT_STATUS F.SYS_BOOT_STATUS_STAGE 4, by decide +kernel⟩⟩

theorem test_meets_HostWritesReachRegisters :
    (∃ (o : Nat) (w : Word) (s : State), (o % 4 = 0)) ∧
    (∃ (o : Nat) (w : Word) (s : State), (o % 4 ≠ 0)) ∧
    (∃ (o : Nat) (w h : Word) (s : State), (o % 4 = 0)) ∧
    (∃ (o : Nat) (lo hi : Word) (s : State), (o % 8 = 0)) ∧
    (∃ (o : Nat) (lo hi : Word) (s : State), (o % 8 ≠ 0)) ∧
    (∃ (o : Nat) (l : List Byte) (s : State), (Running s)) ∧
    (∃ (v : Fin 64) (k : Fin 4) (w : Word) (s : State), (Running s)) ∧
    (∃ (o n : Nat) (r : RegRow) (i j : Nat) (s : State), (Running s) ∧ (n = 1 ∨ n = 2 ∨ n = 4) ∧ (findReg (o - o % 4) = some (r, i, j, 0)) ∧ (r.w64 = true)) ∧
    (∃ (o n : Nat) (r : RegRow) (i j : Nat) (l : UpperLatch) (s : State), (Running s) ∧ (n = 1 ∨ n = 2 ∨ n = 4) ∧ (findReg (o - o % 4) = some (r, i, j, 1)) ∧ (s.dev.latches.find? (fun l => l.req = 0 && l.off + 4 = o - o % 4) = some l)) ∧
    (∃ (o n : Nat) (r : RegRow) (i j : Nat) (s : State), (Running s) ∧ (n = 1 ∨ n = 2 ∨ n = 4) ∧ (findReg (o - o % 4) = some (r, i, j, 0)) ∧ (r.w64 = false)) ∧
    (∃ (o : Nat) (s : State), (Running s)) ∧
    (∃ (o n : Nat) (s : State), (Running s)) ∧
    (∃ (o n : Nat) (s : State), (Running s)) ∧
    (∃ (v : Fin 64) (s : State), (Running s) ∧ (s.dev.evr.msiPend.contains v.val = false)) ∧
    (∃ (v : Fin 64) (s : State), (Running s) ∧ (s.dev.evr.msiPend.contains v.val = true)) ∧
    (∃ (o : Nat) (w : Word) (s : State), (Running s) ∧ (s.dev.dapAt 3 = true) ∧ (o % 4 = 0) ∧ (¬ (0xE0000 ≤ o ∧ o < 0xF0000)) ∧ (s.dev.dozing = false) ∧ (inTdMemory o = true)) :=
  ⟨⟨4, 1, st id, by decide +kernel⟩,
   ⟨6, 1, st id, by decide +kernel⟩,
   ⟨R.INTERP_GRP_EVENT 0, 3, 1, st id, by decide +kernel⟩,
   ⟨8, 1, 2, st id, by decide +kernel⟩,
   ⟨4, 1, 2, st id, by decide +kernel⟩,
   ⟨0x1000000, [1, 2], st id, by decide +kernel⟩,
   ⟨3, 0, 0x1000, st id, by decide +kernel⟩,
   ⟨R.SYS_TIME + 1, 1, ⟨R.SYS_TIME, 0, 1, 0, 1, true, 0, 0, 0, 0, 0, 0⟩, 0, 0, st id, by decide +kernel⟩,
   ⟨R.SYS_TIME + 4, 4, ⟨R.SYS_TIME, 0, 1, 0, 1, true, 0, 0, 0, 0, 0, 0⟩, 0, 0, { req := 0, off := R.SYS_TIME, upper := 7 }, st fun d => { d with latches := [{ req := 0, off := R.SYS_TIME, upper := 7 }] }, by decide +kernel⟩,
   ⟨R.SYS_BOOT_STATUS + 2, 2, ⟨R.SYS_BOOT_STATUS, 0, 1, 0, 1, false, 0, 0, 0, 0, 0, 0⟩, 0, 0, st id, by decide +kernel⟩,
   ⟨R.SYS_TIME, st id, by decide +kernel⟩,
   ⟨0x1000000, 4, st id, by decide +kernel⟩,
   ⟨16, 8, st id, by decide +kernel⟩,
   ⟨3, st id, by decide +kernel⟩,
   ⟨3, st fun d => { d with evr := { d.evr with msiPend := [3] } }, by decide +kernel⟩,
   ⟨0x200000, 7, st fun d => d.fsb R.DEBUG_STATUS F.DEBUG_STATUS_DAP true, by decide +kernel⟩⟩

theorem test_meets_DebugWriteOfParameters :
    (∃ (o : Nat) (w : Word) (s : State), (Running (s.hostWord o w)) ∧ (Running s) ∧ (s.dev.dapAt 3 = true) ∧ (o % 4 = 0) ∧ (¬ (0xE0000 ≤ o ∧ o < 0xF0000)) ∧ (s.dev.dozing = false) ∧ (inTdMemory o = false) ∧ (cpMask o ≠ 0)) ∧
    (∃ (o : Nat) (w : Word) (s : State), (Running s) ∧ (s.dev.dapAt 3 = true) ∧ (o % 4 = 0) ∧ (¬ (0xE0000 ≤ o ∧ o < 0xF0000)) ∧ (s.dev.dozing = false) ∧ (inTdMemory o = false) ∧ (cpMask o = 0)) ∧
    (∃ (o : Nat) (w : Word) (s : State), (0xE0000 ≤ o) ∧ (o < 0xF0000)) :=
  ⟨⟨R.AXIS_DECEL_QUICK 5, 7, st fun d => d.fsb R.DEBUG_STATUS F.DEBUG_STATUS_DAP true, by decide +kernel⟩,
   ⟨R.EVR_HOST_IDLE, 1, st fun d => d.fsb R.DEBUG_STATUS F.DEBUG_STATUS_DAP true, by decide +kernel⟩,
   ⟨0xE0000, 1, st id, by decide +kernel⟩⟩

theorem test_meets_TicksAndApplicationPoints :
    (∃ (n : Fin 4) (s : State), (Running s)) ∧
    (∃ (d : Dev) (n : Nat), (d.ticked.contains n = true) ∧ (d.clocks ≤ tabGet d.tickDue n)) ∧
    (∃ (d : Dev) (n : Nat), (d.disciplined n = false)) ∧
    (∃ (d : Dev) (n : Nat), (d.disciplined n = true) ∧ (d.laneFree n = false)) ∧
    (∃ (d : Dev) (n : Nat), (d.disciplined n = true) ∧ (d.laneFree n = true)) ∧
    (∃ (n : Fin 4) (s : State), (Running s)) ∧
    (∃ (d : Dev) (n : Nat), (d.ce.stopped = false) ∧ (d.loopNext n = true)) ∧
    (∃ (d : Dev) (n : Nat), (d.ce.stopped = true ∨ d.loopNext n = false)) ∧
    (∃ (lane : Option (Fin 4)) (s : State), (Running s)) :=
  ⟨⟨2, st id, by decide +kernel⟩,
   ⟨{ ticked := [1], tickDue := tabSet [] 1 5 }, 1, by decide +kernel⟩,
   ⟨({} : Dev).fsb (R.SYS_TICK_CTRL 1) F.SYS_TICK_CTRL_DISCIPLINE false, 1, by decide +kernel⟩,
   ⟨(({} : Dev).fsb (R.SYS_TICK_CTRL 0) F.SYS_TICK_CTRL_DISCIPLINE true).fs (R.AXIS_STATUS 3) F.AXIS_STATUS_STATE 2, 0, by decide +kernel⟩,
   ⟨({} : Dev).fsb (R.SYS_TICK_CTRL 0) F.SYS_TICK_CTRL_DISCIPLINE true, 0, by decide +kernel⟩,
   ⟨2, st id, by decide +kernel⟩,
   ⟨{}, 1, by decide +kernel⟩,
   ⟨({ ce := { stopped := true } } : Dev), 1, by decide +kernel⟩,
   ⟨some 1, st id, by decide +kernel⟩⟩

theorem test_meets_DoorbellsTakeEffect :
    (∃ (q : Fin 4) (w : Word) (s : State), (Running s) ∧ (s.dev.takesCommands = true) ∧ ((wbits w 15 0 + 65536 - s.dev.fg (R.CMDQ_FETCH q) F.CMDQ_FETCH_FETCH) % 65536 ≤ queueDepth q)) ∧
    (∃ (q : Fin 4) (w : Word) (s : State), (Running s) ∧ (s.dev.takesCommands = true) ∧ (queueDepth q < (wbits w 15 0 + 65536 - s.dev.fg (R.CMDQ_FETCH q) F.CMDQ_FETCH_FETCH) % 65536)) ∧
    (∃ (w : Word) (s : State), (Running s) ∧ (wbits w 5 0 = 0)) ∧
    (∃ (w : Word) (s : State), (Running s) ∧ (wbits w 5 0 ≠ 0)) ∧
    (∃ (w : Word) (ws : List Word) (s : State), (Running s)) ∧
    (∃ (lo hi : Word) (ws : List Word) (s : State), (Running s)) ∧
    (∃ (d : Dev) (lo : Word) (ws : List Word), (d.readsDoorbells = true)) ∧
    (∃ (d : Dev) (lo : Word) (ws : List Word), (d.readsDoorbells = false)) ∧
    (∃ (w : Word) (s : State), (Running s) ∧ (s.dev.takesCommands = true)) ∧
    (∃ (w : Word) (s : State), (Running s) ∧ (s.dev.takesCommands = true)) ∧
    (∃ (q : Fin 4) (w : List Word) (s : State), (Running s) ∧ (s.dev.fetches q = true) ∧ (s.dev.cmd.rings.valid = true) ∧ (tabGet s.dev.cmd.ringProd q ≠ s.dev.fg (R.CMDQ_FETCH q) F.CMDQ_FETCH_FETCH)) ∧
    (∃ (q : Fin 4) (ws : List Word) (s : State), (Running s) ∧ (s.dev.fetches q = true) ∧ (tabGet s.dev.cmd.xbuf q = ws) ∧ (ws ≠ [])) ∧
    (∃ (q : Fin 4) (ws : List Word) (s : State), (Running s) ∧ (s.dev.fetches q = true) ∧ (tabGet s.dev.cmd.xbuf (4 + q) = ws) ∧ (ws ≠ [])) :=
  ⟨⟨1, 3, st (fun d : Dev => d.fsb R.SYS_BOOT_STATUS F.SYS_BOOT_STATUS_READY true), by decide +kernel⟩,
   ⟨0, 17, st (fun d : Dev => d.fsb R.SYS_BOOT_STATUS F.SYS_BOOT_STATUS_READY true), by decide +kernel⟩,
   ⟨64, st id, by decide +kernel⟩,
   ⟨4, st id, by decide +kernel⟩,
   ⟨0, [], st id, by decide +kernel⟩,
   ⟨64, 0, [], st id, by decide +kernel⟩,
   ⟨((fun d : Dev => d.fsb R.SYS_BOOT_STATUS F.SYS_BOOT_STATUS_READY true) {}), 64, [], by decide +kernel⟩,
   ⟨{}, 64, [], by decide +kernel⟩,
   ⟨1, st (fun d : Dev => d.fsb R.SYS_BOOT_STATUS F.SYS_BOOT_STATUS_READY true), by decide +kernel⟩,
   ⟨1, st (fun d : Dev => d.fsb R.SYS_BOOT_STATUS F.SYS_BOOT_STATUS_READY true), by decide +kernel⟩,
   ⟨1, [], st fun d => (d.fsb R.SYS_BOOT_STATUS F.SYS_BOOT_STATUS_READY true).modCmd fun c => { c with rings := { valid := true }, ringProd := tabSet [] 1 1 }, by decide +kernel⟩,
   ⟨1, [1], st fun d => (d.fsb R.SYS_BOOT_STATUS F.SYS_BOOT_STATUS_READY true).modCmd fun c => { c with xbuf := tabSet c.xbuf 1 [1] }, by decide +kernel⟩,
   ⟨1, [1], st fun d => (d.fsb R.SYS_BOOT_STATUS F.SYS_BOOT_STATUS_READY true).modCmd fun c => { c with xbuf := tabSet c.xbuf 5 [1] }, by decide +kernel⟩⟩

theorem test_meets_TransportsTakeEffect :
    (∃ (w : Word) (pay : List Word) (rest : List (Option (List Word))) (s : State), (Running s) ∧ (s.dev.trv.cmdSlots = some (w :: pay) :: rest)) ∧
    (∃ (rest : List (Option (List Word))) (s : State), (Running s) ∧ (s.dev.trv.cmdSlots = none :: rest ∨ s.dev.trv.cmdSlots = some [] :: rest)) ∧
    (∃ (q : Fin 4) (ws : List Word) (s : State), (Running s) ∧ (tabGet s.dev.cmd.xbuf (4 + q) = [])) ∧
    (∃ (q : Fin 4) (ws : List Word) (s : State), (Running s) ∧ (tabGet s.dev.cmd.xbuf (4 + q) ≠ [])) ∧
    (∃ (r : Reply) (rest : List Reply) (s : State), (Running s) ∧ (s.dev.cmd.spiOut = r :: rest)) ∧
    (∃ (s : State), (Running s) ∧ (s.dev.cmd.spiOut = [])) ∧
    (∃ (s : State), (Running s)) ∧
    (∃ (p : Packet) (a : Accepted) (s : State), (Running s) ∧ (s.dev.cmd.accepted.find? (fun a => a.pkt = p) = some a) ∧ (a.started = true) ∧ (a.progressed = false)) :=
  ⟨⟨1, [], [], st fun d => { d with trv := { d.trv with cmdSlots := [some [1]] } }, by decide +kernel⟩,
   ⟨[], st fun d => { d with trv := { d.trv with cmdSlots := [none] } }, by decide +kernel⟩,
   ⟨2, [1], st id, by decide +kernel⟩,
   ⟨2, [1], st fun d => d.modCmd fun c => { c with xbuf := tabSet c.xbuf 6 [1] }, by decide +kernel⟩,
   ⟨{}, [], st fun d => d.modCmd fun c => { c with spiOut := [{}] }, by decide +kernel⟩,
   ⟨st id, by decide +kernel⟩,
   ⟨st id, by decide +kernel⟩,
   ⟨{}, { started := true }, st fun d => d.modCmd fun c => { c with accepted := [{ started := true }] }, by decide +kernel⟩⟩

theorem test_meets_SessionCommandsTakeEffect :
    (∃ (p : Packet) (s : State), (Running s) ∧ (s.dev.runsNow 3 (plainSpec 1 (fun _ => none) fun p => [pw p 3]) p = true)) ∧
    (∃ (p : Packet) (s : State), (Running s) ∧ (s.dev.runsNow 6 (plainSpec 0 (fun _ => none) fun _ => []) p = true)) ∧
    (∃ (p : Packet) (s : State), (Running s) ∧ (s.dev.runsNow 5 specDetach p = true)) ∧
    (∃ (p : Packet) (s : State), (Running s) ∧ (s.dev.runsNow 7 specReadJournal p = true)) ∧
    (∃ (p : Packet) (s : State), (Running s) ∧ (s.dev.runsNow 8 specResetDevice p = true)) ∧
    (∃ (p : Packet) (s : State), (Running s) ∧ (opNum p = 4) ∧ (p ∈ s.dev.cmd.unseq) ∧ (s.dev.cmd.heldUrgent.length < 16) ∧ (p.params = [])) ∧
    (∃ (p : Packet) (s : State), (Running s) ∧ (opNum p = 2) ∧ (p ∈ s.dev.cmd.unseq) ∧ (s.dev.cmd.heldUrgent.length < 16) ∧ (p.params = []) ∧ (s.dev.inRecovery = false)) ∧
    (∃ (p : Packet) (s : State), (Running s) ∧ (s.dev.cmd.unseq.find? (fun r => opNum r = 1) = some p) ∧ (lenCheck p (if p.xport = .pcie then 16 else 1) = none) ∧ (attachCheck p = none)) :=
  ⟨⟨{ q := 2, opcode := 3, tclass := 0, tindex := 0, params := [7] }, st (fun d : Dev => d.modCmd fun c => { c with accepted := [{ pkt := { q := 2, opcode := 3, tclass := 0, tindex := 0, params := [7] } }] }), by decide +kernel⟩,
   ⟨{ q := 2, opcode := 6, tclass := 0, tindex := 0, params := [] }, st (fun d : Dev => d.modCmd fun c => { c with accepted := [{ pkt := { q := 2, opcode := 6, tclass := 0, tindex := 0, params := [] } }] }), by decide +kernel⟩,
   ⟨{ q := 2, opcode := 5, tclass := 0, tindex := 0, params := [] }, st (fun d : Dev => d.modCmd fun c => { c with accepted := [{ pkt := { q := 2, opcode := 5, tclass := 0, tindex := 0, params := [] } }] }), by decide +kernel⟩,
   ⟨{ q := 2, opcode := 7, tclass := 0, tindex := 0, params := [0, 1] }, st fun d => (fun d : Dev => d.modCmd fun c => { c with accepted := [{ pkt := { q := 2, opcode := 7, tclass := 0, tindex := 0, params := [0, 1] } }] }) (d.modCmd fun c => { c with journal := [{}], nextEsn := 1 }), by decide +kernel⟩,
   ⟨{ q := 2, opcode := 8, tclass := 0, tindex := 0, params := [0xA5C3] }, st (fun d : Dev => d.modCmd fun c => { c with accepted := [{ pkt := { q := 2, opcode := 8, tclass := 0, tindex := 0, params := [0xA5C3] } }] }), by decide +kernel⟩,
   ⟨{ q := 2, opcode := 4, tclass := 0, tindex := 0, params := [] }, st (fun d : Dev => d.modCmd fun c => { c with unseq := [{ q := 2, opcode := 4, tclass := 0, tindex := 0, params := [] }] }), by decide +kernel⟩,
   ⟨{ q := 2, opcode := 2, tclass := 0, tindex := 0, params := [] }, st (fun d : Dev => d.modCmd fun c => { c with unseq := [{ q := 2, opcode := 2, tclass := 0, tindex := 0, params := [] }] }), by decide +kernel⟩,
   ⟨{ xport := .spi, opcode := 1, params := [2] }, st (fun d : Dev => d.modCmd fun c => { c with unseq := [{ xport := .spi, opcode := 1, params := [2] }] }), by decide +kernel⟩⟩

theorem test_meets_ParameterCommandsTakeEffect : (∃ (p : Packet) (s : State), Running s ∧ s.dev.runsNow 0x0100 specParam p = true) ∧
    (∃ (p : Packet) (s : State), Running s ∧ s.dev.runsNow 0x0101 specParam p = true) ∧
    (∃ (p : Packet) (s : State), Running s ∧ s.dev.runsNow 0x0102 specParam p = true) ∧
    (∃ (p : Packet) (s : State), Running s ∧ s.dev.runsNow 0x0103 specParam p = true) ∧
    (∃ (p : Packet) (s : State), Running s ∧ s.dev.runsNow 0x0104 specSaveConfigSet p = true) ∧
    (∃ (p : Packet) (s : State), Running s ∧ s.dev.runsNow 0x0105 specLoadConfigSet p = true) ∧
    (∃ (p : Packet) (s : State), Running s ∧ s.dev.runsNow 0x0106 specSelectBootConfig p = true) := ⟨⟨{ q := 2, opcode := 0x0100, tclass := 0, tindex := 0, params := [0x50100, 0xFFFFFFFF, 0] }, st fun d => (fun d : Dev => d.modCmd fun c => { c with accepted := [{ pkt := { q := 2, opcode := 0x0100, tclass := 0, tindex := 0, params := [0x50100, 0xFFFFFFFF, 0] } }] }) ((fun d : Dev => d) d), by decide +kernel⟩,
   ⟨{ q := 2, opcode := 0x0101, tclass := 0, tindex := 0, params := [0x18020, 0x42400000, 0xF] }, st fun d => (fun d : Dev => d.modCmd fun c => { c with accepted := [{ pkt := { q := 2, opcode := 0x0101, tclass := 0, tindex := 0, params := [0x18020, 0x42400000, 0xF] } }] }) ((fun d : Dev => d) d), by decide +kernel⟩,
   ⟨{ q := 2, opcode := 0x0102, tclass := 0, tindex := 0, params := [1, 0x5A058, 0x3F800000] }, st fun d => (fun d : Dev => d.modCmd fun c => { c with accepted := [{ pkt := { q := 2, opcode := 0x0102, tclass := 0, tindex := 0, params := [1, 0x5A058, 0x3F800000] } }] }) ((fun d : Dev => d) d), by decide +kernel⟩,
   ⟨{ q := 2, opcode := 0x0103, tclass := 0, tindex := 0, params := [0, 1] }, st fun d => (fun d : Dev => d.modCmd fun c => { c with accepted := [{ pkt := { q := 2, opcode := 0x0103, tclass := 0, tindex := 0, params := [0, 1] } }] }) ((fun d : Dev => d) d), by decide +kernel⟩,
   ⟨{ q := 2, opcode := 0x0104, tclass := 8, tindex := 0, params := [] }, st fun d => (fun d : Dev => d.modCmd fun c => { c with accepted := [{ pkt := { q := 2, opcode := 0x0104, tclass := 8, tindex := 0, params := [] } }] }) ((fun d : Dev => d) d), by decide +kernel⟩,
   ⟨{ q := 2, opcode := 0x0105, tclass := 8, tindex := 0, params := [] }, st fun d => (fun d : Dev => d.modCmd fun c => { c with accepted := [{ pkt := { q := 2, opcode := 0x0105, tclass := 8, tindex := 0, params := [] } }] }) ((fun d : Dev => (fun d : Dev => d.fsb R.STORE_STATUS F.STORE_STATUS_MOUNTED true) ((fun d : Dev => { d with store := { d.store with objs := [{ part := 3, num := 0, seq := 1, bytes := [] }] } }) (d))) d), by decide +kernel⟩,
   ⟨{ q := 2, opcode := 0x0106, tclass := 8, tindex := 3, params := [] }, st fun d => (fun d : Dev => d.modCmd fun c => { c with accepted := [{ pkt := { q := 2, opcode := 0x0106, tclass := 8, tindex := 3, params := [] } }] }) ((fun d : Dev => d) d), by decide +kernel⟩⟩

theorem test_meets_AxisCommandsTakeEffect : (∃ (p : Packet) (s : State), Running s ∧ s.dev.runsNow 0x0200 specEnable p = true) ∧
    (∃ (p : Packet) (s : State), Running s ∧ s.dev.runsNow 0x0201 specDisable p = true) ∧
    (∃ (p : Packet) (s : State), Running s ∧ s.dev.runsNow 0x0202 specStop p = true) ∧
    (∃ (p : Packet) (s : State), Running s ∧ s.dev.runsNow 0x0203 specHome p = true) ∧
    (∃ (p : Packet) (s : State), Running s ∧ s.dev.runsNow 0x0204 specResetFault p = true) ∧
    (∃ (p : Packet) (s : State), Running s ∧ s.dev.runsNow 0x0205 specBindAxis p = true) := ⟨⟨{ q := 1, opcode := 0x0200, tclass := 1, tindex := 16, params := [] }, st fun d => (fun d : Dev => d.modCmd fun c => { c with accepted := [{ pkt := { q := 1, opcode := 0x0200, tclass := 1, tindex := 16, params := [] } }] }) ((fun d : Dev => ((((((((((((d.wr (R.AXIS_BIND 16) 0x82301010).wr (R.AXIS_BIND_IN 16) 0xFFFFFF28).wr 0x70054 0x80140000).wr 0x71500 0x82000200).wr 0x80400 0x40020000).wr 0x80440 0x40020000).wr 0x18020 0x42400000).wr 0x18024 0xF).wr 0x18028 0x84800000).wr 0x1802C 0x1E).wr 0x5A058 0x3F800000).wr 0x61008 0)) d), by decide +kernel⟩,
   ⟨{ q := 1, opcode := 0x0201, tclass := 1, tindex := 16, params := [] }, st fun d => (fun d : Dev => d.modCmd fun c => { c with accepted := [{ pkt := { q := 1, opcode := 0x0201, tclass := 1, tindex := 16, params := [] } }] }) ((fun d : Dev => d) d), by decide +kernel⟩,
   ⟨{ q := 1, opcode := 0x0202, tclass := 1, tindex := 16, params := [2] }, st fun d => (fun d : Dev => d.modCmd fun c => { c with accepted := [{ pkt := { q := 1, opcode := 0x0202, tclass := 1, tindex := 16, params := [2] } }] }) ((fun d : Dev => d.fs (R.AXIS_STATUS 16) F.AXIS_STATUS_STATE 3) d), by decide +kernel⟩,
   ⟨{ q := 1, opcode := 0x0203, tclass := 1, tindex := 16, params := [] }, st fun d => (fun d : Dev => d.modCmd fun c => { c with accepted := [{ pkt := { q := 1, opcode := 0x0203, tclass := 1, tindex := 16, params := [] } }] }) ((fun d : Dev => d.fs (R.AXIS_STATUS 16) F.AXIS_STATUS_STATE 2) d), by decide +kernel⟩,
   ⟨{ q := 1, opcode := 0x0204, tclass := 1, tindex := 16, params := [] }, st fun d => (fun d : Dev => d.modCmd fun c => { c with accepted := [{ pkt := { q := 1, opcode := 0x0204, tclass := 1, tindex := 16, params := [] } }] }) ((fun d : Dev => d.fs (R.AXIS_STATUS 16) F.AXIS_STATUS_STATE 5) d), by decide +kernel⟩,
   ⟨{ q := 1, opcode := 0x0205, tclass := 1, tindex := 16, params := [0x82301010, 0xFFFFFF28] }, st fun d => (fun d : Dev => d.modCmd fun c => { c with accepted := [{ pkt := { q := 1, opcode := 0x0205, tclass := 1, tindex := 16, params := [0x82301010, 0xFFFFFF28] } }] }) ((fun d : Dev => (d.wr 0x71500 0x82000200)) d), by decide +kernel⟩⟩

theorem test_meets_MotionCommandsTakeEffect : (∃ (p : Packet) (s : State), Running s ∧ s.dev.runsNow 0x0300 specSegment p = true) ∧
    (∃ (p : Packet) (s : State), Running s ∧ s.dev.runsNow 0x0301 specGroupStart p = true) ∧
    (∃ (p : Packet) (s : State), Running s ∧ s.dev.runsNow 0x0302 specGroupHold p = true) ∧
    (∃ (p : Packet) (s : State), Running s ∧ s.dev.runsNow 0x0303 specOverride p = true) ∧
    (∃ (p : Packet) (s : State), Running s ∧ s.dev.runsNow 0x0304 specFlushGroup p = true) ∧
    (∃ (p : Packet) (s : State), Running s ∧ s.dev.runsNow 0x0305 specMoveAxis p = true) ∧
    (∃ (p : Packet) (s : State), Running s ∧ s.dev.runsNow 0x0400 specGearEngage p = true) ∧
    (∃ (p : Packet) (s : State), Running s ∧ s.dev.runsNow 0x0401 specGearDisengage p = true) ∧
    (∃ (p : Packet) (s : State), Running s ∧ s.dev.runsNow 0x0402 specCamLoad p = true) ∧
    (∃ (p : Packet) (s : State), Running s ∧ s.dev.runsNow 0x0403 specCamEngage p = true) := ⟨⟨{ q := 1, opcode := 0x0300, tclass := 2, tindex := 0, params := [0x40000000, 0, 1000] }, st fun d => (fun d : Dev => d.modCmd fun c => { c with accepted := [{ pkt := { q := 1, opcode := 0x0300, tclass := 2, tindex := 0, params := [0x40000000, 0, 1000] } }] }) ((fun d : Dev => (fun d : Dev => (((d.wr (R.INTERP_AXLIM_VMAX 16 + 0) 0x10000).wr (R.INTERP_AXLIM_AMAX 16 + 0) 0x10000).wr (R.INTERP_AXLIM_JMAX 16 + 0) 0x10000)) ((fun d : Dev => d.fs (R.AXIS_STATUS 16) F.AXIS_STATUS_STATE 2) ((fun d : Dev => ((d.wr (R.INTERP_GRP_MEMBERS 0) 0xFFFFFF10).wr (R.INTERP_GRP_MEMBERS 0 + 4) 0xFFFFFFFF)) (d)))) d), by decide +kernel⟩,
   ⟨{ q := 1, opcode := 0x0301, tclass := 2, tindex := 0, params := [] }, st fun d => (fun d : Dev => d.modCmd fun c => { c with accepted := [{ pkt := { q := 1, opcode := 0x0301, tclass := 2, tindex := 0, params := [] } }] }) ((fun d : Dev => (fun d : Dev => (((d.wr (R.INTERP_AXLIM_VMAX 16 + 0) 0x10000).wr (R.INTERP_AXLIM_AMAX 16 + 0) 0x10000).wr (R.INTERP_AXLIM_JMAX 16 + 0) 0x10000)) ((fun d : Dev => d.fs (R.AXIS_STATUS 16) F.AXIS_STATUS_STATE 2) ((fun d : Dev => ((d.wr (R.INTERP_GRP_MEMBERS 0) 0xFFFFFF10).wr (R.INTERP_GRP_MEMBERS 0 + 4) 0xFFFFFFFF)) (d)))) d), by decide +kernel⟩,
   ⟨{ q := 1, opcode := 0x0302, tclass := 2, tindex := 0, params := [1] }, st fun d => (fun d : Dev => d.modCmd fun c => { c with accepted := [{ pkt := { q := 1, opcode := 0x0302, tclass := 2, tindex := 0, params := [1] } }] }) ((fun d : Dev => d.fs (R.INTERP_GRP_STATUS 0) F.INTERP_GRP_STATUS_STATE 1) d), by decide +kernel⟩,
   ⟨{ q := 1, opcode := 0x0303, tclass := 2, tindex := 0, params := [5000] }, st fun d => (fun d : Dev => d.modCmd fun c => { c with accepted := [{ pkt := { q := 1, opcode := 0x0303, tclass := 2, tindex := 0, params := [5000] } }] }) ((fun d : Dev => d) d), by decide +kernel⟩,
   ⟨{ q := 1, opcode := 0x0304, tclass := 2, tindex := 0, params := [] }, st fun d => (fun d : Dev => d.modCmd fun c => { c with accepted := [{ pkt := { q := 1, opcode := 0x0304, tclass := 2, tindex := 0, params := [] } }] }) ((fun d : Dev => d.fs (R.INTERP_GRP_STATUS 0) F.INTERP_GRP_STATUS_STATE 2) d), by decide +kernel⟩,
   ⟨{ q := 1, opcode := 0x0305, tclass := 1, tindex := 16, params := [0, 0, 0, 0, 0x10000, 0, 0x10000, 0, 0x10000, 0] }, st fun d => (fun d : Dev => d.modCmd fun c => { c with accepted := [{ pkt := { q := 1, opcode := 0x0305, tclass := 1, tindex := 16, params := [0, 0, 0, 0, 0x10000, 0, 0x10000, 0, 0x10000, 0] } }] }) ((fun d : Dev => (fun d : Dev => (((d.wr (R.INTERP_AXLIM_VMAX 16 + 0) 0x10000).wr (R.INTERP_AXLIM_AMAX 16 + 0) 0x10000).wr (R.INTERP_AXLIM_JMAX 16 + 0) 0x10000)) ((fun d : Dev => d.fs (R.AXIS_STATUS 16) F.AXIS_STATUS_STATE 2) (d))) d), by decide +kernel⟩,
   ⟨{ q := 1, opcode := 0x0400, tclass := 1, tindex := 16, params := [0x20000011, 1, 1, 0, 0, 0, 0] }, st fun d => (fun d : Dev => d.modCmd fun c => { c with accepted := [{ pkt := { q := 1, opcode := 0x0400, tclass := 1, tindex := 16, params := [0x20000011, 1, 1, 0, 0, 0, 0] } }] }) ((fun d : Dev => d.fs (R.AXIS_STATUS 16) F.AXIS_STATUS_STATE 2) d), by decide +kernel⟩,
   ⟨{ q := 1, opcode := 0x0401, tclass := 1, tindex := 16, params := [] }, st fun d => (fun d : Dev => d.modCmd fun c => { c with accepted := [{ pkt := { q := 1, opcode := 0x0401, tclass := 1, tindex := 16, params := [] } }] }) ((fun d : Dev => d.modAx 16 fun x => { x with fol := some {} }) d), by decide +kernel⟩,
   ⟨{ q := 3, opcode := 0x0402, tclass := 0, tindex := 0, params := [0, 1, 0, 1, 2, 3, 4] }, st fun d => (fun d : Dev => d.modCmd fun c => { c with accepted := [{ pkt := { q := 3, opcode := 0x0402, tclass := 0, tindex := 0, params := [0, 1, 0, 1, 2, 3, 4] } }] }) ((fun d : Dev => d) d), by decide +kernel⟩,
   ⟨{ q := 1, opcode := 0x0403, tclass := 1, tindex := 16, params := [0x20000011, 0, 0, 0, 0] }, st fun d => (fun d : Dev => d.modCmd fun c => { c with accepted := [{ pkt := { q := 1, opcode := 0x0403, tclass := 1, tindex := 16, params := [0x20000011, 0, 0, 0, 0] } }] }) ((fun d : Dev => (fun d : Dev => ((d.wr (R.INTERP_CAM_PROF 0) 0x00020000).wr (R.INTERP_CAM_LEN 0) 1)) ((fun d : Dev => d.fs (R.AXIS_STATUS 16) F.AXIS_STATUS_STATE 2) (d))) d), by decide +kernel⟩⟩

theorem test_meets_FixCompareDspTraceCommandsTakeEffect : (∃ (p : Packet) (s : State), Running s ∧ s.dev.runsNow 0x0500 specFixArm p = true) ∧
    (∃ (p : Packet) (s : State), Running s ∧ s.dev.runsNow 0x0501 specCompareLoad p = true) ∧
    (∃ (p : Packet) (s : State), Running s ∧ s.dev.runsNow 0x0502 specCompareEnable p = true) ∧
    (∃ (p : Packet) (s : State), Running s ∧ s.dev.runsNow 0x0600 specDspLoadImage p = true) ∧
    (∃ (p : Packet) (s : State), Running s ∧ s.dev.runsNow 0x0601 specDspStart p = true) ∧
    (∃ (p : Packet) (s : State), Running s ∧ s.dev.runsNow 0x0602 specDspHalt p = true) ∧
    (∃ (p : Packet) (s : State), Running s ∧ s.dev.runsNow 0x0603 specDspBindHook p = true) ∧
    (∃ (p : Packet) (s : State), Running s ∧ s.dev.runsNow 0x0700 specTraceConfig p = true) ∧
    (∃ (p : Packet) (s : State), Running s ∧ s.dev.runsNow 0x0701 specTraceStream p = true) ∧
    (∃ (p : Packet) (s : State), Running s ∧ s.dev.runsNow 0x0702 specSnapshot p = true) := ⟨⟨{ q := 1, opcode := 0x0500, tclass := 7, tindex := 3, params := [1] }, st fun d => (fun d : Dev => d.modCmd fun c => { c with accepted := [{ pkt := { q := 1, opcode := 0x0500, tclass := 7, tindex := 3, params := [1] } }] }) ((fun d : Dev => d) d), by decide +kernel⟩,
   ⟨{ q := 3, opcode := 0x0501, tclass := 0, tindex := 0, params := [0, 1, 0, 1, 2] }, st fun d => (fun d : Dev => d.modCmd fun c => { c with accepted := [{ pkt := { q := 3, opcode := 0x0501, tclass := 0, tindex := 0, params := [0, 1, 0, 1, 2] } }] }) ((fun d : Dev => d) d), by decide +kernel⟩,
   ⟨{ q := 1, opcode := 0x0502, tclass := 7, tindex := 3, params := [0] }, st fun d => (fun d : Dev => d.modCmd fun c => { c with accepted := [{ pkt := { q := 1, opcode := 0x0502, tclass := 7, tindex := 3, params := [0] } }] }) ((fun d : Dev => d) d), by decide +kernel⟩,
   ⟨{ q := 3, opcode := 0x0600, tclass := 4, tindex := 0, params := [0, 72] }, st fun d => (fun d : Dev => d.modCmd fun c => { c with accepted := [{ pkt := { q := 3, opcode := 0x0600, tclass := 4, tindex := 0, params := [0, 72] } }] }) ((fun d : Dev => d.setBulkBytes (imageBase 0) (([0x34364454, 0x10000, 8, 0, 0, 0, 0, 0x8C28B28A] ++ List.replicate 10 (0 : Word)).flatMap wordBytes)) d), by decide +kernel⟩,
   ⟨{ q := 2, opcode := 0x0601, tclass := 4, tindex := 0, params := [0] }, st fun d => (fun d : Dev => d.modCmd fun c => { c with accepted := [{ pkt := { q := 2, opcode := 0x0601, tclass := 4, tindex := 0, params := [0] } }] }) ((fun d : Dev => d.setTdState 0 1) d), by decide +kernel⟩,
   ⟨{ q := 2, opcode := 0x0602, tclass := 4, tindex := 0, params := [] }, st fun d => (fun d : Dev => d.modCmd fun c => { c with accepted := [{ pkt := { q := 2, opcode := 0x0602, tclass := 4, tindex := 0, params := [] } }] }) ((fun d : Dev => d.setTdState 0 2) d), by decide +kernel⟩,
   ⟨{ q := 2, opcode := 0x0603, tclass := 4, tindex := 0, params := [0x80000000] }, st fun d => (fun d : Dev => d.modCmd fun c => { c with accepted := [{ pkt := { q := 2, opcode := 0x0603, tclass := 4, tindex := 0, params := [0x80000000] } }] }) ((fun d : Dev => d) d), by decide +kernel⟩,
   ⟨{ q := 2, opcode := 0x0700, tclass := 0, tindex := 0, params := [0] }, st fun d => (fun d : Dev => d.modCmd fun c => { c with accepted := [{ pkt := { q := 2, opcode := 0x0700, tclass := 0, tindex := 0, params := [0] } }] }) ((fun d : Dev => d) d), by decide +kernel⟩,
   ⟨{ q := 3, opcode := 0x0701, tclass := 0, tindex := 0, params := [0] }, st fun d => (fun d : Dev => d.modCmd fun c => { c with accepted := [{ pkt := { q := 3, opcode := 0x0701, tclass := 0, tindex := 0, params := [0] } }] }) ((fun d : Dev => d) d), by decide +kernel⟩,
   ⟨{ q := 2, opcode := 0x0702, tclass := 0, tindex := 0, params := [] }, st fun d => (fun d : Dev => d.modCmd fun c => { c with accepted := [{ pkt := { q := 2, opcode := 0x0702, tclass := 0, tindex := 0, params := [] } }] }) ((fun d : Dev => d) d), by decide +kernel⟩⟩

theorem test_meets_BusFieldSafetyPairCommandsTakeEffect : (∃ (p : Packet) (s : State), Running s ∧ s.dev.runsNow 0x0A00 specTraverseJoin p = true) ∧
    (∃ (p : Packet) (s : State), Running s ∧ s.dev.runsNow 0x0A01 specTraverseLeave p = true) ∧
    (∃ (p : Packet) (s : State), Running s ∧ s.dev.runsNow 0x0A02 specCanEnable p = true) ∧
    (∃ (p : Packet) (s : State), Running s ∧ s.dev.runsNow 0x0A03 specCanSend p = true) ∧
    (∃ (p : Packet) (s : State), Running s ∧ s.dev.runsNow 0x0800 specOutputWrite p = true) ∧
    (∃ (p : Packet) (s : State), Running s ∧ s.dev.runsNow 0x0801 specOutputGroupEnable p = true) ∧
    (∃ (p : Packet) (s : State), Running s ∧ s.dev.runsNow 0x0B00 specSafetySetLoad p = true) ∧
    (∃ (p : Packet) (s : State), Running s ∧ s.dev.runsNow 0x0B01 specSafetySetCommit p = true) ∧
    (∃ (p : Packet) (s : State), Running s ∧ s.dev.runsNow 0x0D00 specPairStatus p = true) ∧
    (∃ (p : Packet) (s : State), Running s ∧ s.dev.runsNow 0x0D01 specPairSwitchover p = true) := ⟨⟨{ q := 2, opcode := 0x0A00, tclass := 0, tindex := 0, params := [1000] }, st fun d => (fun d : Dev => d.modCmd fun c => { c with accepted := [{ pkt := { q := 2, opcode := 0x0A00, tclass := 0, tindex := 0, params := [1000] } }] }) ((fun d : Dev => (((((d.fs R.TRV_CYCLE F.TRV_CYCLE_NSLOT 1).fs R.TRV_CYCLE F.TRV_CYCLE_CYCLE 1000).fs (R.TRV_SLOT 0) F.TRV_SLOT_KIND 1).fs (R.TRV_SLOT_X 0) F.TRV_SLOT_X_WORDS 4).fs R.TRV_TIMING F.TRV_TIMING_AP 20).fs R.TRV_TIMING F.TRV_TIMING_WIN 20) d), by decide +kernel⟩,
   ⟨{ q := 2, opcode := 0x0A01, tclass := 0, tindex := 0, params := [] }, st fun d => (fun d : Dev => d.modCmd fun c => { c with accepted := [{ pkt := { q := 2, opcode := 0x0A01, tclass := 0, tindex := 0, params := [] } }] }) ((fun d : Dev => d.setTrvState 3) d), by decide +kernel⟩,
   ⟨{ q := 2, opcode := 0x0A02, tclass := 5, tindex := 0, params := [0] }, st fun d => (fun d : Dev => d.modCmd fun c => { c with accepted := [{ pkt := { q := 2, opcode := 0x0A02, tclass := 5, tindex := 0, params := [0] } }] }) ((fun d : Dev => d.setCanState 0 2) d), by decide +kernel⟩,
   ⟨{ q := 2, opcode := 0x0A03, tclass := 5, tindex := 0, params := [0, 5] }, st fun d => (fun d : Dev => d.modCmd fun c => { c with accepted := [{ pkt := { q := 2, opcode := 0x0A03, tclass := 5, tindex := 0, params := [0, 5] } }] }) ((fun d : Dev => d.setCanState 0 2) d), by decide +kernel⟩,
   ⟨{ q := 2, opcode := 0x0800, tclass := 0, tindex := 0, params := [1, 0, 0, 0] }, st fun d => (fun d : Dev => d.modCmd fun c => { c with accepted := [{ pkt := { q := 2, opcode := 0x0800, tclass := 0, tindex := 0, params := [1, 0, 0, 0] } }] }) ((fun d : Dev => d) d), by decide +kernel⟩,
   ⟨{ q := 2, opcode := 0x0801, tclass := 0, tindex := 0, params := [0x80000001] }, st fun d => (fun d : Dev => d.modCmd fun c => { c with accepted := [{ pkt := { q := 2, opcode := 0x0801, tclass := 0, tindex := 0, params := [0x80000001] } }] }) ((fun d : Dev => d) d), by decide +kernel⟩,
   ⟨{ q := 2, opcode := 0x0B00, tclass := 0, tindex := 0, params := [0, 128] }, st fun d => (fun d : Dev => d.modCmd fun c => { c with accepted := [{ pkt := { q := 2, opcode := 0x0B00, tclass := 0, tindex := 0, params := [0, 128] } }] }) ((fun d : Dev => (d.setBulkBytes stagingBase (([0x53465836, 0x10000] ++ List.replicate 29 (0 : Word) ++ [0x8EFCD770]).flatMap wordBytes)).modSafety fun s => { s with a := { s.a with on := true }, b := { s.b with on := true } }) d), by decide +kernel⟩,
   ⟨{ q := 2, opcode := 0x0B01, tclass := 0, tindex := 0, params := [1, 0] }, st fun d => (fun d : Dev => d.modCmd fun c => { c with accepted := [{ pkt := { q := 2, opcode := 0x0B01, tclass := 0, tindex := 0, params := [1, 0] } }] }) ((fun d : Dev => d) d), by decide +kernel⟩,
   ⟨{ q := 2, opcode := 0x0D00, tclass := 0, tindex := 0, params := [] }, st fun d => (fun d : Dev => d.modCmd fun c => { c with accepted := [{ pkt := { q := 2, opcode := 0x0D00, tclass := 0, tindex := 0, params := [] } }] }) ((fun d : Dev => d) d), by decide +kernel⟩,
   ⟨{ q := 2, opcode := 0x0D01, tclass := 0, tindex := 0, params := [] }, st fun d => (fun d : Dev => d.modCmd fun c => { c with accepted := [{ pkt := { q := 2, opcode := 0x0D01, tclass := 0, tindex := 0, params := [] } }] }) ((fun d : Dev => (((((d.fsb R.PAIR_CFG F.PAIR_CFG_EN true).fs R.PAIR_STATUS F.PAIR_STATUS_STATE 3).fs R.PAIR_STATUS F.PAIR_STATUS_PARTNER 5).fsb R.PAIR_STATUS F.PAIR_STATUS_LINK_UP true).fsb R.PAIR_STATUS F.PAIR_STATUS_CFG_MATCH true).fsb R.PAIR_STATUS F.PAIR_STATUS_SAFE_MATCH true) d), by decide +kernel⟩⟩

theorem test_meets_StoreSecuritySquallCommandsTakeEffect : (∃ (p : Packet) (s : State), Running s ∧ s.dev.runsNow 0x0900 specStoreWrite p = true) ∧
    (∃ (p : Packet) (s : State), Running s ∧ s.dev.runsNow 0x0901 specStoreRead p = true) ∧
    (∃ (p : Packet) (s : State), Running s ∧ s.dev.runsNow 0x0902 specStoreErase p = true) ∧
    (∃ (p : Packet) (s : State), Running s ∧ s.dev.runsNow 0x0C00 specDebugChallenge p = true) ∧
    (∃ (p : Packet) (s : State), Running s ∧ s.dev.runsNow 0x0C01 specDebugUnlock p = true) ∧
    (∃ (p : Packet) (s : State), Running s ∧ s.dev.runsNow 0x0C02 specKeyRevoke p = true) ∧
    (∃ (p : Packet) (s : State), Running s ∧ s.dev.runsNow 0x0C03 specLifecycleAdvance p = true) ∧
    (∃ (p : Packet) (s : State), Running s ∧ s.dev.runsNow 0x0E00 specSquallConfig p = true) ∧
    (∃ (p : Packet) (s : State), Running s ∧ s.dev.runsNow 0x0E01 specSquallArm p = true) ∧
    (∃ (p : Packet) (s : State), Running s ∧ s.dev.runsNow 0x0E02 specSelfTest p = true) ∧
    (∃ (p : Packet) (s : State), Running s ∧ s.dev.runsNow 0x0903 specImageInstall p = true) := ⟨⟨{ q := 3, opcode := 0x0900, tclass := 0, tindex := 0, params := [0x04000001, 0, 16] }, st fun d => (fun d : Dev => d.modCmd fun c => { c with accepted := [{ pkt := { q := 3, opcode := 0x0900, tclass := 0, tindex := 0, params := [0x04000001, 0, 16] } }] }) ((fun d : Dev => d.fsb R.STORE_STATUS F.STORE_STATUS_MOUNTED true) d), by decide +kernel⟩,
   ⟨{ q := 3, opcode := 0x0901, tclass := 0, tindex := 0, params := [0x04000001, 0, 16] }, st fun d => (fun d : Dev => d.modCmd fun c => { c with accepted := [{ pkt := { q := 3, opcode := 0x0901, tclass := 0, tindex := 0, params := [0x04000001, 0, 16] } }] }) ((fun d : Dev => (fun d : Dev => d.fsb R.STORE_STATUS F.STORE_STATUS_MOUNTED true) ((fun d : Dev => { d with store := { d.store with objs := [{ part := 4, num := 1, seq := 1, bytes := [] }] } }) (d))) d), by decide +kernel⟩,
   ⟨{ q := 3, opcode := 0x0902, tclass := 0, tindex := 0, params := [0x04000001] }, st fun d => (fun d : Dev => d.modCmd fun c => { c with accepted := [{ pkt := { q := 3, opcode := 0x0902, tclass := 0, tindex := 0, params := [0x04000001] } }] }) ((fun d : Dev => (fun d : Dev => d.fsb R.STORE_STATUS F.STORE_STATUS_MOUNTED true) ((fun d : Dev => { d with store := { d.store with objs := [{ part := 4, num := 1, seq := 1, bytes := [] }] } }) (d))) d), by decide +kernel⟩,
   ⟨{ q := 2, opcode := 0x0C00, tclass := 0, tindex := 0, params := [] }, st fun d => (fun d : Dev => d.modCmd fun c => { c with accepted := [{ pkt := { q := 2, opcode := 0x0C00, tclass := 0, tindex := 0, params := [] } }] }) ((fun d : Dev => d) d), by decide +kernel⟩,
   ⟨{ q := 2, opcode := 0x0C01, tclass := 0, tindex := 0, params := [2] }, st fun d => (fun d : Dev => d.modCmd fun c => { c with accepted := [{ pkt := { q := 2, opcode := 0x0C01, tclass := 0, tindex := 0, params := [2] } }] }) ((fun d : Dev => d) d), by decide +kernel⟩,
   ⟨{ q := 2, opcode := 0x0C02, tclass := 0, tindex := 0, params := (0x00010001 :: List.replicate 32 0) }, st fun d => (fun d : Dev => d.modCmd fun c => { c with accepted := [{ pkt := { q := 2, opcode := 0x0C02, tclass := 0, tindex := 0, params := (0x00010001 :: List.replicate 32 0) } }] }) ((fun d : Dev => d.fs R.SEC_LC F.SEC_LC_STATE 2) d), by decide +kernel⟩,
   ⟨{ q := 2, opcode := 0x0C03, tclass := 0, tindex := 0, params := ([2] ++ List.replicate 8 1 ++ List.replicate 8 2 ++ [0]) }, st fun d => (fun d : Dev => d.modCmd fun c => { c with accepted := [{ pkt := { q := 2, opcode := 0x0C03, tclass := 0, tindex := 0, params := ([2] ++ List.replicate 8 1 ++ List.replicate 8 2 ++ [0]) } }] }) ((fun d : Dev => d.fs R.SEC_LC F.SEC_LC_STATE 1) d), by decide +kernel⟩,
   ⟨{ q := 2, opcode := 0x0E00, tclass := 0, tindex := 0, params := [0, 0, 0, 0] }, st fun d => (fun d : Dev => d.modCmd fun c => { c with accepted := [{ pkt := { q := 2, opcode := 0x0E00, tclass := 0, tindex := 0, params := [0, 0, 0, 0] } }] }) ((fun d : Dev => d.fs R.DEBUG_STATUS F.DEBUG_STATUS_LEVEL 3) d), by decide +kernel⟩,
   ⟨{ q := 2, opcode := 0x0E01, tclass := 0, tindex := 0, params := [1] }, st fun d => (fun d : Dev => d.modCmd fun c => { c with accepted := [{ pkt := { q := 2, opcode := 0x0E01, tclass := 0, tindex := 0, params := [1] } }] }) ((fun d : Dev => d.fs R.DEBUG_STATUS F.DEBUG_STATUS_LEVEL 3) d), by decide +kernel⟩,
   ⟨{ q := 2, opcode := 0x0E02, tclass := 0, tindex := 0, params := [1] }, st fun d => (fun d : Dev => d.modCmd fun c => { c with accepted := [{ pkt := { q := 2, opcode := 0x0E02, tclass := 0, tindex := 0, params := [1] } }] }) ((fun d : Dev => d) d), by decide +kernel⟩,
   ⟨{ q := 3, opcode := 0x0903, tclass := 0, tindex := 0, params := [4, 0, 4, 0] }, st fun d => (fun d : Dev => d.modCmd fun c => { c with accepted := [{ pkt := { q := 3, opcode := 0x0903, tclass := 0, tindex := 0, params := [4, 0, 4, 0] } }] }) d, by decide +kernel⟩⟩

theorem test_meets_ChainsStartTogether : (∃ (p : Packet) (s : State), Running s ∧ opNum p = 0x0100 ∧ s.dev.canStart p = true ∧ 1 < (chainOf s.dev.cmd.accepted p).length ∧ (s.dev.chainFails (chainOf s.dev.cmd.accepted p)).all Option.isNone = true) ∧
    (∃ (p : Packet) (s : State), Running s ∧ opNum p = 0x0100 ∧ s.dev.canStart p = true ∧ 1 < (chainOf s.dev.cmd.accepted p).length ∧ (s.dev.chainFails (chainOf s.dev.cmd.accepted p)).all Option.isNone = false) ∧
    (∃ (p : Packet) (s : State), Running s ∧ opNum p = 0x0101 ∧ s.dev.canStart p = true ∧ 1 < (chainOf s.dev.cmd.accepted p).length ∧ (s.dev.chainFails (chainOf s.dev.cmd.accepted p)).all Option.isNone = true) ∧
    (∃ (p : Packet) (s : State), Running s ∧ opNum p = 0x0101 ∧ s.dev.canStart p = true ∧ 1 < (chainOf s.dev.cmd.accepted p).length ∧ (s.dev.chainFails (chainOf s.dev.cmd.accepted p)).all Option.isNone = false) ∧
    (∃ (p : Packet) (s : State), Running s ∧ opNum p = 0x0102 ∧ s.dev.canStart p = true ∧ 1 < (chainOf s.dev.cmd.accepted p).length ∧ (s.dev.chainFails (chainOf s.dev.cmd.accepted p)).all Option.isNone = true) ∧
    (∃ (p : Packet) (s : State), Running s ∧ opNum p = 0x0102 ∧ s.dev.canStart p = true ∧ 1 < (chainOf s.dev.cmd.accepted p).length ∧ (s.dev.chainFails (chainOf s.dev.cmd.accepted p)).all Option.isNone = false) ∧
    (∃ (p : Packet) (s : State), Running s ∧ opNum p = 0x0103 ∧ s.dev.canStart p = true ∧ 1 < (chainOf s.dev.cmd.accepted p).length ∧ (s.dev.chainFails (chainOf s.dev.cmd.accepted p)).all Option.isNone = true) ∧
    (∃ (p : Packet) (s : State), Running s ∧ opNum p = 0x0103 ∧ s.dev.canStart p = true ∧ 1 < (chainOf s.dev.cmd.accepted p).length ∧ (s.dev.chainFails (chainOf s.dev.cmd.accepted p)).all Option.isNone = false) ∧
    (∃ (p : Packet) (s : State), Running s ∧ opNum p = 0x0104 ∧ s.dev.canStart p = true ∧ 1 < (chainOf s.dev.cmd.accepted p).length ∧ (s.dev.chainFails (chainOf s.dev.cmd.accepted p)).all Option.isNone = true) ∧
    (∃ (p : Packet) (s : State), Running s ∧ opNum p = 0x0104 ∧ s.dev.canStart p = true ∧ 1 < (chainOf s.dev.cmd.accepted p).length ∧ (s.dev.chainFails (chainOf s.dev.cmd.accepted p)).all Option.isNone = false) ∧
    (∃ (p : Packet) (s : State), Running s ∧ opNum p = 0x0105 ∧ s.dev.canStart p = true ∧ 1 < (chainOf s.dev.cmd.accepted p).length ∧ (s.dev.chainFails (chainOf s.dev.cmd.accepted p)).all Option.isNone = true) ∧
    (∃ (p : Packet) (s : State), Running s ∧ opNum p = 0x0105 ∧ s.dev.canStart p = true ∧ 1 < (chainOf s.dev.cmd.accepted p).length ∧ (s.dev.chainFails (chainOf s.dev.cmd.accepted p)).all Option.isNone = false) ∧
    (∃ (p : Packet) (s : State), Running s ∧ opNum p = 0x0106 ∧ s.dev.canStart p = true ∧ 1 < (chainOf s.dev.cmd.accepted p).length ∧ (s.dev.chainFails (chainOf s.dev.cmd.accepted p)).all Option.isNone = true) ∧
    (∃ (p : Packet) (s : State), Running s ∧ opNum p = 0x0106 ∧ s.dev.canStart p = true ∧ 1 < (chainOf s.dev.cmd.accepted p).length ∧ (s.dev.chainFails (chainOf s.dev.cmd.accepted p)).all Option.isNone = false) ∧
    (∃ (p : Packet) (s : State), Running s ∧ opNum p = 0x0300 ∧ s.dev.canStart p = true ∧ 1 < (chainOf s.dev.cmd.accepted p).length ∧ (s.dev.chainFails (chainOf s.dev.cmd.accepted p)).all Option.isNone = true) ∧
    (∃ (p : Packet) (s : State), Running s ∧ opNum p = 0x0300 ∧ s.dev.canStart p = true ∧ 1 < (chainOf s.dev.cmd.accepted p).length ∧ (s.dev.chainFails (chainOf s.dev.cmd.accepted p)).all Option.isNone = false) ∧
    (∃ (p : Packet) (s : State), Running s ∧ opNum p = 0x0301 ∧ s.dev.canStart p = true ∧ 1 < (chainOf s.dev.cmd.accepted p).length ∧ (s.dev.chainFails (chainOf s.dev.cmd.accepted p)).all Option.isNone = true) ∧
    (∃ (p : Packet) (s : State), Running s ∧ opNum p = 0x0301 ∧ s.dev.canStart p = true ∧ 1 < (chainOf s.dev.cmd.accepted p).length ∧ (s.dev.chainFails (chainOf s.dev.cmd.accepted p)).all Option.isNone = false) ∧
    (∃ (p : Packet) (s : State), Running s ∧ opNum p = 0x0302 ∧ s.dev.canStart p = true ∧ 1 < (chainOf s.dev.cmd.accepted p).length ∧ (s.dev.chainFails (chainOf s.dev.cmd.accepted p)).all Option.isNone = true) ∧
    (∃ (p : Packet) (s : State), Running s ∧ opNum p = 0x0302 ∧ s.dev.canStart p = true ∧ 1 < (chainOf s.dev.cmd.accepted p).length ∧ (s.dev.chainFails (chainOf s.dev.cmd.accepted p)).all Option.isNone = false) ∧
    (∃ (p : Packet) (s : State), Running s ∧ opNum p = 0x0303 ∧ s.dev.canStart p = true ∧ 1 < (chainOf s.dev.cmd.accepted p).length ∧ (s.dev.chainFails (chainOf s.dev.cmd.accepted p)).all Option.isNone = true) ∧
    (∃ (p : Packet) (s : State), Running s ∧ opNum p = 0x0303 ∧ s.dev.canStart p = true ∧ 1 < (chainOf s.dev.cmd.accepted p).length ∧ (s.dev.chainFails (chainOf s.dev.cmd.accepted p)).all Option.isNone = false) ∧
    (∃ (p : Packet) (s : State), Running s ∧ opNum p = 0x0304 ∧ s.dev.canStart p = true ∧ 1 < (chainOf s.dev.cmd.accepted p).length ∧ (s.dev.chainFails (chainOf s.dev.cmd.accepted p)).all Option.isNone = true) ∧
    (∃ (p : Packet) (s : State), Running s ∧ opNum p = 0x0304 ∧ s.dev.canStart p = true ∧ 1 < (chainOf s.dev.cmd.accepted p).length ∧ (s.dev.chainFails (chainOf s.dev.cmd.accepted p)).all Option.isNone = false) ∧
    (∃ (p : Packet) (s : State), Running s ∧ opNum p = 0x0305 ∧ s.dev.canStart p = true ∧ 1 < (chainOf s.dev.cmd.accepted p).length ∧ (s.dev.chainFails (chainOf s.dev.cmd.accepted p)).all Option.isNone = true) ∧
    (∃ (p : Packet) (s : State), Running s ∧ opNum p = 0x0305 ∧ s.dev.canStart p = true ∧ 1 < (chainOf s.dev.cmd.accepted p).length ∧ (s.dev.chainFails (chainOf s.dev.cmd.accepted p)).all Option.isNone = false) ∧
    (∃ (p : Packet) (s : State), Running s ∧ opNum p = 0x0400 ∧ s.dev.canStart p = true ∧ 1 < (chainOf s.dev.cmd.accepted p).length ∧ (s.dev.chainFails (chainOf s.dev.cmd.accepted p)).all Option.isNone = true) ∧
    (∃ (p : Packet) (s : State), Running s ∧ opNum p = 0x0400 ∧ s.dev.canStart p = true ∧ 1 < (chainOf s.dev.cmd.accepted p).length ∧ (s.dev.chainFails (chainOf s.dev.cmd.accepted p)).all Option.isNone = false) ∧
    (∃ (p : Packet) (s : State), Running s ∧ opNum p = 0x0401 ∧ s.dev.canStart p = true ∧ 1 < (chainOf s.dev.cmd.accepted p).length ∧ (s.dev.chainFails (chainOf s.dev.cmd.accepted p)).all Option.isNone = true) ∧
    (∃ (p : Packet) (s : State), Running s ∧ opNum p = 0x0401 ∧ s.dev.canStart p = true ∧ 1 < (chainOf s.dev.cmd.accepted p).length ∧ (s.dev.chainFails (chainOf s.dev.cmd.accepted p)).all Option.isNone = false) ∧
    (∃ (p : Packet) (s : State), Running s ∧ opNum p = 0x0402 ∧ s.dev.canStart p = true ∧ 1 < (chainOf s.dev.cmd.accepted p).length ∧ (s.dev.chainFails (chainOf s.dev.cmd.accepted p)).all Option.isNone = true) ∧
    (∃ (p : Packet) (s : State), Running s ∧ opNum p = 0x0402 ∧ s.dev.canStart p = true ∧ 1 < (chainOf s.dev.cmd.accepted p).length ∧ (s.dev.chainFails (chainOf s.dev.cmd.accepted p)).all Option.isNone = false) ∧
    (∃ (p : Packet) (s : State), Running s ∧ opNum p = 0x0403 ∧ s.dev.canStart p = true ∧ 1 < (chainOf s.dev.cmd.accepted p).length ∧ (s.dev.chainFails (chainOf s.dev.cmd.accepted p)).all Option.isNone = true) ∧
    (∃ (p : Packet) (s : State), Running s ∧ opNum p = 0x0403 ∧ s.dev.canStart p = true ∧ 1 < (chainOf s.dev.cmd.accepted p).length ∧ (s.dev.chainFails (chainOf s.dev.cmd.accepted p)).all Option.isNone = false) ∧
    (∃ (p : Packet) (s : State), Running s ∧ opNum p = 0x0500 ∧ s.dev.canStart p = true ∧ 1 < (chainOf s.dev.cmd.accepted p).length ∧ (s.dev.chainFails (chainOf s.dev.cmd.accepted p)).all Option.isNone = true) ∧
    (∃ (p : Packet) (s : State), Running s ∧ opNum p = 0x0500 ∧ s.dev.canStart p = true ∧ 1 < (chainOf s.dev.cmd.accepted p).length ∧ (s.dev.chainFails (chainOf s.dev.cmd.accepted p)).all Option.isNone = false) ∧
    (∃ (p : Packet) (s : State), Running s ∧ opNum p = 0x0501 ∧ s.dev.canStart p = true ∧ 1 < (chainOf s.dev.cmd.accepted p).length ∧ (s.dev.chainFails (chainOf s.dev.cmd.accepted p)).all Option.isNone = true) ∧
    (∃ (p : Packet) (s : State), Running s ∧ opNum p = 0x0501 ∧ s.dev.canStart p = true ∧ 1 < (chainOf s.dev.cmd.accepted p).length ∧ (s.dev.chainFails (chainOf s.dev.cmd.accepted p)).all Option.isNone = false) ∧
    (∃ (p : Packet) (s : State), Running s ∧ opNum p = 0x0502 ∧ s.dev.canStart p = true ∧ 1 < (chainOf s.dev.cmd.accepted p).length ∧ (s.dev.chainFails (chainOf s.dev.cmd.accepted p)).all Option.isNone = true) ∧
    (∃ (p : Packet) (s : State), Running s ∧ opNum p = 0x0502 ∧ s.dev.canStart p = true ∧ 1 < (chainOf s.dev.cmd.accepted p).length ∧ (s.dev.chainFails (chainOf s.dev.cmd.accepted p)).all Option.isNone = false) := ⟨⟨{ chain := true, q := 2, opcode := 0x0100, tclass := 0, tindex := 0, params := [0x50100, 0xFFFFFFFF, 0] }, st fun d => (fun d : Dev => d.modCmd fun c => { c with accepted := [{ pkt := { chain := true, q := 2, opcode := 0x0100, tclass := 0, tindex := 0, params := [0x50100, 0xFFFFFFFF, 0] }, inChain := true, closed := true }, { pkt := { csn := 1, q := 2, opcode := 0x0500, tclass := 7, tindex := 3, params := [1] }, inChain := true, closed := true }] }) ((fun d : Dev => d) d), by decide +kernel⟩,
   ⟨{ chain := true, q := 2, opcode := 0x0100, tclass := 0, tindex := 0, params := [0x50100, 0xFFFFFFFF, 0] }, st fun d => (fun d : Dev => d.modCmd fun c => { c with accepted := [{ pkt := { chain := true, q := 2, opcode := 0x0100, tclass := 0, tindex := 0, params := [0x50100, 0xFFFFFFFF, 0] }, inChain := true, closed := true }, { pkt := { csn := 1, q := 2, opcode := 0x0500, tclass := 7, tindex := 3, params := [3] }, inChain := true, closed := true }] }) ((fun d : Dev => d) d), by decide +kernel⟩,
   ⟨{ chain := true, q := 2, opcode := 0x0101, tclass := 0, tindex := 0, params := [0x18020, 0x42400000, 0xF] }, st fun d => (fun d : Dev => d.modCmd fun c => { c with accepted := [{ pkt := { chain := true, q := 2, opcode := 0x0101, tclass := 0, tindex := 0, params := [0x18020, 0x42400000, 0xF] }, inChain := true, closed := true }, { pkt := { csn := 1, q := 2, opcode := 0x0500, tclass := 7, tindex := 3, params := [1] }, inChain := true, closed := true }] }) ((fun d : Dev => d) d), by decide +kernel⟩,
   ⟨{ chain := true, q := 2, opcode := 0x0101, tclass := 0, tindex := 0, params := [0x18020, 0x42400000, 0xF] }, st fun d => (fun d : Dev => d.modCmd fun c => { c with accepted := [{ pkt := { chain := true, q := 2, opcode := 0x0101, tclass := 0, tindex := 0, params := [0x18020, 0x42400000, 0xF] }, inChain := true, closed := true }, { pkt := { csn := 1, q := 2, opcode := 0x0500, tclass := 7, tindex := 3, params := [3] }, inChain := true, closed := true }] }) ((fun d : Dev => d) d), by decide +kernel⟩,
   ⟨{ chain := true, q := 2, opcode := 0x0102, tclass := 0, tindex := 0, params := [1, 0x5A058, 0x3F800000] }, st fun d => (fun d : Dev => d.modCmd fun c => { c with accepted := [{ pkt := { chain := true, q := 2, opcode := 0x0102, tclass := 0, tindex := 0, params := [1, 0x5A058, 0x3F800000] }, inChain := true, closed := true }, { pkt := { csn := 1, q := 2, opcode := 0x0500, tclass := 7, tindex := 3, params := [1] }, inChain := true, closed := true }] }) ((fun d : Dev => d) d), by decide +kernel⟩,
   ⟨{ chain := true, q := 2, opcode := 0x0102, tclass := 0, tindex := 0, params := [1, 0x5A058, 0x3F800000] }, st fun d => (fun d : Dev => d.modCmd fun c => { c with accepted := [{ pkt := { chain := true, q := 2, opcode := 0x0102, tclass := 0, tindex := 0, params := [1, 0x5A058, 0x3F800000] }, inChain := true, closed := true }, { pkt := { csn := 1, q := 2, opcode := 0x0500, tclass := 7, tindex := 3, params := [3] }, inChain := true, closed := true }] }) ((fun d : Dev => d) d), by decide +kernel⟩,
   ⟨{ chain := true, q := 2, opcode := 0x0103, tclass := 0, tindex := 0, params := [0, 1] }, st fun d => (fun d : Dev => d.modCmd fun c => { c with accepted := [{ pkt := { chain := true, q := 2, opcode := 0x0103, tclass := 0, tindex := 0, params := [0, 1] }, inChain := true, closed := true }, { pkt := { csn := 1, q := 2, opcode := 0x0500, tclass := 7, tindex := 3, params := [1] }, inChain := true, closed := true }] }) ((fun d : Dev => d) d), by decide +kernel⟩,
   ⟨{ chain := true, q := 2, opcode := 0x0103, tclass := 0, tindex := 0, params := [0, 1] }, st fun d => (fun d : Dev => d.modCmd fun c => { c with accepted := [{ pkt := { chain := true, q := 2, opcode := 0x0103, tclass := 0, tindex := 0, params := [0, 1] }, inChain := true, closed := true }, { pkt := { csn := 1, q := 2, opcode := 0x0500, tclass := 7, tindex := 3, params := [3] }, inChain := true, closed := true }] }) ((fun d : Dev => d) d), by decide +kernel⟩,
   ⟨{ chain := true, q := 2, opcode := 0x0104, tclass := 8, tindex := 0, params := [] }, st fun d => (fun d : Dev => d.modCmd fun c => { c with accepted := [{ pkt := { chain := true, q := 2, opcode := 0x0104, tclass := 8, tindex := 0, params := [] }, inChain := true, closed := true }, { pkt := { csn := 1, q := 2, opcode := 0x0500, tclass := 7, tindex := 3, params := [1] }, inChain := true, closed := true }] }) ((fun d : Dev => d) d), by decide +kernel⟩,
   ⟨{ chain := true, q := 2, opcode := 0x0104, tclass := 8, tindex := 0, params := [] }, st fun d => (fun d : Dev => d.modCmd fun c => { c with accepted := [{ pkt := { chain := true, q := 2, opcode := 0x0104, tclass := 8, tindex := 0, params := [] }, inChain := true, closed := true }, { pkt := { csn := 1, q := 2, opcode := 0x0500, tclass := 7, tindex := 3, params := [3] }, inChain := true, closed := true }] }) ((fun d : Dev => d) d), by decide +kernel⟩,
   ⟨{ chain := true, q := 2, opcode := 0x0105, tclass := 8, tindex := 0, params := [] }, st fun d => (fun d : Dev => d.modCmd fun c => { c with accepted := [{ pkt := { chain := true, q := 2, opcode := 0x0105, tclass := 8, tindex := 0, params := [] }, inChain := true, closed := true }, { pkt := { csn := 1, q := 2, opcode := 0x0500, tclass := 7, tindex := 3, params := [1] }, inChain := true, closed := true }] }) ((fun d : Dev => (fun d : Dev => d.fsb R.STORE_STATUS F.STORE_STATUS_MOUNTED true) ((fun d : Dev => { d with store := { d.store with objs := [{ part := 3, num := 0, seq := 1, bytes := [] }] } }) (d))) d), by decide +kernel⟩,
   ⟨{ chain := true, q := 2, opcode := 0x0105, tclass := 8, tindex := 0, params := [] }, st fun d => (fun d : Dev => d.modCmd fun c => { c with accepted := [{ pkt := { chain := true, q := 2, opcode := 0x0105, tclass := 8, tindex := 0, params := [] }, inChain := true, closed := true }, { pkt := { csn := 1, q := 2, opcode := 0x0500, tclass := 7, tindex := 3, params := [3] }, inChain := true, closed := true }] }) ((fun d : Dev => (fun d : Dev => d.fsb R.STORE_STATUS F.STORE_STATUS_MOUNTED true) ((fun d : Dev => { d with store := { d.store with objs := [{ part := 3, num := 0, seq := 1, bytes := [] }] } }) (d))) d), by decide +kernel⟩,
   ⟨{ chain := true, q := 2, opcode := 0x0106, tclass := 8, tindex := 3, params := [] }, st fun d => (fun d : Dev => d.modCmd fun c => { c with accepted := [{ pkt := { chain := true, q := 2, opcode := 0x0106, tclass := 8, tindex := 3, params := [] }, inChain := true, closed := true }, { pkt := { csn := 1, q := 2, opcode := 0x0500, tclass := 7, tindex := 3, params := [1] }, inChain := true, closed := true }] }) ((fun d : Dev => d) d), by decide +kernel⟩,
   ⟨{ chain := true, q := 2, opcode := 0x0106, tclass := 8, tindex := 3, params := [] }, st fun d => (fun d : Dev => d.modCmd fun c => { c with accepted := [{ pkt := { chain := true, q := 2, opcode := 0x0106, tclass := 8, tindex := 3, params := [] }, inChain := true, closed := true }, { pkt := { csn := 1, q := 2, opcode := 0x0500, tclass := 7, tindex := 3, params := [3] }, inChain := true, closed := true }] }) ((fun d : Dev => d) d), by decide +kernel⟩,
   ⟨{ chain := true, q := 1, opcode := 0x0300, tclass := 2, tindex := 0, params := [0x40000000, 0, 1000] }, st fun d => (fun d : Dev => d.modCmd fun c => { c with accepted := [{ pkt := { chain := true, q := 1, opcode := 0x0300, tclass := 2, tindex := 0, params := [0x40000000, 0, 1000] }, inChain := true, closed := true }, { pkt := { csn := 1, q := 1, opcode := 0x0500, tclass := 7, tindex := 3, params := [1] }, inChain := true, closed := true }] }) ((fun d : Dev => (fun d : Dev => (((d.wr (R.INTERP_AXLIM_VMAX 16 + 0) 0x10000).wr (R.INTERP_AXLIM_AMAX 16 + 0) 0x10000).wr (R.INTERP_AXLIM_JMAX 16 + 0) 0x10000)) ((fun d : Dev => d.fs (R.AXIS_STATUS 16) F.AXIS_STATUS_STATE 2) ((fun d : Dev => ((d.wr (R.INTERP_GRP_MEMBERS 0) 0xFFFFFF10).wr (R.INTERP_GRP_MEMBERS 0 + 4) 0xFFFFFFFF)) (d)))) d), by decide +kernel⟩,
   ⟨{ chain := true, q := 1, opcode := 0x0300, tclass := 2, tindex := 0, params := [0x40000000, 0, 1000] }, st fun d => (fun d : Dev => d.modCmd fun c => { c with accepted := [{ pkt := { chain := true, q := 1, opcode := 0x0300, tclass := 2, tindex := 0, params := [0x40000000, 0, 1000] }, inChain := true, closed := true }, { pkt := { csn := 1, q := 1, opcode := 0x0500, tclass := 7, tindex := 3, params := [3] }, inChain := true, closed := true }] }) ((fun d : Dev => (fun d : Dev => (((d.wr (R.INTERP_AXLIM_VMAX 16 + 0) 0x10000).wr (R.INTERP_AXLIM_AMAX 16 + 0) 0x10000).wr (R.INTERP_AXLIM_JMAX 16 + 0) 0x10000)) ((fun d : Dev => d.fs (R.AXIS_STATUS 16) F.AXIS_STATUS_STATE 2) ((fun d : Dev => ((d.wr (R.INTERP_GRP_MEMBERS 0) 0xFFFFFF10).wr (R.INTERP_GRP_MEMBERS 0 + 4) 0xFFFFFFFF)) (d)))) d), by decide +kernel⟩,
   ⟨{ chain := true, q := 1, opcode := 0x0301, tclass := 2, tindex := 0, params := [] }, st fun d => (fun d : Dev => d.modCmd fun c => { c with accepted := [{ pkt := { chain := true, q := 1, opcode := 0x0301, tclass := 2, tindex := 0, params := [] }, inChain := true, closed := true }, { pkt := { csn := 1, q := 1, opcode := 0x0500, tclass := 7, tindex := 3, params := [1] }, inChain := true, closed := true }] }) ((fun d : Dev => (fun d : Dev => (((d.wr (R.INTERP_AXLIM_VMAX 16 + 0) 0x10000).wr (R.INTERP_AXLIM_AMAX 16 + 0) 0x10000).wr (R.INTERP_AXLIM_JMAX 16 + 0) 0x10000)) ((fun d : Dev => d.fs (R.AXIS_STATUS 16) F.AXIS_STATUS_STATE 2) ((fun d : Dev => ((d.wr (R.INTERP_GRP_MEMBERS 0) 0xFFFFFF10).wr (R.INTERP_GRP_MEMBERS 0 + 4) 0xFFFFFFFF)) (d)))) d), by decide +kernel⟩,
   ⟨{ chain := true, q := 1, opcode := 0x0301, tclass := 2, tindex := 0, params := [] }, st fun d => (fun d : Dev => d.modCmd fun c => { c with accepted := [{ pkt := { chain := true, q := 1, opcode := 0x0301, tclass := 2, tindex := 0, params := [] }, inChain := true, closed := true }, { pkt := { csn := 1, q := 1, opcode := 0x0500, tclass := 7, tindex := 3, params := [3] }, inChain := true, closed := true }] }) ((fun d : Dev => (fun d : Dev => (((d.wr (R.INTERP_AXLIM_VMAX 16 + 0) 0x10000).wr (R.INTERP_AXLIM_AMAX 16 + 0) 0x10000).wr (R.INTERP_AXLIM_JMAX 16 + 0) 0x10000)) ((fun d : Dev => d.fs (R.AXIS_STATUS 16) F.AXIS_STATUS_STATE 2) ((fun d : Dev => ((d.wr (R.INTERP_GRP_MEMBERS 0) 0xFFFFFF10).wr (R.INTERP_GRP_MEMBERS 0 + 4) 0xFFFFFFFF)) (d)))) d), by decide +kernel⟩,
   ⟨{ chain := true, q := 1, opcode := 0x0302, tclass := 2, tindex := 0, params := [1] }, st fun d => (fun d : Dev => d.modCmd fun c => { c with accepted := [{ pkt := { chain := true, q := 1, opcode := 0x0302, tclass := 2, tindex := 0, params := [1] }, inChain := true, closed := true }, { pkt := { csn := 1, q := 1, opcode := 0x0500, tclass := 7, tindex := 3, params := [1] }, inChain := true, closed := true }] }) ((fun d : Dev => d.fs (R.INTERP_GRP_STATUS 0) F.INTERP_GRP_STATUS_STATE 1) d), by decide +kernel⟩,
   ⟨{ chain := true, q := 1, opcode := 0x0302, tclass := 2, tindex := 0, params := [1] }, st fun d => (fun d : Dev => d.modCmd fun c => { c with accepted := [{ pkt := { chain := true, q := 1, opcode := 0x0302, tclass := 2, tindex := 0, params := [1] }, inChain := true, closed := true }, { pkt := { csn := 1, q := 1, opcode := 0x0500, tclass := 7, tindex := 3, params := [3] }, inChain := true, closed := true }] }) ((fun d : Dev => d.fs (R.INTERP_GRP_STATUS 0) F.INTERP_GRP_STATUS_STATE 1) d), by decide +kernel⟩,
   ⟨{ chain := true, q := 1, opcode := 0x0303, tclass := 2, tindex := 0, params := [5000] }, st fun d => (fun d : Dev => d.modCmd fun c => { c with accepted := [{ pkt := { chain := true, q := 1, opcode := 0x0303, tclass := 2, tindex := 0, params := [5000] }, inChain := true, closed := true }, { pkt := { csn := 1, q := 1, opcode := 0x0500, tclass := 7, tindex := 3, params := [1] }, inChain := true, closed := true }] }) ((fun d : Dev => d) d), by decide +kernel⟩,
   ⟨{ chain := true, q := 1, opcode := 0x0303, tclass := 2, tindex := 0, params := [5000] }, st fun d => (fun d : Dev => d.modCmd fun c => { c with accepted := [{ pkt := { chain := true, q := 1, opcode := 0x0303, tclass := 2, tindex := 0, params := [5000] }, inChain := true, closed := true }, { pkt := { csn := 1, q := 1, opcode := 0x0500, tclass := 7, tindex := 3, params := [3] }, inChain := true, closed := true }] }) ((fun d : Dev => d) d), by decide +kernel⟩,
   ⟨{ chain := true, q := 1, opcode := 0x0304, tclass := 2, tindex := 0, params := [] }, st fun d => (fun d : Dev => d.modCmd fun c => { c with accepted := [{ pkt := { chain := true, q := 1, opcode := 0x0304, tclass := 2, tindex := 0, params := [] }, inChain := true, closed := true }, { pkt := { csn := 1, q := 1, opcode := 0x0500, tclass := 7, tindex := 3, params := [1] }, inChain := true, closed := true }] }) ((fun d : Dev => d.fs (R.INTERP_GRP_STATUS 0) F.INTERP_GRP_STATUS_STATE 2) d), by decide +kernel⟩,
   ⟨{ chain := true, q := 1, opcode := 0x0304, tclass := 2, tindex := 0, params := [] }, st fun d => (fun d : Dev => d.modCmd fun c => { c with accepted := [{ pkt := { chain := true, q := 1, opcode := 0x0304, tclass := 2, tindex := 0, params := [] }, inChain := true, closed := true }, { pkt := { csn := 1, q := 1, opcode := 0x0500, tclass := 7, tindex := 3, params := [3] }, inChain := true, closed := true }] }) ((fun d : Dev => d.fs (R.INTERP_GRP_STATUS 0) F.INTERP_GRP_STATUS_STATE 2) d), by decide +kernel⟩,
   ⟨{ chain := true, q := 1, opcode := 0x0305, tclass := 1, tindex := 16, params := [0, 0, 0, 0, 0x10000, 0, 0x10000, 0, 0x10000, 0] }, st fun d => (fun d : Dev => d.modCmd fun c => { c with accepted := [{ pkt := { chain := true, q := 1, opcode := 0x0305, tclass := 1, tindex := 16, params := [0, 0, 0, 0, 0x10000, 0, 0x10000, 0, 0x10000, 0] }, inChain := true, closed := true }, { pkt := { csn := 1, q := 1, opcode := 0x0500, tclass := 7, tindex := 3, params := [1] }, inChain := true, closed := true }] }) ((fun d : Dev => (fun d : Dev => (((d.wr (R.INTERP_AXLIM_VMAX 16 + 0) 0x10000).wr (R.INTERP_AXLIM_AMAX 16 + 0) 0x10000).wr (R.INTERP_AXLIM_JMAX 16 + 0) 0x10000)) ((fun d : Dev => d.fs (R.AXIS_STATUS 16) F.AXIS_STATUS_STATE 2) (d))) d), by decide +kernel⟩,
   ⟨{ chain := true, q := 1, opcode := 0x0305, tclass := 1, tindex := 16, params := [0, 0, 0, 0, 0x10000, 0, 0x10000, 0, 0x10000, 0] }, st fun d => (fun d : Dev => d.modCmd fun c => { c with accepted := [{ pkt := { chain := true, q := 1, opcode := 0x0305, tclass := 1, tindex := 16, params := [0, 0, 0, 0, 0x10000, 0, 0x10000, 0, 0x10000, 0] }, inChain := true, closed := true }, { pkt := { csn := 1, q := 1, opcode := 0x0500, tclass := 7, tindex := 3, params := [3] }, inChain := true, closed := true }] }) ((fun d : Dev => (fun d : Dev => (((d.wr (R.INTERP_AXLIM_VMAX 16 + 0) 0x10000).wr (R.INTERP_AXLIM_AMAX 16 + 0) 0x10000).wr (R.INTERP_AXLIM_JMAX 16 + 0) 0x10000)) ((fun d : Dev => d.fs (R.AXIS_STATUS 16) F.AXIS_STATUS_STATE 2) (d))) d), by decide +kernel⟩,
   ⟨{ chain := true, q := 1, opcode := 0x0400, tclass := 1, tindex := 16, params := [0x20000011, 1, 1, 0, 0, 0, 0] }, st fun d => (fun d : Dev => d.modCmd fun c => { c with accepted := [{ pkt := { chain := true, q := 1, opcode := 0x0400, tclass := 1, tindex := 16, params := [0x20000011, 1, 1, 0, 0, 0, 0] }, inChain := true, closed := true }, { pkt := { csn := 1, q := 1, opcode := 0x0500, tclass := 7, tindex := 3, params := [1] }, inChain := true, closed := true }] }) ((fun d : Dev => d.fs (R.AXIS_STATUS 16) F.AXIS_STATUS_STATE 2) d), by decide +kernel⟩,
   ⟨{ chain := true, q := 1, opcode := 0x0400, tclass := 1, tindex := 16, params := [0x20000011, 1, 1, 0, 0, 0, 0] }, st fun d => (fun d : Dev => d.modCmd fun c => { c with accepted := [{ pkt := { chain := true, q := 1, opcode := 0x0400, tclass := 1, tindex := 16, params := [0x20000011, 1, 1, 0, 0, 0, 0] }, inChain := true, closed := true }, { pkt := { csn := 1, q := 1, opcode := 0x0500, tclass := 7, tindex := 3, params := [3] }, inChain := true, closed := true }] }) ((fun d : Dev => d.fs (R.AXIS_STATUS 16) F.AXIS_STATUS_STATE 2) d), by decide +kernel⟩,
   ⟨{ chain := true, q := 1, opcode := 0x0401, tclass := 1, tindex := 16, params := [] }, st fun d => (fun d : Dev => d.modCmd fun c => { c with accepted := [{ pkt := { chain := true, q := 1, opcode := 0x0401, tclass := 1, tindex := 16, params := [] }, inChain := true, closed := true }, { pkt := { csn := 1, q := 1, opcode := 0x0500, tclass := 7, tindex := 3, params := [1] }, inChain := true, closed := true }] }) ((fun d : Dev => d.modAx 16 fun x => { x with fol := some {} }) d), by decide +kernel⟩,
   ⟨{ chain := true, q := 1, opcode := 0x0401, tclass := 1, tindex := 16, params := [] }, st fun d => (fun d : Dev => d.modCmd fun c => { c with accepted := [{ pkt := { chain := true, q := 1, opcode := 0x0401, tclass := 1, tindex := 16, params := [] }, inChain := true, closed := true }, { pkt := { csn := 1, q := 1, opcode := 0x0500, tclass := 7, tindex := 3, params := [3] }, inChain := true, closed := true }] }) ((fun d : Dev => d.modAx 16 fun x => { x with fol := some {} }) d), by decide +kernel⟩,
   ⟨{ chain := true, q := 3, opcode := 0x0402, tclass := 0, tindex := 0, params := [0, 1, 0, 1, 2, 3, 4] }, st fun d => (fun d : Dev => d.modCmd fun c => { c with accepted := [{ pkt := { chain := true, q := 3, opcode := 0x0402, tclass := 0, tindex := 0, params := [0, 1, 0, 1, 2, 3, 4] }, inChain := true, closed := true }, { pkt := { csn := 1, q := 3, opcode := 0x0500, tclass := 7, tindex := 3, params := [1] }, inChain := true, closed := true }] }) ((fun d : Dev => d) d), by decide +kernel⟩,
   ⟨{ chain := true, q := 3, opcode := 0x0402, tclass := 0, tindex := 0, params := [0, 1, 0, 1, 2, 3, 4] }, st fun d => (fun d : Dev => d.modCmd fun c => { c with accepted := [{ pkt := { chain := true, q := 3, opcode := 0x0402, tclass := 0, tindex := 0, params := [0, 1, 0, 1, 2, 3, 4] }, inChain := true, closed := true }, { pkt := { csn := 1, q := 3, opcode := 0x0500, tclass := 7, tindex := 3, params := [3] }, inChain := true, closed := true }] }) ((fun d : Dev => d) d), by decide +kernel⟩,
   ⟨{ chain := true, q := 1, opcode := 0x0403, tclass := 1, tindex := 16, params := [0x20000011, 0, 0, 0, 0] }, st fun d => (fun d : Dev => d.modCmd fun c => { c with accepted := [{ pkt := { chain := true, q := 1, opcode := 0x0403, tclass := 1, tindex := 16, params := [0x20000011, 0, 0, 0, 0] }, inChain := true, closed := true }, { pkt := { csn := 1, q := 1, opcode := 0x0500, tclass := 7, tindex := 3, params := [1] }, inChain := true, closed := true }] }) ((fun d : Dev => (fun d : Dev => ((d.wr (R.INTERP_CAM_PROF 0) 0x00020000).wr (R.INTERP_CAM_LEN 0) 1)) ((fun d : Dev => d.fs (R.AXIS_STATUS 16) F.AXIS_STATUS_STATE 2) (d))) d), by decide +kernel⟩,
   ⟨{ chain := true, q := 1, opcode := 0x0403, tclass := 1, tindex := 16, params := [0x20000011, 0, 0, 0, 0] }, st fun d => (fun d : Dev => d.modCmd fun c => { c with accepted := [{ pkt := { chain := true, q := 1, opcode := 0x0403, tclass := 1, tindex := 16, params := [0x20000011, 0, 0, 0, 0] }, inChain := true, closed := true }, { pkt := { csn := 1, q := 1, opcode := 0x0500, tclass := 7, tindex := 3, params := [3] }, inChain := true, closed := true }] }) ((fun d : Dev => (fun d : Dev => ((d.wr (R.INTERP_CAM_PROF 0) 0x00020000).wr (R.INTERP_CAM_LEN 0) 1)) ((fun d : Dev => d.fs (R.AXIS_STATUS 16) F.AXIS_STATUS_STATE 2) (d))) d), by decide +kernel⟩,
   ⟨{ chain := true, q := 1, opcode := 0x0500, tclass := 7, tindex := 3, params := [1] }, st fun d => (fun d : Dev => d.modCmd fun c => { c with accepted := [{ pkt := { chain := true, q := 1, opcode := 0x0500, tclass := 7, tindex := 3, params := [1] }, inChain := true, closed := true }, { pkt := { csn := 1, q := 1, opcode := 0x0500, tclass := 7, tindex := 3, params := [1] }, inChain := true, closed := true }] }) ((fun d : Dev => d) d), by decide +kernel⟩,
   ⟨{ chain := true, q := 1, opcode := 0x0500, tclass := 7, tindex := 3, params := [1] }, st fun d => (fun d : Dev => d.modCmd fun c => { c with accepted := [{ pkt := { chain := true, q := 1, opcode := 0x0500, tclass := 7, tindex := 3, params := [1] }, inChain := true, closed := true }, { pkt := { csn := 1, q := 1, opcode := 0x0500, tclass := 7, tindex := 3, params := [3] }, inChain := true, closed := true }] }) ((fun d : Dev => d) d), by decide +kernel⟩,
   ⟨{ chain := true, q := 3, opcode := 0x0501, tclass := 0, tindex := 0, params := [0, 1, 0, 1, 2] }, st fun d => (fun d : Dev => d.modCmd fun c => { c with accepted := [{ pkt := { chain := true, q := 3, opcode := 0x0501, tclass := 0, tindex := 0, params := [0, 1, 0, 1, 2] }, inChain := true, closed := true }, { pkt := { csn := 1, q := 3, opcode := 0x0500, tclass := 7, tindex := 3, params := [1] }, inChain := true, closed := true }] }) ((fun d : Dev => d) d), by decide +kernel⟩,
   ⟨{ chain := true, q := 3, opcode := 0x0501, tclass := 0, tindex := 0, params := [0, 1, 0, 1, 2] }, st fun d => (fun d : Dev => d.modCmd fun c => { c with accepted := [{ pkt := { chain := true, q := 3, opcode := 0x0501, tclass := 0, tindex := 0, params := [0, 1, 0, 1, 2] }, inChain := true, closed := true }, { pkt := { csn := 1, q := 3, opcode := 0x0500, tclass := 7, tindex := 3, params := [3] }, inChain := true, closed := true }] }) ((fun d : Dev => d) d), by decide +kernel⟩,
   ⟨{ chain := true, q := 1, opcode := 0x0502, tclass := 7, tindex := 3, params := [0] }, st fun d => (fun d : Dev => d.modCmd fun c => { c with accepted := [{ pkt := { chain := true, q := 1, opcode := 0x0502, tclass := 7, tindex := 3, params := [0] }, inChain := true, closed := true }, { pkt := { csn := 1, q := 1, opcode := 0x0500, tclass := 7, tindex := 3, params := [1] }, inChain := true, closed := true }] }) ((fun d : Dev => d) d), by decide +kernel⟩,
   ⟨{ chain := true, q := 1, opcode := 0x0502, tclass := 7, tindex := 3, params := [0] }, st fun d => (fun d : Dev => d.modCmd fun c => { c with accepted := [{ pkt := { chain := true, q := 1, opcode := 0x0502, tclass := 7, tindex := 3, params := [0] }, inChain := true, closed := true }, { pkt := { csn := 1, q := 1, opcode := 0x0500, tclass := 7, tindex := 3, params := [3] }, inChain := true, closed := true }] }) ((fun d : Dev => d) d), by decide +kernel⟩⟩

theorem test_meets_AxisEventsTakeEffect :
    (∃ (a : Fin 64) (s : State), (Running s) ∧ (s.dev.axState a = 1) ∧ ((s.dev.ax a).enab = .align) ∧ ((s.dev.ax a).stop = none)) ∧
    (∃ (a : Fin 64) (s : State), (Running s) ∧ (s.dev.axState a = 1) ∧ ((s.dev.ax a).enab = .brake) ∧ ((s.dev.ax a).stop = none)) ∧
    (∃ (a : Fin 64) (s : State), (Running s) ∧ (s.dev.axState a = 1)) ∧
    (∃ (a : Fin 64) (r : StopRun) (s : State), (Running s) ∧ (s.dev.axState a = 4) ∧ ((s.dev.ax a).stop = some r) ∧ (r.ramp = true) ∧ ((s.dev.ax a).vCmd = 0) ∧ (s.dev.fb (R.CE_AX_STATUS a) F.CE_AX_STATUS_HSG = false)) ∧
    (∃ (a : Fin 64) (r : StopRun) (s : State), (Running s) ∧ (s.dev.axState a = 4) ∧ ((s.dev.ax a).stop = some r) ∧ (r.ramp = false)) ∧
    (∃ (a : Fin 64) (s : State), (Running s) ∧ (s.dev.axState a = 3) ∧ ((s.dev.ax a).home = .found) ∧ ((s.dev.ax a).stop = none)) ∧
    (∃ (a : Fin 64) (s : State), (Running s) ∧ ((s.dev.ax a).home = .hardStop) ∧ (s.dev.hardStop a = true)) ∧
    (∃ (a : Fin 64) (s : State), (Running s) ∧ ((s.dev.ax a).home = .toZ ∨ ((s.dev.ax a).home = .toSwitch ∧ s.dev.homeMethod a = 2)) ∧ (2 ^ 55 ≤ (s.dev.actual a - (s.dev.ax a).homeStart).natAbs)) ∧
    (∃ (a : Fin 64) (s : State), (Running s) ∧ (s.dev.wdDue a = true) ∧ (s.dev.pwm.halted = false) ∧ (s.dev.axState a ≠ 1) ∧ (s.dev.fg (R.AXIS_REACT a) F.AXIS_REACT_WD_CLASS = 1 ∨ s.dev.fg (R.AXIS_REACT a) F.AXIS_REACT_WD_CLASS = 2)) ∧
    (∃ (a : Fin 64) (s : State), (Running s) ∧ (s.dev.wdDue a = true) ∧ (s.dev.pwm.halted = false)) :=
  ⟨⟨0, st fun d => (d.fs (R.AXIS_STATUS 0) F.AXIS_STATUS_STATE 1).modAx 0 fun x => { x with enab := .align }, by decide +kernel⟩,
   ⟨0, st fun d => (d.fs (R.AXIS_STATUS 0) F.AXIS_STATUS_STATE 1).modAx 0 fun x => { x with enab := .brake }, by decide +kernel⟩,
   ⟨0, st fun d => (d.fs (R.AXIS_STATUS 0) F.AXIS_STATUS_STATE 1).modAx 0 fun x => x, by decide +kernel⟩,
   ⟨0, { rank := 5, ramp := true, final := 2 }, st fun d => (d.fs (R.AXIS_STATUS 0) F.AXIS_STATUS_STATE 4).modAx 0 fun x => { x with stop := some { rank := 5, ramp := true, final := 2 } }, by decide +kernel⟩,
   ⟨0, { rank := 4, ramp := false, final := 0 }, st fun d => (d.fs (R.AXIS_STATUS 0) F.AXIS_STATUS_STATE 4).modAx 0 fun x => { x with stop := some { rank := 4, ramp := false, final := 0 } }, by decide +kernel⟩,
   ⟨0, st fun d => (d.fs (R.AXIS_STATUS 0) F.AXIS_STATUS_STATE 3).modAx 0 fun x => { x with home := .found }, by decide +kernel⟩,
   ⟨0, st fun d => (d.fs (R.AXIS_STATUS 0) F.AXIS_STATUS_STATE 3).modAx 0 fun x => { x with home := .hardStop, hsNs := some 0 }, by decide +kernel⟩,
   ⟨0, st fun d => (d.fs (R.AXIS_STATUS 0) F.AXIS_STATUS_STATE 3).modAx 0 fun x => { x with home := .toZ, homeStart := 2 ^ 55 }, by decide +kernel⟩,
   ⟨0, st fun d => (({ d with time := 2 ^ 60 }.fs (R.AXIS_STATUS 0) F.AXIS_STATUS_STATE 3).fs (R.AXIS_REACT 0) F.AXIS_REACT_WD_TIMEOUT 10).fs (R.AXIS_REACT 0) F.AXIS_REACT_WD_CLASS 1, by decide +kernel⟩,
   ⟨0, st fun d => ({ d with time := 2 ^ 60 }.fs (R.AXIS_STATUS 0) F.AXIS_STATUS_STATE 3).fs (R.AXIS_REACT 0) F.AXIS_REACT_WD_TIMEOUT 10, by decide +kernel⟩⟩

theorem test_meets_GroupAndProfileEventsTakeEffect :
    (∃ (g : Fin 16) (sg : Segment) (q : List Segment) (s : State), (Running s) ∧ ((s.dev.grp g).queue = sg :: q) ∧ (s.dev.grpState g = 2 ∨ s.dev.grpState g = 4) ∧ ((s.dev.grp g).active = false) ∧ (sg.cond.start ≠ 0) ∧ (sg.cond.timeout ≠ 0)) ∧
    (∃ (g : Fin 16) (s : State), (Running s) ∧ (s.dev.grpState g = 3) ∧ (s.dev.pathRest g = true)) ∧
    (∃ (g : Fin 16) (s : State), (Running s) ∧ (s.dev.grpState g = 5) ∧ (s.dev.pathRest g = true)) ∧
    (∃ (g : Fin 16) (s : State), (Running s) ∧ (s.dev.grpState g = 1) ∧ ((s.dev.grp g).flush = true) ∧ ((s.dev.grp g).keep = 0)) ∧
    (∃ (a : Fin 64) (p : Profile) (s : State), (Running s) ∧ ((s.dev.ax a).running = some p) ∧ (s.dev.axState a = 3) ∧ (p.move.total ≤ p.elapsed) ∧ (p.reached = false) ∧ (p.mode ≠ 2 ∨ p.target = 0)) ∧
    (∃ (a : Fin 64) (p : Profile) (s : State), (Running s) ∧ ((s.dev.ax a).running = some p) ∧ (s.dev.axState a = 3) ∧ (p.move.total ≤ p.elapsed) ∧ (p.mode = 2) ∧ (p.reached = false) ∧ (p.target ≠ 0)) :=
  ⟨⟨0, { cond := { start := 1, timeout := 5 } }, [], st fun d => (d.fs (R.INTERP_GRP_STATUS 0) F.INTERP_GRP_STATUS_STATE 2).modGrp 0 fun x => { x with queue := [{ cond := { start := 1, timeout := 5 } }] }, by decide +kernel⟩,
   ⟨0, st fun d => (d.fs (R.INTERP_GRP_STATUS 0) F.INTERP_GRP_STATUS_STATE 3).modGrp 0 fun x => x, by decide +kernel⟩,
   ⟨0, st fun d => (d.fs (R.INTERP_GRP_STATUS 0) F.INTERP_GRP_STATUS_STATE 5).modGrp 0 fun x => x, by decide +kernel⟩,
   ⟨0, st fun d => (d.fs (R.INTERP_GRP_STATUS 0) F.INTERP_GRP_STATUS_STATE 1).modGrp 0 fun x => { x with flush := true }, by decide +kernel⟩,
   ⟨0, {}, st fun d => (d.fs (R.AXIS_STATUS 0) F.AXIS_STATUS_STATE 3).modAx 0 fun x => { x with running := some {} }, by decide +kernel⟩,
   ⟨0, { mode := 2, target := 7 }, st fun d => (d.fs (R.AXIS_STATUS 0) F.AXIS_STATUS_STATE 3).modAx 0 fun x => { x with running := some { mode := 2, target := 7 } }, by decide +kernel⟩⟩

theorem test_meets_FollowerEventsTakeEffect :
    (∃ (a : Fin 64) (s : State), (Running s) ∧ (s.dev.axState a = 3) ∧ ((s.dev.ax a).motion = .rampDown) ∧ ((s.dev.ax a).vCmd = 0) ∧ ((s.dev.ax a).stop = none)) ∧
    (∃ (a : Fin 64) (f : Follower) (s : State), (Running s) ∧ ((s.dev.ax a).folNext = some f) ∧ ((s.dev.ax a).stop = none) ∧ (f.cam = false) ∧ (f.phase = 0) ∧ (f.crosses (s.dev.masterNow f) = true)) ∧
    (∃ (a : Fin 64) (f : Follower) (s : State), (Running s) ∧ ((s.dev.ax a).fol = some f) ∧ (f.cam = false) ∧ (f.phase = 1) ∧ (f.clutchEnds (s.dev.masterNow f) = true)) ∧
    (∃ (a : Fin 64) (f : Follower) (s : State), (Running s) ∧ ((s.dev.ax a).fol = some f) ∧ (s.dev.masterLost f = true)) ∧
    (∃ (a : Fin 64) (f : Follower) (s : State), (Running s) ∧ ((s.dev.ax a).fol = none) ∧ ((s.dev.ax a).folNext = some f) ∧ (s.dev.masterLost f = true)) ∧
    (∃ (a : Fin 64) (f : Follower) (s : State), (Running s) ∧ ((s.dev.ax a).folNext = some f) ∧ ((s.dev.ax a).stop = none) ∧ (f.cam = true) ∧ (s.dev.camWraps f (s.dev.masterNow f) = true) ∧ (f.phase = 0)) ∧
    (∃ (a : Fin 64) (f : Follower) (s : State), (Running s) ∧ ((s.dev.ax a).folNext = none) ∧ ((s.dev.ax a).fol = some f) ∧ ((s.dev.ax a).stop = none) ∧ (f.cam = true) ∧ (s.dev.camWraps f (s.dev.masterNow f) = true) ∧ (f.nextProf.isSome = true)) :=
  ⟨⟨0, st fun d => (d.fs (R.AXIS_STATUS 0) F.AXIS_STATUS_STATE 3).modAx 0 fun x => { x with motion := .rampDown }, by decide +kernel⟩,
   ⟨0, { phase := 0, mPrev := -5 }, st fun d => (d.fs (R.AXIS_STATUS 0) F.AXIS_STATUS_STATE 3).modAx 0 fun x => { x with folNext := some { phase := 0, mPrev := -5 } }, by decide +kernel⟩,
   ⟨0, { phase := 1, m0 := -5, len := 3 }, st fun d => (d.fs (R.AXIS_STATUS 0) F.AXIS_STATUS_STATE 3).modAx 0 fun x => { x with fol := some { phase := 1, m0 := -5, len := 3 } }, by decide +kernel⟩,
   ⟨0, { phase := 2, kind := 4, maxAge := 1 }, st fun d => ((d.fs (R.AXIS_STATUS 0) F.AXIS_STATUS_STATE 3).modAx 0 fun x => { x with fol := some { phase := 2, kind := 4, maxAge := 1 } }).wr (R.TRV_RXAGE 0) 0xFFFFFFFF, by decide +kernel⟩,
   ⟨0, { phase := 0, kind := 4, maxAge := 1 }, st fun d => ((d.fs (R.AXIS_STATUS 0) F.AXIS_STATUS_STATE 3).modAx 0 fun x => { x with folNext := some { phase := 0, kind := 4, maxAge := 1 } }).wr (R.TRV_RXAGE 0) 0xFFFFFFFF, by decide +kernel⟩,
   ⟨0, { cam := true, phase := 0, mPrev := -5, prof := 0 }, st fun d => ((d.wrS (R.INTERP_CAM_LEN 0) 10).fsb (R.INTERP_CAM_PROF 0) F.INTERP_CAM_PROF_CYCLIC true).modAx 0 fun x => { x with folNext := some { cam := true, phase := 0, mPrev := -5, prof := 0 } }, by decide +kernel⟩,
   ⟨0, { cam := true, phase := 2, mPrev := -5, prof := 0, nextProf := some (1, 0, 0) }, st fun d => ((d.wrS (R.INTERP_CAM_LEN 0) 10).fsb (R.INTERP_CAM_PROF 0) F.INTERP_CAM_PROF_CYCLIC true).modAx 0 fun x => { x with fol := some { cam := true, phase := 2, mPrev := -5, prof := 0, nextProf := some (1, 0, 0) } }, by decide +kernel⟩⟩

theorem test_meets_ControlEngineEventsTakeEffect :
    (∃ (a : Fin 64) (x : EvalIn) (e : EvalDue) (l : List EvalDue) (s : State), (Running s) ∧ (s.dev.active a = true) ∧ ((s.dev.ceAx a).due = e :: l) ∧ (s.dev.ce.stopped = false)) ∧
    (∃ (a : Fin 64) (h : Fin 5) (s : State), (Running s) ∧ (s.dev.bit (R.CE_AX_HOOK a) h = true) ∧ (s.dev.hookAbsent a h = true) ∧ (s.dev.bit (R.CE_AX_STATUS a) (16 + h) = false)) ∧
    (∃ (a : Fin 64) (s : State), (Running s) ∧ (2 ≤ s.dev.axState a) ∧ (s.dev.active a = true) ∧ (s.dev.fg (R.CE_AX_FE a) F.CE_AX_FE_FE_LIMIT ≠ 0) ∧ (s.dev.fg (R.CE_AX_FE a) F.CE_AX_FE_FE_TIME ≤ (s.dev.ceAx a).feN) ∧ (0 < (s.dev.ceAx a).feN)) ∧
    (∃ (a : Fin 64) (e y : EvalDue) (l : List EvalDue) (s : State), (Running s) ∧ (s.dev.active a = true) ∧ ((s.dev.ceAx a).due = e :: y :: l)) ∧
    (∃ (a : Fin 64) (r : StopRun) (s : State), (Running s) ∧ ((s.dev.ax a).stop = some r) ∧ ((s.dev.ceAx a).hsgRamp = true) ∧ ((s.dev.ax a).vCmd = 0) ∧ (s.dev.axState a = 4) ∧ (rankClass r.rank ≠ 0)) ∧
    (∃ (w : Word) (s : State), (Running s) ∧ (wbits w 15 0 = 0x3C5A)) ∧
    (∃ (w : Word) (s : State), (Running s) ∧ (wbits w 15 0 ≠ 0x3C5A)) :=
  ⟨⟨0, {}, {}, [], st fun d => (d.fs (R.AXIS_STATUS 0) F.AXIS_STATUS_STATE 2).modCe 0 fun c => { c with due := [{}] }, by decide +kernel⟩,
   ⟨0, 1, st fun d => ((d.setBit (R.CE_AX_HOOK 0) 1 true).fs (R.CE_AX_HOOK 0) F.CE_AX_HOOK_STALE_LIMIT 1).modHook 0 1 fun x => { x with stale := 1 }, by decide +kernel⟩,
   ⟨0, st fun d => (((d.fs (R.AXIS_STATUS 0) F.AXIS_STATUS_STATE 2).fs (R.CE_AX_FE 0) F.CE_AX_FE_FE_LIMIT 5).fs (R.CE_AX_FE 0) F.CE_AX_FE_FE_TIME 1).modCe 0 fun c => { c with feN := 1 }, by decide +kernel⟩,
   ⟨0, {}, {}, [], st fun d => (d.fs (R.AXIS_STATUS 0) F.AXIS_STATUS_STATE 2).modCe 0 fun c => { c with due := [{}, {}] }, by decide +kernel⟩,
   ⟨0, { rank := 4, ramp := true, final := 0 }, st fun d => ((d.fs (R.AXIS_STATUS 0) F.AXIS_STATUS_STATE 4).modAx 0 fun x => { x with stop := some { rank := 4, ramp := true, final := 0 } }).modCe 0 fun c => { c with hsgRamp := true }, by decide +kernel⟩,
   ⟨0x3C5A, st id, by decide +kernel⟩,
   ⟨0x3C5B, st id, by decide +kernel⟩⟩

theorem test_meets_FrontEndDetectionsTakeEffect :
    (∃ (i : Fin 160) (x y : Nat) (s : State), (Running s) ∧ (s.dev.fb (R.CFE_SD_CFG i) F.CFE_SD_CFG_EN = true) ∧ (s.dev.isOc i x = true ∨ s.dev.isOcW i x y = true)) ∧
    (∃ (i : Fin 160) (x : Nat) (s : State), (Running s) ∧ (s.dev.fb (R.CFE_SD_CFG i) F.CFE_SD_CFG_EN = true) ∧ (s.dev.fb (R.CFE_SD_CFG i) F.CFE_SD_CFG_STUCK_EN = true) ∧ (allEqual (s.dev.stuckN i) x = true)) ∧
    (∃ (i : Fin 160) (x : Nat) (s : State), (Running s) ∧ (s.dev.fb (R.CFE_SD_CFG i) F.CFE_SD_CFG_EN = true) ∧ (s.dev.fb (R.CFE_SD_CFG i) F.CFE_SD_CFG_ALT_EN = true) ∧ (alternates (s.dev.stuckN i) x = true)) ∧
    (∃ (i : Fin 160) (s : State), (Running s) ∧ (s.dev.fb (R.CFE_SD_CFG i) F.CFE_SD_CFG_EN = true) ∧ (s.dev.fg (R.CFE_SD_CFG i) F.CFE_SD_CFG_RANGE_N < (s.dev.sd i).rangeN)) ∧
    (∃ (k : Fin 20) (s : State), (Running s) ∧ (s.dev.fb R.CFE_CLK_CFG F.CFE_CLK_CFG_EXT = false) ∧ (s.dev.fb (R.CFE_SDCK_CFG k) F.CFE_SDCK_CFG_EN = true)) ∧
    (∃ (s : State), (Running s) ∧ (s.dev.fb R.CFE_CLK_CFG F.CFE_CLK_CFG_EXT = true) ∧ (s.dev.fb R.CFE_CLK_STATUS F.CFE_CLK_STATUS_EXT_LOST = false)) ∧
    (∃ (k : Fin 21) (s : State), (Running s) ∧ (k.val ≠ 20) ∧ (s.dev.cfe.sdckNow.contains k.val = true)) ∧
    (∃ (s : State), (Running s) ∧ (s.dev.cfe.extNow = true)) :=
  ⟨⟨0, 2 ^ 200 - 1, 0, st fun d => (((d.fsb (R.CFE_SD_CFG 0) F.CFE_SD_CFG_EN true).fsb (R.CFE_SD_CFG 0) F.CFE_SD_CFG_OC_EN true).wr (R.CFE_SD_OC 0) 0), by decide +kernel⟩,
   ⟨0, 0, st fun d => ((d.fsb (R.CFE_SD_CFG 0) F.CFE_SD_CFG_EN true).fsb (R.CFE_SD_CFG 0) F.CFE_SD_CFG_STUCK_EN true), by decide +kernel⟩,
   ⟨0, (2 ^ 256 - 1) / 3, st fun d => ((d.fsb (R.CFE_SD_CFG 0) F.CFE_SD_CFG_EN true).fsb (R.CFE_SD_CFG 0) F.CFE_SD_CFG_ALT_EN true), by decide +kernel⟩,
   ⟨0, st fun d => ((d.fsb (R.CFE_SD_CFG 0) F.CFE_SD_CFG_EN true).modSd 0 fun x => { x with rangeN := 300 }), by decide +kernel⟩,
   ⟨7, st fun d => d.fsb (R.CFE_SDCK_CFG 7) F.CFE_SDCK_CFG_EN true, by decide +kernel⟩,
   ⟨st fun d => d.fsb R.CFE_CLK_CFG F.CFE_CLK_CFG_EXT true, by decide +kernel⟩,
   ⟨3, st fun d => { d with cfe := { d.cfe with sdckNow := [3] } }, by decide +kernel⟩,
   ⟨st fun d => { d with cfe := { d.cfe with extNow := true } }, by decide +kernel⟩⟩

theorem test_meets_FrontEndWordsTakeEffect :
    (∃ (i : Fin 160) (x : Nat) (s : State), (Running s) ∧ (s.dev.fb (R.CFE_SD_CFG i) F.CFE_SD_CFG_EN = true) ∧ (s.dev.fb (R.CFE_SD_STATUS i) F.CFE_SD_STATUS_FILLING = false) ∧ (s.dev.clockRuns (s.dev.sdClock i) = true)) ∧
    (∃ (i : Fin 160) (s : State), (Running s) ∧ (s.dev.fb (R.CFE_SD_STATUS i) F.CFE_SD_STATUS_FILLING = true) ∧ (s.dev.clockRuns (s.dev.sdClock i) = true)) ∧
    (∃ (a : Fin 64) (s : State), (Running s) ∧ (s.dev.bound a = true) ∧ (s.dev.pwmOff a = true) ∧ (s.dev.throttled = false) ∧ (s.dev.cfe.window.contains a.val = false)) ∧
    (∃ (i : Fin 160) (s : State), (Running s) ∧ (s.dev.throttled = false) ∧ (4096 ≤ (s.dev.sd i).calN) ∧ (s.dev.fb (R.CFE_SD_CFG i) F.CFE_SD_CFG_CAL_EN = true) ∧ (s.dev.averaging i = true) ∧ ((s.dev.sd i).calBad = false) ∧ ((s.dev.sd i).calSum.natAbs ≤ 2 ^ 19 * 4096)) ∧
    (∃ (i : Fin 160) (s : State), (Running s) ∧ (s.dev.throttled = false) ∧ (4096 ≤ (s.dev.sd i).calN) ∧ (s.dev.fb (R.CFE_SD_CFG i) F.CFE_SD_CFG_CAL_EN = true) ∧ (s.dev.averaging i = true) ∧ ((s.dev.sd i).calBad = false) ∧ (2 ^ 19 * 4096 < (s.dev.sd i).calSum.natAbs)) ∧
    (∃ (n : Fin 4) (i : Nat) (s : State), (Running s) ∧ (s.dev.fg (R.CFE_BANK_CAL n) F.CFE_BANK_CAL_REF_IN = i) ∧ (4096 ≤ (s.dev.sd i).calN) ∧ (s.dev.isRef i = true) ∧ (s.dev.bankOff n = true) ∧ (i / 40 = n.val) ∧ ((s.dev.sd i).calBad = false) ∧ (0 < (s.dev.sd i).calSum) ∧ ((95 : Int) * (s.dev.sd i).calSum ≤ (s.dev.fg (R.CFE_BANK_REF n) F.CFE_BANK_REF_REF_NOM : Int) * 4096 * 100) ∧ ((s.dev.fg (R.CFE_BANK_REF n) F.CFE_BANK_REF_REF_NOM : Int) * 4096 * 100 ≤ 105 * (s.dev.sd i).calSum)) :=
  ⟨⟨1, 5, st fun d => ((d.fsb (R.CFE_SDCK_CFG 0) F.CFE_SDCK_CFG_EN true).fsb (R.CFE_SD_CFG 1) F.CFE_SD_CFG_EN true), by decide +kernel⟩,
   ⟨1, st fun d => ((d.fsb (R.CFE_SDCK_CFG 0) F.CFE_SDCK_CFG_EN true).fsb (R.CFE_SD_STATUS 1) F.CFE_SD_STATUS_FILLING true), by decide +kernel⟩,
   ⟨0, st fun d => d.fsb (R.AXIS_BIND 0) F.AXIS_BIND_BOUND true, by decide +kernel⟩,
   ⟨5, st fun d => ((((d.fsb (R.CFE_SD_CFG 5) F.CFE_SD_CFG_CAL_EN true).fsb (R.CFE_BANK_CAL 0) F.CFE_BANK_CAL_REF_EN true).fs (R.CFE_BANK_CAL 0) F.CFE_BANK_CAL_REF_IN 5)).modSd 5 fun x => { x with calN := 4096, calSum := 8 }, by decide +kernel⟩,
   ⟨5, st fun d => ((((d.fsb (R.CFE_SD_CFG 5) F.CFE_SD_CFG_CAL_EN true).fsb (R.CFE_BANK_CAL 0) F.CFE_BANK_CAL_REF_EN true).fs (R.CFE_BANK_CAL 0) F.CFE_BANK_CAL_REF_IN 5)).modSd 5 fun x => { x with calN := 4096, calSum := 2 ^ 40 }, by decide +kernel⟩,
   ⟨0, 5, st fun d => ((((d.fs (R.CFE_BANK_REF 0) F.CFE_BANK_REF_REF_NOM 100).fsb (R.CFE_BANK_CAL 0) F.CFE_BANK_CAL_REF_EN true).fs (R.CFE_BANK_CAL 0) F.CFE_BANK_CAL_REF_IN 5)).modSd 5 fun x => { x with calN := 4096, calSum := 409600 }, by decide +kernel⟩⟩

theorem test_meets_PwmEventsTakeEffect :
    (∃ (n : Fin 4) (s : State), (Running s) ∧ (s.dev.pwm.halted = false) ∧ ((s.dev.bank n).run1 = true)) ∧
    (∃ (l : Fin 192) (u : Bool) (p r c : Nat) (rest : List Nat) (s : State), (Running s) ∧ (s.dev.switching l = true) ∧ ((s.dev.leg l).issued = c :: rest)) ∧
    (∃ (l : Fin 192) (u : Bool) (e : Nat) (s : State), (Running s) ∧ (s.dev.switching l = true) ∧ (s.dev.upMode l = false ∨ u = false) ∧ ((s.dev.leg l).slope2 = u) ∧ ((s.dev.leg l).edged = false) ∧ (s.dev.edgePos l (s.dev.leg l).c u = some e)) ∧
    (∃ (n : Fin 4) (s : State), (Running s) ∧ (s.dev.pwm.halted = false) ∧ (s.dev.fg (R.PWM_BANK_CFG n) F.PWM_BANK_CFG_MODE0 ≠ 1) ∧ (s.dev.fb (R.PWM_BANK_CFG n) F.PWM_BANK_CFG_RPEAK0 = true)) ∧
    (∃ (n : Fin 4) (s : State), (Running s) ∧ (s.dev.pwm.halted = false) ∧ ((s.dev.bank n).mode1 ≠ 1) ∧ ((s.dev.bank n).rpeak1 = 1)) ∧
    (∃ (l : Fin 192) (s : State), (Running s) ∧ (s.dev.switching l = true) ∧ ((s.dev.leg l).held = none)) ∧
    (∃ (l : Fin 192) (s : State), (Running s) ∧ (s.dev.switching l = true)) :=
  ⟨⟨1, st fun d => d.modBank 1 fun x => { x with run1 := true }, by decide +kernel⟩,
   ⟨0, false, 0, 0, 7, [], st fun d => (d.modLeg 0 fun x => { x with cond := .switching, issued := [7] }), by decide +kernel⟩,
   ⟨0, false, 39950, st fun d => (d.modLeg 0 fun x => { x with cond := .switching, c := 100 }), by decide +kernel⟩,
   ⟨0, st fun d => (d.fs (R.PWM_BANK_CFG 0) F.PWM_BANK_CFG_MODE0 0).fsb (R.PWM_BANK_CFG 0) F.PWM_BANK_CFG_RPEAK0 true, by decide +kernel⟩,
   ⟨0, st fun d => d.modBank 0 fun x => { x with rpeak1 := 1 }, by decide +kernel⟩,
   ⟨0, st fun d => (d.modLeg 0 fun x => { x with cond := .switching }), by decide +kernel⟩,
   ⟨0, st fun d => (d.modLeg 0 fun x => { x with cond := .switching }), by decide +kernel⟩⟩

theorem test_meets_TripsAndHaltTakeEffect :
    (∃ (t : Fin 68) (s : State), (Running s) ∧ (s.dev.fb (R.PWM_TRIP_CFG t) F.PWM_TRIP_CFG_EN = true) ∧ (s.dev.fb (R.PWM_TRIP_STATUS t) F.PWM_TRIP_STATUS_LEVEL = false) ∧ ((s.dev.trip t).blocked = false)) ∧
    (∃ (t : Fin 68) (s : State), (Running s) ∧ ((s.dev.trip t).blocked = false)) ∧
    (∃ (t : Fin 68) (s : State), (Running s) ∧ ((s.dev.trip t).blocked = true) ∧ (s.dev.tripFilt t = 0) ∧ (s.dev.fb (R.PWM_TRIP_STATUS t) F.PWM_TRIP_STATUS_LEVEL = true) ∧ (s.dev.fb (R.PWM_TRIP_CFG t) F.PWM_TRIP_CFG_EN = true)) ∧
    (∃ (t : Fin 68) (s : State), (Running s) ∧ (s.dev.fb (R.PWM_TRIP_STATUS t) F.PWM_TRIP_STATUS_LEVEL = false)) ∧
    (∃ (t : Fin 68) (s : State), (Running s) ∧ (s.dev.fb (R.PWM_TRIP_STATUS t) F.PWM_TRIP_STATUS_LEVEL = true)) ∧
    (∃ (s : State), (Running s) ∧ (s.dev.dapAt 2 = true) ∧ (s.dev.dozing = false) ∧ (s.dev.fb R.DEBUG_CFG F.DEBUG_CFG_HALT_GUARD = false)) ∧
    (∃ (s : State), (Running s) ∧ (s.dev.dapAt 2 = true) ∧ (s.dev.dozing = false) ∧ (s.dev.firstActive = none) ∧ (s.dev.hostSwitching = false)) ∧
    (∃ (s : State), (Running s) ∧ (s.dev.dapAt 2 = true) ∧ (s.dev.dozing = false) ∧ (s.dev.fb R.DEBUG_CFG F.DEBUG_CFG_HALT_GUARD = true) ∧ (s.dev.firstActive.isSome = true ∨ s.dev.hostSwitching = true)) ∧
    (∃ (s : State), (Running s) ∧ (s.dev.dapAt 2 = true) ∧ (s.dev.dozing = true)) ∧
    (∃ (s : State), (Running s) ∧ (s.dev.dapAt 2 = true) ∧ (s.dev.pwm.halted = true)) :=
  ⟨⟨3, st fun d => (d.fsb (R.PWM_TRIP_CFG 3) F.PWM_TRIP_CFG_EN true), by decide +kernel⟩,
   ⟨3, st id, by decide +kernel⟩,
   ⟨3, st fun d => ((d.fsb (R.PWM_TRIP_CFG 3) F.PWM_TRIP_CFG_EN true).fsb (R.PWM_TRIP_STATUS 3) F.PWM_TRIP_STATUS_LEVEL true).modTrip 3 fun x => { x with blocked := true }, by decide +kernel⟩,
   ⟨3, st id, by decide +kernel⟩,
   ⟨3, st fun d => d.fsb (R.PWM_TRIP_STATUS 3) F.PWM_TRIP_STATUS_LEVEL true, by decide +kernel⟩,
   ⟨st fun d => ((d.fsb R.DEBUG_STATUS F.DEBUG_STATUS_DAP true).fsb R.DEBUG_CFG F.DEBUG_CFG_HALT_GUARD false), by decide +kernel⟩,
   ⟨st fun d => (d.fsb R.DEBUG_STATUS F.DEBUG_STATUS_DAP true), by decide +kernel⟩,
   ⟨st fun d => ((d.fsb R.DEBUG_STATUS F.DEBUG_STATUS_DAP true).fsb R.DEBUG_CFG F.DEBUG_CFG_HALT_GUARD true).fs (R.AXIS_STATUS 3) F.AXIS_STATUS_STATE 2, by decide +kernel⟩,
   ⟨st fun d => (d.fsb R.DEBUG_STATUS F.DEBUG_STATUS_DAP true).fs R.PWR_STATUS F.PWR_STATUS_STATE 2, by decide +kernel⟩,
   ⟨st fun d => ({ d with pwm := { d.pwm with halted := true } } : Dev).fsb R.DEBUG_STATUS F.DEBUG_STATUS_DAP true, by decide +kernel⟩⟩

theorem test_meets_EncoderEventsTakeEffect :
    (∃ (e : Fin 64) (a b : Bool) (s : State), (Running s) ∧ (s.dev.encMode e = 1) ∧ ((s.dev.port e).a = a ∨ (s.dev.port e).b = b) ∧ (¬ ((s.dev.port e).a = a ∧ (s.dev.port e).b = b))) ∧
    (∃ (e : Fin 64) (a b : Bool) (s : State), (Running s) ∧ (s.dev.encMode e = 1) ∧ ((s.dev.port e).a ≠ a) ∧ ((s.dev.port e).b ≠ b)) ∧
    (∃ (e : Fin 64) (s : State), (Running s) ∧ (s.dev.encMode e = 1) ∧ (zGate (s.dev.fg (R.ENC_CFG e) F.ENC_CFG_ZGATE) (s.dev.port e).a (s.dev.port e).b = true)) ∧
    (∃ (e : Fin 64) (s : State), (Running s) ∧ (2 ≤ s.dev.encMode e) ∧ ((s.dev.port e).due = true) ∧ ((s.dev.port e).running = false)) ∧
    (∃ (e : Fin 64) (s : State), (Running s) ∧ (2 ≤ s.dev.encMode e) ∧ ((s.dev.port e).due = true) ∧ ((s.dev.port e).running = false)) ∧
    (∃ (e : Fin 64) (late : Bool) (s : State), (Running s) ∧ ((s.dev.port e).running = true)) ∧
    (∃ (e : Fin 64) (raw : Nat) (s : State), (Running s) ∧ ((s.dev.port e).running = true) ∧ (s.dev.encMode e = 2)) ∧
    (∃ (e : Fin 64) (s : State), (Running s) ∧ (s.dev.encMode e ≠ 0) ∧ (s.dev.fg (R.ENC_CFG e) F.ENC_CFG_BAD_N < (s.dev.port e).badRun) ∧ (s.dev.fb (R.ENC_STATUS e) F.ENC_STATUS_FAILED = false)) ∧
    (∃ (e : Fin 64) (s : State), (Running s) ∧ (s.dev.fb (R.ENC_STATUS e) F.ENC_STATUS_FAILED = true) ∧ (16 ≤ (s.dev.port e).goodRun)) :=
  ⟨⟨0, true, false, st fun d => (d.fs (R.ENC_CFG 0) F.ENC_CFG_MODE 1), by decide +kernel⟩,
   ⟨0, true, true, st fun d => (d.fs (R.ENC_CFG 0) F.ENC_CFG_MODE 1), by decide +kernel⟩,
   ⟨0, st fun d => (d.fs (R.ENC_CFG 0) F.ENC_CFG_MODE 1), by decide +kernel⟩,
   ⟨0, st fun d => (d.fs (R.ENC_CFG 0) F.ENC_CFG_MODE 2).modPort 0 fun x => { x with due := true }, by decide +kernel⟩,
   ⟨0, st fun d => (d.fs (R.ENC_CFG 0) F.ENC_CFG_MODE 2).modPort 0 fun x => { x with due := true }, by decide +kernel⟩,
   ⟨0, false, st fun d => d.modPort 0 fun x => { x with running := true }, by decide +kernel⟩,
   ⟨0, 5, st fun d => (d.fs (R.ENC_CFG 0) F.ENC_CFG_MODE 2).modPort 0 fun x => { x with running := true }, by decide +kernel⟩,
   ⟨0, st fun d => (d.fs (R.ENC_CFG 0) F.ENC_CFG_MODE 1).modPort 0 fun x => { x with badRun := 300 }, by decide +kernel⟩,
   ⟨0, st fun d => (d.fsb (R.ENC_STATUS 0) F.ENC_STATUS_FAILED true).modPort 0 fun x => { x with goodRun := 16 }, by decide +kernel⟩⟩

theorem test_meets_FixAndCompareEventsTakeEffect :
    (∃ (i : Fin 16) (up : Bool) (t : Nat) (s : State), (Running s) ∧ (s.dev.fb (R.FIX_CFG i) F.FIX_CFG_EN = true) ∧ (s.dev.fb (R.FIX_CFG i) F.FIX_CFG_SRC = false) ∧ ((s.dev.fix i).last = none) ∧ (s.dev.fixWants i up = true)) ∧
    (∃ (i : Fin 16) (up : Bool) (t l : Nat) (s : State), (Running s) ∧ (s.dev.fb (R.FIX_CFG i) F.FIX_CFG_EN = true) ∧ (s.dev.fb (R.FIX_CFG i) F.FIX_CFG_SRC = false) ∧ ((s.dev.fix i).last = some l) ∧ (l + 20 ≤ t) ∧ (s.dev.fixWants i up = true)) ∧
    (∃ (i : Fin 16) (up : Bool) (t : Nat) (s : State), (Running s) ∧ (s.dev.fb (R.FIX_CFG i) F.FIX_CFG_EN = true) ∧ (s.dev.fb (R.FIX_CFG i) F.FIX_CFG_SRC = false) ∧ ((∀ l : Nat, (s.dev.fix i).last = some l → l + 20 ≤ t)) ∧ (s.dev.fixWants i up = false)) ∧
    (∃ (i : Fin 16) (up : Bool) (t l : Nat) (s : State), (Running s) ∧ (s.dev.fb (R.FIX_CFG i) F.FIX_CFG_EN = true) ∧ (s.dev.fb (R.FIX_CFG i) F.FIX_CFG_SRC = false) ∧ ((s.dev.fix i).last = some l) ∧ (t < l + 20) ∧ (s.dev.fixWants i up = true)) ∧
    (∃ (i : Fin 16) (up : Bool) (t l : Nat) (s : State), (Running s) ∧ (s.dev.fb (R.FIX_CFG i) F.FIX_CFG_EN = true) ∧ (s.dev.fb (R.FIX_CFG i) F.FIX_CFG_SRC = false) ∧ ((s.dev.fix i).last = some l) ∧ (t < l + 20) ∧ (s.dev.fixWants i up = false)) ∧
    (∃ (i : Fin 16) (up : Bool) (t u : Nat) (s : State), (Running s) ∧ (s.dev.fb (R.FIX_CFG i) F.FIX_CFG_EN = true) ∧ (s.dev.fb (R.FIX_CFG i) F.FIX_CFG_SRC = true) ∧ ((s.dev.fix i).pco = some u) ∧ ((∀ l : Nat, (s.dev.fix i).last = some l → l + 20 ≤ u))) ∧
    (∃ (i : Fin 16) (up : Bool) (t u l : Nat) (s : State), (Running s) ∧ (s.dev.fb (R.FIX_CFG i) F.FIX_CFG_EN = true) ∧ (s.dev.fb (R.FIX_CFG i) F.FIX_CFG_SRC = true) ∧ ((s.dev.fix i).pco = some u) ∧ ((s.dev.fix i).last = some l) ∧ (u < l + 20)) ∧
    (∃ (i : Fin 16) (s : State), (Running s) ∧ (s.dev.fb (R.FIX_STATUS i) F.FIX_STATUS_FORMING = true) ∧ ((s.dev.fix i).need = [])) ∧
    (∃ (i : Fin 16) (l : List Nat) (s : State), (Running s) ∧ (s.dev.fb (R.FIX_STATUS i) F.FIX_STATUS_FORMING = true) ∧ ((s.dev.fix i).need = l) ∧ ((∀ a : Nat, a ∈ l → s.dev.bound a = false ∨ s.dev.encMode (s.dev.portOf a) = 0))) ∧
    (∃ (o : Fin 16) (s : State), (Running s) ∧ (s.dev.pcoOn o = true) ∧ ((s.dev.pco o).armed = true) ∧ (s.dev.fb (R.PCO_CFG o) F.PCO_CFG_SRC = false) ∧ (s.dev.reached o (s.dev.pcoPos o) (s.dev.target o (s.dev.fg (R.PCO_STATUS o) F.PCO_STATUS_NEXT)) = true)) ∧
    (∃ (o : Fin 16) (s : State), (Running s) ∧ (s.dev.pcoOn o = true) ∧ ((s.dev.pco o).armed = true) ∧ (s.dev.fb (R.PCO_CFG o) F.PCO_CFG_SRC = true) ∧ ((s.dev.pco o).pred.isSome = true)) ∧
    (∃ (d : Dev) (o : Nat), ((d.pco o).active = false)) ∧
    (∃ (d : Dev) (o : Nat), ((d.pco o).active = true)) ∧
    (∃ (d : Dev) (o : Nat), (d.fg (R.PCO_STATUS o) F.PCO_STATUS_NEXT + 1 < d.targets o)) ∧
    (∃ (d : Dev) (o : Nat), (d.targets o ≤ d.fg (R.PCO_STATUS o) F.PCO_STATUS_NEXT + 1) ∧ (d.fb (R.PCO_CFG o) F.PCO_CFG_REPEAT = true)) ∧
    (∃ (d : Dev) (o : Nat), (d.targets o ≤ d.fg (R.PCO_STATUS o) F.PCO_STATUS_NEXT + 1) ∧ (d.fb (R.PCO_CFG o) F.PCO_CFG_REPEAT = false)) ∧
    (∃ (o : Fin 16) (s : State), (Running s)) :=
  ⟨⟨3, true, 100, st fun d => (((d.fsb (R.FIX_CFG 3) F.FIX_CFG_EN true).fsb (R.FIX_STATUS 3) F.FIX_STATUS_ARMED true).fsb (R.AXIS_BIND 0) F.AXIS_BIND_BOUND true |>.fs (R.ENC_CFG 0) F.ENC_CFG_MODE 1), by decide +kernel⟩,
   ⟨3, true, 100, 80, st fun d => (((d.fsb (R.FIX_CFG 3) F.FIX_CFG_EN true).fsb (R.FIX_STATUS 3) F.FIX_STATUS_ARMED true).fsb (R.AXIS_BIND 0) F.AXIS_BIND_BOUND true |>.fs (R.ENC_CFG 0) F.ENC_CFG_MODE 1).modFix 3 fun x => { x with last := some 80 }, by decide +kernel⟩,
   ⟨3, false, 100, st fun d => (d.fsb (R.FIX_CFG 3) F.FIX_CFG_EN true), by decide +kernel⟩,
   ⟨3, true, 99, 80, st fun d => (d.fsb (R.FIX_CFG 3) F.FIX_CFG_EN true).modFix 3 fun x => { x with last := some 80 }, by decide +kernel⟩,
   ⟨3, false, 99, 80, st fun d => (d.fsb (R.FIX_CFG 3) F.FIX_CFG_EN true).modFix 3 fun x => { x with last := some 80 }, by decide +kernel⟩,
   ⟨3, true, 0, 50, st fun d => ((d.fsb (R.FIX_CFG 3) F.FIX_CFG_EN true).fsb (R.FIX_CFG 3) F.FIX_CFG_SRC true).modFix 3 fun x => { x with pco := some 50 }, by decide +kernel⟩,
   ⟨3, true, 0, 50, 31, st fun d => ((d.fsb (R.FIX_CFG 3) F.FIX_CFG_EN true).fsb (R.FIX_CFG 3) F.FIX_CFG_SRC true).modFix 3 fun x => { x with pco := some 50, last := some 31 }, by decide +kernel⟩,
   ⟨3, st fun d => (d.fsb (R.FIX_STATUS 3) F.FIX_STATUS_FORMING true).wrS (R.FIX_REC_POS 3 0) 7 |>.setBit (R.FIX_REC_VALID 3) 0 true, by decide +kernel⟩,
   ⟨3, [5], st fun d => (d.fsb (R.FIX_STATUS 3) F.FIX_STATUS_FORMING true).modFix 3 fun x => { x with need := [5] }, by decide +kernel⟩,
   ⟨3, st fun d => (d.fsb (R.PCO_STATUS 3) F.PCO_STATUS_ENABLED true).modPco 3 fun x => { x with armed := true }, by decide +kernel⟩,
   ⟨3, st fun d => ((d.fsb (R.PCO_STATUS 3) F.PCO_STATUS_ENABLED true).fsb (R.PCO_CFG 3) F.PCO_CFG_SRC true).modPco 3 fun x => { x with armed := true, pred := some 7 }, by decide +kernel⟩,
   ⟨{}, 3, by decide +kernel⟩,
   ⟨(({} : Dev).modPco 3 fun x => { x with active := true }), 3, by decide +kernel⟩,
   ⟨({} : Dev).fs (R.PCO_LIST 3) F.PCO_LIST_COUNT 5, 3, by decide +kernel⟩,
   ⟨({} : Dev).fsb (R.PCO_CFG 3) F.PCO_CFG_REPEAT true, 3, by decide +kernel⟩,
   ⟨{}, 3, by decide +kernel⟩,
   ⟨3, st id, by decide +kernel⟩⟩

theorem test_meets_SlotMBundlesIssue : 
    (∃ s, Running s ∧ CanIssue s.dev 0 (.mul .mpy 1 2 15) .nop) ∧
    (∃ s, Running s ∧ CanIssue s.dev 0 (.mul .mac 1 2 15) .nop) ∧
    (∃ s, Running s ∧ CanIssue s.dev 0 (.mul .msu 1 2 15) .nop) ∧
    (∃ s, Running s ∧ CanIssue s.dev 0 (.mul .mpyi 1 2 15) .nop) ∧
    (∃ s, Running s ∧ CanIssue s.dev 0 (.mul .maci 1 2 15) .nop) ∧
    (∃ s, Running s ∧ CanIssue s.dev 0 (.mul .msui 1 2 15) .nop) ∧
    (∃ s, Running s ∧ CanIssue s.dev 0 (.clr 2) .nop) ∧
    (∃ s, Running s ∧ CanIssue s.dev 0 (.acc .adda 3 0) .nop) ∧
    (∃ s, Running s ∧ CanIssue s.dev 0 (.acc .suba 3 0) .nop) ∧
    (∃ s, Running s ∧ CanIssue s.dev 0 (.acc .mova 3 0) .nop) ∧
    (∃ s, Running s ∧ CanIssue s.dev 0 (.acc .nega 3 0) .nop) ∧
    (∃ s, Running s ∧ CanIssue s.dev 0 (.acc .absa 3 0) .nop) ∧
    (∃ s, Running s ∧ CanIssue s.dev 0 (.sha 1 63) .nop) ∧
    (∃ s, Running s ∧ CanIssue s.dev 0 (.lda 0 15) .nop) ∧
    (∃ s, Running s ∧ CanIssue s.dev 0 (.alu .add 15 0 1) .nop) ∧
    (∃ s, Running s ∧ CanIssue s.dev 0 (.alu .sub 15 0 1) .nop) ∧
    (∃ s, Running s ∧ CanIssue s.dev 0 (.alu .adds 15 0 1) .nop) ∧
    (∃ s, Running s ∧ CanIssue s.dev 0 (.alu .subs 15 0 1) .nop) ∧
    (∃ s, Running s ∧ CanIssue s.dev 0 (.alu .and 15 0 1) .nop) ∧
    (∃ s, Running s ∧ CanIssue s.dev 0 (.alu .or 15 0 1) .nop) ∧
    (∃ s, Running s ∧ CanIssue s.dev 0 (.alu .xor 15 0 1) .nop) ∧
    (∃ s, Running s ∧ CanIssue s.dev 0 (.alu .min 15 0 1) .nop) ∧
    (∃ s, Running s ∧ CanIssue s.dev 0 (.alu .max 15 0 1) .nop) ∧
    (∃ s, Running s ∧ CanIssue s.dev 0 (.shift .asr 15 0 31) .nop) ∧
    (∃ s, Running s ∧ CanIssue s.dev 0 (.shift .lsr 15 0 31) .nop) ∧
    (∃ s, Running s ∧ CanIssue s.dev 0 (.shift .lsl 15 0 31) .nop) ∧
    (∃ s, Running s ∧ CanIssue s.dev 0 (.cmp 0 15) .nop) ∧
    (∃ s, Running s ∧ CanIssue s.dev 0 (.addi 3 4 0xFFFF) .nop) ∧
    (∃ s, Running s ∧ CanIssue s.dev 0 (.abs 3 4) .nop) ∧
    (∃ s, Running s ∧ CanIssue s.dev 0 (.neg 3 4) .nop) := 
  ⟨⟨tdWith (.mul .mpy 1 2 15) .nop 0, by decide +kernel⟩,
   ⟨tdWith (.mul .mac 1 2 15) .nop 0, by decide +kernel⟩,
   ⟨tdWith (.mul .msu 1 2 15) .nop 0, by decide +kernel⟩,
   ⟨tdWith (.mul .mpyi 1 2 15) .nop 0, by decide +kernel⟩,
   ⟨tdWith (.mul .maci 1 2 15) .nop 0, by decide +kernel⟩,
   ⟨tdWith (.mul .msui 1 2 15) .nop 0, by decide +kernel⟩,
   ⟨tdWith (.clr 2) .nop 0, by decide +kernel⟩,
   ⟨tdWith (.acc .adda 3 0) .nop 0, by decide +kernel⟩,
   ⟨tdWith (.acc .suba 3 0) .nop 0, by decide +kernel⟩,
   ⟨tdWith (.acc .mova 3 0) .nop 0, by decide +kernel⟩,
   ⟨tdWith (.acc .nega 3 0) .nop 0, by decide +kernel⟩,
   ⟨tdWith (.acc .absa 3 0) .nop 0, by decide +kernel⟩,
   ⟨tdWith (.sha 1 63) .nop 0, by decide +kernel⟩,
   ⟨tdWith (.lda 0 15) .nop 0, by decide +kernel⟩,
   ⟨tdWith (.alu .add 15 0 1) .nop 0, by decide +kernel⟩,
   ⟨tdWith (.alu .sub 15 0 1) .nop 0, by decide +kernel⟩,
   ⟨tdWith (.alu .adds 15 0 1) .nop 0, by decide +kernel⟩,
   ⟨tdWith (.alu .subs 15 0 1) .nop 0, by decide +kernel⟩,
   ⟨tdWith (.alu .and 15 0 1) .nop 0, by decide +kernel⟩,
   ⟨tdWith (.alu .or 15 0 1) .nop 0, by decide +kernel⟩,
   ⟨tdWith (.alu .xor 15 0 1) .nop 0, by decide +kernel⟩,
   ⟨tdWith (.alu .min 15 0 1) .nop 0, by decide +kernel⟩,
   ⟨tdWith (.alu .max 15 0 1) .nop 0, by decide +kernel⟩,
   ⟨tdWith (.shift .asr 15 0 31) .nop 0, by decide +kernel⟩,
   ⟨tdWith (.shift .lsr 15 0 31) .nop 0, by decide +kernel⟩,
   ⟨tdWith (.shift .lsl 15 0 31) .nop 0, by decide +kernel⟩,
   ⟨tdWith (.cmp 0 15) .nop 0, by decide +kernel⟩,
   ⟨tdWith (.addi 3 4 0xFFFF) .nop 0, by decide +kernel⟩,
   ⟨tdWith (.abs 3 4) .nop 0, by decide +kernel⟩,
   ⟨tdWith (.neg 3 4) .nop 0, by decide +kernel⟩⟩

theorem test_meets_SlotLBundlesIssue : 
    (∃ s, Running s ∧ CanIssue s.dev 0 .nop (.ld 3 false 0 0 0)) ∧
    (∃ s, Running s ∧ CanIssue s.dev 0 .nop (.st 3 0 0 0)) ∧
    (∃ s, Running s ∧ CanIssue s.dev 0 .nop (.ldd 3 4 0 0 0 1)) ∧
    (∃ s, Running s ∧ CanIssue s.dev 0 .nop (.mov 3 4)) ∧
    (∃ s, Running s ∧ CanIssue s.dev 0 .nop (.movi 3 0x8000)) ∧
    (∃ s, Running s ∧ CanIssue s.dev 0 .nop (.movih 3 0xFFFF)) ∧
    (∃ s, Running s ∧ CanIssue s.dev 0 .nop (.srset 63)) ∧
    (∃ s, Running s ∧ CanIssue s.dev 0 .nop (.srclr 63)) ∧
    (∃ s, Running s ∧ CanIssue s.dev 0 .nop (.tapd 1 true 0 0 1 0)) ∧
    (∃ s, Running s ∧ CanIssue s.dev 0 .nop (.br 0 0x1FFF)) ∧
    (∃ s, Running s ∧ CanIssue s.dev 0 .nop (.call 5)) ∧
    (∃ s, Running s ∧ CanIssue s.dev 0 .nop .ret) ∧
    (∃ s, Running s ∧ CanIssue s.dev 0 .nop .reti1) ∧
    (∃ s, Running s ∧ CanIssue s.dev 0 .nop .reti2) ∧
    (∃ s, Running s ∧ CanIssue s.dev 0 .nop (.doI 5 3)) ∧
    (∃ s, Running s ∧ CanIssue s.dev 0 .nop (.dor 2 5)) ∧
    (∃ s, Running s ∧ CanIssue s.dev 0 .nop (.enddo true 9)) ∧
    (∃ s, Running s ∧ CanIssue s.dev 0 .nop .wait) ∧
    (∃ s, Running s ∧ CanIssue s.dev 0 .nop .nop) := 
  ⟨⟨tdWith .nop (.ld 3 false 0 0 0) 0, by decide +kernel⟩,
   ⟨tdWith .nop (.st 3 0 0 0) 0, by decide +kernel⟩,
   ⟨tdWith .nop (.ldd 3 4 0 0 0 1) 0, by decide +kernel⟩,
   ⟨tdWith .nop (.mov 3 4) 0, by decide +kernel⟩,
   ⟨tdWith .nop (.movi 3 0x8000) 0, by decide +kernel⟩,
   ⟨tdWith .nop (.movih 3 0xFFFF) 0, by decide +kernel⟩,
   ⟨tdWith .nop (.srset 63) 0, by decide +kernel⟩,
   ⟨tdWith .nop (.srclr 63) 0, by decide +kernel⟩,
   ⟨tdWith .nop (.tapd 1 true 0 0 1 0) 0, by decide +kernel⟩,
   ⟨tdWith .nop (.br 0 0x1FFF) 0, by decide +kernel⟩,
   ⟨tdWith .nop (.call 5) 0, by decide +kernel⟩,
   ⟨tdWith .nop .ret 0, by decide +kernel⟩,
   ⟨tdWith .nop .reti1 0, by decide +kernel⟩,
   ⟨tdWith .nop .reti2 0, by decide +kernel⟩,
   ⟨tdWith .nop (.doI 5 3) 0, by decide +kernel⟩,
   ⟨tdWith .nop (.dor 2 5) 0, by decide +kernel⟩,
   ⟨tdWith .nop (.enddo true 9) 0, by decide +kernel⟩,
   ⟨tdWith .nop .wait 0, by decide +kernel⟩,
   ⟨tdWith .nop .nop 0, by decide +kernel⟩⟩

theorem test_meets_WindowBundlesIssue :
    (∃ (c : Fin 4) (mo : MOp) (lo : LOp) (s : State), (Running s) ∧ (CanIssue s.dev c mo lo) ∧ (s.dev.tdStoreAddr c (encL lo) = some 0x9804)) ∧
    (∃ (c : Fin 4) (mo : MOp) (lo : LOp) (s : State), (Running s) ∧ (CanIssue s.dev c mo lo) ∧ ((s.dev.tdLoadAddrs c (encL lo)).contains 0x9805 = true)) ∧
    (∃ (c : Fin 4) (mo : MOp) (lo : LOp) (s : State), (Running s) ∧ (CanIssue s.dev c mo lo) ∧ (s.dev.tdStoreAddr c (encL lo) = some 0x9806)) ∧
    (∃ (c : Fin 4) (mo : MOp) (lo : LOp) (s : State), (Running s) ∧ (CanIssue s.dev c mo lo) ∧ ((s.dev.tdStoreAddr c (encL lo)).any (fun a => decide (0x9000 ≤ a) && decide (a < 0x9200)) = true)) ∧
    (∃ (c : Fin 4) (mo : MOp) (lo : LOp) (s : State), (Running s) ∧ (CanIssue s.dev c mo lo) ∧ ((s.dev.tdLoadAddrs c (encL lo)).contains 0x9800 = true)) ∧
    (∃ (c : Fin 4) (mo : MOp) (lo : LOp) (s : State), (Running s) ∧ (CanIssue s.dev c mo lo) ∧ ((s.dev.tdLoadAddrs c (encL lo)).any (fun a => decide (0x8800 ≤ a) && decide (a < 0x8880) && decide (a % 2 = 0)) = true)) :=
  ⟨⟨0, .nop, (.st 3 0 0 0), tdWith .nop (.st 3 0 0 0) 0x9804, by decide +kernel⟩,
   ⟨0, .nop, (.ld 3 false 0 0 0), tdWith .nop (.ld 3 false 0 0 0) 0x9805, by decide +kernel⟩,
   ⟨0, .nop, (.st 3 0 0 0), tdWith .nop (.st 3 0 0 0) 0x9806, by decide +kernel⟩,
   ⟨0, .nop, (.st 3 0 0 0), tdWith .nop (.st 3 0 0 0) 0x9000, by decide +kernel⟩,
   ⟨0, .nop, (.ld 3 false 0 0 0), tdWith .nop (.ld 3 false 0 0 0) 0x9800, by decide +kernel⟩,
   ⟨0, .nop, (.ld 3 false 0 0 0), tdWith .nop (.ld 3 false 0 0 0) 0x8802, by decide +kernel⟩⟩

theorem test_meets_FaultingBundlesFault :
    (∃ (c : Fin 4) (m l : Word) (b : Nat) (s : State), (Running s) ∧ (s.dev.tdState c = 2) ∧ (s.dev.bundle c (s.dev.core c).f0.addr = (m, l)) ∧ ((s.dev.tdStoreAddr c l).any (fun a => decide (0x9000 ≤ a) && decide (a < 0x9200)) = true) ∧ ((s.dev.tdCommit c).tdFaultOf c (decM m) (decL l) = some b)) ∧
    (∃ (d : Dev) (c : Nat) (m : Word) (l : Option LOp), (decM m = none)) ∧
    (∃ (d : Dev) (c : Nat) (m : Option MOp) (l : Word), (decL l = none)) :=
  ⟨⟨0, 0xFC000000, encL (.st 3 0 0 0), 1, st fun d => (tdWith .nop (.st 3 0 0 0) 0x9000).dev.wr (tdWindow 0) 0xFC000000, by decide +kernel⟩,
   ⟨{}, 0, 0xFC000000, none, by decide +kernel⟩,
   ⟨{}, 0, none, 0x30000000, by decide +kernel⟩⟩

theorem test_meets_CoreEntriesAndWakesTakeEffect :
    (∃ (c : Fin 4) (k : Fin 8) (s : State), (Running s) ∧ ((s.dev.core c).trigDue.contains k.val = true) ∧ (s.dev.fb (R.TD_TRIG c k) F.TD_TRIG_EN = true) ∧ (s.dev.tdState c = 2 ∨ s.dev.tdState c = 3) ∧ (s.dev.fg R.PWR_STATUS F.PWR_STATUS_STATE ≠ 2) ∧ (s.dev.bit (R.TD_TRIG_STATUS c) k = false)) ∧
    (∃ (c : Fin 4) (k : Fin 8) (s : State), (Running s) ∧ ((s.dev.core c).trigDue.contains k.val = true) ∧ (s.dev.fb (R.TD_TRIG c k) F.TD_TRIG_EN = true) ∧ (s.dev.tdState c = 2 ∨ s.dev.tdState c = 3) ∧ (s.dev.fg R.PWR_STATUS F.PWR_STATUS_STATE ≠ 2) ∧ (s.dev.bit (R.TD_TRIG_STATUS c) k = true)) ∧
    (∃ (c : Fin 4) (k : Fin 8) (s : State), (Running s) ∧ ((s.dev.core c).trigDue.contains k.val = true) ∧ (s.dev.fb (R.TD_TRIG c k) F.TD_TRIG_EN = false ∨ s.dev.tdState c < 2 ∨ 3 < s.dev.tdState c ∨ s.dev.fg R.PWR_STATUS F.PWR_STATUS_STATE = 2)) ∧
    (∃ (c : Fin 4) (cause : Nat) (s : State), (Running s) ∧ (s.dev.mayEnter c = true) ∧ (s.dev.request1 c = some cause) ∧ (((s.dev.core c).commit (s.dev.core c).cyc).lvl = 0) ∧ ((((s.dev.core c).commit (s.dev.core c).cyc).reg (kSR ((s.dev.core c).commit (s.dev.core c).cyc).shadow)).getLsbD 28 = true)) ∧
    (∃ (c : Fin 4) (cause : Nat) (s : State), (Running s) ∧ (s.dev.mayEnter c = true) ∧ (((s.dev.core c).commit (s.dev.core c).cyc).lvl < 2) ∧ (((s.dev.core c).commit (s.dev.core c).cyc).aov = false) ∧ (s.dev.request2 c = some cause) ∧ ((((s.dev.core c).commit (s.dev.core c).cyc).reg (kSR ((s.dev.core c).commit (s.dev.core c).cyc).shadow)).getLsbD 29 = true)) ∧
    (∃ (c : Fin 4) (s : State), (Running s) ∧ (s.dev.mayEnter c = true) ∧ (((s.dev.core c).commit (s.dev.core c).cyc).lvl < 2) ∧ (((s.dev.core c).commit (s.dev.core c).cyc).aov = true)) ∧
    (∃ (c : Fin 4) (s : State), (Running s) ∧ (s.dev.tdState c = 3) ∧ (s.dev.dozing = false) ∧ (s.dev.anyRequest c = true)) ∧
    (∃ (c : Fin 4) (s : State), (Running s) ∧ (s.dev.dapAt 2 = true) ∧ (s.dev.dozing = false) ∧ (s.dev.tdState c = 2 ∨ s.dev.tdState c = 3)) ∧
    (∃ (c : Fin 4) (s : State), (Running s) ∧ (s.dev.dapAt 2 = true) ∧ (s.dev.dozing = false) ∧ (s.dev.tdState c = 1) ∧ ((s.dev.core c).halted = true)) ∧
    (∃ (c : Fin 4) (s : State), (Running s) ∧ (s.dev.dapAt 2 = true) ∧ (s.dev.dozing = false) ∧ (s.dev.tdState c = 1) ∧ ((s.dev.core c).halted = true)) :=
  ⟨⟨0, 3, st fun d => (d.fs (R.TD_STATUS 0) F.TD_STATUS_STATE 2).fsb (R.TD_TRIG 0 3) F.TD_TRIG_EN true |>.modCore 0 fun k => { k with trigDue := [3] }, by decide +kernel⟩,
   ⟨0, 3, st fun d => (d.fs (R.TD_STATUS 0) F.TD_STATUS_STATE 2).fsb (R.TD_TRIG 0 3) F.TD_TRIG_EN true |>.setBit (R.TD_TRIG_STATUS 0) 3 true |>.modCore 0 fun k => { k with trigDue := [3] }, by decide +kernel⟩,
   ⟨0, 3, st fun d => d.modCore 0 fun k => { k with trigDue := [3] }, by decide +kernel⟩,
   ⟨0, 3, st fun d => (d.fs (R.TD_STATUS 0) F.TD_STATUS_STATE 2).fsb (R.TD_TRIG 0 3) F.TD_TRIG_EN true |>.setBit (R.TD_TRIG_STATUS 0) 3 true |>.modCore 0 fun k => k.setReg (kSR false) 0x10000000, by decide +kernel⟩,
   ⟨0, 3, st fun d => (d.fs (R.TD_STATUS 0) F.TD_STATUS_STATE 2).fsb (R.TD_TRIG 0 3) F.TD_TRIG_EN true |>.fsb (R.TD_TRIG 0 3) F.TD_TRIG_LEVEL true |>.setBit (R.TD_TRIG_STATUS 0) 3 true |>.modCore 0 fun k => k.setReg (kSR false) 0x20000000, by decide +kernel⟩,
   ⟨0, st fun d => (d.fs (R.TD_STATUS 0) F.TD_STATUS_STATE 2).modCore 0 fun k => { k with aov := true }, by decide +kernel⟩,
   ⟨0, st fun d => (d.fs (R.TD_STATUS 0) F.TD_STATUS_STATE 3).fsb (R.TD_TRIG 0 3) F.TD_TRIG_EN true |>.setBit (R.TD_TRIG_STATUS 0) 3 true, by decide +kernel⟩,
   ⟨0, st fun d => ((d.fs (R.TD_STATUS 0) F.TD_STATUS_STATE 3).fsb R.DEBUG_STATUS F.DEBUG_STATUS_DAP true), by decide +kernel⟩,
   ⟨0, st fun d => ((d.fs (R.TD_STATUS 0) F.TD_STATUS_STATE 1).fsb R.DEBUG_STATUS F.DEBUG_STATUS_DAP true).modCore 0 fun k => { k with halted := true }, by decide +kernel⟩,
   ⟨0, st fun d => ((d.fs (R.TD_STATUS 0) F.TD_STATUS_STATE 1).fsb R.DEBUG_STATUS F.DEBUG_STATUS_DAP true).modCore 0 fun k => { k with halted := true }, by decide +kernel⟩⟩

theorem test_meets_TraceAndSnapshotEventsTakeEffect :
    (∃ (w : Word) (s : State), (Running s) ∧ (wbit w 0 = true)) ∧
    (∃ (w : Word) (s : State), (Running s) ∧ (wbit w 1 = true)) ∧
    (∃ (w : Word) (s : State), (Running s) ∧ (wbit w 2 = true)) ∧
    (∃ (w : Word) (s : State), (Running s) ∧ (wbit w 3 = true)) ∧
    (∃ (d : Dev) (w : Word), (wbit w 0 = true) ∧ (wbit w 1 = false) ∧ (wbit w 2 = false) ∧ (wbit w 3 = false) ∧ (d.trcState = 1 ∨ d.trcState = 4)) ∧
    (∃ (d : Dev) (w : Word), (wbit w 1 = true) ∧ (wbit w 2 = false) ∧ (wbit w 3 = false) ∧ (2 ≤ d.trcState)) ∧
    (∃ (d : Dev) (w : Word), (wbit w 0 = false) ∧ (wbit w 1 = false) ∧ (wbit w 2 = true) ∧ (wbit w 3 = false) ∧ (d.trcState = 2)) ∧
    (∃ (d : Dev) (w : Word), (wbit w 0 = false) ∧ (wbit w 1 = false) ∧ (wbit w 2 = false) ∧ (wbit w 3 = true) ∧ (d.fg R.TRACE_CFG F.TRACE_CFG_MODE ≠ 0)) ∧
    (∃ (w : Word) (s : State), (Running s) ∧ (s.dev.unreadFrom (wbits w 19 0) ≤ s.dev.unread)) ∧
    (∃ (w : Word) (s : State), (Running s) ∧ (s.dev.unread < s.dev.unreadFrom (wbits w 19 0))) ∧
    (∃ (busy : Bool) (x : SampleDue) (rest : List SampleDue) (s : State), (Running s) ∧ (s.dev.trace.due = x :: rest) ∧ (s.dev.sampleReady x = true) ∧ (s.dev.trcState = 2 ∨ s.dev.trcState = 5 ∨ (s.dev.trcState = 3 ∧ 0 < s.dev.trace.postLeft))) ∧
    (∃ (busy : Bool) (x : SampleDue) (rest : List SampleDue) (s : State), (Running s) ∧ (s.dev.trace.due = x :: rest) ∧ (s.dev.sampleReady x = true) ∧ (s.dev.trcState ≠ 2) ∧ (s.dev.trcState ≠ 5) ∧ (s.dev.trcState ≠ 3 ∨ s.dev.trace.postLeft = 0)) ∧
    (∃ (s : State), (Running s) ∧ (s.dev.trcState = 3) ∧ (s.dev.trace.postLeft = 0)) ∧
    (∃ (s : State), (Running s) ∧ (s.dev.trcState = 2) ∧ (s.dev.fg R.TRACE_CFG F.TRACE_CFG_MODE = 2)) ∧
    (∃ (up : Bool) (s : State), (Running s) ∧ (s.dev.fb R.SNAP_CFG F.SNAP_CFG_PIN_EN = true) ∧ (s.dev.fb R.SNAP_CFG F.SNAP_CFG_PIN_EDGE = !up)) ∧
    (∃ (s : State), (Running s)) ∧
    (∃ (b : Nat) (s : State), (Running s) ∧ (s.dev.snap.bank = some b)) ∧
    (∃ (w : Word) (s : State), (Running s)) :=
  ⟨⟨1, st id, by decide +kernel⟩,
   ⟨2, st id, by decide +kernel⟩,
   ⟨4, st id, by decide +kernel⟩,
   ⟨8, st id, by decide +kernel⟩,
   ⟨({} : Dev).fs R.TRACE_STATUS F.TRACE_STATUS_STATE 1, 1, by decide +kernel⟩,
   ⟨({} : Dev).fs R.TRACE_STATUS F.TRACE_STATUS_STATE 2, 3, by decide +kernel⟩,
   ⟨({} : Dev).fs R.TRACE_STATUS F.TRACE_STATUS_STATE 2, 4, by decide +kernel⟩,
   ⟨({} : Dev).fs R.TRACE_CFG F.TRACE_CFG_MODE 1, 8, by decide +kernel⟩,
   ⟨0, st id, by decide +kernel⟩,
   ⟨8, st fun d => d.fs R.TRACE_GEOM F.TRACE_GEOM_DEPTH 100, by decide +kernel⟩,
   ⟨false, { inst := 7 }, [], st fun d => { (d.fs R.TRACE_STATUS F.TRACE_STATUS_STATE 3) with trace := { d.trace with due := [{ inst := 7 }], postLeft := 1 } }, by decide +kernel⟩,
   ⟨false, { inst := 7 }, [], st fun d => { (d.fs R.TRACE_STATUS F.TRACE_STATUS_STATE 1) with trace := { d.trace with due := [{ inst := 7 }] } }, by decide +kernel⟩,
   ⟨st fun d => (d.fs R.TRACE_STATUS F.TRACE_STATUS_STATE 3), by decide +kernel⟩,
   ⟨st fun d => (d.fs R.TRACE_STATUS F.TRACE_STATUS_STATE 2).fs R.TRACE_CFG F.TRACE_CFG_MODE 2, by decide +kernel⟩,
   ⟨true, st fun d => d.fsb R.SNAP_CFG F.SNAP_CFG_PIN_EN true, by decide +kernel⟩,
   ⟨st id, by decide +kernel⟩,
   ⟨1, st fun d => { d with snap := { d.snap with bank := some 1 } }, by decide +kernel⟩,
   ⟨0x00010000, st id, by decide +kernel⟩⟩

theorem test_meets_EventRouterEventsTakeEffect :
    (∃ (n : Fin 640) (s : State), (Running s) ∧ (s.dev.raised.contains n.val = true) ∧ (s.dev.dozing = false) ∧ (n.val < 630) ∧ (s.dev.srcEn n = true)) ∧
    (∃ (n : Fin 640) (s : State), (Running s) ∧ (s.dev.raised.contains n.val = true) ∧ (s.dev.dozing = true ∨ 630 ≤ n.val ∨ s.dev.srcEn n = false)) ∧
    (∃ (n : Nat) (s : State), (Running s) ∧ (s.dev.asleep 0 = false) ∧ (s.dev.dozing = false) ∧ (s.dev.nextFor 0 = some n)) ∧
    (∃ (n : Nat) (s : State), (Running s) ∧ (s.dev.dozing = false) ∧ (s.dev.nextFor 5 = some n)) ∧
    (∃ (w : Word) (s : State), (Running s)) ∧
    (∃ (w : Word) (s : State), (Running s)) ∧
    (∃ (u : Fin 68) (s : State), (Running s) ∧ ((tabGet s.dev.evr.units u).timer = true) ∧ (s.dev.dozing = false)) ∧
    (∃ (n : Fin 640) (s : State), (Running s) ∧ (s.dev.srcState n = 1) ∧ (s.dev.srcTarget n ≤ 4) ∧ (s.dev.asleep (s.dev.srcTarget n) = true) ∧ (s.dev.wakeOf (s.dev.srcTarget n) = false) ∧ (s.dev.dozing = false)) ∧
    (∃ (b : Fin 48) (s : State), (Running s) ∧ (s.dev.dozing = true) ∧ (s.dev.srcEn (wakeSource b) = true) ∧ (s.dev.fb (R.EVR_SRC_CFG (wakeSource b)) F.EVR_SRC_CFG_WAKE = true)) ∧
    (∃ (b : Fin 48) (s : State), (Running s) ∧ (s.dev.dozing = false ∨ s.dev.srcEn (wakeSource b) = false ∨ s.dev.fb (R.EVR_SRC_CFG (wakeSource b)) F.EVR_SRC_CFG_WAKE = false)) ∧
    (∃ (s : State), (Running s) ∧ (s.dev.dozing = true) ∧ (s.dev.rd64 R.EVR_WAKE_LATCH ≠ 0 ∨ s.dev.fb R.POWER_STATUS F.POWER_STATUS_PF_ACTIVE = true)) ∧
    (∃ (s : State), (Running s) ∧ (s.dev.sec.pwrReq = some 0) ∧ (s.dev.power = 1)) ∧
    (∃ (s : State), (Running s) ∧ (s.dev.sec.pwrReq = some 0) ∧ (s.dev.power ≠ 1)) ∧
    (∃ (s : State), (Running s) ∧ (s.dev.sec.pwrReq = some 1) ∧ (s.dev.power ≠ 0)) ∧
    (∃ (s : State), (Running s) ∧ (s.dev.sec.pwrReq = some 1) ∧ (s.dev.power = 0)) ∧
    (∃ (s : State), (Running s) ∧ (s.dev.sec.pwrReq = some 2) ∧ (s.dev.power ≤ 1)) :=
  ⟨⟨3, st fun d => (d.raise 3).fsb (R.EVR_SRC_CFG 3) F.EVR_SRC_CFG_EN true, by decide +kernel⟩,
   ⟨3, st fun d => d.raise 3, by decide +kernel⟩,
   ⟨3, st fun d => { ((d.fsb R.CMDQ_SESSION F.CMDQ_SESSION_ATTACHED true |>.fs (R.EVR_SRC_CFG 3) F.EVR_SRC_CFG_TARGET 0).fs (R.EVR_STATE 0) ⟨6, 2⟩ 1) with evr := { d.evr with src := tabSet d.evr.src 3 { pendNs := 5 } } }, by decide +kernel⟩,
   ⟨3, st fun d => { ((d.fs (R.EVR_SRC_CFG 3) F.EVR_SRC_CFG_TARGET 5).fs (R.EVR_STATE 0) ⟨6, 2⟩ 1) with evr := { d.evr with src := tabSet d.evr.src 3 { pendNs := 5 } } }, by decide +kernel⟩,
   ⟨3, st id, by decide +kernel⟩,
   ⟨1, st id, by decide +kernel⟩,
   ⟨5, st fun d => { d with evr := { d.evr with units := tabSet d.evr.units 5 { timer := true } } }, by decide +kernel⟩,
   ⟨3, st fun d => ((d.fs (R.EVR_SRC_CFG 3) F.EVR_SRC_CFG_TARGET 0).fs (R.EVR_STATE 0) ⟨6, 2⟩ 1), by decide +kernel⟩,
   ⟨3, st fun d => ((d.fs R.PWR_STATUS F.PWR_STATUS_STATE 2).fsb (R.EVR_SRC_CFG (wakeSource 3)) F.EVR_SRC_CFG_EN true).fsb (R.EVR_SRC_CFG (wakeSource 3)) F.EVR_SRC_CFG_WAKE true, by decide +kernel⟩,
   ⟨3, st id, by decide +kernel⟩,
   ⟨st fun d => (d.fs R.PWR_STATUS F.PWR_STATUS_STATE 2).wr R.EVR_WAKE_LATCH 1, by decide +kernel⟩,
   ⟨st fun d => (d.fs R.PWR_STATUS F.PWR_STATUS_STATE 1).modSec fun s => { s with pwrReq := some 0 }, by decide +kernel⟩,
   ⟨st fun d => d.modSec fun s => { s with pwrReq := some 0 }, by decide +kernel⟩,
   ⟨st fun d => (d.fs R.PWR_STATUS F.PWR_STATUS_STATE 1).modSec fun s => { s with pwrReq := some 1 }, by decide +kernel⟩,
   ⟨st fun d => d.modSec fun s => { s with pwrReq := some 1 }, by decide +kernel⟩,
   ⟨st fun d => d.modSec fun s => { s with pwrReq := some 2 }, by decide +kernel⟩⟩

theorem test_meets_TraverseEventsTakeEffect :
    (∃ (a b : Option TrvFrame) (f : TrvFrame) (s : State), (Running s) ∧ (((if s.dev.chA = true then a else none)).or (if s.dev.chB = true then b else none) = some f) ∧ ((s.dev.squall 1 0 [hSlot f.hdr] 0).2 = none)) ∧
    (∃ (a b : Option TrvFrame) (f : TrvFrame) (x m : Nat) (s : State), (Running s) ∧ (((if s.dev.chA = true then a else none)).or (if s.dev.chB = true then b else none) = some f) ∧ ((s.dev.squall 1 0 [hSlot f.hdr] 0).2 = some (x, m))) ∧
    (∃ (a b : Option TrvFrame) (s : State), (Running s) ∧ (((if s.dev.chA = true then a else none)).or (if s.dev.chB = true then b else none) = none)) ∧
    (∃ (j : Fin 64) (x y z : Bool) (s : State), (Running s) ∧ (s.dev.fb R.PAIR_STATUS F.PAIR_STATUS_TRV_MUTED = false) ∧ (s.dev.pair.trvFrom ≤ s.dev.ns) ∧ (j.val ≠ 0) ∧ (s.dev.trvState = 3 ∨ s.dev.trvState = 4) ∧ (j.val < s.dev.nslot) ∧ (s.dev.slotOwner j = s.dev.trvNode) ∧ (s.dev.slotKind j = 2 ∨ s.dev.slotKind j = 4)) ∧
    (∃ (x y z : Bool) (s : State), (Running s) ∧ (s.dev.fb R.PAIR_STATUS F.PAIR_STATUS_TRV_MUTED = false) ∧ (s.dev.pair.trvFrom ≤ s.dev.ns) ∧ (s.dev.trvRank ≤ 3) ∧ (s.dev.trvState = 2) ∧ (s.dev.trv.csSent < 2)) ∧
    (∃ (x y z : Bool) (s : State), (Running s) ∧ (s.dev.fb R.PAIR_STATUS F.PAIR_STATUS_TRV_MUTED = false) ∧ (s.dev.pair.trvFrom ≤ s.dev.ns) ∧ (s.dev.trvRank ≤ 3) ∧ (s.dev.trvState = 2) ∧ (2 ≤ s.dev.trv.csSent)) ∧
    (∃ (x y : Bool) (s : State), (Running s) ∧ (s.dev.fb R.PAIR_STATUS F.PAIR_STATUS_TRV_MUTED = false) ∧ (s.dev.pair.trvFrom ≤ s.dev.ns) ∧ (s.dev.trvRank ≤ 3) ∧ (s.dev.trvState = 3) ∧ ((s.dev.guarded2).2 = false)) ∧
    (∃ (x y : Bool) (s : State), (Running s) ∧ (s.dev.fb R.PAIR_STATUS F.PAIR_STATUS_TRV_MUTED = false) ∧ (s.dev.pair.trvFrom ≤ s.dev.ns) ∧ (s.dev.trvRank ≤ 3) ∧ (s.dev.trvState = 3) ∧ ((s.dev.guarded2).2 = true)) ∧
    (∃ (x y : Bool) (s : State), (Running s) ∧ (s.dev.fb R.PAIR_STATUS F.PAIR_STATUS_TRV_MUTED = false) ∧ (s.dev.pair.trvFrom ≤ s.dev.ns) ∧ (s.dev.trvState = 3)) ∧
    (∃ (j : Fin 64) (s : State), (Running s) ∧ (s.dev.trvState ≠ 0) ∧ (j.val < s.dev.nslot) ∧ (s.dev.slotKind j = 2) ∧ (s.dev.slotOwner j = s.dev.trvNode)) ∧
    (∃ (j : Fin 64) (s : State), (Running s) ∧ (s.dev.trvState = 3 ∨ s.dev.trvState = 4 ∨ s.dev.trvState = 5) ∧ (j.val < s.dev.nslot) ∧ (s.dev.slotKind j ≠ 0)) ∧
    (∃ (s : State), (Running s) ∧ (s.dev.trvState = 3 ∨ s.dev.trvState = 4)) ∧
    (∃ (s : State), (Running s) ∧ (s.dev.trvState = 4) ∧ (s.dev.fg R.TRV_TIMING F.TRV_TIMING_NLOSS ≤ s.dev.trv.miss)) ∧
    (∃ (x y : Bool) (s : State), (Running s) ∧ (s.dev.trvState = 1) ∧ (s.dev.trvRank ≤ 3) ∧ (s.dev.fb R.PAIR_STATUS F.PAIR_STATUS_TRV_MUTED = false)) ∧
    (∃ (f : TrvFrameOut) (s : State), (Running s) ∧ (s.dev.trv.out = some f) ∧ (hKind f.hdr = 1 ∨ hKind f.hdr = 5)) ∧
    (∃ (f : TrvFrameOut) (s : State), (Running s) ∧ (s.dev.trv.out = some f) ∧ (hKind f.hdr ≠ 1) ∧ (hKind f.hdr ≠ 5)) ∧
    (∃ (s : State), (Running s)) ∧
    (∃ (s : State), (Running s) ∧ (s.dev.chA = true) ∧ (s.dev.chB = true) ∧ (s.dev.trv.goodB + 8 ≤ s.dev.trv.goodA)) ∧
    (∃ (s : State), (Running s) ∧ (s.dev.chA = true) ∧ (s.dev.chB = true) ∧ (s.dev.trv.goodA + 8 ≤ s.dev.trv.goodB)) ∧
    (∃ (s : State), (Running s) ∧ (s.dev.trvState ≠ 3) ∧ ((s.dev.cmd.accepted.any fun a => a.waits.contains ⟨.trvJoin, 0⟩ && decide (pb a.pkt 3 15 0 ≠ 0)) = true)) ∧
    (∃ (s : State), (Running s) ∧ (s.dev.trvState = 5)) :=
  ⟨⟨some {}, none, {}, st fun d => d.setBit R.TRV_CFG 30 true, by decide +kernel⟩,
   ⟨some {}, none, {}, 0, 1, st fun d => (d.setBit R.TRV_CFG 30 true).fs R.DEBUG_STATUS F.DEBUG_STATUS_LEVEL 3 |>.setBit R.SQ_STATUS F.SQ_STATUS_ARMED.lo true |>.fs (R.SQ_RULE_CFG 0) F.SQ_RULE_CFG_TARGET 1 |>.fs (R.SQ_RULE_CFG 0) F.SQ_RULE_CFG_DIR 0 |>.fs (R.SQ_RULE_CFG 0) F.SQ_RULE_CFG_UNIT 0 |>.fs (R.SQ_RULE_CFG 0) F.SQ_RULE_CFG_MODE 1 |>.fsb (R.SQ_RULE_SEL 0) F.SQ_RULE_SEL_ANY true, by decide +kernel⟩,
   ⟨some {}, none, st fun d => (d.setBit R.TRV_CFG 30 false).setBit R.TRV_CFG 31 false, by decide +kernel⟩,
   ⟨3, false, false, false, st fun d => ((d.fs R.TRV_STATUS F.TRV_STATUS_STATE 3).fs R.TRV_CYCLE F.TRV_CYCLE_NSLOT 8 |>.fs (R.TRV_SLOT 3) F.TRV_SLOT_KIND 2 |>.fs (R.TRV_SLOT 3) F.TRV_SLOT_OWNER 0), by decide +kernel⟩,
   ⟨false, false, false, st fun d => ((d.fs R.TRV_STATUS F.TRV_STATUS_STATE 2).fs R.TRV_CYCLE F.TRV_CYCLE_NSLOT 8 |>.fs R.TRV_CFG F.TRV_CFG_RANK 1), by decide +kernel⟩,
   ⟨false, false, false, st fun d => ((d.fs R.TRV_STATUS F.TRV_STATUS_STATE 2).fs R.TRV_CYCLE F.TRV_CYCLE_NSLOT 8 |>.fs R.TRV_CFG F.TRV_CFG_RANK 1).modTrv fun t => { t with csSent := 2 }, by decide +kernel⟩,
   ⟨false, false, st fun d => ((d.fs R.TRV_STATUS F.TRV_STATUS_STATE 3).fs R.TRV_CYCLE F.TRV_CYCLE_NSLOT 8 |>.fs R.TRV_CFG F.TRV_CFG_RANK 1), by decide +kernel⟩,
   ⟨false, false, st fun d => ((d.fs R.TRV_CFG F.TRV_CFG_RANK 1).fs R.TRV_STATUS F.TRV_STATUS_STATE 3).fs R.TRV_STATUS F.TRV_STATUS_MISS 2, by decide +kernel⟩,
   ⟨false, false, st fun d => ((d.fs R.TRV_STATUS F.TRV_STATUS_STATE 3).fs R.TRV_CYCLE F.TRV_CYCLE_NSLOT 8), by decide +kernel⟩,
   ⟨3, st fun d => ((d.fs R.TRV_STATUS F.TRV_STATUS_STATE 3).fs R.TRV_CYCLE F.TRV_CYCLE_NSLOT 8 |>.fs (R.TRV_SLOT 3) F.TRV_SLOT_KIND 2 |>.fs (R.TRV_SLOT 3) F.TRV_SLOT_OWNER 0), by decide +kernel⟩,
   ⟨3, st fun d => ((d.fs R.TRV_STATUS F.TRV_STATUS_STATE 3).fs R.TRV_CYCLE F.TRV_CYCLE_NSLOT 8 |>.fs (R.TRV_SLOT 3) F.TRV_SLOT_KIND 2 |>.fs (R.TRV_SLOT 3) F.TRV_SLOT_OWNER 0), by decide +kernel⟩,
   ⟨st fun d => ((d.fs R.TRV_STATUS F.TRV_STATUS_STATE 3).fs R.TRV_CYCLE F.TRV_CYCLE_NSLOT 8), by decide +kernel⟩,
   ⟨st fun d => ((d.fs R.TRV_STATUS F.TRV_STATUS_STATE 4).fs R.TRV_CYCLE F.TRV_CYCLE_NSLOT 8).modTrv fun t => { t with miss := 99 }, by decide +kernel⟩,
   ⟨false, false, st fun d => ((d.fs R.TRV_STATUS F.TRV_STATUS_STATE 1).fs R.TRV_CYCLE F.TRV_CYCLE_NSLOT 8 |>.fs R.TRV_CFG F.TRV_CFG_RANK 1), by decide +kernel⟩,
   ⟨{ hdr := 0x0800 }, st fun d => d.modTrv fun t => { t with out := some { hdr := 0x0800 } }, by decide +kernel⟩,
   ⟨{ hdr := 0x1000 }, st fun d => d.modTrv fun t => { t with out := some { hdr := 0x1000 } }, by decide +kernel⟩,
   ⟨st id, by decide +kernel⟩,
   ⟨st fun d => ((d.setBit R.TRV_CFG 30 true).setBit R.TRV_CFG 31 true).modTrv fun t => { t with goodA := 8 }, by decide +kernel⟩,
   ⟨st fun d => ((d.setBit R.TRV_CFG 30 true).setBit R.TRV_CFG 31 true).modTrv fun t => { t with goodB := 8 }, by decide +kernel⟩,
   ⟨st fun d => d.modCmd fun c => { c with accepted := [{ pkt := { params := [5] }, waits := [⟨.trvJoin, 0⟩] }] }, by decide +kernel⟩,
   ⟨st fun d => ((d.fs R.TRV_STATUS F.TRV_STATUS_STATE 5).fs R.TRV_CYCLE F.TRV_CYCLE_NSLOT 8), by decide +kernel⟩⟩

theorem test_meets_CanEventsTakeEffect :
    (∃ (c : Fin 2) (stamp : Word) (x : Nat) (s : State), (Running s) ∧ (s.dev.dozing = false) ∧ (s.dev.canRuns c = true) ∧ ((s.dev.canCh c).sending = none) ∧ ((s.dev.canCh c).disabling = false) ∧ (s.dev.canChoice c = some x) ∧ ((s.dev.squall 2 1 [c] (wbits (s.dev.rd (canTx c x 1)) 28 0)).2 = none)) ∧
    (∃ (c : Fin 2) (stamp : Word) (x r m : Nat) (s : State), (Running s) ∧ (s.dev.dozing = false) ∧ (s.dev.canRuns c = true) ∧ ((s.dev.canCh c).sending = none) ∧ ((s.dev.canCh c).disabling = false) ∧ (s.dev.canChoice c = some x) ∧ ((s.dev.squall 2 1 [c] (wbits (s.dev.rd (canTx c x 1)) 28 0)).2 = some (r, m))) ∧
    (∃ (c : Fin 2) (x : Nat) (s : State), (Running s) ∧ ((s.dev.canCh c).sending = some x) ∧ ((s.dev.canCh c).again = false)) ∧
    (∃ (c : Fin 2) (x : Nat) (s : State), (Running s) ∧ ((s.dev.canCh c).sending = some x) ∧ ((s.dev.canCh c).again = true)) ∧
    (∃ (c : Fin 2) (x : Nat) (ex : Bool) (s : State), (Running s) ∧ ((s.dev.canCh c).sending = some x)) ∧
    (∃ (c : Fin 2) (x : Nat) (k : CanErrKind) (ex : Bool) (s : State), (Running s) ∧ ((s.dev.canCh c).sending = some x)) ∧
    (∃ (c : Fin 2) (k : CanErrKind) (more : Bool) (s : State), (Running s) ∧ (s.dev.dozing = false) ∧ (s.dev.canState c = 2 ∨ s.dev.canState c = 3) ∧ ((s.dev.canCh c).sending = none)) ∧
    (∃ (c : Fin 2) (f : CanFrame) (stamp : Word) (s : State), (Running s) ∧ (canFrameOk f = true) ∧ (s.dev.dozing = false) ∧ (s.dev.canState c = 2 ∨ s.dev.canState c = 3) ∧ ((s.dev.canCh c).sending = none) ∧ ((s.dev.squall 2 0 [c.val] f.id.toNat).2 = none)) ∧
    (∃ (c : Fin 2) (f : CanFrame) (stamp : Word) (r m : Nat) (s : State), (Running s) ∧ (canFrameOk f = true) ∧ (s.dev.dozing = false) ∧ (s.dev.canState c = 2 ∨ s.dev.canState c = 3) ∧ ((s.dev.canCh c).sending = none) ∧ ((s.dev.squall 2 0 [c.val] f.id.toNat).2 = some (r, m)) ∧ (m = 1)) ∧
    (∃ (c : Fin 2) (f : CanFrame) (stamp : Word) (r m : Nat) (s : State), (Running s) ∧ (canFrameOk f = true) ∧ (s.dev.dozing = false) ∧ (s.dev.canState c = 2 ∨ s.dev.canState c = 3) ∧ ((s.dev.canCh c).sending = none) ∧ ((s.dev.squall 2 0 [c.val] f.id.toNat).2 = some (r, m)) ∧ (m ≠ 1)) ∧
    (∃ (c : Fin 2) (w : Word) (s : State), (Running s) ∧ ((wbits w 15 0 + 65536 - s.dev.fg (R.CAN_RX_PTR c) F.CAN_RX_PTR_CONS) % 65536 ≤ s.dev.canFill c)) ∧
    (∃ (c : Fin 2) (w : Word) (s : State), (Running s) ∧ (s.dev.canFill c < (wbits w 15 0 + 65536 - s.dev.fg (R.CAN_RX_PTR c) F.CAN_RX_PTR_CONS) % 65536)) ∧
    (∃ (c : Fin 2) (x : Fin 64) (s : State), (Running s)) ∧
    (∃ (c : Fin 2) (s : State), (Running s) ∧ (s.dev.dozing = false)) ∧
    (∃ (c : Fin 2) (s : State), (Running s) ∧ (s.dev.dozing = false) ∧ (s.dev.canState c = 1) ∧ ((s.dev.canCh c).listen = false) ∧ (s.dev.muted = false)) ∧
    (∃ (c : Fin 2) (s : State), (Running s) ∧ (s.dev.dozing = false) ∧ (s.dev.canState c = 1) ∧ ((s.dev.canCh c).listen = true ∨ s.dev.muted = true)) ∧
    (∃ (c : Fin 2) (s : State), (Running s) ∧ (s.dev.dozing = false) ∧ (s.dev.canState c = 4) ∧ ((s.dev.canCh c).recovering = true)) ∧
    (∃ (c : Fin 2) (s : State), (Running s) ∧ (s.dev.dozing = false) ∧ ((s.dev.canCh c).disabling = true) ∧ ((s.dev.canCh c).sending = none)) :=
  ⟨⟨0, 7, 3, st fun d => (d.fs (R.CAN_STATUS 0) F.CAN_STATUS_STATE 2).modCan 0 fun c => { c with order := [3] }, by decide +kernel⟩,
   ⟨0, 7, 3, 0, 2, st fun d => ((d.fs (R.CAN_STATUS 0) F.CAN_STATUS_STATE 2).modCan 0 fun c => { c with order := [3] }).fs R.DEBUG_STATUS F.DEBUG_STATUS_LEVEL 3 |>.setBit R.SQ_STATUS F.SQ_STATUS_ARMED.lo true |>.fs (R.SQ_RULE_CFG 0) F.SQ_RULE_CFG_TARGET 2 |>.fs (R.SQ_RULE_CFG 0) F.SQ_RULE_CFG_DIR 1 |>.fs (R.SQ_RULE_CFG 0) F.SQ_RULE_CFG_UNIT 0 |>.fs (R.SQ_RULE_CFG 0) F.SQ_RULE_CFG_MODE 2 |>.fsb (R.SQ_RULE_SEL 0) F.SQ_RULE_SEL_ANY true, by decide +kernel⟩,
   ⟨0, 3, st fun d => (d.fs (R.CAN_STATUS 0) F.CAN_STATUS_STATE 2).modCan 0 fun c => { c with sending := some 3 }, by decide +kernel⟩,
   ⟨0, 3, st fun d => (d.fs (R.CAN_STATUS 0) F.CAN_STATUS_STATE 2).modCan 0 fun c => { c with sending := some 3, again := true }, by decide +kernel⟩,
   ⟨0, 3, false, st fun d => (d.fs (R.CAN_STATUS 0) F.CAN_STATUS_STATE 2).modCan 0 fun c => { c with sending := some 3 }, by decide +kernel⟩,
   ⟨0, 3, .ack, false, st fun d => (d.fs (R.CAN_STATUS 0) F.CAN_STATUS_STATE 2).modCan 0 fun c => { c with sending := some 3 }, by decide +kernel⟩,
   ⟨0, .crc, true, st fun d => (d.fs (R.CAN_STATUS 0) F.CAN_STATUS_STATE 2), by decide +kernel⟩,
   ⟨0, {}, 7, st fun d => (d.fs (R.CAN_STATUS 0) F.CAN_STATUS_STATE 2), by decide +kernel⟩,
   ⟨0, {}, 7, 0, 1, st fun d => (d.fs (R.CAN_STATUS 0) F.CAN_STATUS_STATE 2).fs R.DEBUG_STATUS F.DEBUG_STATUS_LEVEL 3 |>.setBit R.SQ_STATUS F.SQ_STATUS_ARMED.lo true |>.fs (R.SQ_RULE_CFG 0) F.SQ_RULE_CFG_TARGET 2 |>.fs (R.SQ_RULE_CFG 0) F.SQ_RULE_CFG_DIR 0 |>.fs (R.SQ_RULE_CFG 0) F.SQ_RULE_CFG_UNIT 0 |>.fs (R.SQ_RULE_CFG 0) F.SQ_RULE_CFG_MODE 1 |>.fsb (R.SQ_RULE_SEL 0) F.SQ_RULE_SEL_ANY true, by decide +kernel⟩,
   ⟨0, {}, 7, 0, 3, st fun d => (d.fs (R.CAN_STATUS 0) F.CAN_STATUS_STATE 2).fs R.DEBUG_STATUS F.DEBUG_STATUS_LEVEL 3 |>.setBit R.SQ_STATUS F.SQ_STATUS_ARMED.lo true |>.fs (R.SQ_RULE_CFG 0) F.SQ_RULE_CFG_TARGET 2 |>.fs (R.SQ_RULE_CFG 0) F.SQ_RULE_CFG_DIR 0 |>.fs (R.SQ_RULE_CFG 0) F.SQ_RULE_CFG_UNIT 0 |>.fs (R.SQ_RULE_CFG 0) F.SQ_RULE_CFG_MODE 3 |>.fsb (R.SQ_RULE_SEL 0) F.SQ_RULE_SEL_ANY true, by decide +kernel⟩,
   ⟨0, 0, st id, by decide +kernel⟩,
   ⟨0, 9, st id, by decide +kernel⟩,
   ⟨0, 3, st id, by decide +kernel⟩,
   ⟨0, st id, by decide +kernel⟩,
   ⟨0, st fun d => (d.fs (R.CAN_STATUS 0) F.CAN_STATUS_STATE 1), by decide +kernel⟩,
   ⟨0, st fun d => (d.fs (R.CAN_STATUS 0) F.CAN_STATUS_STATE 1).modCan 0 fun c => { c with listen := true }, by decide +kernel⟩,
   ⟨0, st fun d => (d.fs (R.CAN_STATUS 0) F.CAN_STATUS_STATE 4).modCan 0 fun c => { c with recovering := true }, by decide +kernel⟩,
   ⟨0, st fun d => (d.fs (R.CAN_STATUS 0) F.CAN_STATUS_STATE 2).modCan 0 fun c => { c with disabling := true }, by decide +kernel⟩⟩

theorem test_meets_FieldEventsTakeEffect :
    (∃ (s : State), (Running s)) ∧
    (∃ (k : Fin 2) (f : DownFrame) (y : Bool) (s : State), ((s.dev.die k).down = some f) ∧ ((s.dev.die k).on = true) ∧ (f.bad = false) ∧ (f.seq = ((s.dev.die k).rxSeq + 1) % 256)) ∧
    (∃ (k : Fin 2) (f : DownFrame) (y : Bool) (s : State), ((s.dev.die k).down = some f) ∧ ((s.dev.die k).on = true) ∧ (f.bad = false) ∧ (f.seq ≠ ((s.dev.die k).rxSeq + 1) % 256)) ∧
    (∃ (k : Fin 2) (f : DownFrame) (x y : Bool) (s : State), ((s.dev.die k).down = some f) ∧ ((s.dev.die k).on = true) ∧ (x = false ∨ f.bad = true)) ∧
    (∃ (k : Fin 2) (f : DownFrame) (x y : Bool) (s : State), ((s.dev.die k).down = some f) ∧ ((s.dev.die k).on = false)) ∧
    (∃ (k : Fin 2) (x y : Bool) (s : State), ((s.dev.die k).down = none)) ∧
    (∃ (k : Fin 2) (x y : Bool) (act : UpSample) (cur : Option (Fin 6 × BitVec 12)) (s : State), (Running s) ∧ ((s.dev.die k).on = true) ∧ ((s.dev.die k).upSwap = false) ∧ ((s.dev.squall 3 0 [k.val] 0).2 = none)) ∧
    (∃ (k : Fin 2) (x y : Bool) (act : UpSample) (cur : Option (Fin 6 × BitVec 12)) (s : State), (Running s) ∧ ((s.dev.die k).on = true) ∧ ((s.dev.die k).upSwap = true)) ∧
    (∃ (k : Fin 2) (x y : Bool) (act : UpSample) (cur : Option (Fin 6 × BitVec 12)) (r m : Nat) (s : State), (Running s) ∧ ((s.dev.die k).on = true) ∧ ((s.dev.die k).upSwap = false) ∧ ((s.dev.squall 3 0 [k.val] 0).2 = some (r, m))) ∧
    (∃ (k : Fin 2) (s : State), ((s.dev.die k).on = true)) ∧
    (∃ (k : Fin 2) (s : State), ((s.dev.die k).on = false)) ∧
    (∃ (k : Fin 2) (s : State), (Running s) ∧ (3 ≤ (s.dev.die k).upBad) ∧ (s.dev.fb (R.FIELD_LINK_STATUS k) F.FIELD_LINK_STATUS_STALE = false)) ∧
    (∃ (k : Fin 2) (s : State), ((s.dev.die k).on = true) ∧ (3 ≤ (s.dev.die k).bad) ∧ ((s.dev.die k).fallback = false)) ∧
    (∃ (k : Fin 2) (s : State), ((s.dev.die k).on = true) ∧ ((s.dev.die k).fallback = true) ∧ (2 ≤ (s.dev.die k).good)) ∧
    (∃ (k : Fin 2) (s : State), (s.dev.fb (R.FIELD_LINK_STATUS k) F.FIELD_LINK_STATUS_STALE = true) ∧ (2 ≤ (s.dev.die k).upGood)) ∧
    (∃ (o : Fin 48) (s : State), (s.dev.outOn o = true)) ∧
    (∃ (o : Fin 48) (s : State), ((s.dev.die (outDie o)).on = true)) ∧
    (∃ (o : Fin 48) (s : State), (s.dev.dieFld (R.FIELD_OUT_CFG o) F.FIELD_OUT_CFG_RESTART ≠ 1)) ∧
    (∃ (o : Fin 48) (s : State), (s.dev.dieFld (R.FIELD_OUT_CFG o) F.FIELD_OUT_CFG_RESTART = 1)) ∧
    (∃ (o : Fin 48) (s : State), ((s.dev.die (outDie o)).on = true) ∧ (s.dev.outOn o = false)) ∧
    (∃ (o : Fin 48) (s : State), ((s.dev.die (outDie o)).on = true) ∧ (s.dev.outOn o = false) ∧ (s.dev.dieFld (R.FIELD_OUT_CFG o) F.FIELD_OUT_CFG_OL_EN = 1)) ∧
    (∃ (o : Fin 48) (s : State), ((s.dev.die (outDie o)).on = true) ∧ (s.dev.outOn o = false) ∧ (s.dev.dieFld (R.FIELD_OUT_CFG o) F.FIELD_OUT_CFG_OL_EN ≠ 1)) ∧
    (∃ (o : Fin 48) (s : State), ((s.dev.die (outDie o)).on = true) ∧ (s.dev.outOn o = false) ∧ (s.dev.muted = true) ∧ (s.dev.bit R.FIELD_OUT_CMD o = true)) ∧
    (∃ (o : Fin 48) (s : State), ((s.dev.die (outDie o)).on = true) ∧ (s.dev.outOn o = false) ∧ (s.dev.muted = false ∨ s.dev.bit R.FIELD_OUT_CMD o = false) ∧ (s.dev.outMate o = none)) ∧
    (∃ (o : Fin 48) (m : Nat) (s : State), ((s.dev.die (outDie o)).on = true) ∧ (s.dev.outOn o = false) ∧ (s.dev.muted = false ∨ s.dev.bit R.FIELD_OUT_CMD o = false) ∧ (s.dev.outMate o = some m) ∧ (s.dev.outOn m = true)) ∧
    (∃ (o : Fin 48) (m : Nat) (s : State), ((s.dev.die (outDie o)).on = true) ∧ (s.dev.outOn o = false) ∧ (s.dev.muted = false ∨ s.dev.bit R.FIELD_OUT_CMD o = false) ∧ (s.dev.outMate o = some m) ∧ (s.dev.outOn m = false)) ∧
    (∃ (i : Fin 64) (lv : Bool) (s : State), ((s.dev.die (inDie i)).on = true) ∧ (s.dev.field.levels.testBit i ≠ lv)) ∧
    (∃ (i : Fin 64) (s : State), ((s.dev.die (inDie i)).on = true) ∧ (s.dev.dieFld (R.FIELD_IN_CFG i) F.FIELD_IN_CFG_WB_EN ≠ 0)) ∧
    (∃ (i : Fin 64) (s : State), ((s.dev.die (inDie i)).on = true)) ∧
    (∃ (s : State), ((s.dev.die 0).on = true) ∧ (s.dev.fb (R.FIELD_LINK_STATUS 0) F.FIELD_LINK_STATUS_SUPPLY = true)) ∧
    (∃ (s : State), ((s.dev.die 0).on = true) ∧ (s.dev.fb (R.FIELD_LINK_STATUS 0) F.FIELD_LINK_STATUS_SUPPLY = false)) ∧
    (∃ (s : State), ((s.dev.die 1).on = true) ∧ (s.dev.fb (R.FIELD_LINK_STATUS 1) F.FIELD_LINK_STATUS_SUPPLY = true)) ∧
    (∃ (s : State), ((s.dev.die 1).on = true) ∧ (s.dev.fb (R.FIELD_LINK_STATUS 1) F.FIELD_LINK_STATUS_SUPPLY = false)) ∧
    (∃ (k : Fin 2) (s : State), ((s.dev.die k).on = true)) ∧
    (∃ (s : State), ((s.dev.die 0).on = false)) ∧
    (∃ (s : State), ((s.dev.die 1).on = false)) :=
  ⟨⟨st id, by decide +kernel⟩,
   ⟨0, { seq := 1 }, true, st fun d => d.modDie 0 fun x => { x with on := true , down := some { seq := 1 } }, by decide +kernel⟩,
   ⟨0, { seq := 2 }, true, st fun d => d.modDie 0 fun x => { x with on := true , down := some { seq := 2 } }, by decide +kernel⟩,
   ⟨0, { seq := 1 }, false, true, st fun d => d.modDie 0 fun x => { x with on := true , down := some { seq := 1 } }, by decide +kernel⟩,
   ⟨0, {}, true, true, st fun d => d.modDie 0 fun x => { x with on := false, down := some {} }, by decide +kernel⟩,
   ⟨0, true, true, st id, by decide +kernel⟩,
   ⟨0, true, true, { sin := 5 }, none, st fun d => d.modDie 0 fun x => { x with on := true  }, by decide +kernel⟩,
   ⟨0, true, true, { sin := 5 }, none, st fun d => d.modDie 0 fun x => { x with on := true , upSwap := true }, by decide +kernel⟩,
   ⟨0, true, true, { sin := 5 }, none, 0, 3, st fun d => (d.modDie 0 fun x => { x with on := true  }).fs R.DEBUG_STATUS F.DEBUG_STATUS_LEVEL 3 |>.setBit R.SQ_STATUS F.SQ_STATUS_ARMED.lo true |>.fs (R.SQ_RULE_CFG 0) F.SQ_RULE_CFG_TARGET 3 |>.fs (R.SQ_RULE_CFG 0) F.SQ_RULE_CFG_DIR 0 |>.fs (R.SQ_RULE_CFG 0) F.SQ_RULE_CFG_UNIT 0 |>.fs (R.SQ_RULE_CFG 0) F.SQ_RULE_CFG_MODE 3 |>.fsb (R.SQ_RULE_SEL 0) F.SQ_RULE_SEL_ANY true, by decide +kernel⟩,
   ⟨0, st fun d => d.modDie 0 fun x => { x with on := true  }, by decide +kernel⟩,
   ⟨0, st fun d => d.modDie 0 fun x => { x with on := false }, by decide +kernel⟩,
   ⟨0, st fun d => (d.fsb (R.FIELD_LINK_STATUS 0) F.FIELD_LINK_STATUS_STALE false).modDie 0 fun x => { x with upBad := 3 }, by decide +kernel⟩,
   ⟨0, st fun d => d.modDie 0 fun x => { x with on := true , bad := 3 }, by decide +kernel⟩,
   ⟨0, st fun d => d.modDie 0 fun x => { x with on := true , fallback := true, good := 2 }, by decide +kernel⟩,
   ⟨0, st fun d => (d.fsb (R.FIELD_LINK_STATUS 0) F.FIELD_LINK_STATUS_STALE true).modDie 0 fun x => { x with upGood := 2 }, by decide +kernel⟩,
   ⟨0, st fun d => (d.fsb (R.FIELD_GROUP_STATUS 0) F.FIELD_GROUP_STATUS_EN true).modDie 0 fun x => { x with on := true, cmd := 1 }, by decide +kernel⟩,
   ⟨0, st fun d => d.modDie 0 fun x => { x with on := true  }, by decide +kernel⟩,
   ⟨0, st id, by decide +kernel⟩,
   ⟨0, st fun d => d.modField fun f => { f with cfg := tabSetD resetWord f.cfg (R.FIELD_OUT_CFG 0) 0xFFFFFFFF }, by decide +kernel⟩,
   ⟨0, st fun d => d.modDie 0 fun x => { x with on := true  }, by decide +kernel⟩,
   ⟨0, st fun d => (d.modDie 0 fun x => { x with on := true  }).modField fun f => { f with cfg := tabSetD resetWord f.cfg (R.FIELD_OUT_CFG 0) 0xFFFFFFFF }, by decide +kernel⟩,
   ⟨0, st fun d => d.modDie 0 fun x => { x with on := true  }, by decide +kernel⟩,
   ⟨0, st fun d => ((d.modDie 0 fun x => { x with on := true  }).setBit R.FIELD_OUT_CMD 0 true).fsb R.PAIR_CFG F.PAIR_CFG_EN true |>.fs R.PAIR_STATUS F.PAIR_STATUS_STATE 5, by decide +kernel⟩,
   ⟨0, st fun d => d.modDie 0 fun x => { x with on := true  }, by decide +kernel⟩,
   ⟨0, 1, st fun d => ((d.fsb (R.FIELD_GROUP_STATUS 0) F.FIELD_GROUP_STATUS_EN true).modDie 0 fun x => { x with on := true, cmd := 3, hot := [0] }).modField fun f => { f with cfg := tabSetD resetWord f.cfg (R.FIELD_OUT_CFG 0) 0xFFFFFFFF }, by decide +kernel⟩,
   ⟨0, 1, st fun d => (d.modDie 0 fun x => { x with on := true  }).modField fun f => { f with cfg := tabSetD resetWord f.cfg (R.FIELD_OUT_CFG 0) 0xFFFFFFFF }, by decide +kernel⟩,
   ⟨0, true, st fun d => d.modDie 0 fun x => { x with on := true  }, by decide +kernel⟩,
   ⟨0, st fun d => (d.modDie 0 fun x => { x with on := true  }).modField fun f => { f with cfg := tabSetD resetWord f.cfg (R.FIELD_IN_CFG 0) 0xFFFFFFFF }, by decide +kernel⟩,
   ⟨0, st fun d => d.modDie 0 fun x => { x with on := true  }, by decide +kernel⟩,
   ⟨st fun d => (d.modDie 0 fun x => { x with on := true  }).fsb (R.FIELD_LINK_STATUS 0) F.FIELD_LINK_STATUS_SUPPLY true, by decide +kernel⟩,
   ⟨st fun d => (d.modDie 0 fun x => { x with on := true  }).fsb (R.FIELD_LINK_STATUS 0) F.FIELD_LINK_STATUS_SUPPLY false, by decide +kernel⟩,
   ⟨st fun d => (d.modDie 1 fun x => { x with on := true  }).fsb (R.FIELD_LINK_STATUS 1) F.FIELD_LINK_STATUS_SUPPLY true, by decide +kernel⟩,
   ⟨st fun d => (d.modDie 1 fun x => { x with on := true  }).fsb (R.FIELD_LINK_STATUS 1) F.FIELD_LINK_STATUS_SUPPLY false, by decide +kernel⟩,
   ⟨0, st fun d => d.modDie 0 fun x => { x with on := true  }, by decide +kernel⟩,
   ⟨st fun d => d.modDie 0 fun x => { x with on := false }, by decide +kernel⟩,
   ⟨st fun d => d.modDie 1 fun x => { x with on := false }, by decide +kernel⟩⟩

theorem test_meets_SafetyEventsTakeEffect :
    (∃ (b : Bool) (i : Fin 16) (lv : Bool) (s : State), ((s.dev.chan b).on = true)) ∧
    (∃ (b : Bool) (p : Fin 8) (w : List Word) (s : State), ((s.dev.chan b).on = true) ∧ ((s.dev.chan b).set = some w) ∧ (pairUsed w p = true) ∧ ((s.dev.chan b).disc.testBit p = false) ∧ ((s.dev.chan b).inDemands (s.dev.chan b).filt (2 * p) ≠ (s.dev.chan b).inDemands (s.dev.chan b).filt (2 * p + 1))) ∧
    (∃ (b : Bool) (i : Fin 16) (s : State), ((s.dev.chan b).on = true)) ∧
    (∃ (k : Fin 4) (x y z w : BitVec 16) (r : Bool) (s : State), (s.dev.safety.b.on = false ∨ s.dev.safety.cyc % 80 ≠ 20 * k.val)) ∧
    (∃ (k : Fin 4) (x y z w : BitVec 16) (r : Bool) (s : State), (s.dev.safety.b.on = true) ∧ (s.dev.safety.cyc % 80 = 20 * k.val)) ∧
    (∃ (j : Fin 4) (r : Bool) (s : State), ((s.dev.chan (j.val % 2 = 1)).on = true) ∧ ((s.dev.chan (j.val % 2 = 1)).so.testBit (j.val / 2) = true)) ∧
    (∃ (j : Fin 4) (r : Bool) (s : State), ((s.dev.chan (j.val % 2 = 1)).on = false ∨ (s.dev.chan (j.val % 2 = 1)).so.testBit (j.val / 2) = false)) ∧
    (∃ (s : State), (s.dev.safety.b.on = true) ∧ (s.dev.safety.b.due = true)) ∧
    (∃ (s : State), (s.dev.safety.a.on = true) ∧ (s.dev.safety.a.due = true)) ∧
    (∃ (b : Bool) (s : State), ((s.dev.chan b).on = true) ∧ ((s.dev.chan b).crcDiff = true ∨ (s.dev.chan b).diff = 8) ∧ ((s.dev.chan b).faults.testBit 0 = false)) ∧
    (∃ (b : Bool) (s : State), ((s.dev.chan b).on = true) ∧ (2 ≤ (s.dev.chan b).missing)) ∧
    (∃ (s : State), (3 ≤ s.dev.safety.upBad)) ∧
    (∃ (s : State), (Running s) ∧ (s.dev.safety.a.on = true)) ∧
    (∃ (f : Fin 8) (s : State), ((s.dev.safety.b.on = true ∧ s.dev.safety.b.ss1.testBit f = true) ∨ (s.dev.safety.a.on = true ∧ s.dev.safety.a.ss1.testBit f = true))) ∧
    (∃ (s : State), (s.dev.safety.b.on = false) ∧ ((tabGet s.dev.field.dies 0).on = true)) ∧
    (∃ (s : State), (Running s) ∧ (s.dev.safety.a.on = false) ∧ (s.dev.fb R.SYS_CLOCK_STATUS F.SYS_CLOCK_STATUS_SAFA_LOCK = true) ∧ (s.dev.safety.a.faults.testBit 6 = false)) ∧
    (∃ (b : Bool) (w : List Word) (s : State), ((s.dev.chan b).on = true) ∧ ((s.dev.chan b).startup = true) ∧ ((s.dev.chan b).set = some w)) :=
  ⟨⟨true, 0, true, st fun d => d.modChan true fun c => { c with on := true, due := false }, by decide +kernel⟩,
   ⟨true, 0, (List.replicate 64 0xFFFFFFFF), st fun d => d.modChan true fun c => { c with on := true, set := some (List.replicate 64 0xFFFFFFFF) }, by decide +kernel⟩,
   ⟨true, 3, st fun d => d.modChan true fun c => { c with on := true, due := false }, by decide +kernel⟩,
   ⟨0, 0, 0, 0, 0, false, st fun d => d.modChan true fun c => { c with on := false }, by decide +kernel⟩,
   ⟨3, 1, 2, 3, 4, true, st fun d => (d.modChan true fun c => { c with on := true, due := false }).modSafety fun s => { s with cyc := 60, a := { s.a with on := true } }, by decide +kernel⟩,
   ⟨1, true, st fun d => d.modChan true fun c => { c with on := true, so := 1 }, by decide +kernel⟩,
   ⟨1, true, st fun d => d.modChan true fun c => { c with so := 0 }, by decide +kernel⟩,
   ⟨st fun d => d.modChan true fun c => { c with on := true, due := true }, by decide +kernel⟩,
   ⟨st fun d => d.modChan false fun c => { c with on := true, due := true }, by decide +kernel⟩,
   ⟨true, st fun d => d.modChan true fun c => { c with on := true, diff := 8 }, by decide +kernel⟩,
   ⟨false, st fun d => d.modChan false fun c => { c with on := true, missing := 2 }, by decide +kernel⟩,
   ⟨st fun d => d.modSafety fun s => { s with upBad := 3 }, by decide +kernel⟩,
   ⟨st fun d => d.modChan false fun c => { c with on := true, due := false }, by decide +kernel⟩,
   ⟨0, st fun d => d.modChan true fun c => { c with on := true, set := some (List.replicate 64 0xFFFFFFFF), ss1 := 1 }, by decide +kernel⟩,
   ⟨st fun d => (d.modChan true fun c => { c with on := false }).modDie 0 fun x => { x with on := true }, by decide +kernel⟩,
   ⟨st fun d => d.fsb R.SYS_CLOCK_STATUS F.SYS_CLOCK_STATUS_SAFA_LOCK true, by decide +kernel⟩,
   ⟨true, [], st fun d => d.modChan true fun c => { c with on := true, startup := true, set := some [] }, by decide +kernel⟩⟩

theorem test_meets_PairStateEventsTakeEffect :
    (∃ (s : State), (Running s) ∧ (s.dev.pairEn = true) ∧ (s.dev.pairState = 0)) ∧
    (∃ (s : State), (Running s) ∧ (s.dev.pairEn = false) ∧ (s.dev.pairState = 2)) ∧
    (∃ (s : State), (Running s) ∧ (s.dev.pairEn = false) ∧ (s.dev.pairState = 3)) ∧
    (∃ (s : State), (Running s) ∧ (s.dev.pairEn = true) ∧ (s.dev.pairState = 1) ∧ (s.dev.pair.heard = false)) ∧
    (∃ (s : State), (Running s) ∧ (s.dev.beats = true) ∧ (s.dev.pairActive = false ∨ s.dev.lockLost = false)) ∧
    (∃ (s : State), (Running s) ∧ (s.dev.beats = true) ∧ (s.dev.pairActive = true) ∧ (s.dev.lockLost = true)) ∧
    (∃ (s : State), (Running s) ∧ (s.dev.beats = true) ∧ (s.dev.pairActive = false ∨ s.dev.lockLost = false)) ∧
    (∃ (s : State), (Running s) ∧ (s.dev.beats = true) ∧ (s.dev.pairActive = true) ∧ (s.dev.lockLost = true)) ∧
    (∃ (s : State), (Running s) ∧ (s.dev.beats = true)) ∧
    (∃ (p : Bool) (s : State), (Running s)) ∧
    (∃ (s : State), (Running s) ∧ (s.dev.beats = true) ∧ (s.dev.pairState ≠ 1) ∧ (s.dev.pair.heard = true)) ∧
    (∃ (s : State), (Running s)) ∧
    (∃ (a : Fin 64) (s : State), (Running s) ∧ (s.dev.standby = true) ∧ (8 ≤ tabGet s.dev.pair.div a)) ∧
    (∃ (s : State), (Running s) ∧ (s.dev.beats = true) ∧ (8 ≤ s.dev.pair.stoDiff)) ∧
    (∃ (s : State), (Running s) ∧ (8 ≤ s.dev.pair.goodRun) ∧ (s.dev.pairState ≠ 0)) ∧
    (∃ (x : Bool) (s : State), (Running s) ∧ (s.dev.fb R.PAIR_STATUS F.PAIR_STATUS_LINK_UP = true) ∧ (x = true ∨ 4 ≤ s.dev.pair.badRun)) ∧
    (∃ (s : State), (Running s) ∧ (s.dev.pairState = 4) ∧ (s.dev.fb R.PAIR_STATUS F.PAIR_STATUS_LINK_UP = true)) ∧
    (∃ (s : State), (Running s) ∧ (s.dev.pair.switch = true) ∧ (s.dev.pairState = 3) ∧ (s.dev.pair.switchAt + 1000000 ≤ s.dev.ns)) ∧
    (∃ (s : State), (Running s) ∧ (s.dev.pair.switch = true) ∧ (s.dev.pairState = 5)) :=
  ⟨⟨st fun d => (d.fsb R.PAIR_CFG F.PAIR_CFG_EN true), by decide +kernel⟩,
   ⟨st fun d => d.fs R.PAIR_STATUS F.PAIR_STATUS_STATE 2, by decide +kernel⟩,
   ⟨st fun d => d.fs R.PAIR_STATUS F.PAIR_STATUS_STATE 3, by decide +kernel⟩,
   ⟨st fun d => (d.fsb R.PAIR_CFG F.PAIR_CFG_EN true |>.fs R.PAIR_STATUS F.PAIR_STATUS_STATE 1), by decide +kernel⟩,
   ⟨st fun d => (d.fsb R.PAIR_CFG F.PAIR_CFG_EN true |>.fs R.PAIR_STATUS F.PAIR_STATUS_STATE 5), by decide +kernel⟩,
   ⟨st fun d => (d.fsb R.PAIR_CFG F.PAIR_CFG_EN true |>.fs R.PAIR_STATUS F.PAIR_STATUS_STATE 2), by decide +kernel⟩,
   ⟨st fun d => (d.fsb R.PAIR_CFG F.PAIR_CFG_EN true |>.fs R.PAIR_STATUS F.PAIR_STATUS_STATE 5), by decide +kernel⟩,
   ⟨st fun d => (d.fsb R.PAIR_CFG F.PAIR_CFG_EN true |>.fs R.PAIR_STATUS F.PAIR_STATUS_STATE 2), by decide +kernel⟩,
   ⟨st fun d => (d.fsb R.PAIR_CFG F.PAIR_CFG_EN true |>.fs R.PAIR_STATUS F.PAIR_STATUS_STATE 2), by decide +kernel⟩,
   ⟨true, st fun d => (d.fsb R.PAIR_CFG F.PAIR_CFG_EN true |>.fs R.PAIR_STATUS F.PAIR_STATUS_STATE 2), by decide +kernel⟩,
   ⟨st fun d => (d.fsb R.PAIR_CFG F.PAIR_CFG_EN true |>.fs R.PAIR_STATUS F.PAIR_STATUS_STATE 3).modPair fun p => { p with heard := true }, by decide +kernel⟩,
   ⟨st id, by decide +kernel⟩,
   ⟨0, st fun d => (d.fsb R.PAIR_CFG F.PAIR_CFG_EN true |>.fs R.PAIR_STATUS F.PAIR_STATUS_STATE 5).modPair fun p => { p with div := tabSet p.div 0 8 }, by decide +kernel⟩,
   ⟨st fun d => (d.fsb R.PAIR_CFG F.PAIR_CFG_EN true |>.fs R.PAIR_STATUS F.PAIR_STATUS_STATE 5).modPair fun p => { p with stoDiff := 8 }, by decide +kernel⟩,
   ⟨st fun d => (d.fsb R.PAIR_CFG F.PAIR_CFG_EN true |>.fs R.PAIR_STATUS F.PAIR_STATUS_STATE 2).modPair fun p => { p with goodRun := 8 }, by decide +kernel⟩,
   ⟨true, st fun d => d.fsb R.PAIR_STATUS F.PAIR_STATUS_LINK_UP true, by decide +kernel⟩,
   ⟨st fun d => (d.fsb R.PAIR_CFG F.PAIR_CFG_EN true |>.fs R.PAIR_STATUS F.PAIR_STATUS_STATE 4).fsb R.PAIR_STATUS F.PAIR_STATUS_LINK_UP true, by decide +kernel⟩,
   ⟨st fun d => { ((d.fsb R.PAIR_CFG F.PAIR_CFG_EN true |>.fs R.PAIR_STATUS F.PAIR_STATUS_STATE 3).modPair fun p => { p with switch := true }) with time := 1000000 * 2 ^ 32 }, by decide +kernel⟩,
   ⟨st fun d => (d.fsb R.PAIR_CFG F.PAIR_CFG_EN true |>.fs R.PAIR_STATUS F.PAIR_STATUS_STATE 5).modPair fun p => { p with switch := true }, by decide +kernel⟩⟩

theorem test_meets_PairFramesTakeEffect :
    (∃ (h : TieHead) (b : Heartbeat) (s : State), (Running s) ∧ (s.dev.beats = true)) ∧
    (∃ (h : TieHead) (a : Fin 64) (m : AxisMirror) (s : State), (Running s) ∧ (s.dev.standby = true)) ∧
    (∃ (h : TieHead) (n : Fin 4) (m : LaneMirror) (s : State), (Running s) ∧ (s.dev.standby = true)) ∧
    (∃ (h : TieHead) (p : Packet) (s : State), (Running s) ∧ (s.dev.standby = true)) ∧
    (∃ (h : TieHead) (m : PostMirror) (s : State), (Running s) ∧ (s.dev.standby = true)) ∧
    (∃ (h : TieHead) (x : BitVec 4) (s : State), (Running s) ∧ (s.dev.beats = true)) ∧
    (∃ (h : TieHead) (x : Fin 8) (s : State), (Running s) ∧ (s.dev.beats = true)) ∧
    (∃ (h : TieHead) (s : State), (Running s)) ∧
    (∃ (h : TieHead) (l : List (Nat × Word)) (s : State), (Running s) ∧ (s.dev.pairState = 4)) ∧
    (∃ (h : TieHead) (b : Heartbeat) (s : State), (Running s) ∧ (s.dev.beats = false)) ∧
    (∃ (h : TieHead) (x : BitVec 4) (s : State), (Running s) ∧ (s.dev.beats = false)) ∧
    (∃ (h : TieHead) (x : Fin 8) (s : State), (Running s) ∧ (s.dev.beats = false)) ∧
    (∃ (h : TieHead) (a : Fin 64) (m : AxisMirror) (s : State), (Running s) ∧ (s.dev.standby = false)) ∧
    (∃ (h : TieHead) (n : Fin 4) (m : LaneMirror) (s : State), (Running s) ∧ (s.dev.standby = false)) ∧
    (∃ (h : TieHead) (p : Packet) (s : State), (Running s) ∧ (s.dev.standby = false)) ∧
    (∃ (h : TieHead) (m : PostMirror) (s : State), (Running s) ∧ (s.dev.standby = false)) ∧
    (∃ (h : TieHead) (l : List (Nat × Word)) (s : State), (Running s) ∧ (s.dev.pairState ≠ 4)) :=
  ⟨⟨{}, {}, st fun d => (d.fsb R.PAIR_CFG F.PAIR_CFG_EN true |>.fs R.PAIR_STATUS F.PAIR_STATUS_STATE 2), by decide +kernel⟩,
   ⟨{}, 0, {}, st fun d => (d.fsb R.PAIR_CFG F.PAIR_CFG_EN true |>.fs R.PAIR_STATUS F.PAIR_STATUS_STATE 5), by decide +kernel⟩,
   ⟨{}, 0, {}, st fun d => (d.fsb R.PAIR_CFG F.PAIR_CFG_EN true |>.fs R.PAIR_STATUS F.PAIR_STATUS_STATE 5), by decide +kernel⟩,
   ⟨{}, {}, st fun d => (d.fsb R.PAIR_CFG F.PAIR_CFG_EN true |>.fs R.PAIR_STATUS F.PAIR_STATUS_STATE 5), by decide +kernel⟩,
   ⟨{}, {}, st fun d => (d.fsb R.PAIR_CFG F.PAIR_CFG_EN true |>.fs R.PAIR_STATUS F.PAIR_STATUS_STATE 5), by decide +kernel⟩,
   ⟨{}, 0, st fun d => (d.fsb R.PAIR_CFG F.PAIR_CFG_EN true |>.fs R.PAIR_STATUS F.PAIR_STATUS_STATE 5), by decide +kernel⟩,
   ⟨{}, 1, st fun d => (d.fsb R.PAIR_CFG F.PAIR_CFG_EN true |>.fs R.PAIR_STATUS F.PAIR_STATUS_STATE 5), by decide +kernel⟩,
   ⟨{}, st id, by decide +kernel⟩,
   ⟨{}, [], st fun d => (d.fsb R.PAIR_CFG F.PAIR_CFG_EN true |>.fs R.PAIR_STATUS F.PAIR_STATUS_STATE 4), by decide +kernel⟩,
   ⟨{}, {}, st id, by decide +kernel⟩,
   ⟨{}, 0, st id, by decide +kernel⟩,
   ⟨{}, 0, st id, by decide +kernel⟩,
   ⟨{}, 0, {}, st id, by decide +kernel⟩,
   ⟨{}, 0, {}, st id, by decide +kernel⟩,
   ⟨{}, {}, st id, by decide +kernel⟩,
   ⟨{}, {}, st id, by decide +kernel⟩,
   ⟨{}, [], st id, by decide +kernel⟩⟩

theorem test_meets_StoreAndPowerEventsTakeEffect :
    (∃ (o : StoreOp) (l : List StoreOp) (n : Nat) (z : Bool) (s : State), (Running s) ∧ (s.dev.store.ops = o :: l) ∧ (s.dev.mounted = true) ∧ (o.kind ≠ .read)) ∧
    (∃ (o : StoreOp) (l : List StoreOp) (b : Nat) (z : Bool) (s : State), (Running s) ∧ (s.dev.store.ops = o :: l) ∧ (s.dev.mounted = true) ∧ (o.kind ≠ .read)) ∧
    (∃ (o : StoreOp) (l : List StoreOp) (b x w : Nat) (z : Bool) (s : State), (Running s) ∧ (s.dev.store.ops = o :: l) ∧ (s.dev.mounted = true)) ∧
    (∃ (o : StoreOp) (l : List StoreOp) (b : Nat) (s : State), (Running s) ∧ (s.dev.store.ops = o :: l) ∧ (s.dev.mounted = true) ∧ (o.kind ≠ .read)) ∧
    (∃ (o : StoreOp) (l : List StoreOp) (b : Nat) (s : State), (Running s) ∧ (s.dev.store.ops = o :: l) ∧ (s.dev.mounted = true) ∧ (o.kind = .read) ∧ (twoCopies o.part = false)) ∧
    (∃ (o : StoreOp) (l : List StoreOp) (b : Nat) (s : State), (Running s) ∧ (s.dev.store.ops = o :: l) ∧ (s.dev.mounted = true) ∧ (o.kind = .read) ∧ (twoCopies o.part = true)) ∧
    (∃ (l : List ScrubBlock) (z u : Bool) (s : State), (Running s) ∧ (s.dev.mounted = true) ∧ (s.dev.throttled = false) ∧ (s.dev.dozing = false) ∧ (s.dev.fb R.POWER_STATUS F.POWER_STATUS_PF_ACTIVE = false)) ∧
    (∃ (s : State), (Running s) ∧ (s.dev.mounted = true)) ∧
    (∃ (s : State), (Running s) ∧ (s.dev.fb R.POWER_STATUS F.POWER_STATUS_PF_ACTIVE = false)) ∧
    (∃ (k : Fin 16) (n : Nat) (ok : Bool) (s : State), (s.dev.store.flush = true)) ∧
    (∃ (s : State), (Running s) ∧ (s.dev.fb R.POWER_STATUS F.POWER_STATUS_PF_ACTIVE = true)) ∧
    (∃ (s : State), (Running s) ∧ (s.dev.fb R.POWER_STATUS F.POWER_STATUS_PF_ACTIVE = true) ∧ (s.dev.store.flush = false) ∧ (s.dev.stopsDone = true)) ∧
    (∃ (x : Bool) (s : State), (s.dev.heldInReset = true) ∧ (s.dev.store.flush = false) ∧ (s.dev.power < 3)) ∧
    (∃ (x : Straps) (s : State), (s.dev.heldInReset = true) ∧ (s.dev.power = 3)) ∧
    (∃ (s : State), (s.dev.fb R.POWER_STATUS F.POWER_STATUS_BAK_OK = true)) :=
  ⟨⟨{  }, [], 4096, true, st fun d => (d.fsb R.STORE_STATUS F.STORE_STATUS_MOUNTED true).modStore fun s => { s with ops := [{  }] }, by decide +kernel⟩,
   ⟨{ kind := .erase }, [], 1, true, st fun d => (d.fsb R.STORE_STATUS F.STORE_STATUS_MOUNTED true).modStore fun s => { s with ops := [{ kind := .erase }] }, by decide +kernel⟩,
   ⟨{ kind := .read }, [], 1, 2, 3, true, st fun d => (d.fsb R.STORE_STATUS F.STORE_STATUS_MOUNTED true).modStore fun s => { s with ops := [{ kind := .read }] }, by decide +kernel⟩,
   ⟨{  }, [], 1, st fun d => (d.fsb R.STORE_STATUS F.STORE_STATUS_MOUNTED true).modStore fun s => { s with ops := [{  }] }, by decide +kernel⟩,
   ⟨{ kind := .read, part := 4 }, [], 1, st fun d => (d.fsb R.STORE_STATUS F.STORE_STATUS_MOUNTED true).modStore fun s => { s with ops := [{ kind := .read, part := 4 }] }, by decide +kernel⟩,
   ⟨{ kind := .read, part := 9 }, [], 1, st fun d => (d.fsb R.STORE_STATUS F.STORE_STATUS_MOUNTED true).modStore fun s => { s with ops := [{ kind := .read, part := 9 }] }, by decide +kernel⟩,
   ⟨[{}], true, true, st fun d => (d.fsb R.STORE_STATUS F.STORE_STATUS_MOUNTED true), by decide +kernel⟩,
   ⟨st fun d => (d.fsb R.STORE_STATUS F.STORE_STATUS_MOUNTED true), by decide +kernel⟩,
   ⟨st id, by decide +kernel⟩,
   ⟨3, 900, true, st fun d => d.modStore fun s => { s with flush := true, part := some {} }, by decide +kernel⟩,
   ⟨st fun d => (d.fsb R.POWER_STATUS F.POWER_STATUS_PF_ACTIVE true), by decide +kernel⟩,
   ⟨st fun d => (d.fsb R.POWER_STATUS F.POWER_STATUS_PF_ACTIVE true), by decide +kernel⟩,
   ⟨false, st fun d => d.modBoot fun b => { b with held := true }, by decide +kernel⟩,
   ⟨{}, st fun d => (d.fs R.PWR_STATUS F.PWR_STATUS_STATE 3).modBoot fun b => { b with held := true }, by decide +kernel⟩,
   ⟨st fun d => d.fsb R.POWER_STATUS F.POWER_STATUS_BAK_OK true, by decide +kernel⟩⟩

theorem test_meets_DebugAndJtagEventsTakeEffect :
    (∃ (s : State), (Running s)) ∧
    (∃ (l : List Bool) (s : State), (Running s)) ∧
    (∃ (s : State), (Running s)) ∧
    (∃ (s : State), (Running s) ∧ (s.dev.scanOk = true)) ∧
    (∃ (s : State), (Running s) ∧ (s.dev.scanOk = true)) ∧
    (∃ (s : State), (Running s) ∧ (s.dev.scanOk = true)) ∧
    (∃ (s : State), (Running s) ∧ (s.dev.scanOk = false)) ∧
    (∃ (s : State), (Running s) ∧ (s.dev.scanOk = false)) ∧
    (∃ (s : State), (Running s) ∧ (s.dev.scanOk = false)) ∧
    (∃ (s : State), (Running s) ∧ (1 ≤ s.dev.debugLevel) ∧ (s.dev.fb R.DEBUG_STATUS F.DEBUG_STATUS_DAP = false)) ∧
    (∃ (s : State), (Running s) ∧ (1 ≤ s.dev.debugLevel) ∧ (s.dev.fb R.DEBUG_STATUS F.DEBUG_STATUS_DAP = true)) ∧
    (∃ (s : State), (Running s) ∧ (s.dev.debugLevel = 0)) ∧
    (∃ (s : State), (Running s)) :=
  ⟨⟨st id, by decide +kernel⟩,
   ⟨[true], st id, by decide +kernel⟩,
   ⟨st id, by decide +kernel⟩,
   ⟨st fun d => (d.fs R.DEBUG_STATUS F.DEBUG_STATUS_LEVEL 3 |>.fs R.PWR_STATUS F.PWR_STATUS_STATE 1), by decide +kernel⟩,
   ⟨st fun d => (d.fs R.DEBUG_STATUS F.DEBUG_STATUS_LEVEL 3 |>.fs R.PWR_STATUS F.PWR_STATUS_STATE 1), by decide +kernel⟩,
   ⟨st fun d => (d.fs R.DEBUG_STATUS F.DEBUG_STATUS_LEVEL 3 |>.fs R.PWR_STATUS F.PWR_STATUS_STATE 1), by decide +kernel⟩,
   ⟨st fun d => (d.fs R.DEBUG_STATUS F.DEBUG_STATUS_LEVEL 0 |>.fs R.PWR_STATUS F.PWR_STATUS_STATE 0), by decide +kernel⟩,
   ⟨st fun d => (d.fs R.DEBUG_STATUS F.DEBUG_STATUS_LEVEL 0 |>.fs R.PWR_STATUS F.PWR_STATUS_STATE 0), by decide +kernel⟩,
   ⟨st fun d => (d.fs R.DEBUG_STATUS F.DEBUG_STATUS_LEVEL 0 |>.fs R.PWR_STATUS F.PWR_STATUS_STATE 0), by decide +kernel⟩,
   ⟨st fun d => (d.fs R.DEBUG_STATUS F.DEBUG_STATUS_LEVEL 1 |>.fs R.PWR_STATUS F.PWR_STATUS_STATE 0), by decide +kernel⟩,
   ⟨st fun d => (d.fs R.DEBUG_STATUS F.DEBUG_STATUS_LEVEL 1 |>.fs R.PWR_STATUS F.PWR_STATUS_STATE 0).fsb R.DEBUG_STATUS F.DEBUG_STATUS_DAP true, by decide +kernel⟩,
   ⟨st fun d => (d.fs R.DEBUG_STATUS F.DEBUG_STATUS_LEVEL 0 |>.fs R.PWR_STATUS F.PWR_STATUS_STATE 0), by decide +kernel⟩,
   ⟨st id, by decide +kernel⟩⟩

theorem test_meets_BackgroundEventsTakeEffect :
    (∃ (w : EccWord) (x : BitVec 28) (f : Bool) (s : State), (Running s)) ∧
    (∃ (w : EccWord) (x : BitVec 28) (f : Bool) (s : State), (Running s)) ∧
    (∃ (s : State), (Running s)) ∧
    (∃ (t : Telemetry) (s : State), (Running s) ∧ (s.dev.dozing = false)) ∧
    (∃ (s : State), (Running s)) ∧
    (∃ (e : Fin 64) (g x : Nat) (s : State), (Running s) ∧ (s.dev.throttled = false) ∧ (s.dev.dozing = false) ∧ (s.dev.encMode e = 1)) ∧
    (∃ (e : Fin 64) (g x : Nat) (s : State), (Running s) ∧ (s.dev.throttled = false) ∧ (s.dev.dozing = false) ∧ (s.dev.encMode e = 3)) ∧
    (∃ (p : Fin 12) (n : Nat) (s : State), (Running s) ∧ (s.dev.throttled = false) ∧ (s.dev.dozing = false) ∧ (s.dev.mounted = true) ∧ (s.dev.fb R.POWER_STATUS F.POWER_STATUS_PF_ACTIVE = false)) ∧
    (∃ (t : Fin 6) (s : State), (Running s)) ∧
    (∃ (s : State), (Running s) ∧ (s.dev.thermalLevel < 1)) ∧
    (∃ (s : State), (Running s) ∧ (s.dev.thermalLevel = 1)) ∧
    (∃ (s : State), (Running s) ∧ (s.dev.thermalLevel = 0)) ∧
    (∃ (s : State), (Running s) ∧ (s.dev.thermalLevel = 2)) ∧
    (∃ (s : State), (Running s) ∧ (s.dev.thermalLevel < 2)) ∧
    (∃ (s : State), (Running s) ∧ (s.dev.thermalLevel = 3) ∧ (s.dev.stopsDone = true)) ∧
    (∃ (x : Straps) (s : State), (Running s)) ∧
    (∃ (s : State), (Running s) ∧ (s.dev.thermalLevel ≠ 0) ∧ (s.dev.fb R.THERMAL_STATUS F.THERMAL_STATUS_SENSOR_FAIL = false)) ∧
    (∃ (b : Bool) (s : State), (Running s) ∧ (s.dev.dozing = false)) ∧
    (∃ (c : WedgeCause) (s : State), (Running s) ∧ (s.dev.fb R.SYS_WEDGE F.SYS_WEDGE_WEDGED = false ∨ s.dev.fb R.SYS_BOOT_STATUS F.SYS_BOOT_STATUS_READY = false)) ∧
    (∃ (s : State), (Running s) ∧ (s.dev.bg.wedgeReset = true) ∧ (s.dev.fb R.CE_HSG_STATUS F.CE_HSG_STATUS_ACTIVE = false)) ∧
    (∃ (s : State), (Running s) ∧ (s.dev.bg.dur = true)) :=
  ⟨⟨.supervisor, 5, false, st id, by decide +kernel⟩,
   ⟨.supervisor, 5, true, st id, by decide +kernel⟩,
   ⟨st id, by decide +kernel⟩,
   ⟨{}, st id, by decide +kernel⟩,
   ⟨st id, by decide +kernel⟩,
   ⟨0, 70000, 0, st fun d => d.fs (R.ENC_CFG 0) F.ENC_CFG_MODE 1, by decide +kernel⟩,
   ⟨0, 0, 300, st fun d => d.fs (R.ENC_CFG 0) F.ENC_CFG_MODE 3, by decide +kernel⟩,
   ⟨3, 4096, st fun d => (d.fsb R.STORE_STATUS F.STORE_STATUS_MOUNTED true), by decide +kernel⟩,
   ⟨3, st id, by decide +kernel⟩,
   ⟨st id, by decide +kernel⟩,
   ⟨st fun d => d.fs R.THERMAL_STATUS F.THERMAL_STATUS_LEVEL 1, by decide +kernel⟩,
   ⟨st id, by decide +kernel⟩,
   ⟨st fun d => d.fs R.THERMAL_STATUS F.THERMAL_STATUS_LEVEL 2, by decide +kernel⟩,
   ⟨st id, by decide +kernel⟩,
   ⟨st fun d => d.fs R.THERMAL_STATUS F.THERMAL_STATUS_LEVEL 3, by decide +kernel⟩,
   ⟨{}, st id, by decide +kernel⟩,
   ⟨st fun d => d.fs R.THERMAL_STATUS F.THERMAL_STATUS_LEVEL 3, by decide +kernel⟩,
   ⟨true, st id, by decide +kernel⟩,
   ⟨.ecc, st id, by decide +kernel⟩,
   ⟨st fun d => d.modBg fun b => { b with wedgeReset := true }, by decide +kernel⟩,
   ⟨st fun d => d.modBg fun b => { b with dur := true }, by decide +kernel⟩⟩

theorem test_meets_FailedChecksOnlyReply : ∃ (s : State) (p : Packet), Running s ∧ opNum p = 0x0202 ∧ s.dev.canStart p = true ∧ (started p s.dev).opCheck specStop p = some (0x0201, 3) := ⟨st fun d => d.modCmd fun c => { c with accepted := [{ pkt := { q := 1, opcode := 0x0202, tclass := 1, tindex := 16, params := [9] } }] }, { q := 1, opcode := 0x0202, tclass := 1, tindex := 16, params := [9] }, by decide +kernel⟩

theorem test_meets_HeldDieDoesNothing : ∃ s : State, Instr.wellFormed (.servoTick 0) = true ∧ Instr.onMotionDie (.servoTick 0) = true ∧ s.dev.heldInReset = true := ⟨st fun d => d.modBoot fun b => { b with held := true }, by decide +kernel⟩

theorem test_meets_TdspSlotWordsRoundTrip : ∃ (w w2 : Word) (o : MOp) (o2 : LOp), decM w = some o ∧ decL w2 = some o2 ∧ 32 ≤ (0xFC000000 : Word).toNat / 2 ^ 26 := ⟨encM .nop, encL .ret, .nop, .ret, by decide +kernel⟩

theorem test_meets_CircularPointersWrap : ∃ (k : Core) (t n : Nat), k.len t n ≠ 0 := ⟨({} : Core).setReg (bankKey false 0x30) 8, 1, 0, by decide +kernel⟩

theorem test_meets_AccumulatorStoresRoundAndSaturate : ∃ (k : Core) (reg : BitVec 7), isConv reg.toNat = true ∧ (k.see 2 (kSR k.shadow)).getLsbD 31 = false ∧ k.addr 1 0 0 0 = some (0, 0) := ⟨({} : Core).setReg (kSR false) 0, 0x1C, by decide +kernel⟩

theorem test_meets_GearFollowersKeepTheExactRatio : ∃ (d : Dev) (f : Follower), (d.ax 0).stop = none ∧ (d.ax 0).folNext = none ∧ (d.ax 0).fol = some f ∧ f.cam = false ∧ f.phase = 2 ∧ 0 < f.d ∧ 0 ≤ f.rem ∧ f.rem < f.d ∧ (d.setPoint 0 - 0) * f.d + f.rem = f.n * (f.mPrev - 0) := ⟨({} : Dev).modAx 0 fun x => { x with fol := some { phase := 2, n := -1, d := 3, rem := 2, mPrev := 1 }, pCmd := -1 }, { phase := 2, n := -1, d := 3, rem := 2, mPrev := 1 }, by decide +kernel⟩

theorem test_meets_SincWordsAreInRange : ∃ osr : Nat, osr = 16 ∨ osr = 32 ∨ osr = 64 ∨ osr = 128 ∨ osr = 256 := ⟨256, by decide⟩

theorem test_meets_BfpResultsAreNormalised : ∃ m x : Int, m.natAbs < 2 ^ 1200 ∧ 0 < m ∧ 127 < (round24 m x).2 := ⟨1, 200, by decide +kernel⟩

theorem test_meets_SafetyFaultsHoldSto : ∃ s : State, (s.dev.chan false).on = true ∧ (s.dev.chan false).diff = 8 ∧ 2 ≤ (s.dev.chan false).missing ∧ (s.dev.chan false).faults = 0 := ⟨st fun d => d.modChan false fun c => { c with on := true, diff := 8, missing := 2 }, by decide +kernel⟩

theorem test_meets_BulkWritesTouchOnlyStaging : ∃ s : State, Running s ∧ tabWf (fun _ => (default : Byte)) s.dev.bulk = true ∧ s.dev.stagingBusy = false := ⟨st id, by decide +kernel⟩

end Sys2Proof.Tests
end

/-!
PROOF. Accesses of the host and of the debug port to the register window, BULKWIN and the MSI-X table (R7–R13, R30–R33, R346, R507): how
each access behaves, case by case, and O11 from it.
-/

namespace Sys2Proof.Machine

/-! ### Answers of the access commands -/

theorem exec_hostRegisterWrite (x : HostWrite) (s : State) : exec (.hostRegisterWrite x) s = execHostRegisterWrite x s := rfl

theorem exec_hostLowerWordRead (x : HostRead) (s : State) : exec (.hostLowerWordRead x) s = execHostLowerWordRead x s := rfl

theorem exec_msixVectorUnmask (v : Fin 64) (s : State) : exec (.msixVectorUnmask v) s = execMsixVectorUnmask v s := rfl

theorem exec_dapWrite (o : Nat) (w : Word) (s : State) : exec (.dapWrite o w) s = execDapWrite o w s := rfl

/-- An operation of the motion die takes effect while the die runs, as any function that agrees with it on this device. -/
theorem effect_of_onDev {i : Instr} {s : State} {f g : Dev → Dev} (hi : exec i s = s.onDev g) (hr : Running s)
    (hg : g s.dev = f s.dev) : Effect i s f := by
  unfold Effect
  rw [hi, State.onDev_running s g hr, hg]

/-! ### Host writes: width and alignment (R7, R9, R10, R12) -/

theorem effect_write_narrow (o : Nat) (s : State) : Effect (.hostRegisterWrite (.narrow o)) s id := rfl

theorem exec_write_w32_aligned {o : Nat} (w : Word) (s : State) (ho : o % 4 = 0) :
    exec (.hostRegisterWrite (.w32 o w)) s = .next (s.hostWord o w) := by
  rw [exec_hostRegisterWrite]
  simp only [execHostRegisterWrite, if_pos ho]

theorem effect_write_w32_misaligned {o : Nat} (w : Word) (s : State) (ho : o % 4 ≠ 0) :
    Effect (.hostRegisterWrite (.w32 o w)) s id := by
  unfold Effect
  rw [exec_hostRegisterWrite]
  simp only [execHostRegisterWrite, if_neg ho, id]

/-- The bits that the device sets in the clock of the write are taken out of what the write acknowledges. -/
theorem exec_write_clash_aligned {o : Nat} (w held : Word) (s : State) (ho : o % 4 = 0) :
    exec (.hostRegisterWrite (.clash o w held)) s = .next (s.hostWord o (w &&& ~~~(held &&& w1cMask o))) := by
  rw [exec_hostRegisterWrite]
  simp only [execHostRegisterWrite, if_pos ho]

theorem exec_write_w64_aligned {o : Nat} (lo hi : Word) (s : State) (ho : o % 8 = 0) :
    exec (.hostRegisterWrite (.w64 o lo hi)) s = .next ((s.hostWord o lo).hostWord (o + 4) hi) := by
  rw [exec_hostRegisterWrite]
  simp only [execHostRegisterWrite, if_pos ho]

theorem effect_write_w64_misaligned {o : Nat} (lo hi : Word) (s : State) (ho : o % 8 ≠ 0) :
    Effect (.hostRegisterWrite (.w64 o lo hi)) s id := by
  unfold Effect
  rw [exec_hostRegisterWrite]
  simp only [execHostRegisterWrite, if_neg ho, id]

/-! ### Host reads: the addressed bytes and the latch of the upper word (R12, R13) -/

/-- The lower word of a 64-bit register is read as it is, and the upper word of that instant replaces what the requester had latched. -/
theorem Dev.readWord_lower {d : Dev} {req o i j : Nat} {r : RegRow} (hf : findReg o = some (r, i, j, 0)) (hw : r.w64 = true) :
    d.readWord req o =
      ({ d with latches := d.latches.filter (fun l => !(l.req = req && l.off = o)) ++ [{ req := req, off := o, upper := d.view (o + 4) }] },
        d.view o) := by
  simp only [Dev.readWord, hf, hw, if_true]

/-- The upper word is read from the latch, which is used up. -/
theorem Dev.readWord_upper_latched {d : Dev} {req o i j k : Nat} {r : RegRow} {l : UpperLatch} (hf : findReg o = some (r, i, j, k + 1))
    (hl : d.latches.find? (fun l => l.req = req && l.off + 4 = o) = some l) :
    d.readWord req o = ({ d with latches := d.latches.filter fun l => !(l.req = req && l.off + 4 = o) }, l.upper) := by
  simp only [Dev.readWord, hf, hl]

theorem Dev.readWord_single {d : Dev} {req o i j : Nat} {r : RegRow} (hf : findReg o = some (r, i, j, 0)) (hw : r.w64 = false) :
    d.readWord req o = (d, d.view o) := by
  simp [Dev.readWord, hf, hw]

/-- A read of up to 32 bits leaves what the read of its word leaves, and returns the addressed bytes of that word. -/
theorem Dev.hostRead_reg {d d' : Dev} {w : Word} {o n : Nat} (hn : n = 1 ∨ n = 2 ∨ n = 4)
    (hw : d.readWord 0 (o - o % 4) = (d', w)) :
    d.hostRead (.reg o n) = { d' with readOut := ((wordBytes w).drop (o % 4)).take n } := by
  have h8 : n ≠ 8 := by omega
  simp only [Dev.hostRead, if_neg h8, hw]

/-- A read takes effect as any function that makes the same of this device. -/
theorem effect_read {x : HostRead} {s : State} {f : Dev → Dev} (hr : Running s) (hx : s.dev.hostRead x = f s.dev) :
    Effect (.hostLowerWordRead x) s f :=
  effect_of_onDev (exec_hostLowerWordRead x s) hr hx

/-! ### The MSI-X mask (R346) -/

theorem Dev.msixUnmask_idle {d : Dev} {v : Nat} (h : d.evr.msiPend.contains v = false) :
    d.msixUnmask v = { d with evr := { d.evr with
      unmasked := if d.evr.unmasked.contains v then d.evr.unmasked else d.evr.unmasked ++ [v]
      msiPend := d.evr.msiPend.filter (· ≠ v) } } := by
  unfold Dev.msixUnmask
  exact if_neg (by simp only [h, Bool.false_eq_true, not_false_eq_true])

theorem Dev.msixUnmask_pending {d : Dev} {v : Nat} (h : d.evr.msiPend.contains v = true) :
    d.msixUnmask v = ({ d with evr := { d.evr with
      unmasked := if d.evr.unmasked.contains v then d.evr.unmasked else d.evr.unmasked ++ [v]
      msiPend := d.evr.msiPend.filter (· ≠ v) } } : Dev).msiOut v := by
  unfold Dev.msixUnmask
  exact if_pos h

theorem effect_unmask {v : Fin 64} {s : State} {f : Dev → Dev} (hr : Running s) (hv : s.dev.msixUnmask v = f s.dev) :
    Effect (.msixVectorUnmask v) s f :=
  effect_of_onDev (exec_msixVectorUnmask v s) hr hv

/-! ### The debug access port (R507, R517) -/

/-- An awake die at debug level FULL takes a debug write of a Transit DSP memory word as it is. -/
theorem effect_dapWrite_tdMemory {o : Nat} (w : Word) {s : State} (hr : Running s) (hfull : s.dev.dapAt 3 = true) (ho : o % 4 = 0)
    (hsafe : ¬ (0xE0000 ≤ o ∧ o < 0xF0000)) (hawake : s.dev.dozing = false) (htd : inTdMemory o = true) :
    Effect (.dapWrite o w) s fun d => d.wr o w := by
  have hi : exec (.dapWrite o w) s = s.onDev fun d => d.wr o w := by
    rw [exec_dapWrite]
    simp only [Running] at hr
    simpa [execDapWrite, hr, hfull, ho, hawake, htd] using fun h h' => absurd ⟨h, h'⟩ hsafe
  exact effect_of_onDev hi hr rfl

/-! ### The statement -/

/-- Settles O11: each clause is the behaviour of one access, and the reads of registers go by which word of the register they address. -/
theorem hostWritesReachRegisters : Obligations.HostWritesReachRegisters := by
  unfold Obligations.HostWritesReachRegisters
  refine ⟨effect_write_narrow, fun _ => exec_write_w32_aligned, fun _ => effect_write_w32_misaligned,
    fun _ => exec_write_clash_aligned, fun _ => exec_write_w64_aligned, fun _ => effect_write_w64_misaligned, ?bulkWrite, ?msixWrite,
    ?lowerWord, ?upperWord, ?singleWord, ?bothWords, ?bulkRead, ?msixRead, ?unmaskIdle, ?unmaskPending,
    fun _ w _ => effect_dapWrite_tdMemory w⟩
  case bulkWrite => exact fun o l s hr => effect_of_onDev (exec_hostRegisterWrite (.bulk o l) s) hr rfl
  case msixWrite => exact fun v k w s hr => effect_of_onDev (exec_hostRegisterWrite (.msix v k w) s) hr rfl
  case lowerWord => exact fun o n r i j s hr hn hf hw => effect_read hr (Dev.hostRead_reg hn (Dev.readWord_lower hf hw))
  case upperWord => exact fun o n r i j l s hr hn hf hl => effect_read hr (Dev.hostRead_reg hn (Dev.readWord_upper_latched hf hl))
  case singleWord => exact fun o n r i j s hr hn hf hw => effect_read hr (Dev.hostRead_reg hn (Dev.readWord_single hf hw))
  case bothWords => exact fun o s hr => effect_read hr rfl
  case bulkRead => exact fun o n s hr => effect_read hr rfl
  case msixRead => exact fun o n s hr => effect_read hr rfl
  case unmaskIdle => exact fun v s hr hv => effect_unmask hr (Dev.msixUnmask_idle hv)
  case unmaskPending => exact fun v s hr hv => effect_unmask hr (Dev.msixUnmask_pending hv)

end Sys2Proof.Machine

/-!
PROOF. Host writes to BULKWIN (R32, R33): a write is a series of byte writes, each of which takes effect where the host may write at that
time; the bytes that it leaves alone, those that it stores, and O60 from both.
-/

namespace Sys2Proof.Machine

/-! ### A series of byte writes into a table -/

/-- The bytes of a list are written one after the other from number `o` on, each where `may` admits its number. -/
def putBytes (may : Nat → Bool) (t : Tab Byte) (o : Nat) : List Byte → Tab Byte
  | [] => t
  | b :: r => putBytes may (if may o then tabSet t o b else t) (o + 1) r

theorem tabWf_putBytes (may : Nat → Bool) (l : List Byte) {t : Tab Byte} {o : Nat} (h : tabWf (fun _ => (default : Byte)) t = true) :
    tabWf (fun _ => (default : Byte)) (putBytes may t o l) = true := by
  induction l generalizing t o with
  | nil => exact h
  | cons b r ih =>
    refine ih ?_
    split
    · exact tabWf_set _ t o b h
    · exact h

/-- A number below the first one written reads as before. -/
theorem tabGet_putBytes_below (may : Nat → Bool) (l : List Byte) {t : Tab Byte} {o k : Nat} (h : k < o) :
    tabGet (putBytes may t o l) k = tabGet t k := by
  induction l generalizing t o with
  | nil => rfl
  | cons b r ih =>
    refine (ih (Nat.lt_succ_of_lt h)).trans ?_
    split
    · exact tabGet_set_ne t b h.ne
    · rfl

/-- A number past the last one written reads as before. -/
theorem tabGet_putBytes_above (may : Nat → Bool) (l : List Byte) {t : Tab Byte} {o k : Nat} (h : o + l.length ≤ k) :
    tabGet (putBytes may t o l) k = tabGet t k := by
  induction l generalizing t o with
  | nil => rfl
  | cons b r ih =>
    rw [List.length_cons] at h
    refine (ih (by omega)).trans ?_
    split
    · exact tabGet_set_ne t b (by omega)
    · rfl

/-- A number that is not admitted reads as before. -/
theorem tabGet_putBytes_locked (may : Nat → Bool) (l : List Byte) {t : Tab Byte} {o k : Nat} (h : may k = false) :
    tabGet (putBytes may t o l) k = tabGet t k := by
  induction l generalizing t o with
  | nil => rfl
  | cons b r ih =>
    refine ih.trans ?_
    split
    · next ho => exact tabGet_set_ne t b fun hk => by simp [hk, ho] at h
    · rfl

/-- An admitted number reads as the byte that the list has for it: no later byte of the list goes there. -/
theorem tabGet_putBytes_written (may : Nat → Bool) (l : List Byte) {t : Tab Byte} {o n : Nat} (hn : n < l.length)
    (h : may (o + n) = true) : tabGet (putBytes may t o l) (o + n) = l.getD n 0 := by
  induction l generalizing t o n with
  | nil => exact absurd hn (Nat.not_lt_zero n)
  | cons b r ih =>
    cases n with
    | zero =>
      have ho : may o = true := h
      calc tabGet (putBytes may t o (b :: r)) (o + 0)
          = tabGet (putBytes may (tabSet t o b) (o + 1) r) o := by simp [putBytes, ho]
        _ = tabGet (tabSet t o b) o := tabGet_putBytes_below may r (Nat.lt_succ_self o)
        _ = b := tabGet_set_self t o b
    | succ n =>
      have hs : o + (n + 1) = o + 1 + n := by omega
      rw [hs] at h ⊢
      rw [List.getD_cons_succ]
      exact ih (Nat.lt_of_succ_lt_succ hn) h

/-! ### The write of BULKWIN -/

/-- The host may write a byte of BULKWIN: it lies in Logbook staging with no command on it, or in the image staging (R32, R33). -/
def Dev.mayStage (d : Dev) (k : Nat) : Bool :=
  (0x1000000 ≤ k && k < 0x2000000 && !d.stagingBusy) || (0x2000000 ≤ k && k < 0x2200000)

theorem Dev.mayStage_iff (d : Dev) (k : Nat) : d.mayStage k = true ↔
    0x1000000 ≤ k ∧ k < 0x2000000 ∧ d.stagingBusy = false ∨ 0x2000000 ≤ k ∧ k < 0x2200000 := by
  simp [Dev.mayStage, and_assoc]

theorem Dev.mayStage_outside (d : Dev) {k : Nat} (h : k < 0x1000000 ∨ 0x2200000 ≤ k) : d.mayStage k = false := by
  rw [← Bool.not_eq_true, Dev.mayStage_iff]
  omega

theorem Dev.mayStage_busy {d : Dev} (hb : d.stagingBusy = true) {k : Nat} (h : k < 0x2000000) : d.mayStage k = false := by
  rw [← Bool.not_eq_true, Dev.mayStage_iff]
  rintro (⟨-, -, hfree⟩ | ⟨hlo, -⟩)
  · simp [hb] at hfree
  · omega

/-- The fold of a bulk write over the numbered bytes changes the bytes of BULKWIN alone. -/
theorem foldl_setBulkByte (may : Nat → Bool) (o : Nat) (l : List Byte) (n : Nat) (d : Dev) :
    (l.zipIdx n).foldl (fun (d : Dev) x => if may (o + x.2) then d.setBulkByte (o + x.2) x.1 else d) d =
      { d with bulk := putBytes may d.bulk (o + n) l } := by
  induction l generalizing n d with
  | nil => rfl
  | cons b r ih =>
    rw [List.zipIdx_cons, List.foldl_cons, ih]
    by_cases h : may (o + n) = true <;> simp [putBytes, h, Dev.setBulkByte, Nat.add_assoc]

theorem Dev.bulkWrite_eq (d : Dev) (o : Nat) (l : List Byte) :
    d.bulkWrite o l = { d with bulk := putBytes d.mayStage d.bulk o l } :=
  foldl_setBulkByte d.mayStage o l 0 d

theorem effect_bulkWrite (o : Nat) (l : List Byte) {s : State} (hr : Running s) :
    Effect (.hostRegisterWrite (.bulk o l)) s fun d => { d with bulk := putBytes d.mayStage d.bulk o l } :=
  effect_of_onDev (exec_hostRegisterWrite (.bulk o l) s) hr (s.dev.bulkWrite_eq o l)

/-- Settles O60: the bytes after the write are those of a series of byte writes, which go where the host may write. -/
theorem bulkWritesTouchOnlyStaging : Obligations.BulkWritesTouchOnlyStaging := by
  unfold Obligations.BulkWritesTouchOnlyStaging
  intro o l s hr hwf
  refine ⟨putBytes s.dev.mayStage s.dev.bulk o l, effect_bulkWrite o l hr, tabWf_putBytes _ l hwf, ?untouched, ?busy, ?written⟩
  case untouched =>
    rintro k (hbelow | habove | houtside)
    · exact tabGet_putBytes_below _ l hbelow
    · exact tabGet_putBytes_above _ l habove
    · exact tabGet_putBytes_locked _ l (s.dev.mayStage_outside houtside)
  case busy => exact fun hb k hk => tabGet_putBytes_locked _ l (Dev.mayStage_busy hb hk)
  case written => exact fun n hn hin => tabGet_putBytes_written _ l hn ((s.dev.mayStage_iff (o + n)).mpr hin)

end Sys2Proof.Machine

/-!
PROOF. Resets (R34–R37, R493), losses of a clock or of a PLL lock and the relock (R21, R22), and the boot (R38–R41): what each command
does case by case, and O8, O9 and O10 from it.
-/

namespace Sys2Proof.Machine

/-- A meaning that acts whatever the motion die does takes effect, as any function that agrees with it on this device. -/
theorem effect_of_onAll {i : Instr} {s : State} {f g : Dev → Dev} (hi : exec i s = s.onAll g) (hg : g s.dev = f s.dev) : Effect i s f := by
  unfold Effect
  rw [hi, State.onAll_eq, hg]

/-! ### Answers of the reset, clock and boot commands -/

theorem exec_warmReset (s : State) : exec .warmReset s = execWarmReset s := rfl

theorem exec_sysResetDoorbell (w : Word) (s : State) : exec (.sysResetDoorbell w) s = execSysResetDoorbell w s := rfl

theorem exec_functionLevelReset (s : State) : exec .functionLevelReset s = execFunctionLevelReset s := rfl

theorem exec_perstRelease (s : State) : exec .perstRelease s = execPerstRelease s := rfl

theorem exec_coldReset (x : Straps) (s : State) : exec (.coldReset x) s = execColdReset x s := rfl

theorem exec_vddMonitorTrip (s : State) : exec .vddMonitorTrip s = execVddMonitorTrip s := rfl

theorem exec_clockLoss (pwm : Bool) (x : Straps) (s : State) : exec (.clockLoss pwm x) s = execClockLoss pwm x s := rfl

theorem exec_pllLockLoss (p : Pll) (x : Straps) (s : State) : exec (.pllLockLoss p x) s = execPllLockLoss p x s := rfl

theorem exec_pllRelock (p : Pll) (s : State) : exec (.pllRelock p) s = execPllRelock p s := rfl

theorem exec_bootImageVerify (x : NandPart) (ok : Bool) (s : State) : exec (.bootImageVerify x ok) s = execBootImageVerify x ok s := rfl

theorem exec_commandReady (s : State) : exec .commandReady s = execCommandReady s := rfl

/-! ### Resets -/

/-- A doorbell with the key is a warm reset. -/
theorem effect_resetDoorbell_key {w : Word} {s : State} (hr : Running s) (hw : wbits w 15 0 = 0xA5C3) :
    Effect (.sysResetDoorbell w) s fun d => d.warmReset 3 :=
  effect_of_onDev (exec_sysResetDoorbell w s) hr (if_pos hw)

theorem effect_resetDoorbell_noKey {w : Word} {s : State} (hr : Running s) (hw : wbits w 15 0 ≠ 0xA5C3) :
    Effect (.sysResetDoorbell w) s id :=
  effect_of_onDev (exec_sysResetDoorbell w s) hr (if_neg hw)

/-- A die that the island does not hold restarts from PORn whatever its power state is. -/
theorem effect_coldReset (x : Straps) {s : State} (hr : Running s) : Effect (.coldReset x) s fun d =>
    ((d.modBoot fun b => { b with held := false }).modStore fun y => { y with frozen := y.flush }).coldReset x 0 0 :=
  effect_of_onAll (exec_coldReset x s) (if_neg (by simp [show s.dev.heldInReset = false from hr]))

theorem effect_vddMonitorTrip_warned {s : State} (hr : Running s) (hpf : s.dev.fb R.POWER_STATUS F.POWER_STATUS_PF_ACTIVE = true) :
    Effect .vddMonitorTrip s Dev.toBackup :=
  effect_of_onAll (exec_vddMonitorTrip s) ((if_neg (ne_true_of_eq_false hr)).trans (if_pos hpf))

theorem Dev.wr64_store (d : Dev) (o v : Nat) : (d.wr64 o v).store = d.store := by
  rw [Dev.wr64, Dev.wr_store, Dev.wr_store]

theorem Dev.fs_store (d : Dev) (o : Nat) (f : Fld) (v : Nat) : (d.fs o f v).store = d.store := by
  by_cases hlow : f.lo + f.w ≤ 32
  · rw [Dev.fs, if_pos hlow, Dev.wr_store]
  · by_cases hhigh : 32 ≤ f.lo
    · rw [Dev.fs, if_neg hlow, if_pos hhigh, Dev.wr_store]
    · rw [Dev.fs, if_neg hlow, if_neg hhigh, Dev.wr64_store]

theorem Dev.fsb_store (d : Dev) (o : Nat) (f : Fld) (b : Bool) : (d.fsb o f b).store = d.store := d.fs_store o f b.toNat

/-- The start of a flush leaves the NAND part mounted. -/
theorem Dev.startFlush_part (d : Dev) (unwarned : Bool) : (d.startFlush unwarned).store.part = d.store.part := by
  simp only [Dev.startFlush, Dev.modStore, Dev.fsb_store, Dev.wr64_store]

theorem effect_vddMonitorTrip_unwarned {s : State} (hr : Running s) (hpf : s.dev.fb R.POWER_STATUS F.POWER_STATUS_PF_ACTIVE = false) :
    Effect .vddMonitorTrip s fun d =>
      (((d.startFlush true).motionReset islandReg [] (fun _ => false) false 1).modBoot fun b => { b with held := true }).modStore
        fun x => { x with part := d.store.part } :=
  effect_of_onAll (exec_vddMonitorTrip s) <| by
    rw [if_neg (ne_true_of_eq_false hr), if_neg (ne_true_of_eq_false hpf), ← s.dev.startFlush_part true]

/-- Settles O8: each reset command does what its case says. -/
theorem resetsTakeEffect : Obligations.ResetsTakeEffect := by
  unfold Obligations.ResetsTakeEffect
  refine ⟨?warm, fun _ _ => effect_resetDoorbell_key, fun _ _ => effect_resetDoorbell_noKey, ?functionLevel, ?perst,
    fun x _ => effect_coldReset x, fun _ => effect_vddMonitorTrip_warned, fun _ => effect_vddMonitorTrip_unwarned⟩
  case warm => exact fun s hr => effect_of_onDev (exec_warmReset s) hr rfl
  case functionLevel => exact fun s hr => effect_of_onDev (exec_functionLevelReset s) hr rfl
  case perst => exact fun s hr => effect_of_onDev (exec_perstRelease s) hr rfl

/-! ### Loss of a clock or of a PLL lock -/

/-- What the loss of lock of a PLL leads to, once its bits are set (R22). -/
def Dev.afterLockLoss (d : Dev) (p : Pll) (x : Straps) : Dev :=
  match p with
  | .ce => (d.resign 4).legsOff.coldReset x 5 (2 ^ pllLostBit .ce)
  | .dsp => d.legsOff.coldReset x 5 (2 ^ pllLostBit .dsp)
  | .sup => d.legsOff.coldReset x 5 (2 ^ pllLostBit .sup)
  | .can => d.each [0, 1] Dev.canDrop
  | .tie => if d.fb R.PAIR_STATUS F.PAIR_STATUS_LINK_UP then d.tieDown else d
  | .safA => d.chanStop false

/-- The loss of lock of a PLL that DOZE has not stopped clears its lock bit, sets its lost bit, and has its consequence. -/
theorem effect_pllLockLoss (p : Pll) (x : Straps) {s : State} (hr : Running s) (hp : s.dev.pllStopped p = false) :
    Effect (.pllLockLoss p x) s fun d =>
      ((d.fsb R.SYS_CLOCK_STATUS (pllLock p) false).setBit R.SYS_CLOCK_STATUS (pllLostBit p) true).afterLockLoss p x :=
  effect_of_onDev (exec_pllLockLoss p x s) hr ((if_neg (ne_true_of_eq_false hp)).trans (by cases p <;> rfl))

/-- The CAN and the Tie PLL do no more at their relock than to set the lock bit; DOZE stops both. -/
theorem effect_pllRelock_bus {p : Pll} {s : State} (hr : Running s) (hp : p = .can ∨ p = .tie)
    (hl : s.dev.fb R.SYS_CLOCK_STATUS (pllLock p) = false) (hz : s.dev.dozing = false) :
    Effect (.pllRelock p) s fun d => d.fsb R.SYS_CLOCK_STATUS (pllLock p) true :=
  effect_of_onDev (exec_pllRelock p s) hr <| (if_neg (ne_true_of_eq_false hl)).trans <| by
    rcases hp with rfl | rfl <;> exact if_neg (ne_true_of_eq_false hz)

/-- The lock bit of the safety PLL is no part of channel A, which is therefore judged as it was before. -/
theorem effect_pllRelock_safety {s : State} (hr : Running s) (hl : s.dev.fb R.SYS_CLOCK_STATUS (pllLock .safA) = false) :
    Effect (.pllRelock .safA) s fun d =>
      if d.safety.a.on || d.safety.a.faults.testBit 6 then d.fsb R.SYS_CLOCK_STATUS (pllLock .safA) true
      else (d.fsb R.SYS_CLOCK_STATUS (pllLock .safA) true).safetyStart false :=
  effect_of_onDev (exec_pllRelock .safA s) hr <| (if_neg (ne_true_of_eq_false hl)).trans <| by
    simp only [Dev.fsb_safety]

/-- Settles O9: a lost lock by what it leads to for each PLL, a returned one by whether it concerns a bus or channel A. -/
theorem clockAndPllLoss : Obligations.ClockAndPllLoss := by
  unfold Obligations.ClockAndPllLoss
  refine ⟨?pwmClock, ?reference, ?dspOrSup, fun x s hr hp => effect_pllLockLoss .ce x hr hp, fun x s hr hp => effect_pllLockLoss .can x hr hp,
    fun x s hr hp => effect_pllLockLoss .safA x hr hp, fun p s => effect_pllRelock_bus, ?safetyStarts, ?safetyStands⟩
  case pwmClock => exact fun x s hr => effect_of_onDev (exec_clockLoss true x s) hr rfl
  case reference => exact fun x s hr => effect_of_onDev (exec_clockLoss false x s) hr rfl
  case dspOrSup =>
    rintro p x s hr (rfl | rfl) hp
    · exact effect_pllLockLoss .dsp x hr hp
    · exact effect_pllLockLoss .sup x hr hp
  case safetyStarts =>
    intro s hr hl hon hlock
    exact (effect_pllRelock_safety hr hl).trans (by simp [hon, hlock])
  case safetyStands =>
    intro s hr hl hstay
    exact (effect_pllRelock_safety hr hl).trans (by simp [hstay])

/-! ### The boot -/

theorem effect_bootImageVerify {x : NandPart} {ok : Bool} {s : State} (hr : Running s)
    (h0 : s.dev.fg R.SYS_BOOT_STATUS F.SYS_BOOT_STATUS_STAGE = 0)
    (hb : s.dev.locksUp.fg R.SYS_BOOT_STATUS F.SYS_BOOT_STATUS_BOOT_SRC ≠ 3) :
    Effect (.bootImageVerify x ok) s fun d =>
      (((d.locksUp.mount x).bootJournal ok).armRegs.chargeRegs.wearRegs).bootImage.attachLate :=
  effect_of_onDev (exec_bootImageVerify x ok s) hr ((if_neg (not_not_intro h0)).trans (if_neg hb))

/-- With BOOTSEL 0b11 the boot stops before the part is mounted. -/
theorem effect_bootImageVerify_stops {x : NandPart} {ok : Bool} {s : State} (hr : Running s)
    (h0 : s.dev.fg R.SYS_BOOT_STATUS F.SYS_BOOT_STATUS_STAGE = 0)
    (hb : s.dev.locksUp.fg R.SYS_BOOT_STATUS F.SYS_BOOT_STATUS_BOOT_SRC = 3) :
    Effect (.bootImageVerify x ok) s fun d => d.locksUp.fs R.SYS_BOOT_STATUS F.SYS_BOOT_STATUS_STAGE 0xF1 :=
  effect_of_onDev (exec_bootImageVerify x ok s) hr ((if_neg (not_not_intro h0)).trans (if_pos hb))

/-- Settles O10: the boot by its stage and by BOOTSEL. -/
theorem bootStepsTakeEffect : Obligations.BootStepsTakeEffect := by
  unfold Obligations.BootStepsTakeEffect
  refine ⟨fun _ _ _ => effect_bootImageVerify, fun _ _ _ => effect_bootImageVerify_stops, ?ready⟩
  case ready => exact fun s hr h4 => effect_of_onDev (exec_commandReady s) hr (if_neg (not_not_intro h4))

end Sys2Proof.Machine

/-!
PROOF. Servo ticks, decision instants and application points (R25–R29, R73, R109), and doorbells and the fetch of a packet (R41, R54,
R59–R67): what each of them does case by case, and O13 and O14 from it.
-/

namespace Sys2Proof.Machine

/-! ### Answers of the tick and doorbell commands -/

theorem exec_servoTick (n : Fin 4) (s : State) : exec (.servoTick n) s = execServoTick n s := rfl

theorem exec_decisionInstant (n : Fin 4) (s : State) : exec (.decisionInstant n) s = execDecisionInstant n s := rfl

theorem exec_paramApply (lane : Option (Fin 4)) (s : State) : exec (.paramApply lane) s = execParamApply lane s := rfl

theorem exec_cmdqDoorbell (q : Fin 4) (w : Word) (s : State) : exec (.cmdqDoorbell q w) s = execCmdqDoorbell q w s := rfl

theorem exec_cmdqAttachDoorbell (x : AttachWrite) (s : State) : exec (.cmdqAttachDoorbell x) s = execCmdqAttachDoorbell x s := rfl

theorem exec_cmdqReplyDoorbell (w : Word) (s : State) : exec (.cmdqReplyDoorbell w) s = execCmdqReplyDoorbell w s := rfl

theorem exec_cmdqEventDoorbell (w : Word) (s : State) : exec (.cmdqEventDoorbell w) s = execCmdqEventDoorbell w s := rfl

theorem exec_commandFetch (q : Fin 4) (x : FetchSrc) (s : State) : exec (.commandFetch q x) s = execCommandFetch q x s := rfl

/-! ### The instant of a tick (R25, R26, R109) -/

theorem Dev.toTick_ticked {d : Dev} {n : Nat} (h : d.ticked.contains n = true) :
    d.toTick n = d.pass (tabGet d.tickDue n - d.clocks) :=
  if_pos h

/-- The next tick lies one period after this one. -/
theorem Dev.tickDue_tickNext (d : Dev) (n : Nat) : tabGet (d.tickNext n).tickDue n = tabGet d.tickDue n + d.tickPeriod n :=
  tabGet_set_self _ _ _

theorem Dev.tickPeriod_undisciplined {d : Dev} {n : Nat} (h : d.disciplined n = false) : d.tickPeriod n = d.tickCounts n := by
  simp [Dev.tickPeriod, h]

theorem Dev.tickPeriod_slewing {d : Dev} {n : Nat} (h : d.disciplined n = true) (hf : d.laneFree n = false) :
    d.tickPeriod n = ((d.tickCounts n : Int) + signI (d.phaseErr n)).toNat := by
  simp [Dev.tickPeriod, h, hf]

theorem Dev.tickPeriod_free {d : Dev} {n : Nat} (h : d.disciplined n = true) (hf : d.laneFree n = true) :
    d.tickPeriod n = d.tickCounts n + (d.phaseErr n % (d.tickCounts n : Int)).toNat := by
  simp [Dev.tickPeriod, h, hf]

/-- A decision records the instant of its tick last, so that no set point changes it. -/
theorem Dev.tickNs_decision {d : Dev} {n : Nat} (hs : d.ce.stopped = false) (hn : d.loopNext n = true) :
    tabGet (d.decision n).ip.tickNs n = d.ns + 2000 := by
  unfold Dev.decision
  rw [if_neg (by simp [hs, hn])]
  simp only [tabGet_set_self]

theorem Dev.decision_idle {d : Dev} {n : Nat} (h : d.ce.stopped = true ∨ d.loopNext n = false) : d.decision n = d :=
  if_pos (by simpa using h)

/-- Settles O13: the tick of a lane by the three rules of its period, and the two other instants by their own meanings. -/
theorem ticksAndApplicationPoints : Obligations.TicksAndApplicationPoints := by
  unfold Obligations.TicksAndApplicationPoints
  refine ⟨?tick, fun _ _ h _ => Dev.toTick_ticked h, ?undisciplined, ?slewing, ?free, ?decides, fun _ _ => Dev.tickNs_decision,
    fun _ _ => Dev.decision_idle, ?applies⟩
  case tick => exact fun n s hr => effect_of_onDev (exec_servoTick n s) hr rfl
  case undisciplined => exact fun d n h => by rw [d.tickDue_tickNext, Dev.tickPeriod_undisciplined h]
  case slewing => exact fun d n h hf => by rw [d.tickDue_tickNext, Dev.tickPeriod_slewing h hf]
  case free => exact fun d n h hf => by rw [d.tickDue_tickNext, Dev.tickPeriod_free h hf]
  case decides => exact fun n s hr => effect_of_onDev (exec_decisionInstant n s) hr rfl
  case applies => exact fun lane s hr => effect_of_onDev (exec_paramApply lane s) hr rfl

/-! ### Doorbells (R41, R59–R62) -/

/-- A producer index within the ring is recorded. -/
theorem effect_cmdqDoorbell {q : Fin 4} {w : Word} {s : State} (hr : Running s) (ht : s.dev.takesCommands = true)
    (hp : (wbits w 15 0 + 65536 - s.dev.fg (R.CMDQ_FETCH q) F.CMDQ_FETCH_FETCH) % 65536 ≤ queueDepth q) :
    Effect (.cmdqDoorbell q w) s fun d => (d.cmdEdge q).modCmd fun c => { c with ringProd := tabSet c.ringProd q (wbits w 15 0) } :=
  effect_of_onDev (exec_cmdqDoorbell q w s) hr ((if_neg (by simp [ht])).trans (if_neg hp.not_gt))

/-- One further ahead than the ring is long is counted only. -/
theorem effect_cmdqDoorbell_bad {q : Fin 4} {w : Word} {s : State} (hr : Running s) (ht : s.dev.takesCommands = true)
    (hp : queueDepth q < (wbits w 15 0 + 65536 - s.dev.fg (R.CMDQ_FETCH q) F.CMDQ_FETCH_FETCH) % 65536) :
    Effect (.cmdqDoorbell q w) s fun d => (d.cmdEdge q).satInc R.CMDQ_ERRORS F.CMDQ_ERRORS_DB_BAD :=
  effect_of_onDev (exec_cmdqDoorbell q w s) hr ((if_neg (by simp [ht])).trans (if_pos hp))

theorem effect_attachLower_aligned {w : Word} {s : State} (hr : Running s) (hw : wbits w 5 0 = 0) :
    Effect (.cmdqAttachDoorbell (.lower w)) s fun d => (d.cmdEdge 4).modCmd fun c => { c with attachLow := w } :=
  effect_of_onDev (exec_cmdqAttachDoorbell (.lower w) s) hr (if_neg (not_not_intro hw))

theorem effect_attachLower_misaligned {w : Word} {s : State} (hr : Running s) (hw : wbits w 5 0 ≠ 0) :
    Effect (.cmdqAttachDoorbell (.lower w)) s fun d => (d.cmdEdge 4).satInc R.CMDQ_ERRORS F.CMDQ_ERRORS_DB_BAD :=
  effect_of_onDev (exec_cmdqAttachDoorbell (.lower w) s) hr (if_pos hw)

theorem Dev.attachRing_reads {d : Dev} {lo : Word} {ws : List Word} (h : d.readsDoorbells = true) :
    d.attachRing lo ws = d.attachFetch lo ws :=
  if_pos h

theorem Dev.attachRing_records {d : Dev} {lo : Word} {ws : List Word} (h : d.readsDoorbells = false) :
    d.attachRing lo ws = d.modCmd fun c => { c with attachDue := some (lo, ws) } :=
  if_neg (ne_true_of_eq_false h)

theorem effect_cmdqReplyDoorbell {w : Word} {s : State} (hr : Running s) (ht : s.dev.takesCommands = true) :
    Effect (.cmdqReplyDoorbell w) s fun d => (d.modCmd fun c => { c with
      replyRing := c.replyRing.drop (returned (wbits w 15 0) c.replyCons c.replyRing.length), replyCons := wbits w 15 0 }).drainAll :=
  effect_of_onDev (exec_cmdqReplyDoorbell w s) hr (if_neg (by simp [ht]))

theorem effect_cmdqEventDoorbell {w : Word} {s : State} (hr : Running s) (ht : s.dev.takesCommands = true) :
    Effect (.cmdqEventDoorbell w) s fun d => (d.modCmd fun c => { c with
      eventRing := c.eventRing.drop (returned (wbits w 15 0) c.eventCons c.eventRing.length), eventCons := wbits w 15 0 }).postGap :=
  effect_of_onDev (exec_cmdqEventDoorbell w s) hr (if_neg (by simp [ht]))

/-! ### The fetch of a packet (R49, R54) -/

/-- The packet that its source gives is inspected, and arrives. -/
theorem effect_commandFetch {q : Fin 4} {src : FetchSrc} {s : State} {f : Dev → Dev} {x : Xport} {ws : List Word} {d : Dev}
    (hr : Running s) (hq : s.dev.fetches q = true) (hp : s.dev.nextPacket q src = some (x, ws, d))
    (hf : f s.dev = (d.inspect (parsePacket x q ws) ws).arrive (parsePacket x q ws) ws) : Effect (.commandFetch q src) s f :=
  effect_of_onDev (exec_commandFetch q src s) hr <| by
    rw [if_neg (by simp [hq]), hp]
    exact hf.symm

/-- A ring with a packet gives the one at its fetch index. -/
theorem Dev.nextPacket_ring {d : Dev} {q : Nat} {w : List Word} (hv : d.cmd.rings.valid = true)
    (hp : tabGet d.cmd.ringProd q ≠ d.fg (R.CMDQ_FETCH q) F.CMDQ_FETCH_FETCH) :
    d.nextPacket q (.ring w) = some (.pcie, arrived (.ring w) w,
      (d.modCmd fun c => { c with slotAt := d.slotAddr q (d.fg (R.CMDQ_FETCH q) F.CMDQ_FETCH_FETCH) }).wrapInc
        (R.CMDQ_FETCH q) F.CMDQ_FETCH_FETCH) :=
  if_pos (by simp [hv, hp])

theorem Dev.nextPacket_traverse {d : Dev} {q : Nat} (h : tabGet d.cmd.xbuf q ≠ []) :
    d.nextPacket q .traverse = some (.traverse, tabGet d.cmd.xbuf q, d.modCmd fun c => { c with xbuf := tabSet c.xbuf q [] }) := by
  obtain ⟨w, ws, hw⟩ := List.exists_cons_of_ne_nil h
  simp only [Dev.nextPacket, hw]

theorem Dev.nextPacket_spi {d : Dev} {q : Nat} (h : tabGet d.cmd.xbuf (4 + q) ≠ []) :
    d.nextPacket q .spi = some (.spi, tabGet d.cmd.xbuf (4 + q), d.modCmd fun c => { c with xbuf := tabSet c.xbuf (4 + q) [] }) := by
  obtain ⟨w, ws, hw⟩ := List.exists_cons_of_ne_nil h
  simp only [Dev.nextPacket, hw]

/-- Settles O14: each doorbell by its cases, and a fetch by the source that its packet waits in. -/
theorem doorbellsTakeEffect : Obligations.DoorbellsTakeEffect := by
  unfold Obligations.DoorbellsTakeEffect
  refine ⟨fun _ _ _ => effect_cmdqDoorbell, fun _ _ _ => effect_cmdqDoorbell_bad, fun _ _ => effect_attachLower_aligned,
    fun _ _ => effect_attachLower_misaligned, ?attachUpper, ?attachWhole, fun _ _ _ => Dev.attachRing_reads,
    fun _ _ _ => Dev.attachRing_records, fun _ _ => effect_cmdqReplyDoorbell, fun _ _ => effect_cmdqEventDoorbell, ?fromRing,
    ?fromTraverse, ?fromSpi⟩
  case attachUpper => exact fun w ws s hr => effect_of_onDev (exec_cmdqAttachDoorbell (.upper w ws) s) hr rfl
  case attachWhole => exact fun lo hi ws s hr => effect_of_onDev (exec_cmdqAttachDoorbell (.whole lo hi ws) s) hr rfl
  case fromRing => exact fun q w s hr hq hv hp => effect_commandFetch hr hq (Dev.nextPacket_ring hv hp) rfl
  case fromTraverse =>
    rintro q _ s hr hq rfl hne
    exact effect_commandFetch hr hq (Dev.nextPacket_traverse hne) rfl
  case fromSpi =>
    rintro q _ s hr hq rfl hne
    exact effect_commandFetch hr hq (Dev.nextPacket_spi hne) rfl

end Sys2Proof.Machine

/-!
PROOF. The course of a sequenced command packet (R47, R51, R56, R57, R77): an opcode alone, a chain that starts or is rejected as a whole, and
the commands that only run their opcode; O17 to O23 from it, and a chain that refutes O50.
-/

namespace Sys2Proof.Machine

/-! ### Answers of the commands whose opcodes a chain may hold -/

theorem exec_setParam (p : Packet) (s : State) : exec (.setParam p) s = s.onDev fun d => d.runChained 0x0100 specParam p := rfl

theorem exec_setParam64 (p : Packet) (s : State) : exec (.setParam64 p) s = s.onDev fun d => d.runChained 0x0101 specParam p := rfl

theorem exec_setParamBlock (p : Packet) (s : State) : exec (.setParamBlock p) s = s.onDev fun d => d.runChained 0x0102 specParam p := rfl

theorem exec_getParam (p : Packet) (s : State) : exec (.getParam p) s = s.onDev fun d => d.runChained 0x0103 specParam p := rfl

theorem exec_saveConfigSet (p : Packet) (s : State) :
    exec (.saveConfigSet p) s = s.onDev fun d => d.runChained 0x0104 specSaveConfigSet p := rfl

theorem exec_loadConfigSet (p : Packet) (s : State) :
    exec (.loadConfigSet p) s = s.onDev fun d => d.runChained 0x0105 specLoadConfigSet p := rfl

theorem exec_selectBootConfig (p : Packet) (s : State) :
    exec (.selectBootConfig p) s = s.onDev fun d => d.runChained 0x0106 specSelectBootConfig p := rfl

theorem exec_segment (p : Packet) (s : State) : exec (.segment p) s = s.onDev fun d => d.runChained 0x0300 specSegment p := rfl

theorem exec_groupStart (p : Packet) (s : State) : exec (.groupStart p) s = s.onDev fun d => d.runChained 0x0301 specGroupStart p := rfl

theorem exec_groupHold (p : Packet) (s : State) : exec (.groupHold p) s = s.onDev fun d => d.runChained 0x0302 specGroupHold p := rfl

theorem exec_override (p : Packet) (s : State) : exec (.override p) s = s.onDev fun d => d.runChained 0x0303 specOverride p := rfl

theorem exec_flushGroup (p : Packet) (s : State) : exec (.flushGroup p) s = s.onDev fun d => d.runChained 0x0304 specFlushGroup p := rfl

theorem exec_moveAxis (p : Packet) (s : State) : exec (.moveAxis p) s = s.onDev fun d => d.runChained 0x0305 specMoveAxis p := rfl

theorem exec_gearEngage (p : Packet) (s : State) : exec (.gearEngage p) s = s.onDev fun d => d.runChained 0x0400 specGearEngage p := rfl

theorem exec_gearDisengage (p : Packet) (s : State) :
    exec (.gearDisengage p) s = s.onDev fun d => d.runChained 0x0401 specGearDisengage p := rfl

theorem exec_camLoad (p : Packet) (s : State) : exec (.camLoad p) s = s.onDev fun d => d.runChained 0x0402 specCamLoad p := rfl

theorem exec_camEngage (p : Packet) (s : State) : exec (.camEngage p) s = s.onDev fun d => d.runChained 0x0403 specCamEngage p := rfl

theorem exec_fixArm (p : Packet) (s : State) : exec (.fixArm p) s = s.onDev fun d => d.runChained 0x0500 specFixArm p := rfl

theorem exec_compareLoad (p : Packet) (s : State) : exec (.compareLoad p) s = s.onDev fun d => d.runChained 0x0501 specCompareLoad p := rfl

theorem exec_compareEnable (p : Packet) (s : State) :
    exec (.compareEnable p) s = s.onDev fun d => d.runChained 0x0502 specCompareEnable p := rfl

/-! ### Chains (R56) -/

/-- The first of a chain of two or more decides on the chain as a whole. -/
theorem Dev.runChained_chain {d : Dev} {code : Nat} {p : Packet} (o : OpSpec) (hc : opNum p = code) (hs : d.canStart p = true)
    (hl : 1 < (chainOf d.cmd.accepted p).length) :
    d.runChained code o p =
      if (d.chainFails (chainOf d.cmd.accepted p)).all Option.isNone then d.startChain (chainOf d.cmd.accepted p)
      else d.rejectChain (chainOf d.cmd.accepted p) (d.chainFails (chainOf d.cmd.accepted p)) := by
  unfold Dev.runChained
  rw [if_neg (by simp [hc, hs]), if_neg hl.not_ge]
  simp only [List.any_eq_not_all_not, Option.not_isSome]
  cases (d.chainFails (chainOf d.cmd.accepted p)).all Option.isNone <;> rfl

/-- A command of a family that a chain may hold starts or rejects the chain that its packet begins. -/
theorem chains_of {i : Instr} {code : Nat} {o : OpSpec} {p : Packet} (h : ∀ s, exec i s = s.onDev fun d => d.runChained code o p) :
    Chains i code p := by
  intro s hr hc hs hl
  have hrun := Dev.runChained_chain o hc hs hl
  constructor
  · intro hpass
    exact effect_of_onDev (h s) hr (hrun.trans (if_pos hpass))
  · intro hfail
    exact effect_of_onDev (h s) hr (hrun.trans (if_neg (ne_true_of_eq_false hfail)))

/-- Settles O23: every opcode of the four families runs through the one course of chained commands. -/
theorem chainsStartTogether : Obligations.ChainsStartTogether := by
  unfold Obligations.ChainsStartTogether
  exact fun p => ⟨chains_of (exec_setParam p), chains_of (exec_setParam64 p), chains_of (exec_setParamBlock p), chains_of (exec_getParam p),
    chains_of (exec_saveConfigSet p), chains_of (exec_loadConfigSet p), chains_of (exec_selectBootConfig p),
    chains_of (exec_segment p), chains_of (exec_groupStart p), chains_of (exec_groupHold p), chains_of (exec_override p),
    chains_of (exec_flushGroup p), chains_of (exec_moveAxis p), chains_of (exec_gearEngage p), chains_of (exec_gearDisengage p),
    chains_of (exec_camLoad p), chains_of (exec_camEngage p), chains_of (exec_fixArm p), chains_of (exec_compareLoad p),
    chains_of (exec_compareEnable p)⟩

/-! ### A failed check of the first of a chain (R56) -/

/-- A SELECT_BOOT_CONFIG that begins a chain in Q2. -/
def bootConfigFirst : Packet := { chain := true, csn := 1, q := 2, opcode := 0x0106, tclass := 8, tindex := 3 }

/-- A GET_PARAM that ends the chain. -/
def getParamLast : Packet := { csn := 2, q := 2, opcode := 0x0103, params := [0, 1] }

/-- A SECURED device whose complete chain waits to start, and from which a DEBUG_UNLOCK has taken the CONFIG permission by then (R505). -/
def deniedChain : State where
  dev :=
    let d := (({} : Dev).fs R.SEC_LC F.SEC_LC_STATE 2).fsb R.SEC_LC F.SEC_LC_CFG true
    (d.fsb R.DEBUG_STATUS F.DEBUG_STATUS_CONFIG false).modCmd fun c => { c with
      accepted := [{ pkt := bootConfigFirst, inChain := true, closed := true }, { pkt := getParamLast, inChain := true, closed := true }] }

/-- The device after a command is determined by the command. -/
theorem effect_dev_eq {i : Instr} {s : State} {f g : Dev → Dev} (hf : Effect i s f) (hg : Effect i s g) : f s.dev = g s.dev := by
  unfold Effect at hf hg
  rw [hf] at hg
  injection hg with hs
  injection hs

/-- The failed chain ends both of its commands, where the reply to its first packet alone would leave the other one accepted. -/
theorem deniedChain_accepted :
    (deniedChain.dev.rejectChain (chainOf deniedChain.dev.cmd.accepted bootConfigFirst)
      (deniedChain.dev.chainFails (chainOf deniedChain.dev.cmd.accepted bootConfigFirst))).cmd.accepted.length = 0 ∧
    ((started bootConfigFirst deniedChain.dev).finish bootConfigFirst 0x0504 0
      ((started bootConfigFirst deniedChain.dev).errPay 0x0504)).cmd.accepted.length = 1 := by
  decide +kernel

/-- Refutes O50: a packet that begins a chain and fails a check ends the whole chain, as O23 has it, so the reply to it is not all. -/
theorem not_failedChecksOnlyReply : ¬ Obligations.FailedChecksOnlyReply := by
  unfold Obligations.FailedChecksOnlyReply
  intro h
  obtain ⟨-, -, -, -, -, -, hfails, -⟩ := h bootConfigFirst
  have halone := hfails deniedChain 0x0504 0 (by decide +kernel) (by decide) (by decide +kernel) (by decide +kernel)
  have hwhole := (chains_of (exec_selectBootConfig bootConfigFirst) deniedChain (by decide +kernel) (by decide) (by decide +kernel)
    (by decide)).2 (by decide +kernel)
  have hleft := congrArg (fun d : Dev => d.cmd.accepted.length) (effect_dev_eq hwhole halone)
  obtain ⟨hnone, hone⟩ := deniedChain_accepted
  simp [hnone, hone] at hleft

/-! ### Commands that run their opcode (R51, R57) -/

theorem Dev.runsNow_iff (d : Dev) (code : Nat) (o : OpSpec) (p : Packet) : d.runsNow code o p = true ↔
    opNum p = code ∧ d.canStart p = true ∧ (chainOf d.cmd.accepted p).length ≤ 1 ∧ (started p d).opCheck o p = none := by
  simp [Dev.runsNow, started, and_assoc]

/-- RECOVERY passes a packet only if the opcode's own check does (R78). -/
theorem Dev.recoveryFail_none {d : Dev} {p : Packet} {e : Option (Nat × Nat)} (h : d.recoveryFail p e = none) : e = none := by
  cases e with
  | none => rfl
  | some x =>
    unfold Dev.recoveryFail at h
    split at h
    · exact h
    · dsimp only at h
      split at h <;> cases h

/-- A packet that passes its checks passes the opcode's own. -/
theorem Dev.check_none_of_opCheck {d : Dev} {o : OpSpec} {p : Packet} (h : d.opCheck o p = none) : o.check d p = none := by
  unfold Dev.opCheck at h
  split at h
  · cases h
  · exact Dev.recoveryFail_none h

/-- The start of a packet changes nothing that the check of SNAPSHOT looks at. -/
theorem specSnapshot_check_started (d : Dev) (p : Packet) : specSnapshot.check (started p d) p = specSnapshot.check d p := rfl

theorem exec_snapshot (p : Packet) (s : State) : exec (.snapshot p) s = execSnapshot p s := rfl

/-- The strobe of a SNAPSHOT that R332 loses does not come before one that passes its checks. -/
theorem runs_snapshot (p : Packet) : Runs (.snapshot p) 0x0702 specSnapshot p := by
  intro s hr hn
  obtain ⟨-, -, -, hcheck⟩ := (s.dev.runsNow_iff 0x0702 specSnapshot p).mp hn
  have hown : specSnapshot.check s.dev p = none := specSnapshot_check_started s.dev p ▸ Dev.check_none_of_opCheck hcheck
  exact effect_of_onDev (exec_snapshot p s) hr ((if_neg (by simp [hown])).trans (Dev.runOp_runs _ _ _ _ hn))

/-- Settles O17: each opcode of family 0x01 runs through the course of chained commands. -/
theorem parameterCommandsTakeEffect : Obligations.ParameterCommandsTakeEffect := by
  unfold Obligations.ParameterCommandsTakeEffect
  exact fun p => ⟨runs_of_chained _ _ _ _ (exec_setParam p), runs_of_chained _ _ _ _ (exec_setParam64 p),
    runs_of_chained _ _ _ _ (exec_setParamBlock p), runs_of_chained _ _ _ _ (exec_getParam p),
    runs_of_chained _ _ _ _ (exec_saveConfigSet p), runs_of_chained _ _ _ _ (exec_loadConfigSet p),
    runs_of_chained _ _ _ _ (exec_selectBootConfig p)⟩

/-- Settles O18: no opcode of family 0x02 stands in a chain, and each of their commands only runs its opcode. -/
theorem axisCommandsTakeEffect : Obligations.AxisCommandsTakeEffect := by
  unfold Obligations.AxisCommandsTakeEffect
  intro p
  refine ⟨?_, ?_, ?_, ?_, ?_, ?_⟩ <;> exact runs_of _ _ _ _ fun _ => rfl

/-- Settles O19: each opcode of the families 0x03 and 0x04 runs through the course of chained commands. -/
theorem motionCommandsTakeEffect : Obligations.MotionCommandsTakeEffect := by
  unfold Obligations.MotionCommandsTakeEffect
  exact fun p => ⟨runs_of_chained _ _ _ _ (exec_segment p), runs_of_chained _ _ _ _ (exec_groupStart p),
    runs_of_chained _ _ _ _ (exec_groupHold p), runs_of_chained _ _ _ _ (exec_override p), runs_of_chained _ _ _ _ (exec_flushGroup p),
    runs_of_chained _ _ _ _ (exec_moveAxis p), runs_of_chained _ _ _ _ (exec_gearEngage p), runs_of_chained _ _ _ _ (exec_gearDisengage p),
    runs_of_chained _ _ _ _ (exec_camLoad p), runs_of_chained _ _ _ _ (exec_camEngage p)⟩

/-- Settles O20: family 0x05 runs through the course of chained commands; the others but SNAPSHOT only run their opcode. -/
theorem fixCompareDspTraceCommandsTakeEffect : Obligations.FixCompareDspTraceCommandsTakeEffect := by
  unfold Obligations.FixCompareDspTraceCommandsTakeEffect
  intro p
  refine ⟨runs_of_chained _ _ _ _ (exec_fixArm p), runs_of_chained _ _ _ _ (exec_compareLoad p),
    runs_of_chained _ _ _ _ (exec_compareEnable p), ?_, ?_, ?_, ?_, ?_, ?_, runs_snapshot p⟩ <;> exact runs_of _ _ _ _ fun _ => rfl

/-- Settles O21: each of these commands only runs its opcode. -/
theorem busFieldSafetyPairCommandsTakeEffect : Obligations.BusFieldSafetyPairCommandsTakeEffect := by
  unfold Obligations.BusFieldSafetyPairCommandsTakeEffect
  intro p
  refine ⟨?_, ?_, ?_, ?_, ?_, ?_, ?_, ?_, ?_, ?_⟩ <;> exact runs_of _ _ _ _ fun _ => rfl

theorem exec_imageInstall (p : Packet) (s : State) : exec (.imageInstall p) s = execImageInstall p s := rfl

/-- Settles O22: each of these commands only runs its opcode, but for IMAGE_INSTALL, which then does the reset that the run asks for. -/
theorem storeSecuritySquallCommandsTakeEffect : Obligations.StoreSecuritySquallCommandsTakeEffect := by
  unfold Obligations.StoreSecuritySquallCommandsTakeEffect
  intro p
  refine ⟨?_, ?_, ?_, ?_, ?_, ?_, ?_, ?_, ?_, ?_, ?install⟩
  case install =>
    intro s hr hn
    rw [exec_imageInstall, execImageInstall, State.onDev_running s _ hr, Dev.runOp_runs _ _ _ _ hn]
  all_goals exact runs_of _ _ _ _ fun _ => rfl

end Sys2Proof.Machine

/-!
PROOF. The transports of packets (R57, R63–R66, R336), the session commands and the unsequenced opcodes (R50, R67–R69, R72, R77, R101): what
each command does case by case, and O15 and O16 from it.
-/

namespace Sys2Proof.Machine

/-! ### Answers of the transport commands -/

theorem exec_traverseCommandSegment (s : State) : exec .traverseCommandSegment s = execTraverseCommandSegment s := rfl

theorem exec_spiWritePacket (q : Fin 4) (ws : List Word) (s : State) : exec (.spiWritePacket q ws) s = execSpiWritePacket q ws s := rfl

theorem exec_spiReadReply (s : State) : exec .spiReadReply s = execSpiReadReply s := rfl

theorem exec_spiReadStatus (s : State) : exec .spiReadStatus s = execSpiReadStatus s := rfl

theorem exec_progressReply (p : Packet) (s : State) : exec (.progressReply p) s = execProgressReply p s := rfl

/-! ### Traverse command slots (R63, R64) -/

theorem effect_segment {w : Word} {pay : List Word} {rest : List (Option (List Word))} {s : State} (hr : Running s)
    (h : s.dev.trv.cmdSlots = some (w :: pay) :: rest) :
    Effect .traverseCommandSegment s fun d => ({ d with trv := { d.trv with cmdSlots := rest } } : Dev).segment w pay :=
  effect_of_onDev (exec_traverseCommandSegment s) hr (by simp only [h])

/-- A slot without a segment discards the open packets. -/
theorem effect_emptySlot {rest : List (Option (List Word))} {s : State} (hr : Running s)
    (h : s.dev.trv.cmdSlots = none :: rest ∨ s.dev.trv.cmdSlots = some [] :: rest) :
    Effect .traverseCommandSegment s fun d =>
      ({ d with trv := { d.trv with cmdSlots := rest } } : Dev).each (List.range 4) Dev.discardSeg :=
  effect_of_onDev (exec_traverseCommandSegment s) hr <| by
    rcases h with h | h <;> simp only [h]

/-! ### The service SPI port (R65, R66) -/

/-- A transfer 0xC0 + q writes a packet for queue q. -/
theorem Dev.spiTransfer_write (d : Dev) (q : Fin 4) (ws : List Word) : d.spiTransfer (BitVec.ofNat 8 (0xC0 + q)) ws = d.spiWrite q ws := by
  have hq : (BitVec.ofNat 8 (0xC0 + q)).toNat = 0xC0 + q := by
    rw [BitVec.toNat_ofNat]
    omega
  unfold Dev.spiTransfer
  rw [hq, if_pos (by omega), Nat.add_sub_cancel_left]

theorem Dev.spiTransfer_read (d : Dev) (ws : List Word) : d.spiTransfer 0xA0 ws = d.spiRead := rfl

theorem Dev.spiTransfer_status (d : Dev) (ws : List Word) : d.spiTransfer 0xA1 ws = (d.cmdEdge 5).spiSend [d.spiStatus] := rfl

theorem effect_spiWritePacket_free {q : Fin 4} {ws : List Word} {s : State} (hr : Running s) (h : tabGet s.dev.cmd.xbuf (4 + q) = []) :
    Effect (.spiWritePacket q ws) s fun d =>
      (((d.cmdEdge 5).cmdEdge q).spiSend []).modCmd fun c => { c with xbuf := tabSet c.xbuf (4 + q) ws } :=
  effect_of_onDev (exec_spiWritePacket q ws s) hr ((s.dev.spiTransfer_write q ws).trans (if_pos (by simp [h])))

theorem effect_spiWritePacket_full {q : Fin 4} {ws : List Word} {s : State} (hr : Running s) (h : tabGet s.dev.cmd.xbuf (4 + q) ≠ []) :
    Effect (.spiWritePacket q ws) s fun d =>
      (((d.cmdEdge 5).cmdEdge q).spiSend []).satInc R.CMDQ_ERRORS F.CMDQ_ERRORS_XPORT :=
  effect_of_onDev (exec_spiWritePacket q ws s) hr ((s.dev.spiTransfer_write q ws).trans (if_neg (by simp [h])))

theorem effect_spiReadReply_waiting {r : Reply} {rest : List Reply} {s : State} (hr : Running s) (h : s.dev.cmd.spiOut = r :: rest) :
    Effect .spiReadReply s fun d => ((d.cmdEdge 5).spiSend (r.wire.flatMap wordBytes)).modCmd fun c => { c with spiOut := rest } :=
  effect_of_onDev (exec_spiReadReply s) hr <| by
    simp only [Dev.spiTransfer_read, Dev.spiRead, h]

theorem effect_spiReadReply_none {s : State} (hr : Running s) (h : s.dev.cmd.spiOut = []) :
    Effect .spiReadReply s fun d => (d.cmdEdge 5).spiSend [0, 0, 0, 0] :=
  effect_of_onDev (exec_spiReadReply s) hr <| by
    simp only [Dev.spiTransfer_read, Dev.spiRead, h]

/-! ### Progress replies (R57) -/

theorem effect_progressReply {p : Packet} {a : Accepted} {s : State} (hr : Running s)
    (hf : s.dev.cmd.accepted.find? (fun a => a.pkt = p) = some a) (hs : a.started = true) (hp : a.progressed = false) :
    Effect (.progressReply p) s fun d => ((d.modAccepted p fun a => { a with progressed := true }).postReply p 2 1 0 []).1 :=
  effect_of_onDev (exec_progressReply p s) hr <| by
    simp [hf, hs, hp]

/-- Settles O15: each transfer by what waits for it. -/
theorem transportsTakeEffect : Obligations.TransportsTakeEffect := by
  unfold Obligations.TransportsTakeEffect
  refine ⟨fun _ _ _ _ => effect_segment, fun _ _ => effect_emptySlot, fun _ _ _ => effect_spiWritePacket_free,
    fun _ _ _ => effect_spiWritePacket_full, fun _ _ _ => effect_spiReadReply_waiting, fun _ => effect_spiReadReply_none, ?status,
    fun _ _ _ => effect_progressReply⟩
  case status => exact fun s hr => effect_of_onDev (exec_spiReadStatus s) hr (s.dev.spiTransfer_status [])

/-! ### Answers of the session commands -/

theorem exec_ping (p : Packet) (s : State) : exec (.ping p) s = execPing p s := rfl

theorem exec_hostAlive (p : Packet) (s : State) : exec (.hostAlive p) s = execHostAlive p s := rfl

theorem exec_detach (p : Packet) (s : State) : exec (.detach p) s = execDetach p s := rfl

theorem exec_readJournal (p : Packet) (s : State) : exec (.readJournal p) s = execReadJournal p s := rfl

theorem exec_resetDevice (p : Packet) (s : State) : exec (.resetDevice p) s = execResetDevice p s := rfl

theorem exec_getStatus (p : Packet) (s : State) : exec (.getStatus p) s = execGetStatus p s := rfl

theorem exec_resync (p : Packet) (s : State) : exec (.resync p) s = execResync p s := rfl

theorem exec_attach (p : Packet) (s : State) : exec (.attach p) s = execAttach p s := rfl

/-! ### Sequenced opcodes of family 0x00 (R77) -/

/-- An opcode without an effect of its own completes with its payload. -/
theorem Dev.runOp_plain {d : Dev} {code n : Nat} {check : Packet → Option (Nat × Nat)} {pay : Packet → List Word} {p : Packet}
    (h : d.runsNow code (plainSpec n check pay) p = true) :
    d.runOp code (plainSpec n check pay) p = (started p d).finish p 0 0 (pay p) :=
  Dev.runOp_runs _ _ _ _ h

theorem effect_detach {p : Packet} {s : State} (hr : Running s) (h : s.dev.runsNow 5 specDetach p = true) :
    Effect (.detach p) s fun d =>
      (((started p d).finish p 0 0 []).fsb R.CMDQ_SESSION F.CMDQ_SESSION_ATTACHED false).forceComplete 0 :=
  effect_of_onDev (exec_detach p s) hr ((if_pos h).trans (by rw [specDetach, Dev.runOp_plain h]))

theorem effect_readJournal {p : Packet} {s : State} (hr : Running s) (h : s.dev.runsNow 7 specReadJournal p = true) :
    Effect (.readJournal p) s fun d => (ended p (specReadJournal.run (started p d) p)).drainAll :=
  effect_of_onDev (exec_readJournal p s) hr (congrArg Dev.drainAll (Dev.runOp_runs _ _ _ _ h))

theorem effect_resetDevice {p : Packet} {s : State} (hr : Running s) (h : s.dev.runsNow 8 specResetDevice p = true) :
    Effect (.resetDevice p) s fun d => ((started p d).finish p 0 0 []).warmReset 3 :=
  effect_of_onDev (exec_resetDevice p s) hr ((if_pos h).trans (by rw [specResetDevice, Dev.runOp_plain h]))

/-! ### Unsequenced opcodes (R50, R67, R68) -/

/-- An opcode without parameters passes its checks where RECOVERY executes it. -/
theorem Dev.opCheck_unseq {d : Dev} {p : Packet} (run : Dev → OpEnd) (hp : p.params = []) (ha : recoveryAdmits (opNum p) = true) :
    d.opCheck (unseqSpec run) p = none := by
  have hlen : lenCheck p 0 = none := by simp [lenCheck, hp]
  simp only [Dev.opCheck, unseqSpec, hlen, d.recoveryFail_in p none ha]

/-- A received packet without parameters is taken, runs, and is answered on the transport that sent it. -/
theorem Dev.runUnseq_done {d e : Dev} {p : Packet} {run : Dev → OpEnd} {st det : Nat} {pay : List Word} (hin : p ∈ d.cmd.unseq)
    (hroom : d.cmd.heldUrgent.length < 16) (hp : p.params = []) (ha : recoveryAdmits (opNum p) = true)
    (hrun : run (d.modCmd fun c => { c with unseq := c.unseq.erase p }) = .done e st det pay) :
    d.runUnseq (opNum p) (unseqSpec run) p = e.postDirect p (some p.xport) 0 st det pay := by
  have hrun' : (unseqSpec run).run { d with cmd := { d.cmd with unseq := d.cmd.unseq.erase p } } p = .done e st det pay := hrun
  unfold Dev.runUnseq
  rw [if_neg (by simp [hin, hroom])]
  simp only [Dev.opCheck_unseq run hp ha, hrun']

theorem effect_getStatus {p : Packet} {s : State} (hr : Running s) (hop : opNum p = 4) (hin : p ∈ s.dev.cmd.unseq)
    (hroom : s.dev.cmd.heldUrgent.length < 16) (hp : p.params = []) :
    Effect (.getStatus p) s fun d =>
      let d := d.modCmd fun c => { c with unseq := c.unseq.erase p }
      d.postDirect p (some p.xport) 0 0 0 ([d.rd R.SYS_BOOT_STATUS, d.rd R.CMDQ_SESSION] ++ words64 d.ns) :=
  effect_of_onDev (exec_getStatus p s) hr (hop ▸ Dev.runUnseq_done hin hroom hp (by rw [hop]; rfl) rfl)

theorem effect_resync {p : Packet} {s : State} (hr : Running s) (hop : opNum p = 2) (hin : p ∈ s.dev.cmd.unseq)
    (hroom : s.dev.cmd.heldUrgent.length < 16) (hp : p.params = []) :
    Effect (.resync p) s fun d =>
      let d := (d.modCmd fun c => { c with unseq := c.unseq.erase p }).nextEpoch
      d.postDirect p (some p.xport) 0 0 0 d.sessionWords :=
  effect_of_onDev (exec_resync p s) hr (hop ▸ Dev.runUnseq_done hin hroom hp (by rw [hop]; rfl) rfl)

/-- The first ATTACH received attaches when its layout and its ranges pass. -/
theorem effect_attach {p : Packet} {s : State} (hr : Running s) (hfirst : s.dev.cmd.unseq.find? (fun r => opNum r = 1) = some p)
    (hlen : lenCheck p (if p.xport = .pcie then 16 else 1) = none) (hcheck : attachCheck p = none) :
    Effect (.attach p) s fun d => (d.modCmd fun c => { c with unseq := c.unseq.erase p }).attach p :=
  effect_of_onDev (exec_attach p s) hr <| by
    rw [if_neg (not_not_intro hfirst)]
    simp only [firstFail, hlen, hcheck, List.findSome?_cons, List.findSome?_nil, id]

/-- Settles O16: the sequenced opcodes by their course, the unsequenced ones as soon as they have been received. -/
theorem sessionCommandsTakeEffect : Obligations.SessionCommandsTakeEffect := by
  unfold Obligations.SessionCommandsTakeEffect
  refine ⟨?ping, ?hostAlive, fun _ _ => effect_detach, fun _ _ => effect_readJournal, fun _ _ => effect_resetDevice,
    fun _ _ => effect_getStatus, ?resync, fun _ _ => effect_attach⟩
  case ping => exact fun p s hr h => effect_of_onDev (exec_ping p s) hr (Dev.runOp_plain h)
  case hostAlive => exact fun p s hr h => effect_of_onDev (exec_hostAlive p s) hr (Dev.runOp_plain h)
  case resync => exact fun p s hr hop hin hroom hp _ => effect_resync hr hop hin hroom hp

end Sys2Proof.Machine

/-!
PROOF. Events of enabling, stopping and homing and of the host watchdog (R89–R97, R102), of coordinate groups (R99, R120, R122) and of
MOVE_AXIS profiles (R125): what each of them does case by case, and O24 and O25 from it.
-/

namespace Sys2Proof.Machine

/-! ### Answers of the axis events -/

theorem exec_alignmentComplete (a : Fin 64) (s : State) : exec (.alignmentComplete a) s = execAlignmentComplete a s := rfl

theorem exec_brakeReleaseWaitEnd (a : Fin 64) (s : State) : exec (.brakeReleaseWaitEnd a) s = execBrakeReleaseWaitEnd a s := rfl

theorem exec_enableFailTimeout (a : Fin 64) (s : State) : exec (.enableFailTimeout a) s = execEnableFailTimeout a s := rfl

theorem exec_stopRampComplete (a : Fin 64) (s : State) : exec (.stopRampComplete a) s = execStopRampComplete a s := rfl

theorem exec_brakeEngageWaitEnd (a : Fin 64) (s : State) : exec (.brakeEngageWaitEnd a) s = execBrakeEngageWaitEnd a s := rfl

theorem exec_homeReference (a : Fin 64) (s : State) : exec (.homeReference a) s = execHomeReference a s := rfl

theorem exec_hardStopDwellEnd (a : Fin 64) (s : State) : exec (.hardStopDwellEnd a) s = execHardStopDwellEnd a s := rfl

theorem exec_homeTravelLimit (a : Fin 64) (s : State) : exec (.homeTravelLimit a) s = execHomeTravelLimit a s := rfl

theorem exec_hostWatchdogExpiry (a : Fin 64) (s : State) : exec (.hostWatchdogExpiry a) s = execHostWatchdogExpiry a s := rfl

/-! ### Enabling (R89, R90) -/

theorem effect_alignmentComplete {a : Fin 64} {s : State} (hr : Running s) (hst : s.dev.axState a = 1)
    (hen : (s.dev.ax a).enab = .align) (hstop : (s.dev.ax a).stop = none) :
    Effect (.alignmentComplete a) s fun d =>
      ((d.wrS (R.AXIS_COMM_MEAS a) (d.actual a)).fsb (R.AXIS_STATUS a) F.AXIS_STATUS_ALIGNED true).enableBrake a :=
  effect_of_onDev (exec_alignmentComplete a s) hr (if_pos ⟨hst, hen, Option.isNone_iff_eq_none.mpr hstop⟩)

theorem effect_brakeReleaseWaitEnd {a : Fin 64} {s : State} (hr : Running s) (hst : s.dev.axState a = 1)
    (hen : (s.dev.ax a).enab = .brake) (hstop : (s.dev.ax a).stop = none) :
    Effect (.brakeReleaseWaitEnd a) s fun d => d.toReady a :=
  effect_of_onDev (exec_brakeReleaseWaitEnd a s) hr (if_pos ⟨hst, hen, Option.isNone_iff_eq_none.mpr hstop⟩)

theorem effect_enableFailTimeout {a : Fin 64} {s : State} (hr : Running s) (hst : s.dev.axState a = 1) :
    Effect (.enableFailTimeout a) s fun d => d.axisFault a 5 :=
  effect_of_onDev (exec_enableFailTimeout a s) hr (if_pos hst)

/-! ### The end of a stop (R91) -/

/-- A ramp at zero velocity ends here unless the hardware stop generator runs it. -/
theorem effect_stopRampComplete {a : Fin 64} {r : StopRun} {s : State} (hr : Running s) (hst : s.dev.axState a = 4)
    (hstop : (s.dev.ax a).stop = some r) (hramp : r.ramp = true) (hv : (s.dev.ax a).vCmd = 0)
    (hhsg : s.dev.fb (R.CE_AX_STATUS a) F.CE_AX_STATUS_HSG = false) :
    Effect (.stopRampComplete a) s fun d => d.rampDone a (rankClass r.rank) :=
  effect_of_onDev (exec_stopRampComplete a s) hr <| by
    simp only [hst, hstop]
    exact if_pos ⟨hramp, hv, by simp only [hhsg, Bool.not_false]⟩

theorem effect_brakeEngageWaitEnd {a : Fin 64} {r : StopRun} {s : State} (hr : Running s) (hst : s.dev.axState a = 4)
    (hstop : (s.dev.ax a).stop = some r) (hramp : r.ramp = false) :
    Effect (.brakeEngageWaitEnd a) s fun d => d.endStop a r.final :=
  effect_of_onDev (exec_brakeEngageWaitEnd a s) hr <| by
    simp only [hst, hstop]
    exact if_neg (ne_true_of_eq_false hramp)

/-! ### Homing (R96, R97) -/

theorem effect_homeReference {a : Fin 64} {s : State} (hr : Running s) (hst : s.dev.axState a = 3)
    (hhome : (s.dev.ax a).home = .found) (hstop : (s.dev.ax a).stop = none) :
    Effect (.homeReference a) s fun d =>
      let d := d.each (d.withMate a) (Dev.shiftAxis (d.rdS (R.AXIS_HOME_OFFSET a) - (d.ax a).homeRef))
      let d := (d.fsb (R.AXIS_STATUS a) F.AXIS_STATUS_HOMED true).fs (R.AXIS_STATUS a) F.AXIS_STATUS_STOP_CLASS 2
      (d.modAx a fun x => { x with home := .after, motion := .rampDown, stop := some { rank := 5, ramp := true, final := 2 } }).setState a 4 :=
  effect_of_onDev (exec_homeReference a s) hr (if_neg (by simp [hhome, hst, hstop]))

theorem effect_hardStopDwellEnd {a : Fin 64} {s : State} (hr : Running s) (hhome : (s.dev.ax a).home = .hardStop)
    (hdwell : s.dev.hardStop a = true) :
    Effect (.hardStopDwellEnd a) s fun d => d.modAx a fun x => { x with home := .found, homeRef := d.actual a } :=
  effect_of_onDev (exec_hardStopDwellEnd a s) hr (if_pos (by simp [hhome, hdwell]))

theorem effect_homeTravelLimit {a : Fin 64} {s : State} (hr : Running s)
    (hz : (s.dev.ax a).home = .toZ ∨ ((s.dev.ax a).home = .toSwitch ∧ s.dev.homeMethod a = 2))
    (hfar : 2 ^ 55 ≤ (s.dev.actual a - (s.dev.ax a).homeStart).natAbs) :
    Effect (.homeTravelLimit a) s fun d => d.axisFault a 6 :=
  effect_of_onDev (exec_homeTravelLimit a s) hr (if_pos ⟨hz, hfar⟩)

/-! ### A field beside one that is written -/

/-- A write to one field of a word leaves every field beside it. -/
theorem fldGet_set_disjoint (w : Word) {f g : Fld} (v : Nat) (h : f.lo + f.w ≤ g.lo ∨ g.lo + g.w ≤ f.lo) :
    fldGet (fldSet w g v) f = fldGet w f := by
  apply Nat.eq_of_testBit_eq
  intro i
  unfold fldGet
  rw [Nat.testBit_mod_two_pow, Nat.testBit_mod_two_pow, Nat.testBit_shiftRight, Nat.testBit_shiftRight, BitVec.testBit_toNat,
    BitVec.testBit_toNat]
  by_cases hi : i < f.w ∧ f.lo + i < 32
  · have hout : f.lo + i < g.lo ∨ ¬ f.lo + i - g.lo < g.w := by omega
    simp only [fldSet, BitVec.getLsbD_or, BitVec.getLsbD_and, BitVec.getLsbD_not, BitVec.getLsbD_shiftLeft, BitVec.getLsbD_ofNat,
      Nat.testBit_two_pow_sub_one, Nat.testBit_mod_two_pow]
    rcases hout with hout | hout <;> simp [hout, hi]
  · rcases not_and_or.mp hi with hi | hi
    · simp only [hi, decide_false, Bool.false_and]
    · simp only [BitVec.getLsbD_of_ge _ _ (not_lt.mp hi)]

/-- A write to one field of a register leaves the fields beside it. -/
theorem Dev.fg_fs_disjoint (d : Dev) (o : Nat) {f g : Fld} (v : Nat) (hf : f.lo + f.w ≤ 32) (hg : g.lo + g.w ≤ 32)
    (h : f.lo + f.w ≤ g.lo ∨ g.lo + g.w ≤ f.lo) : (d.fs o g v).fg o f = d.fg o f := by
  simp only [Dev.fs_word d o g v hg, Dev.fg, if_pos hf, Dev.rd_wr, fldGet_set_disjoint _ v h]

/-- A write to a field of one register leaves the fields of the others. -/
theorem Dev.fg_fs_ne (d : Dev) {o p : Nat} {f g : Fld} (v : Nat) (hf : f.lo + f.w ≤ 32) (hg : g.lo + g.w ≤ 32) (hp : p ≠ o) :
    (d.fs o g v).fg p f = d.fg p f := by
  simp only [Dev.fg, if_pos hf, Dev.rd_fs_ne d g v hg hp]

/-! ### The host watchdog (R101, R102) -/

/-- An expiry changes neither the state code of an axis nor the class of its reaction, so that a stop class starts the hardware stop
generator on every axis but an ENABLING one. -/
theorem Dev.wdExpire_starts {d : Dev} {a : Nat} (hst : d.axState a ≠ 1) (hcls : d.fg (R.AXIS_REACT a) F.AXIS_REACT_WD_CLASS ≠ 3) :
    d.wdExpire a = ((d.fsb (R.AXIS_STATUS a) F.AXIS_STATUS_WD_EXPIRED true).raise a).hsgStart [a] 3
      (d.fg (R.AXIS_REACT a) F.AXIS_REACT_WD_CLASS) true := by
  have hne : R.AXIS_REACT a ≠ R.AXIS_STATUS a := by
    unfold R.AXIS_REACT R.AXIS_STATUS
    omega
  have hkeepCls : ((d.fsb (R.AXIS_STATUS a) F.AXIS_STATUS_WD_EXPIRED true).raise a).fg (R.AXIS_REACT a) F.AXIS_REACT_WD_CLASS =
      d.fg (R.AXIS_REACT a) F.AXIS_REACT_WD_CLASS :=
    d.fg_fs_ne _ (by decide) (by decide) hne
  have hkeepSt : ((d.fsb (R.AXIS_STATUS a) F.AXIS_STATUS_WD_EXPIRED true).raise a).axState a = d.axState a :=
    d.fg_fs_disjoint _ _ (by decide) (by decide) (by decide)
  unfold Dev.wdExpire
  simp only [hkeepCls, hkeepSt, if_neg hcls, if_neg hst]

/-- A watchdog that is due acts, unless the motion domain is halted. -/
theorem effect_hostWatchdogExpiry {a : Fin 64} {s : State} {f : Dev → Dev} (hr : Running s) (hdue : s.dev.wdDue a = true)
    (hhalt : s.dev.pwm.halted = false) (hf : s.dev.wdExpire a = f s.dev) : Effect (.hostWatchdogExpiry a) s f :=
  effect_of_onDev (exec_hostWatchdogExpiry a s) hr ((if_pos (by simp [hdue, hhalt])).trans hf)

/-- Settles O24: each event by its condition, and the stop of an expired watchdog by what the expiry itself leaves alone. -/
theorem axisEventsTakeEffect : Obligations.AxisEventsTakeEffect := by
  unfold Obligations.AxisEventsTakeEffect
  refine ⟨fun _ _ => effect_alignmentComplete, fun _ _ => effect_brakeReleaseWaitEnd, fun _ _ => effect_enableFailTimeout,
    fun _ _ _ => effect_stopRampComplete, fun _ _ _ => effect_brakeEngageWaitEnd, fun _ _ => effect_homeReference,
    fun _ _ => effect_hardStopDwellEnd, fun _ _ => effect_homeTravelLimit, ?watchdogStops, ?watchdog⟩
  case watchdogStops =>
    intro a s hr hdue hhalt hst hcls
    exact effect_hostWatchdogExpiry hr hdue hhalt (Dev.wdExpire_starts hst (by omega))
  case watchdog => exact fun a s hr hdue hhalt => effect_hostWatchdogExpiry hr hdue hhalt rfl

/-! ### Answers of the group and profile events -/

theorem exec_startConditionTimeout (g : Fin 16) (s : State) : exec (.startConditionTimeout g) s = execStartConditionTimeout g s := rfl

theorem exec_holdComplete (g : Fin 16) (s : State) : exec (.holdComplete g) s = execHoldComplete g s := rfl

theorem exec_groupStopComplete (g : Fin 16) (s : State) : exec (.groupStopComplete g) s = execGroupStopComplete g s := rfl

theorem exec_flushComplete (g : Fin 16) (s : State) : exec (.flushComplete g) s = execFlushComplete g s := rfl

theorem exec_profileComplete (a : Fin 64) (s : State) : exec (.profileComplete a) s = execProfileComplete a s := rfl

/-! ### Coordinate groups (R99, R120, R122) -/

/-- TIMEOUT concerns the segment at the head, while its group is WAITING or HELD and no segment is active. -/
theorem effect_startConditionTimeout {g : Fin 16} {sg : Segment} {q : List Segment} {s : State} (hr : Running s)
    (hq : (s.dev.grp g).queue = sg :: q) (hst : s.dev.grpState g = 2 ∨ s.dev.grpState g = 4) (hact : (s.dev.grp g).active = false)
    (hcond : sg.cond.start ≠ 0) (ht : sg.cond.timeout ≠ 0) :
    Effect (.startConditionTimeout g) s fun d => d.grpEvent g F.INTERP_GRP_EVENT_WAIT_TIMEOUT :=
  effect_of_onDev (exec_startConditionTimeout g s) hr <| by
    simp only [hq]
    exact if_pos ⟨hst, by simp only [hact, Bool.not_false], hcond, ht⟩

theorem effect_holdComplete {g : Fin 16} {s : State} (hr : Running s) (hst : s.dev.grpState g = 3) (hrest : s.dev.pathRest g = true) :
    Effect (.holdComplete g) s fun d =>
      let d := (d.groupRest g).modGrp g fun x => { x with pacc := 0, scale := 0, scaleFrom := 0, scaleTo := 0 }
      let d := (d.setGrpState g 4).resolve ⟨.groupHeld, g⟩ 0 0 []
      if (d.grp g).flush then d.groupToIdle g else d :=
  effect_of_onDev (exec_holdComplete g s) hr (if_pos (by simp [hst, hrest]))

theorem effect_groupStopComplete {g : Fin 16} {s : State} (hr : Running s) (hst : s.dev.grpState g = 5)
    (hrest : s.dev.pathRest g = true) : Effect (.groupStopComplete g) s fun d => (d.groupRest g).groupToIdle g :=
  effect_of_onDev (exec_groupStopComplete g s) hr (if_pos (by simp [hst, hrest]))

theorem effect_flushComplete {g : Fin 16} {s : State} (hr : Running s) (hst : s.dev.grpState g = 1) (hflush : (s.dev.grp g).flush = true)
    (hkeep : (s.dev.grp g).keep = 0) : Effect (.flushComplete g) s fun d => (d.groupRest g).groupToIdle g :=
  effect_of_onDev (exec_flushComplete g s) hr (if_pos (by simp [hst, hflush, hkeep]))

/-! ### Profiles (R125) -/

/-- A profile that has run its whole movement, and has not been answered, comes to its end. -/
theorem Dev.profile_due {d : Dev} {a : Nat} {p : Profile} (hst : d.axState a = 3) (hend : p.move.total ≤ p.elapsed)
    (hfirst : p.reached = false) : (d.axState a ≠ 3 || p.elapsed < p.move.total || p.reached) = false := by
  simp [hst, hend, hfirst]

/-- At a target position, or at a target velocity of 0, the axis is at rest. -/
theorem effect_profileComplete_rests {a : Fin 64} {p : Profile} {s : State} (hr : Running s) (hrun : (s.dev.ax a).running = some p)
    (hst : s.dev.axState a = 3) (hend : p.move.total ≤ p.elapsed) (hfirst : p.reached = false) (hrest : p.mode ≠ 2 ∨ p.target = 0) :
    Effect (.profileComplete a) s fun d =>
      let d := d.modAx a fun x => { x with
        running := none, motion := .hold, pCmd := (p.move.at' p.move.total).1 - x.gCorr, vCmd := 0, aCmd := 0 }
      (d.setState a 2).resolve ⟨.profile, a⟩ 0 0 [] :=
  effect_of_onDev (exec_profileComplete a s) hr <| by
    simp only [hrun]
    exact (if_neg (ne_true_of_eq_false (Dev.profile_due hst hend hfirst))).trans (if_neg (by tauto))

/-- At any other target velocity the movement goes on. -/
theorem effect_profileComplete_runs {a : Fin 64} {p : Profile} {s : State} (hr : Running s) (hrun : (s.dev.ax a).running = some p)
    (hst : s.dev.axState a = 3) (hend : p.move.total ≤ p.elapsed) (hmode : p.mode = 2) (hfirst : p.reached = false) (ht : p.target ≠ 0) :
    Effect (.profileComplete a) s fun d =>
      (d.modAx a fun x => { x with running := some { p with reached := true } }).resolve ⟨.profile, a⟩ 0 0 [] :=
  effect_of_onDev (exec_profileComplete a s) hr <| by
    simp only [hrun]
    exact (if_neg (ne_true_of_eq_false (Dev.profile_due hst hend hfirst))).trans (if_pos ⟨hmode, ht⟩)

/-- Settles O25: each event of a group by its condition, and the end of a profile by whether its target is a rest. -/
theorem groupAndProfileEventsTakeEffect : Obligations.GroupAndProfileEventsTakeEffect := by
  unfold Obligations.GroupAndProfileEventsTakeEffect
  exact ⟨fun _ _ _ _ => effect_startConditionTimeout, fun _ _ => effect_holdComplete, fun _ _ => effect_groupStopComplete,
    fun _ _ => effect_flushComplete, fun _ _ _ => effect_profileComplete_rests, fun _ _ _ => effect_profileComplete_runs⟩

end Sys2Proof.Machine

/-!
PROOF. Gear and cam followers: an engaged gear at full ratio moves by the exact fraction of its master's travel (R126), and O56 from it;
what the events of followers do case by case (R87, R126, R127, R129, R132), and O26 from it.
-/

namespace Sys2Proof.Machine

/-! ### The exact ratio of a gear (R126) -/

/-- The travel that an exact-ratio gear takes out of its master's travel up to `m` and the remainder that it carries. -/
def Follower.ratioTravel (f : Follower) (m : Int) : Int := Int.fdiv ((m - f.mPrev) * f.n + f.rem) f.d

/-- An exact-ratio gear after a step to the master value `m`: it carries what the division by D leaves. -/
def Follower.ratioNext (f : Follower) (m : Int) : Follower :=
  { f with rem := (m - f.mPrev) * f.n + f.rem - f.ratioTravel m * f.d, mPrev := m }

theorem Follower.ratioNext_rem (f : Follower) (m : Int) : (f.ratioNext m).rem = Int.fmod ((m - f.mPrev) * f.n + f.rem) f.d := by
  rw [Int.fmod_def, Int.mul_comm (f.d : Int)]
  rfl

theorem Follower.ratioNext_rem_nonneg {f : Follower} (m : Int) (hd : 0 < f.d) : 0 ≤ (f.ratioNext m).rem := by
  rw [Follower.ratioNext_rem]
  exact Int.fmod_nonneg_of_pos _ (Int.natCast_pos.mpr hd)

theorem Follower.ratioNext_rem_lt {f : Follower} (m : Int) (hd : 0 < f.d) : (f.ratioNext m).rem < f.d := by
  rw [Follower.ratioNext_rem]
  exact Int.fmod_lt_of_pos _ (Int.natCast_pos.mpr hd)

/-- A travel `x` that keeps the ratio up to the last master value still keeps it, with the travel of the step, at the present one. -/
theorem Follower.ratioNext_exact {f : Follower} (m : Int) {x m0 : Int} (h : x * f.d + f.rem = f.n * (f.mPrev - m0)) :
    (x + f.ratioTravel m) * f.d + (f.ratioNext m).rem = f.n * (m - m0) := by
  unfold Follower.ratioNext
  linear_combination h

/-- A quotient whose remainder lies from 0 to D − 1 is the floor. -/
theorem eq_fdiv_of_mul_add {x r t : Int} {n : Nat} (h : x * n + r = t) (hr : 0 ≤ r) (hlt : r < n) : x = Int.fdiv t n := by
  have hn : (0 : Int) < n := by omega
  rw [Int.fdiv_eq_ediv_of_nonneg t hn.le]
  exact ((Int.ediv_emod_unique hn).mpr ⟨by linear_combination h, hr, hlt⟩).1.symm

/-! ### The step of a gear at full ratio -/

theorem Dev.engageStep_idle {d : Dev} {a : Nat} (tick : Nat) (h : (d.ax a).folNext = none) : d.engageStep a tick = d := by
  simp only [Dev.engageStep, h]

/-- With no stop and no other engagement pending, a step of a gear at full ratio adds its travel to the set point. -/
theorem Dev.followerStep_ratio {d : Dev} {a tick : Nat} {f : Follower} {m v : Int} (hstop : (d.ax a).stop = none)
    (hnext : (d.ax a).folNext = none) (hfol : (d.ax a).fol = some f) (hcam : f.cam = false) (hphase : f.phase = 2)
    (hmaster : d.master f.kind f.index f.extrap tick = (m, v)) :
    d.followerStep a tick = d.nextFresh.modAx a fun x => { x with
      fol := some (f.ratioNext m), pCmd := d.setPoint a + f.ratioTravel m, gCorr := 0, vCmd := roundDiv (f.n * v) f.d
      aCmd := Config.freeInt d.fresh } := by
  unfold Dev.followerStep
  rw [hstop, Option.isSome_none, if_neg Bool.false_ne_true, Dev.engageStep_idle tick hnext]
  extract_lets _ put
  split
  case h_1 hnone => exact absurd (hfol.symm.trans hnone) (Option.some_ne_none f)
  case h_2 _ hsome =>
    obtain rfl := Option.some.inj (hfol.symm.trans hsome)
    split
    next hnow =>
      obtain ⟨rfl, rfl⟩ := Prod.mk.inj (hmaster.symm.trans hnow)
      extract_lets switched g _ acc travel
      -- a gear has no profile to switch, so the step works on `d` and `f` themselves
      have hdev : switched = d := if_neg (by simp [hcam])
      have hgear : g = f := by simp only [g, hdev, hfol, Option.getD_some]
      have hphase_ne : f.phase ≠ 1 := by omega
      rw [hgear, hdev, if_neg (by simp [hcam]), if_neg hphase_ne, if_pos hphase]
      simp only [put, travel, acc, hgear, Follower.ratioNext, Follower.ratioTravel]

/-- Settles O56: the step moves the set point by the travel of the gear, which keeps the ratio and a remainder from 0 to D − 1, so that
the whole travel is the floor. -/
theorem gearFollowersKeepTheExactRatio : Obligations.GearFollowersKeepTheExactRatio := by
  unfold Obligations.GearFollowersKeepTheExactRatio
  intro d a tick f m0 p0 hstop hnext hfol hcam hphase hd _ _ hratio m e
  have hstep : e = _ := Dev.followerStep_ratio hstop hnext hfol hcam hphase Prod.mk.eta.symm
  have hfol' : (e.ax a).fol = some (f.ratioNext m) := by rw [hstep, Dev.ax_modAx]
  have hset : e.setPoint a = d.setPoint a + f.ratioTravel m := by
    rw [hstep, Dev.setPoint, Dev.ax_modAx, Int.add_zero]
  have hexact : (e.setPoint a - p0) * f.d + (f.ratioNext m).rem = f.n * (m - m0) := by
    rw [hset, add_sub_right_comm]
    exact Follower.ratioNext_exact m hratio
  have hlow := Follower.ratioNext_rem_nonneg m hd
  have hhigh := Follower.ratioNext_rem_lt m hd
  exact ⟨f.ratioNext m, hfol', rfl, rfl, hphase, rfl, hlow, hhigh, hexact, eq_fdiv_of_mul_add hexact hlow hhigh⟩

/-! ### Answers of the follower events -/

theorem exec_followerRampEnd (a : Fin 64) (s : State) : exec (.followerRampEnd a) s = execFollowerRampEnd a s := rfl

theorem exec_clutchStart (a : Fin 64) (s : State) : exec (.clutchStart a) s = execClutchStart a s := rfl

theorem exec_clutchComplete (a : Fin 64) (s : State) : exec (.clutchComplete a) s = execClutchComplete a s := rfl

theorem exec_masterLost (a : Fin 64) (s : State) : exec (.masterLost a) s = execMasterLost a s := rfl

theorem exec_camWrapEngage (a : Fin 64) (s : State) : exec (.camWrapEngage a) s = execCamWrapEngage a s := rfl

/-! ### Gears (R126, R127, R132) -/

theorem effect_followerRampEnd {a : Fin 64} {s : State} (hr : Running s) (hst : s.dev.axState a = 3)
    (hramp : (s.dev.ax a).motion = .rampDown) (hv : (s.dev.ax a).vCmd = 0) (hstop : (s.dev.ax a).stop = none) :
    Effect (.followerRampEnd a) s fun d =>
      ((d.modAx a fun x => { x with motion := .hold, aCmd := 0 }).setState a 2).resolve ⟨.rest, a⟩ 0 0 [] :=
  effect_of_onDev (exec_followerRampEnd a s) hr (if_pos ⟨hst, hramp, hv, Option.isNone_iff_eq_none.mpr hstop⟩)

/-- At the crossing tick the gear takes the master's value of that tick for its start (assumption log 15). -/
theorem effect_clutchStart {a : Fin 64} {f : Follower} {s : State} (hr : Running s) (hnext : (s.dev.ax a).folNext = some f)
    (hstop : (s.dev.ax a).stop = none) (hgear : f.cam = false) (hwaits : f.phase = 0) (hcross : f.crosses (s.dev.masterNow f) = true) :
    Effect (.clutchStart a) s fun d => d.gearStart a f (d.masterNow f) :=
  effect_of_onDev (exec_clutchStart a s) hr <| by
    simp only [hnext]
    exact if_pos (by simp [hstop, hgear, hwaits, hcross])

theorem effect_clutchComplete {a : Fin 64} {f : Follower} {s : State} (hr : Running s) (hfol : (s.dev.ax a).fol = some f)
    (hgear : f.cam = false) (hclutch : f.phase = 1) (hend : f.clutchEnds (s.dev.masterNow f) = true) :
    Effect (.clutchComplete a) s fun d =>
      (d.modAx a fun x => { x with
        fol := some (f.clutchDone (d.masterNow f)).1, pCmd := (f.clutchDone (d.masterNow f)).2, gCorr := 0 }).followStatus a
          (f.clutchDone (d.masterNow f)).1 :=
  effect_of_onDev (exec_clutchComplete a s) hr <| by
    simp only [hfol]
    exact if_pos (by simp [hgear, hclutch, hend])

/-! ### The loss of a master (R87, R129) -/

theorem effect_masterLost_engaged {a : Fin 64} {f : Follower} {s : State} (hr : Running s) (hfol : (s.dev.ax a).fol = some f)
    (hlost : s.dev.masterLost f = true) :
    Effect (.masterLost a) s fun d =>
      (d.fsb (R.INTERP_FOLLOW_STATUS a) F.INTERP_FOLLOW_STATUS_MASTER_LOST true).stopAxis a 5 2 :=
  effect_of_onDev (exec_masterLost a s) hr <| by
    simp only [hfol]
    exact if_pos hlost

/-- With no follower engaged it is the waiting engagement that ends. -/
theorem effect_masterLost_waiting {a : Fin 64} {f : Follower} {s : State} (hr : Running s) (hfol : (s.dev.ax a).fol = none)
    (hnext : (s.dev.ax a).folNext = some f) (hlost : s.dev.masterLost f = true) :
    Effect (.masterLost a) s fun d =>
      ((d.fsb (R.INTERP_FOLLOW_STATUS a) F.INTERP_FOLLOW_STATUS_MASTER_LOST true).modAx a fun x => { x with
        folNext := none }).resolve ⟨.engage, a⟩ 0x0306 0 [] :=
  effect_of_onDev (exec_masterLost a s) hr <| by
    simp only [hfol, hnext]
    exact (if_neg Bool.false_ne_true).trans (if_pos hlost)

/-! ### The wrap of a cam (R132) -/

theorem effect_camWrapEngage_starts {a : Fin 64} {f : Follower} {s : State} (hr : Running s) (hnext : (s.dev.ax a).folNext = some f)
    (hstop : (s.dev.ax a).stop = none) (hcam : f.cam = true) (hwrap : s.dev.camWraps f (s.dev.masterNow f) = true)
    (hwaits : f.phase = 0) : Effect (.camWrapEngage a) s fun d => d.camStart a f (d.masterNow f) :=
  effect_of_onDev (exec_camWrapEngage a s) hr <| by
    simp only [hstop, hnext]
    exact (if_neg Bool.false_ne_true).trans (if_pos (by simp [hcam, hwrap, hwaits]))

theorem effect_camWrapEngage_switches {a : Fin 64} {f : Follower} {s : State} (hr : Running s) (hnext : (s.dev.ax a).folNext = none)
    (hfol : (s.dev.ax a).fol = some f) (hstop : (s.dev.ax a).stop = none) (hcam : f.cam = true)
    (hwrap : s.dev.camWraps f (s.dev.masterNow f) = true) (hprof : f.nextProf.isSome = true) :
    Effect (.camWrapEngage a) s fun d => d.camSwitch a f :=
  effect_of_onDev (exec_camWrapEngage a s) hr <| by
    simp only [hstop, hnext, hfol]
    exact (if_neg Bool.false_ne_true).trans (if_pos (by simp [hcam, hwrap, hprof]))

/-- Settles O26: each event by the follower that it concerns, the engaged one or the one that waits. -/
theorem followerEventsTakeEffect : Obligations.FollowerEventsTakeEffect := by
  unfold Obligations.FollowerEventsTakeEffect
  exact ⟨fun _ _ => effect_followerRampEnd, fun _ _ _ => effect_clutchStart, fun _ _ _ => effect_clutchComplete,
    fun _ _ _ => effect_masterLost_engaged, fun _ _ _ => effect_masterLost_waiting, fun _ _ _ => effect_camWrapEngage_starts,
    fun _ _ _ => effect_camWrapEngage_switches⟩

end Sys2Proof.Machine

/-!
PROOF. BFP24 storage in the Control Engine (R140–R142): what rounding and clipping leave of an exact value, and O58 from it.
-/

namespace Sys2Proof.Machine

/-! ### Rounded quotients -/

/-- A quotient between two integers stays between them when it is rounded. -/
theorem roundDiv_mem_Icc {a lo hi : Int} {b : Nat} (hb : 0 < b) (hlo : lo * b ≤ a) (hhi : a ≤ hi * b) :
    roundDiv a b ∈ Set.Icc lo hi := by
  have hpos : (0 : Int) < b := Int.natCast_pos.mpr hb
  have hfloor : lo ≤ Int.fdiv a b := by
    rw [Int.fdiv_eq_ediv_of_nonneg a hpos.le]
    exact (Int.le_ediv_iff_mul_le hpos).mpr hlo
  -- the quotient is rounded up only where the division leaves a remainder
  have hceil : Int.fdiv a b = hi ∧ a - Int.fdiv a b * b = 0 ∨ Int.fdiv a b < hi := by
    rw [Int.fdiv_eq_ediv_of_nonneg a hpos.le]
    have hmul : a / b * b ≤ a := Int.ediv_mul_le a hpos.ne'
    obtain heq | hlt := (Int.le_of_mul_le_mul_right (hmul.trans hhi) hpos).eq_or_lt
    · exact .inl ⟨heq, by rw [heq] at hmul ⊢; omega⟩
    · exact .inr hlt
  rw [Set.mem_Icc]
  unfold roundDiv
  extract_lets q r
  obtain ⟨hq, hr⟩ | hlt := hceil
  · have hdown : 2 * r < b := by rw [show r = 0 from hr]; omega
    rw [if_pos hdown]
    exact ⟨hfloor, hq.le⟩
  · split_ifs <;> omega

theorem roundDiv_one (a : Int) : roundDiv a 1 = a := by
  simp [roundDiv]

/-! ### The mantissa of a rounded value (R140, R141) -/

theorem bitLen_eq_size {k n : Nat} (h : n < 2 ^ k) : bitLen k n = n.size := by
  induction k with
  | zero => rw [show n = 0 by omega, Nat.size_zero]; rfl
  | succ k ih =>
    rw [bitLen]
    split
    next hle => exact le_antisymm (Nat.lt_size.mpr hle) (Nat.size_le.mpr h)
    next hlt => exact ih (not_le.mp hlt)

/-- A number of L binary digits lies from 2^22 to below 2^23 in units of 2^(L − 23). -/
theorem scaled_by_size {n : Nat} (h : n ≠ 0) :
    2 ^ 22 * 2 ^ (n.size - 23) ≤ n * 2 ^ (23 - n.size) ∧ n * 2 ^ (23 - n.size) < 2 ^ 23 * 2 ^ (n.size - 23) := by
  have hsize : 0 < n.size := Nat.size_pos.mpr (Nat.pos_of_ne_zero h)
  have hlow : 2 ^ (n.size - 1) ≤ n := Nat.lt_size.mp (by omega)
  have hhigh : n < 2 ^ n.size := Nat.lt_size_self n
  constructor
  · calc 2 ^ 22 * 2 ^ (n.size - 23) = 2 ^ (n.size - 1) * 2 ^ (23 - n.size) := by rw [← pow_add, ← pow_add]; congr 1; omega
      _ ≤ n * 2 ^ (23 - n.size) := Nat.mul_le_mul_right _ hlow
  · calc n * 2 ^ (23 - n.size) < 2 ^ n.size * 2 ^ (23 - n.size) := Nat.mul_lt_mul_of_pos_right hhigh (Nat.two_pow_pos _)
      _ = 2 ^ 23 * 2 ^ (n.size - 23) := by rw [← pow_add, ← pow_add]; congr 1; omega

/-- m rounded to 24 bits, in units of 2^(L − 23), L being the number of its binary digits: a mantissa that the rounding may have carried
to ±2^23. -/
def carried24 (m : Int) : Int := roundDiv (m * 2 ^ (23 - m.natAbs.size)) (2 ^ (m.natAbs.size - 23))

theorem carried24_of_pos {m : Int} (h : 0 < m) : carried24 m ∈ Set.Icc (2 ^ 22) (2 ^ 23) := by
  obtain ⟨hlow, hhigh⟩ := scaled_by_size (n := m.natAbs) (by omega)
  zify [abs_of_pos h] at hlow hhigh
  exact roundDiv_mem_Icc (Nat.two_pow_pos _) (by push_cast; exact hlow) (by push_cast; exact hhigh.le)

theorem carried24_of_neg {m : Int} (h : m < 0) : carried24 m ∈ Set.Icc (-2 ^ 23) (-2 ^ 22) := by
  obtain ⟨hlow, hhigh⟩ := scaled_by_size (n := m.natAbs) (by omega)
  zify [abs_of_neg h] at hlow hhigh
  exact roundDiv_mem_Icc (Nat.two_pow_pos _) (by push_cast; linarith) (by push_cast; linarith)

/-- The mantissa of `round24`: a carry to ±2^23 is taken back by one place. -/
theorem round24_mantissa {m : Int} (x : Int) (hm : m ≠ 0) (hlt : m.natAbs < 2 ^ 1200) :
    (round24 m x).1 = if (carried24 m).natAbs = 2 ^ 23 then carried24 m / 2 else carried24 m := by
  unfold round24
  rw [if_neg hm, bitLen_eq_size hlt]
  extract_lets s q
  have hq : q = carried24 m := by
    unfold q carried24
    split
    next hs => rw [show 23 - m.natAbs.size = 0 by omega, pow_zero, mul_one, show s.toNat = m.natAbs.size - 23 by omega]
    next hs => rw [show m.natAbs.size - 23 = 0 by omega, pow_zero, roundDiv_one, show (-s).toNat = 23 - m.natAbs.size by omega]
  rw [hq, apply_ite Prod.fst]

theorem round24_zero (x : Int) : round24 0 x = (0, -128) := rfl

theorem round24_of_pos {m : Int} (x : Int) (h : 0 < m) (hlt : m.natAbs < 2 ^ 1200) :
    2 ^ 22 ≤ (round24 m x).1 ∧ (round24 m x).1 < 2 ^ 23 := by
  obtain ⟨hlow, hhigh⟩ := carried24_of_pos h
  rw [round24_mantissa x h.ne' hlt]
  split <;> omega

theorem round24_of_neg {m : Int} (x : Int) (h : m < 0) (hlt : m.natAbs < 2 ^ 1200) :
    -2 ^ 23 < (round24 m x).1 ∧ (round24 m x).1 ≤ -2 ^ 22 := by
  obtain ⟨hlow, hhigh⟩ := carried24_of_neg h
  rw [round24_mantissa x h.ne hlt]
  split <;> omega

/-! ### The range of the exponent (R142) -/

theorem natAbs_signI {v : Int} (h : v ≠ 0) : (signI v).natAbs = 1 := by
  unfold signI
  split_ifs <;> rfl

/-- What clipping makes of a mantissa that is not zero: the largest magnitude, zero, or the mantissa itself. -/
theorem bfpClip_cases {r : Int × Int} (hm : r.1 ≠ 0) :
    127 < r.2 ∧ bfpClip r = { m := signI r.1 * (2 ^ 23 - 1), e := 127 } ∨ r.2 < -128 ∧ bfpClip r = {} ∨
      -128 ≤ r.2 ∧ r.2 ≤ 127 ∧ bfpClip r = { m := r.1, e := r.2 } := by
  by_cases habove : 127 < r.2
  · exact .inl ⟨habove, if_pos habove⟩
  · by_cases hbelow : r.2 < -128
    · exact .inr (.inl ⟨hbelow, (if_neg habove).trans (if_pos hbelow)⟩)
    · exact .inr (.inr ⟨not_lt.mp hbelow, not_lt.mp habove, by rw [bfpClip, if_neg habove, if_neg hbelow, if_neg hm]⟩)

theorem bfpClip_saturated {r : Int × Int} (hm : r.1 ≠ 0) (h : 127 < r.2) :
    (bfpClip r).e = 127 ∧ (bfpClip r).m.natAbs = 2 ^ 23 - 1 := by
  rw [bfpClip, if_pos h]
  exact ⟨rfl, by rw [Int.natAbs_mul, natAbs_signI hm]; rfl⟩

/-- Zero, or a mantissa that fills its 24 bits with an exponent of eight bits (R140, R142). -/
def Bfp.Normalised (b : Bfp) : Prop :=
  b.m = 0 ∧ b.e = -128 ∨ 2 ^ 22 ≤ b.m.natAbs ∧ b.m.natAbs < 2 ^ 23 ∧ -128 ≤ b.e ∧ b.e ≤ 127

theorem bfpClip_normalised {r : Int × Int} (hlow : 2 ^ 22 ≤ r.1.natAbs) (hhigh : r.1.natAbs < 2 ^ 23) : (bfpClip r).Normalised := by
  have hm : r.1 ≠ 0 := by omega
  obtain ⟨habove, _⟩ | ⟨_, heq⟩ | ⟨hmin, hmax, heq⟩ := bfpClip_cases hm
  · obtain ⟨he, hmag⟩ := bfpClip_saturated hm habove
    unfold Bfp.Normalised
    omega
  · rw [heq]
    exact .inl ⟨rfl, rfl⟩
  · rw [heq]
    exact .inr ⟨hlow, hhigh, hmin, hmax⟩

theorem bfpClip_nonneg {r : Int × Int} (h : 0 < r.1) : 0 ≤ (bfpClip r).m := by
  have hsign : signI r.1 = 1 := (if_neg h.not_gt).trans (if_neg h.ne')
  obtain ⟨_, heq⟩ | ⟨_, heq⟩ | ⟨_, _, heq⟩ := bfpClip_cases h.ne' <;> rw [heq]
  · rw [hsign]; decide
  · exact h.le

theorem bfpClip_nonpos {r : Int × Int} (h : r.1 < 0) : (bfpClip r).m ≤ 0 := by
  have hsign : signI r.1 = -1 := if_pos h
  obtain ⟨_, heq⟩ | ⟨_, heq⟩ | ⟨_, _, heq⟩ := bfpClip_cases h.ne <;> rw [heq]
  · rw [hsign]; decide
  · exact h.le

/-! ### Stored results -/

theorem bfpOf_zero (x : Int) : bfpOf 0 x = {} := rfl

/-- Settles O58: the rounded mantissa of a value that is not zero fills its 24 bits and has the value's sign, and clipping keeps both or
gives the largest magnitude or zero. The model normalises every stored value by itself (assumption log 7). -/
theorem bfpResultsAreNormalised : Obligations.BfpResultsAreNormalised := by
  unfold Obligations.BfpResultsAreNormalised
  intro m x hlt b
  obtain hneg | rfl | hpos := lt_trichotomy m 0
  · obtain ⟨hlow, hhigh⟩ := round24_of_neg x hneg hlt
    exact ⟨bfpClip_normalised (by omega) (by omega), fun h => absurd h hneg.not_gt, fun _ => bfpClip_nonpos (by omega),
      bfpClip_saturated (by omega)⟩
  · have hb : b = {} := bfpOf_zero x
    rw [hb, round24_zero]
    exact ⟨.inl ⟨rfl, rfl⟩, fun _ => le_rfl, fun _ => le_rfl, fun h => absurd h (by decide)⟩
  · obtain ⟨hlow, hhigh⟩ := round24_of_pos x hpos hlt
    exact ⟨bfpClip_normalised (by omega) (by omega), fun _ => bfpClip_nonneg (by omega), fun h => absurd h hpos.not_gt,
      bfpClip_saturated (by omega)⟩

end Sys2Proof.Machine

/-!
PROOF. Events of the Control Engine (R137, R147, R162, R172, R467) and of the hardware stop generator (R173, R175, R530): what each of
them does case by case, and O27 from it.
-/

namespace Sys2Proof.Machine

/-! ### Answers of the Control Engine's events -/

theorem exec_axisEvaluation (a : Fin 64) (x : EvalIn) (s : State) : exec (.axisEvaluation a x) s = execAxisEvaluation a x s := rfl

theorem exec_hookAbsent (a : Fin 64) (h : Fin 5) (s : State) : exec (.hookAbsent a h) s = execHookAbsent a h s := rfl

theorem exec_followingErrorFault (a : Fin 64) (s : State) : exec (.followingErrorFault a) s = execFollowingErrorFault a s := rfl

theorem exec_laneOverrun (a : Fin 64) (s : State) : exec (.laneOverrun a) s = execLaneOverrun a s := rfl

theorem exec_hsgAxisAtZero (a : Fin 64) (s : State) : exec (.hsgAxisAtZero a) s = execHsgAxisAtZero a s := rfl

theorem exec_sysStopDoorbell (w : Word) (s : State) : exec (.sysStopDoorbell w) s = execSysStopDoorbell w s := rfl

/-! ### The lane: evaluations, hooks, following error, overruns (R137, R147, R162, R172) -/

theorem effect_axisEvaluation {a : Fin 64} {x : EvalIn} {e : EvalDue} {l : List EvalDue} {s : State} (hr : Running s)
    (hact : s.dev.active a = true) (hdue : (s.dev.ceAx a).due = e :: l) (hrun : s.dev.ce.stopped = false) :
    Effect (.axisEvaluation a x) s fun d => d.evaluate a e x :=
  effect_of_onDev (exec_axisEvaluation a x s) hr <| by
    simp only [hdue]
    exact if_pos (by simp [hact, hrun])

theorem effect_hookAbsent {a : Fin 64} {h : Fin 5} {s : State} (hr : Running s) (hen : s.dev.bit (R.CE_AX_HOOK a) h = true)
    (habs : s.dev.hookAbsent a h = true) (hnew : s.dev.bit (R.CE_AX_STATUS a) (16 + h) = false) :
    Effect (.hookAbsent a h) s fun d =>
      (d.setBit (R.CE_AX_STATUS a) (16 + h) true).setFlag (R.CE_LANE_EVENT (laneOf a)) 1 (265 + 2 * laneOf a) :=
  effect_of_onDev (exec_hookAbsent a h s) hr <| if_pos (by simp [hen, habs, hnew])

theorem effect_followingErrorFault {a : Fin 64} {s : State} (hr : Running s) (hst : 2 ≤ s.dev.axState a)
    (hact : s.dev.active a = true) (hlim : s.dev.fg (R.CE_AX_FE a) F.CE_AX_FE_FE_LIMIT ≠ 0)
    (htime : s.dev.fg (R.CE_AX_FE a) F.CE_AX_FE_FE_TIME ≤ (s.dev.ceAx a).feN) (hticks : 0 < (s.dev.ceAx a).feN) :
    Effect (.followingErrorFault a) s fun d => d.axisFault a 3 :=
  effect_of_onDev (exec_followingErrorFault a s) hr <| if_pos (by simp [hst, hact, hlim, htime, hticks])

/-- With two evaluations due, the older one is dropped. -/
theorem effect_laneOverrun {a : Fin 64} {e y : EvalDue} {l : List EvalDue} {s : State} (hr : Running s)
    (hact : s.dev.active a = true) (hdue : (s.dev.ceAx a).due = e :: y :: l) :
    Effect (.laneOverrun a) s fun d =>
      let d := (d.sampleSigs a e.tick).modCe a fun c => { c with due := c.due.drop 1 }
      let d := (d.satInc (R.CE_LANE_OVR_COUNT (laneOf a)) F.CE_LANE_OVR_COUNT_COUNT).setFlag (R.CE_LANE_EVENT (laneOf a)) 0
        (264 + 2 * laneOf a)
      (d.axisFault a 4).resign 2 :=
  effect_of_onDev (exec_laneOverrun a s) hr <| by
    simp only [hdue]
    exact if_pos (by simp [hact])

/-! ### The hardware stop generator (R173, R175, R530) -/

theorem effect_hsgAxisAtZero {a : Fin 64} {r : StopRun} {s : State} (hr : Running s) (hstop : (s.dev.ax a).stop = some r)
    (hramp : (s.dev.ceAx a).hsgRamp = true) (hv : (s.dev.ax a).vCmd = 0) (hst : s.dev.axState a = 4) (hcls : rankClass r.rank ≠ 0) :
    Effect (.hsgAxisAtZero a) s fun d =>
      ((d.modCe a fun x => { x with hsgRamp := false }).rampDone a (rankClass r.rank)).hsgUpdate :=
  effect_of_onDev (exec_hsgAxisAtZero a s) hr <| by
    simp only [hstop]
    exact if_pos ⟨hramp, hv, hst, hcls⟩

theorem effect_sysStopDoorbell_key {w : Word} {s : State} (hr : Running s) (hw : wbits w 15 0 = 0x3C5A) :
    Effect (.sysStopDoorbell w) s fun d => d.hsgAll 1 :=
  effect_of_onDev (exec_sysStopDoorbell w s) hr <| if_pos hw

theorem effect_sysStopDoorbell_noKey {w : Word} {s : State} (hr : Running s) (hw : wbits w 15 0 ≠ 0x3C5A) :
    Effect (.sysStopDoorbell w) s fun d => d :=
  effect_of_onDev (exec_sysStopDoorbell w s) hr <| if_neg hw

/-- Settles O27: each event by its own condition, the stop doorbell by its key. -/
theorem controlEngineEventsTakeEffect : Obligations.ControlEngineEventsTakeEffect := by
  unfold Obligations.ControlEngineEventsTakeEffect
  exact ⟨fun _ _ _ _ _ => effect_axisEvaluation, fun _ _ _ => effect_hookAbsent, fun _ _ => effect_followingErrorFault,
    fun _ _ _ _ _ => effect_laneOverrun, fun _ _ _ => effect_hsgAxisAtZero, fun _ _ => effect_sysStopDoorbell_key,
    fun _ _ => effect_sysStopDoorbell_noKey⟩

end Sys2Proof.Machine

/-!
PROOF. The words of the current front end (R181, R182, R185): the weights of a sinc3 filter and what it makes of a stream, and O57 from
them.
-/

namespace Sys2Proof.Machine
open Finset

/-! ### Triangular numbers and the weights of a sinc3 filter (R182) -/

theorem tri_of_nonpos {x : Int} (h : x ≤ 0) : tri x = 0 := if_pos (by omega)

theorem two_mul_tri {x : Int} (h : 0 < x) : 2 * tri x = x * (x + 1) := by
  rw [tri, if_neg (by omega)]
  exact Int.mul_ediv_cancel' (Int.even_mul_succ_self x).two_dvd

/-- The weight of a bit is one polynomial over the first n bits, one over the next n and one over the last n − 2, none of them negative. -/
theorem sinc3Weight_nonneg {n k : Nat} (hk : k < 3 * n - 2) : 0 ≤ sinc3Weight n k := by
  unfold sinc3Weight
  have hall := two_mul_tri (x := (k + 1 : Int)) (by omega)
  by_cases hfirst : k < n
  · rw [tri_of_nonpos (x := k + 1 - n) (by omega), tri_of_nonpos (x := k + 1 - 2 * n) (by omega)]
    nlinarith
  have hlate := two_mul_tri (x := (k + 1 - n : Int)) (by omega)
  by_cases hsecond : k < 2 * n
  · rw [tri_of_nonpos (x := k + 1 - 2 * n) (by omega)]
    -- k = n + p and n = p + q + 1: twice the weight is a polynomial in p and q without negative terms
    obtain ⟨p, rfl⟩ := Nat.exists_eq_add_of_le (not_lt.mp hfirst)
    obtain ⟨q, rfl⟩ := Nat.exists_eq_add_of_lt (show p < n by omega)
    push_cast at hall hlate ⊢
    nlinarith
  · have hlast := two_mul_tri (x := (k + 1 - 2 * n : Int)) (by omega)
    have hrest : (0 : Int) ≤ (3 * n - k - 1) * (3 * n - k - 2) := mul_nonneg (by omega) (by omega)
    linarith

/-- The triangular numbers that start at place `c` sum to a tetrahedral number. -/
theorem six_mul_sum_tri (c m : Nat) :
    6 * ∑ k ∈ range m, tri (k + 1 - c) = (m - c : Nat) * ((m - c : Nat) + 1) * ((m - c : Nat) + 2) := by
  induction m with
  | zero => simp
  | succ m ih =>
    rw [sum_range_succ, mul_add, ih]
    obtain hlt | hle := Nat.lt_or_ge m c
    · rw [tri_of_nonpos (by omega), show m + 1 - c = 0 by omega, show m - c = 0 by omega]
      rfl
    · obtain ⟨p, rfl⟩ := Nat.exists_eq_add_of_le hle
      have htri := two_mul_tri (x := (p + 1 : Int)) (by omega)
      rw [show c + p + 1 - c = p + 1 by omega, show c + p - c = p by omega, show ((c + p : Nat) + 1 - c : Int) = p + 1 by omega]
      push_cast
      linear_combination 3 * htri

theorem sum_sinc3Weight {n : Nat} (hn : 0 < n) : ∑ k ∈ range (3 * n - 2), sinc3Weight n k = (n : Int) ^ 3 := by
  have hall := six_mul_sum_tri 0 (3 * n - 2)
  have hlate := six_mul_sum_tri n (3 * n - 2)
  have hlast := six_mul_sum_tri (2 * n) (3 * n - 2)
  simp only [sinc3Weight, sum_add_distrib, sum_sub_distrib, ← mul_sum]
  rw [Nat.cast_mul] at hlast
  obtain rfl | ⟨p, rfl⟩ : n = 1 ∨ ∃ p, n = p + 2 := by
    obtain _ | _ | p := n
    · omega
    · exact .inl rfl
    · exact .inr ⟨p, rfl⟩
  · rfl
  · rw [show 3 * (p + 2) - 2 - 2 * (p + 2) = p by omega] at hlast
    rw [show 3 * (p + 2) - 2 - (p + 2) = 2 * p + 2 by omega] at hlate
    rw [show 3 * (p + 2) - 2 - 0 = 3 * p + 4 by omega, Nat.cast_zero] at hall
    push_cast at hall hlate hlast ⊢
    simp only [sub_zero] at hall
    linarith

/-! ### The sum of the weighted bits -/

theorem abs_bitValue (bits k : Nat) : |bitValue bits k| = 1 := by
  unfold bitValue
  split <;> rfl

theorem bitValue_ones {m k : Nat} (h : k < m) : bitValue (2 ^ m - 1) k = 1 :=
  if_pos (by rw [Nat.testBit_two_pow_sub_one]; exact decide_eq_true h)

theorem bitValue_zeros (k : Nat) : bitValue 0 k = -1 := if_neg (by simp)

/-- The sum that a sinc3 filter forms of its last 3n − 2 captured bits. -/
def sinc3Sum (n bits : Nat) : Int := ∑ k ∈ range (3 * n - 2), sinc3Weight n k * bitValue bits k

theorem foldl_add_eq_sum_range (f : Nat → Int) (m : Nat) : (List.range m).foldl (fun s k => s + f k) 0 = ∑ k ∈ range m, f k := by
  rw [← List.foldl_map, ← List.sum_eq_foldl]
  rfl

theorem sinc3_eq (n bits : Nat) : sinc3 n bits = min (2 ^ 23 - 1) (roundDiv (sinc3Sum n bits * 2 ^ 23) (n ^ 3)) := by
  rw [sinc3, foldl_add_eq_sum_range, sinc3Sum]

theorem abs_sinc3Sum_le {n : Nat} (bits : Nat) (hn : 0 < n) : |sinc3Sum n bits| ≤ (n : Int) ^ 3 := by
  rw [sinc3Sum, ← sum_sinc3Weight hn]
  refine (abs_sum_le_sum_abs _ _).trans_eq (sum_congr rfl fun k hk => ?_)
  rw [abs_mul, abs_bitValue, mul_one, abs_of_nonneg (sinc3Weight_nonneg (mem_range.mp hk))]

theorem sinc3Sum_of_const {n bits : Nat} {v : Int} (hn : 0 < n) (h : ∀ k < 3 * n - 2, bitValue bits k = v) :
    sinc3Sum n bits = v * n ^ 3 := by
  rw [← sum_sinc3Weight hn, mul_comm, sum_mul, sinc3Sum]
  exact sum_congr rfl fun k hk => by rw [h k (mem_range.mp hk)]

/-! ### The filter word (R182) -/

theorem sinc3_mem_Icc {n : Nat} (bits : Nat) (hn : 0 < n) : sinc3 n bits ∈ Set.Icc (-2 ^ 23) (2 ^ 23 - 1) := by
  obtain ⟨hlo, hhi⟩ := abs_le.mp (abs_sinc3Sum_le bits hn)
  obtain ⟨hround, _⟩ := roundDiv_mem_Icc (a := sinc3Sum n bits * 2 ^ 23) (lo := -2 ^ 23) (hi := 2 ^ 23) (pow_pos hn 3)
    (by push_cast; linarith) (by push_cast; linarith)
  rw [sinc3_eq]
  exact ⟨le_min (by decide) hround, min_le_left _ _⟩

theorem sinc3_of_const {n bits : Nat} {v : Int} (hn : 0 < n) (h : ∀ k < 3 * n - 2, bitValue bits k = v) :
    sinc3 n bits = min (2 ^ 23 - 1) (v * 2 ^ 23) := by
  rw [sinc3_eq, sinc3Sum_of_const hn h]
  obtain ⟨hlo, hhi⟩ := roundDiv_mem_Icc (a := v * n ^ 3 * 2 ^ 23) (lo := v * 2 ^ 23) (hi := v * 2 ^ 23) (pow_pos hn 3)
    (by push_cast; linarith) (by push_cast; linarith)
  rw [le_antisymm hhi hlo]

theorem sinc3_ones {n : Nat} (hn : 0 < n) : sinc3 n (2 ^ (3 * n - 2) - 1) = 0x7FFFFF :=
  sinc3_of_const hn fun _ => bitValue_ones

theorem sinc3_zeros {n : Nat} (hn : 0 < n) : sinc3 n 0 = -(2 ^ 23) :=
  sinc3_of_const hn fun k _ => bitValue_zeros k

/-! ### The corrected word (R185) -/

theorem clampI_mem_Icc {lo hi : Int} (v : Int) (h : lo ≤ hi) : clampI lo hi v ∈ Set.Icc lo hi := by
  rw [Set.mem_Icc]
  unfold clampI
  split_ifs <;> omega

theorem Dev.sdCorrect_mem_Icc (d : Dev) (i : Nat) (w : Int) : d.sdCorrect i w ∈ Set.Icc (-(2 ^ 23 - 1)) (2 ^ 23 - 1) :=
  clampI_mem_Icc _ (by decide)

/-- Settles O57: the weights of a filter are not negative and sum to OSR³, so that no stream gives more than a constant one; the
corrected word is saturated. -/
theorem sincWordsAreInRange : Obligations.SincWordsAreInRange := by
  unfold Obligations.SincWordsAreInRange
  refine ⟨fun osr bits hosr => ?_, Dev.sdCorrect_mem_Icc⟩
  have hpos : 0 < osr := by omega
  obtain ⟨hlo, hhi⟩ := sinc3_mem_Icc bits hpos
  exact ⟨hlo, hhi, sinc3_ones hpos, sinc3_zeros hpos⟩

end Sys2Proof.Machine

/-!
PROOF. Events of the current front end (R182–R196): the detections on captured bits and clocks, the words and the calibration, what each
of them does case by case, and O28 and O29 from it.
-/

namespace Sys2Proof.Machine

/-! ### Answers of the front end's events -/

theorem exec_freeRunWord (i : Fin 160) (bits : Nat) (s : State) : exec (.freeRunWord i bits) s = execFreeRunWord i bits s := rfl

theorem exec_decimatorRefillComplete (i : Fin 160) (s : State) :
    exec (.decimatorRefillComplete i) s = execDecimatorRefillComplete i s := rfl

theorem exec_overcurrentDetect (i : Fin 160) (bits bitsB : Nat) (s : State) :
    exec (.overcurrentDetect i bits bitsB) s = execOvercurrentDetect i bits bitsB s := rfl

theorem exec_rangeFault (i : Fin 160) (s : State) : exec (.rangeFault i) s = execRangeFault i s := rfl

theorem exec_stuckDetect (i : Fin 160) (bits : Nat) (s : State) : exec (.stuckDetect i bits) s = execStuckDetect i bits s := rfl

theorem exec_alternatingDetect (i : Fin 160) (bits : Nat) (s : State) :
    exec (.alternatingDetect i bits) s = execAlternatingDetect i bits s := rfl

theorem exec_sdckReadbackFault (k : Fin 20) (s : State) : exec (.sdckReadbackFault k) s = execSdckReadbackFault k s := rfl

theorem exec_extClockLost (s : State) : exec .extClockLost s = execExtClockLost s := rfl

theorem exec_modulatorClockReturn (k : Fin 21) (s : State) :
    exec (.modulatorClockReturn k) s = execModulatorClockReturn k s := rfl

theorem exec_calWindowOpen (a : Fin 64) (s : State) : exec (.calWindowOpen a) s = execCalWindowOpen a s := rfl

theorem exec_offsetCalUpdate (i : Fin 160) (s : State) : exec (.offsetCalUpdate i) s = execOffsetCalUpdate i s := rfl

theorem exec_bankGainUpdate (n : Fin 4) (s : State) : exec (.bankGainUpdate n) s = execBankGainUpdate n s := rfl

/-! ### Conditions on captured bits (R186, R187, R193, R194) -/

/-- A condition that the captured bits show, by the input's own stream or as the W estimate, is recorded, sets its bits and trips. -/
theorem effect_overcurrentDetect {i : Fin 160} {x y : Nat} {s : State} (hr : Running s)
    (hen : s.dev.fb (R.CFE_SD_CFG i) F.CFE_SD_CFG_EN = true) (hoc : s.dev.isOc i x = true ∨ s.dev.isOcW i x y = true) :
    Effect (.overcurrentDetect i x y) s fun d =>
      let own := d.isOc i x
      let w := d.isOcW i x y
      let d := d.modSd i fun x => { x with ocNow := own, ocW := w }
      let d := if own && d.fgS (R.CFE_SD_OC i) F.CFE_SD_OC_OC_HI < sinc2 x 0 then d.sdFlag i F.CFE_SD_STATUS_OC_HI else d
      let d := if own && sinc2 x 0 < d.fgS (R.CFE_SD_OC i) F.CFE_SD_OC_OC_LO then d.sdFlag i F.CFE_SD_STATUS_OC_LO else d
      let d := if w then d.sdFlag i F.CFE_SD_STATUS_OC_W else d
      d.inputTrip i :=
  have hshown : ¬(!s.dev.isOc i x && !s.dev.isOcW i x y) = true := by
    obtain h | h := hoc <;> simp [h]
  effect_of_onDev (exec_overcurrentDetect i x y s) hr <| (if_neg (by simp [hen])).trans (if_neg hshown)

theorem effect_stuckDetect {i : Fin 160} {x : Nat} {s : State} (hr : Running s)
    (hen : s.dev.fb (R.CFE_SD_CFG i) F.CFE_SD_CFG_EN = true) (hchk : s.dev.fb (R.CFE_SD_CFG i) F.CFE_SD_CFG_STUCK_EN = true)
    (hbits : allEqual (s.dev.stuckN i) x = true) :
    Effect (.stuckDetect i x) s fun d =>
      (((d.sdFlag i F.CFE_SD_STATUS_STUCK).calSpoil i).modSd i fun x => { x with stuckNow := true }).inputTrip i :=
  effect_of_onDev (exec_stuckDetect i x s) hr <| if_pos (by simp [hen, hchk, hbits])

theorem effect_alternatingDetect {i : Fin 160} {x : Nat} {s : State} (hr : Running s)
    (hen : s.dev.fb (R.CFE_SD_CFG i) F.CFE_SD_CFG_EN = true) (hchk : s.dev.fb (R.CFE_SD_CFG i) F.CFE_SD_CFG_ALT_EN = true)
    (hbits : alternates (s.dev.stuckN i) x = true) :
    Effect (.alternatingDetect i x) s fun d =>
      ((d.sdFlag i F.CFE_SD_STATUS_ALT).modSd i fun x => { x with altNow := true }).inputTrip i :=
  effect_of_onDev (exec_alternatingDetect i x s) hr <| if_pos (by simp [hen, hchk, hbits])

theorem effect_rangeFault {i : Fin 160} {s : State} (hr : Running s)
    (hen : s.dev.fb (R.CFE_SD_CFG i) F.CFE_SD_CFG_EN = true)
    (hout : s.dev.fg (R.CFE_SD_CFG i) F.CFE_SD_CFG_RANGE_N < (s.dev.sd i).rangeN) :
    Effect (.rangeFault i) s fun d => (d.sdFlag i F.CFE_SD_STATUS_RANGE).calSpoil i :=
  effect_of_onDev (exec_rangeFault i s) hr <| if_pos (by simp [hen, hout])

/-! ### Clocks (R193, R194) -/

theorem effect_sdckReadbackFault {k : Fin 20} {s : State} (hr : Running s)
    (hext : s.dev.fb R.CFE_CLK_CFG F.CFE_CLK_CFG_EXT = false) (hen : s.dev.fb (R.CFE_SDCK_CFG k) F.CFE_SDCK_CFG_EN = true) :
    Effect (.sdckReadbackFault k) s fun d =>
      let d := d.setFlag R.CFE_CLK_STATUS k (260 + k / 5)
      let d := { d with cfe := { d.cfe with sdckNow := d.cfe.sdckNow.filter (· ≠ k.val) ++ [k.val] } }
      d.clockFailed k :=
  effect_of_onDev (exec_sdckReadbackFault k s) hr <| if_neg (by simp [hext, hen])

/-- EXT_LOST is new, so that the sources of all four banks are raised (R196). -/
theorem effect_extClockLost {s : State} (hr : Running s) (hext : s.dev.fb R.CFE_CLK_CFG F.CFE_CLK_CFG_EXT = true)
    (hnew : s.dev.fb R.CFE_CLK_STATUS F.CFE_CLK_STATUS_EXT_LOST = false) :
    Effect .extClockLost s fun d =>
      let d := [260, 261, 262, 263].foldl (fun x s => x.raiseBit d s) (d.fsb R.CFE_CLK_STATUS F.CFE_CLK_STATUS_EXT_LOST true)
      ({ d with cfe := { d.cfe with extNow := true } } : Dev).clockFailed 20 :=
  effect_of_onDev (exec_extClockLost s) hr <| by
    rw [if_neg (by simp [hext]), hnew]
    rfl

theorem effect_modulatorClockReturn_sdck {k : Fin 21} {s : State} (hr : Running s) (hk : k.val ≠ 20)
    (hfailed : s.dev.cfe.sdckNow.contains k.val = true) :
    Effect (.modulatorClockReturn k) s fun d =>
      ({ d with cfe := { d.cfe with sdckNow := d.cfe.sdckNow.filter (· ≠ k.val) } } : Dev).each (d.clockInputs k.val) Dev.refill :=
  effect_of_onDev (exec_modulatorClockReturn k s) hr <| (if_neg hk).trans (if_pos hfailed)

theorem effect_modulatorClockReturn_ext {s : State} (hr : Running s) (hlost : s.dev.cfe.extNow = true) :
    Effect (.modulatorClockReturn 20) s fun d =>
      let e : Dev := { d with cfe := { d.cfe with extNow := false } }
      e.each (e.clockInputs 20) Dev.refill :=
  effect_of_onDev (exec_modulatorClockReturn 20 s) hr <| (if_pos rfl).trans (if_pos hlost)

/-- Settles O28: each detection by its own condition, an over-current by either stream, the return of a clock by which clock it is. -/
theorem frontEndDetectionsTakeEffect : Obligations.FrontEndDetectionsTakeEffect := by
  unfold Obligations.FrontEndDetectionsTakeEffect
  exact ⟨fun _ _ _ _ => effect_overcurrentDetect, fun _ _ _ => effect_stuckDetect, fun _ _ _ => effect_alternatingDetect,
    fun _ _ => effect_rangeFault, fun _ _ => effect_sdckReadbackFault, fun _ => effect_extClockLost,
    fun _ _ => effect_modulatorClockReturn_sdck, fun _ => effect_modulatorClockReturn_ext⟩

/-! ### Words (R182–R184) -/

/-- What a free-run word leaves of its input: the word, its range check, what still lasts of the conditions on the input's own bits, and
the running average (R183, R189, R193; assumption log 53). -/
theorem effect_freeRunWord {i : Fin 160} {x : Nat} {s : State} (hr : Running s)
    (hen : s.dev.fb (R.CFE_SD_CFG i) F.CFE_SD_CFG_EN = true)
    (hfilled : s.dev.fb (R.CFE_SD_STATUS i) F.CFE_SD_STATUS_FILLING = false)
    (hclk : s.dev.clockRuns (s.dev.sdClock i) = true) :
    Effect (.freeRunWord i x) s fun d =>
      let w := sinc3 (d.osr i) x
      let v := d.sdCorrect i w
      let d := d.wr (R.CFE_SD_VALUE i) (toWI v)
      let out := d.fgS (R.CFE_SD_RANGE i) F.CFE_SD_RANGE_RANGE_HI * 256 < v ||
        v < d.fgS (R.CFE_SD_RANGE i) F.CFE_SD_RANGE_RANGE_LO * 256
      let len := 3 * d.osr i - 2
      let avg := d.averaging i
      let oc := d.isOc i x
      let d := d.modSd i fun y => { y with
        raw := w
        rangeN := if out then y.rangeN + 1 else 0
        ocNow := y.ocNow && oc
        stuckNow := y.stuckNow && allEqual len x
        altNow := y.altNow && alternates len x
        calSum := if !avg then 0 else if y.calN < 4096 then y.calSum + w else y.calSum
        calN := if !avg then 0 else min 4096 (y.calN + 1)
        calBad := avg && y.calBad }
      if d.fg R.TRACE_CLK F.TRACE_CLK_INPUT = i then
        let d := { d with trace := { d.trace with words := d.trace.words + 1 } }
        d.sampleTick 4 d.trace.words { inst := d.ns, word := w }
      else d :=
  effect_of_onDev (exec_freeRunWord i x s) hr <| if_neg (by simp [hen, hfilled, hclk])

theorem effect_decimatorRefillComplete {i : Fin 160} {s : State} (hr : Running s)
    (hfills : s.dev.fb (R.CFE_SD_STATUS i) F.CFE_SD_STATUS_FILLING = true)
    (hclk : s.dev.clockRuns (s.dev.sdClock i) = true) :
    Effect (.decimatorRefillComplete i) s fun d => d.fsb (R.CFE_SD_STATUS i) F.CFE_SD_STATUS_FILLING false :=
  effect_of_onDev (exec_decimatorRefillComplete i s) hr <| if_pos (by simp [hfills, hclk])

/-! ### Calibration (R189–R191) -/

theorem effect_calWindowOpen {a : Fin 64} {s : State} (hr : Running s) (hbound : s.dev.bound a = true)
    (hoff : s.dev.pwmOff a = true) (hthr : s.dev.throttled = false) (hclosed : s.dev.cfe.window.contains a.val = false) :
    Effect (.calWindowOpen a) s fun d =>
      ({ d with cfe := { d.cfe with window := d.cfe.window ++ [a.val] } } : Dev).each (d.curIns a) Dev.calRestart :=
  effect_of_onDev (exec_calWindowOpen a s) hr <| if_pos (by simpa [hbound, hoff, hthr] using hclosed)

section
variable {i : Fin 160} {s : State} (hr : Running s) (hthr : s.dev.throttled = false) (hfull : 4096 ≤ (s.dev.sd i).calN)
  (hcal : s.dev.fb (R.CFE_SD_CFG i) F.CFE_SD_CFG_CAL_EN = true) (havg : s.dev.averaging i = true)
  (hgood : (s.dev.sd i).calBad = false)
include hr hthr hfull hcal havg hgood

/-- OFFSET moves to (3 × OFFSET + mean) / 4, that is by a quarter of its distance to the mean; that a tie rounds to even is the model's
choice. -/
theorem effect_offsetCalUpdate_moves (hmean : (s.dev.sd i).calSum.natAbs ≤ 2 ^ 19 * 4096) :
    Effect (.offsetCalUpdate i) s fun d =>
      let x := d.sd i
      let d := d.calRestart i
      let o := d.fgS (R.CFE_SD_OFFSET i) F.CFE_SD_OFFSET_OFFSET
      (d.fs (R.CFE_SD_OFFSET i) F.CFE_SD_OFFSET_OFFSET (ofS 24 (roundDiv (3 * 4096 * o + x.calSum) 16384))).fsb
        (R.CFE_SD_STATUS i) F.CFE_SD_STATUS_CAL_VALID true :=
  effect_of_onDev (exec_offsetCalUpdate i s) hr <|
    (if_neg (by simp [hthr, hfull, hcal, havg])).trans <| (if_neg (by simp [hgood])).trans (if_neg hmean.not_gt)

theorem effect_offsetCalUpdate_limit (hmean : 2 ^ 19 * 4096 < (s.dev.sd i).calSum.natAbs) :
    Effect (.offsetCalUpdate i) s fun d => (d.calRestart i).sdFlag i F.CFE_SD_STATUS_CAL_LIMIT :=
  effect_of_onDev (exec_offsetCalUpdate i s) hr <|
    (if_neg (by simp [hthr, hfull, hcal, havg])).trans <| (if_neg (by simp [hgood])).trans (if_pos hmean)

end

/-- A quotient that lies within the limits of R191 is the gain itself. -/
theorem effect_bankGainUpdate {n : Fin 4} {i : Nat} {s : State} (hr : Running s)
    (hin : s.dev.fg (R.CFE_BANK_CAL n) F.CFE_BANK_CAL_REF_IN = i) (hfull : 4096 ≤ (s.dev.sd i).calN)
    (href : s.dev.isRef i = true) (hoff : s.dev.bankOff n = true) (hbank : i / 40 = n.val)
    (hgood : (s.dev.sd i).calBad = false) (hpos : 0 < (s.dev.sd i).calSum)
    (hlo : (95 : Int) * (s.dev.sd i).calSum ≤ (s.dev.fg (R.CFE_BANK_REF n) F.CFE_BANK_REF_REF_NOM : Int) * 4096 * 100)
    (hhi : (s.dev.fg (R.CFE_BANK_REF n) F.CFE_BANK_REF_REF_NOM : Int) * 4096 * 100 ≤ 105 * (s.dev.sd i).calSum) :
    Effect (.bankGainUpdate n) s fun d =>
      let e := (d.calRestart i).nextFresh
      (e.wr (R.CFE_BANK_GAIN n) (ratF32 (((d.calRestart i).fg (R.CFE_BANK_REF n) F.CFE_BANK_REF_REF_NOM : Int) * 4096)
        (d.sd i).calSum.toNat)).wr (R.CFE_BANK_AGE n) 0 := by
  subst hin
  refine effect_of_onDev (exec_bankGainUpdate n s) hr ?_
  extract_lets i x d num g e
  have hg : g = ratF32 num x.calSum.toNat :=
    (if_neg hpos.ne').trans <| (if_neg (not_or.mpr ⟨hpos.not_gt, hlo.not_gt⟩)).trans (if_neg hhi.not_gt)
  rw [if_neg (by simp [i, x, hfull, href, hoff, hbank]), if_neg (by simp [i, x, hgood]), hg]

/-- Settles O29: each event by its own condition, the offset by whether the mean is beyond 1/16 of full scale. -/
theorem frontEndWordsTakeEffect : Obligations.FrontEndWordsTakeEffect := by
  unfold Obligations.FrontEndWordsTakeEffect
  exact ⟨fun _ _ _ => effect_freeRunWord, fun _ _ => effect_decimatorRefillComplete, fun _ _ => effect_calWindowOpen,
    fun _ _ => effect_offsetCalUpdate_moves, fun _ _ => effect_offsetCalUpdate_limit, fun _ _ _ => effect_bankGainUpdate⟩

end Sys2Proof.Machine

/-!
PROOF. Events of the PWM generator and of its trip inputs (R200–R222, R224), and the motion-domain halt with its release (R221, R222, R511,
R517): what each of them does case by case, and O30 and O31 from it.
-/

namespace Sys2Proof.Machine

/-! ### Answers of the PWM generator's events -/

theorem exec_tb1PeriodStart (n : Fin 4) (s : State) : exec (.tb1PeriodStart n) s = execTb1PeriodStart n s := rfl

theorem exec_compareValueArrival (l : Fin 192) (slope2 : Bool) (p r : Nat) (s : State) :
    exec (.compareValueArrival l slope2 p r) s = execCompareValueArrival l slope2 p r s := rfl

theorem exec_switchingSignalEdge (l : Fin 192) (slope2 : Bool) (s : State) :
    exec (.switchingSignalEdge l slope2) s = execSwitchingSignalEdge l slope2 s := rfl

theorem exec_reloadPoint (n : Fin 4) (tb1 : Bool) (s : State) : exec (.reloadPoint n tb1) s = execReloadPoint n tb1 s := rfl

theorem exec_deadTimeTurnOn (l : Fin 192) (s : State) : exec (.deadTimeTurnOn l) s = execDeadTimeTurnOn l s := rfl

theorem exec_minPulseEnd (l : Fin 192) (s : State) : exec (.minPulseEnd l) s = execMinPulseEnd l s := rfl

theorem exec_tripFilteredAssert (t : Fin 68) (s : State) : exec (.tripFilteredAssert t) s = execTripFilteredAssert t s := rfl

theorem exec_tripFilteredRelease (t : Fin 68) (s : State) : exec (.tripFilteredRelease t) s = execTripFilteredRelease t s := rfl

theorem exec_blankingEnd (t : Fin 68) (s : State) : exec (.blankingEnd t) s = execBlankingEnd t s := rfl

theorem exec_tripRearm (t : Fin 68) (s : State) : exec (.tripRearm t) s = execTripRearm t s := rfl

theorem exec_motionHalt (s : State) : exec .motionHalt s = execMotionHalt s := rfl

theorem exec_motionHaltRelease (s : State) : exec .motionHaltRelease s = execMotionHaltRelease s := rfl

/-! ### Timebases: period start and peak reload (R200, R207) -/

theorem effect_tb1PeriodStart {n : Fin 4} {s : State} (hr : Running s) (hrun : s.dev.pwm.halted = false)
    (htb1 : (s.dev.bank n).run1 = true) : Effect (.tb1PeriodStart n) s fun d => d.tb1Start n :=
  effect_of_onDev (exec_tb1PeriodStart n s) hr <| if_neg (by simp [hrun, htb1])

theorem effect_reloadPoint_tb0 {n : Fin 4} {s : State} (hr : Running s) (hrun : s.dev.pwm.halted = false)
    (hupdown : s.dev.fg (R.PWM_BANK_CFG n) F.PWM_BANK_CFG_MODE0 ≠ 1)
    (hpeak : s.dev.fb (R.PWM_BANK_CFG n) F.PWM_BANK_CFG_RPEAK0 = true) :
    Effect (.reloadPoint n false) s fun d => d.each ((d.bankLegs n false).filter d.switching) Dev.reload :=
  effect_of_onDev (exec_reloadPoint n false s) hr <| if_neg (by simp [hrun, hupdown, hpeak])

/-- TB1 goes by the configuration of its running period, which its last period start took over (R213). -/
theorem effect_reloadPoint_tb1 {n : Fin 4} {s : State} (hr : Running s) (hrun : s.dev.pwm.halted = false)
    (hupdown : (s.dev.bank n).mode1 ≠ 1) (hpeak : (s.dev.bank n).rpeak1 = 1) :
    Effect (.reloadPoint n true) s fun d => d.each ((d.bankLegs n true).filter d.switching) Dev.reload :=
  effect_of_onDev (exec_reloadPoint n true s) hr <| if_neg (by simp [hrun, hupdown, hpeak])

/-! ### A switching leg: compare values, edges of S, dead time and minimum pulse (R202–R206, R209–R212) -/

section
variable {l : Fin 192} {u : Bool} {p r c e : Nat} {rest : List Nat} {s : State} (hr : Running s)
  (hsw : s.dev.switching l = true)
include hr hsw

theorem effect_compareValueArrival (hissued : (s.dev.leg l).issued = c :: rest) :
    Effect (.compareValueArrival l u p r) s fun d =>
      ((d.modLeg l fun x => { x with issued := rest }).sampleArrive l).cmpArrive l c u p r :=
  effect_of_onDev (exec_compareValueArrival l u p r s) hr <| by
    rw [hissued]
    exact if_neg (by simp [hsw])

/-- The slope is the one the leg is in, so that the mark of its edge still counts (R203; assumption log 54). -/
theorem effect_switchingSignalEdge (hslope : s.dev.upMode l = false ∨ u = false)
    (hcur : (s.dev.leg l).slope2 = u) (hfirst : (s.dev.leg l).edged = false)
    (hpos : s.dev.edgePos l (s.dev.leg l).c u = some e) :
    Effect (.switchingSignalEdge l u) s fun d =>
      (d.sEdge l (!(d.upMode l || u)) (d.slopeStart l u + e)).modLeg l fun x => { x with edged := true } :=
  have hexists : ¬(!s.dev.switching l || (s.dev.upMode l && u)) = true := by
    obtain h | h := hslope <;> simp [hsw, h]
  effect_of_onDev (exec_switchingSignalEdge l u s) hr <| (if_neg hexists).trans <| by
    rw [if_pos hcur]
    dsimp only
    rw [hpos]
    exact if_neg (by simp [hfirst])

theorem effect_deadTimeTurnOn (hfree : (s.dev.leg l).held = none) : Effect (.deadTimeTurnOn l) s fun d => d.turnOn l :=
  effect_of_onDev (exec_deadTimeTurnOn l s) hr <| if_pos (by simp [hsw, hfree])

theorem effect_minPulseEnd : Effect (.minPulseEnd l) s fun d => d.minEnd l :=
  effect_of_onDev (exec_minPulseEnd l s) hr <| if_pos hsw

end

/-- Settles O30: each event by its own condition, a peak reload by which timebase reaches its peak. -/
theorem pwmEventsTakeEffect : Obligations.PwmEventsTakeEffect := by
  unfold Obligations.PwmEventsTakeEffect
  exact ⟨fun _ _ => effect_tb1PeriodStart, fun _ _ _ _ _ _ _ => effect_compareValueArrival,
    fun _ _ _ _ => effect_switchingSignalEdge, fun _ _ => effect_reloadPoint_tb0, fun _ _ => effect_reloadPoint_tb1,
    fun _ _ => effect_deadTimeTurnOn, fun _ _ => effect_minPulseEnd⟩

/-! ### Trip inputs (R216–R219) -/

theorem effect_tripFilteredAssert {t : Fin 68} {s : State} (hr : Running s)
    (hen : s.dev.fb (R.PWM_TRIP_CFG t) F.PWM_TRIP_CFG_EN = true)
    (hnew : s.dev.fb (R.PWM_TRIP_STATUS t) F.PWM_TRIP_STATUS_LEVEL = false) (hopen : (s.dev.trip t).blocked = false) :
    Effect (.tripFilteredAssert t) s fun d => (d.fsb (R.PWM_TRIP_STATUS t) F.PWM_TRIP_STATUS_LEVEL true).tripAct t :=
  effect_of_onDev (exec_tripFilteredAssert t s) hr <|
    (if_neg (by simp [hen, hnew, hopen])).trans (if_neg (by simp [hopen]))

theorem effect_tripFilteredRelease {t : Fin 68} {s : State} (hr : Running s) (hopen : (s.dev.trip t).blocked = false) :
    Effect (.tripFilteredRelease t) s fun d => d.fsb (R.PWM_TRIP_STATUS t) F.PWM_TRIP_STATUS_LEVEL false :=
  effect_of_onDev (exec_tripFilteredRelease t s) hr <| if_neg (by simp [hopen])

@[simp] theorem Dev.modTrip_tripFilt (d : Dev) (a : Nat) (g : Trip → Trip) (t : Nat) : (d.modTrip a g).tripFilt t = d.tripFilt t :=
  rfl

theorem effect_blankingEnd_acts {t : Fin 68} {s : State} (hr : Running s) (hblk : (s.dev.trip t).blocked = true)
    (hfilt : s.dev.tripFilt t = 0) (hlevel : s.dev.fb (R.PWM_TRIP_STATUS t) F.PWM_TRIP_STATUS_LEVEL = true)
    (hen : s.dev.fb (R.PWM_TRIP_CFG t) F.PWM_TRIP_CFG_EN = true) :
    Effect (.blankingEnd t) s fun d => (d.modTrip t fun x => { x with blocked := false }).tripAct t :=
  effect_of_onDev (exec_blankingEnd t s) hr <|
    (if_neg (by simp [hblk])).trans (if_pos (by simp [hfilt, hlevel, hen]))

theorem effect_tripRearm_inactive {t : Fin 68} {s : State} (hr : Running s)
    (hlevel : s.dev.fb (R.PWM_TRIP_STATUS t) F.PWM_TRIP_STATUS_LEVEL = false) :
    Effect (.tripRearm t) s fun d => d.unlatch t :=
  effect_of_onDev (exec_tripRearm t s) hr <| if_neg (by simp [hlevel])

theorem effect_tripRearm_active {t : Fin 68} {s : State} (hr : Running s)
    (hlevel : s.dev.fb (R.PWM_TRIP_STATUS t) F.PWM_TRIP_STATUS_LEVEL = true) : Effect (.tripRearm t) s fun d => d :=
  effect_of_onDev (exec_tripRearm t s) hr <| if_pos hlevel

/-! ### The motion-domain halt (R221, R222, R511, R517) -/

@[simp] theorem Dev.fb_raise (d : Dev) (n o : Nat) (f : Fld) : (d.raise n).fb o f = d.fb o f := rfl

@[simp] theorem Dev.firstActive_raise (d : Dev) (n : Nat) : (d.raise n).firstActive = d.firstActive := rfl

@[simp] theorem Dev.hostSwitching_raise (d : Dev) (n : Nat) : (d.raise n).hostSwitching = d.hostSwitching := rfl

section
variable {s : State} (hr : Running s) (hdap : s.dev.dapAt 2 = true)
include hr hdap

theorem effect_motionHalt_dozing (hdoze : s.dev.dozing = true) : Effect .motionHalt s fun d => (d.wakeEdge 41).haltRefuse :=
  effect_of_onDev (exec_motionHalt s) hr <| (if_neg (by simp [hdap])).trans (if_pos hdoze)

section
variable (hawake : s.dev.dozing = false)
include hawake

/-- Outside DOZE nothing but HALT_GUARD with something in motion refuses a halt, and the source 609 raised before changes neither. -/
theorem effect_motionHalt_granted (hfree : s.dev.fb R.DEBUG_CFG F.DEBUG_CFG_HALT_GUARD = false ∨
      (s.dev.firstActive = none ∧ s.dev.hostSwitching = false)) :
    Effect .motionHalt s fun d =>
      let d := ((d.raise 609).legsFrom .switching .frozen).bankFrozen true
      ({ d with pwm := { d.pwm with halted := true }, ce := { d.ce with stopped := true } } : Dev).fsb
        R.DEBUG_STATUS F.DEBUG_STATUS_MHALT true :=
  effect_of_onDev (exec_motionHalt s) hr <|
    (if_neg (by simp [hdap])).trans <| (if_neg (by simp [hawake])).trans <| if_neg <| by
      obtain hguard | ⟨hidle, hhost⟩ := hfree
      · simp [hguard]
      · simp [hidle, hhost]

theorem effect_motionHalt_guarded (hguard : s.dev.fb R.DEBUG_CFG F.DEBUG_CFG_HALT_GUARD = true)
    (hmoves : s.dev.firstActive.isSome = true ∨ s.dev.hostSwitching = true) :
    Effect .motionHalt s fun d => (d.raise 609).haltRefuse :=
  effect_of_onDev (exec_motionHalt s) hr <|
    (if_neg (by simp [hdap])).trans <| (if_neg (by simp [hawake])).trans <| if_pos (by simpa [hguard] using hmoves)

end

theorem effect_motionHaltRelease (hhalted : s.dev.pwm.halted = true) :
    Effect .motionHaltRelease s fun d =>
      let d := { d with pwm := { d.pwm with halted := false }, ce := { d.ce with stopped := false } }
      let d := d.each (List.range 4) fun d n => d.modBank n fun b => { b with cut := true }
      ((d.legsFrom .frozen .switching).bankFrozen false).fsb R.DEBUG_STATUS F.DEBUG_STATUS_MHALT false :=
  effect_of_onDev (exec_motionHaltRelease s) hr <| if_neg (by simp [hdap, hhalted])

end

/-- Settles O31: each event by its own condition, a halt by DOZE and HALT_GUARD. -/
theorem tripsAndHaltTakeEffect : Obligations.TripsAndHaltTakeEffect := by
  unfold Obligations.TripsAndHaltTakeEffect
  exact ⟨fun _ _ => effect_tripFilteredAssert, fun _ _ => effect_tripFilteredRelease, fun _ _ => effect_blankingEnd_acts,
    fun _ _ => effect_tripRearm_inactive, fun _ _ => effect_tripRearm_active,
    fun _ hr hdap hawake hguard => effect_motionHalt_granted hr hdap hawake (.inl hguard),
    fun _ hr hdap hawake hidle hhost => effect_motionHalt_granted hr hdap hawake (.inr ⟨hidle, hhost⟩),
    fun _ => effect_motionHalt_guarded, fun _ => effect_motionHalt_dozing, fun _ => effect_motionHaltRelease⟩

end Sys2Proof.Machine

/-!
PROOF. Events of the fix inputs, their records and the compare outputs (R239–R242, R244–R248, R251): what each of them does case by
case, and O33 from it.
-/

namespace Sys2Proof.Machine

/-! ### Answers of the fix inputs' and compare outputs' events -/

theorem exec_fixEvent (i : Fin 16) (rising : Bool) (stamp : Nat) (s : State) :
    exec (.fixEvent i rising stamp) s = execFixEvent i rising stamp s := rfl

theorem exec_fixRecordComplete (i : Fin 16) (s : State) : exec (.fixRecordComplete i) s = execFixRecordComplete i s := rfl

theorem exec_compareCounterFire (o : Fin 16) (s : State) : exec (.compareCounterFire o) s = execCompareCounterFire o s := rfl

theorem exec_comparePredictFire (o : Fin 16) (s : State) : exec (.comparePredictFire o) s = execComparePredictFire o s := rfl

theorem exec_pcoPulseEnd (o : Fin 16) (s : State) : exec (.pcoPulseEnd o) s = execPcoPulseEnd o s := rfl

/-! ### Edges at a fix input (R239, R240, R244, R251) -/

/-- An edge stamped `t` comes less than 20 ns after the last event of the fix input, as `execFixEvent` asks (R239). -/
def Dev.fixNear (d : Dev) (i t : Nat) : Bool :=
  match (d.fix i).last with
  | some l => t < l + 20
  | none => false

theorem Dev.fixNear_eq_true {d : Dev} {i t l : Nat} (hlast : (d.fix i).last = some l) (ht : t < l + 20) :
    d.fixNear i t = true := by
  unfold Dev.fixNear
  rw [hlast]
  exact decide_eq_true ht

theorem Dev.fixNear_eq_false {d : Dev} {i t : Nat} (hfar : ∀ l : Nat, (d.fix i).last = some l → l + 20 ≤ t) :
    d.fixNear i t = false := by
  unfold Dev.fixNear
  cases hlast : (d.fix i).last with
  | none => rfl
  | some l => exact decide_eq_false (Nat.not_lt.mpr (hfar l hlast))

section
variable {i : Fin 16} {up : Bool} {t u l : Nat} {s : State} (hr : Running s)
  (hen : s.dev.fb (R.FIX_CFG i) F.FIX_CFG_EN = true)
include hr hen

section
variable (hsrc : s.dev.fb (R.FIX_CFG i) F.FIX_CFG_SRC = false)
include hsrc

/-- The 20 ns after an event decide first, then the edge selection; only an edge beyond them is offered to the homing searches. -/
theorem effect_fixEvent_pin {f : Dev → Dev}
    (hf : (if s.dev.fixNear i t then
        (if s.dev.fixWants i up then s.dev.satInc (R.FIX_STATUS i) F.FIX_STATUS_MISSED else s.dev)
      else if s.dev.fixWants i up then (s.dev.homeEdge i up t).fixEvent i t else s.dev.homeEdge i up t) = f s.dev) :
    Effect (.fixEvent i up t) s f :=
  effect_of_onDev (exec_fixEvent i up t s) hr <|
    (if_neg (by simp [hen])).trans <| (if_neg (by simp [hsrc])).trans hf

section
variable (hfar : ∀ l : Nat, (s.dev.fix i).last = some l → l + 20 ≤ t)
include hfar

theorem effect_fixEvent_pin_admitted (hwant : s.dev.fixWants i up = true) :
    Effect (.fixEvent i up t) s fun d => (d.homeEdge i up t).fixEvent i t :=
  effect_fixEvent_pin hr hen hsrc <| by simp [Dev.fixNear_eq_false hfar, hwant]

theorem effect_fixEvent_pin_notAdmitted (hwant : s.dev.fixWants i up = false) :
    Effect (.fixEvent i up t) s fun d => d.homeEdge i up t :=
  effect_fixEvent_pin hr hen hsrc <| by simp [Dev.fixNear_eq_false hfar, hwant]

end

section
variable (hlast : (s.dev.fix i).last = some l) (hnear : t < l + 20)
include hlast hnear

theorem effect_fixEvent_pin_near_admitted (hwant : s.dev.fixWants i up = true) :
    Effect (.fixEvent i up t) s fun d => d.satInc (R.FIX_STATUS i) F.FIX_STATUS_MISSED :=
  effect_fixEvent_pin hr hen hsrc <| by simp [Dev.fixNear_eq_true hlast hnear, hwant]

theorem effect_fixEvent_pin_near_notAdmitted (hwant : s.dev.fixWants i up = false) :
    Effect (.fixEvent i up t) s fun d => d :=
  effect_fixEvent_pin hr hen hsrc <| by simp [Dev.fixNear_eq_true hlast hnear, hwant]

end

end

section
variable (hsrc : s.dev.fb (R.FIX_CFG i) F.FIX_CFG_SRC = true) (hpco : (s.dev.fix i).pco = some u)
include hsrc hpco

/-- The edge of the compare output is taken by either outcome, and its own stamp decides. -/
theorem effect_fixEvent_pco {f : Dev → Dev}
    (hf : (if s.dev.fixNear i u then
        (s.dev.modFix i fun x => { x with pco := none }).satInc (R.FIX_STATUS i) F.FIX_STATUS_MISSED
      else (s.dev.modFix i fun x => { x with pco := none }).fixEvent i u) = f s.dev) :
    Effect (.fixEvent i up t) s f :=
  effect_of_onDev (exec_fixEvent i up t s) hr <|
    (if_neg (by simp [hen])).trans <| (if_pos hsrc).trans <| by
      rw [hpco]
      exact hf

theorem effect_fixEvent_pco_event (hfar : ∀ l : Nat, (s.dev.fix i).last = some l → l + 20 ≤ u) :
    Effect (.fixEvent i up t) s fun d => (d.modFix i fun x => { x with pco := none }).fixEvent i u :=
  effect_fixEvent_pco hr hen hsrc hpco <| by simp [Dev.fixNear_eq_false hfar]

theorem effect_fixEvent_pco_near (hlast : (s.dev.fix i).last = some l) (hnear : u < l + 20) :
    Effect (.fixEvent i up t) s fun d =>
      (d.modFix i fun x => { x with pco := none }).satInc (R.FIX_STATUS i) F.FIX_STATUS_MISSED :=
  effect_fixEvent_pco hr hen hsrc hpco <| by simp [Dev.fixNear_eq_true hlast hnear]

end

end

/-! ### Completion of a fix record (R241, R242) -/

@[simp] theorem Dev.each_nil (d : Dev) (f : Dev → Nat → Dev) : d.each [] f = d := rfl

/-- What the record still needs are entries that no sample can fill: they are 0 and not valid. -/
theorem effect_fixRecordComplete {i : Fin 16} {l : List Nat} {s : State} (hr : Running s)
    (hforming : s.dev.fb (R.FIX_STATUS i) F.FIX_STATUS_FORMING = true) (hneed : (s.dev.fix i).need = l)
    (hdead : ∀ a : Nat, a ∈ l → s.dev.bound a = false ∨ s.dev.encMode (s.dev.portOf a) = 0) :
    Effect (.fixRecordComplete i) s fun d =>
      let d := d.each l fun d a => (d.wr64 (R.FIX_REC_POS i a) 0).setBit (R.FIX_REC_VALID i) a false
      ((d.modFix i fun x => { x with need := [] }).wrapInc (R.FIX_REC_HDR i) F.FIX_REC_HDR_SEQ |>.fsb
        (R.FIX_STATUS i) F.FIX_STATUS_FORMING false).raise (144 + i) := by
  subst hneed
  have hall : ((s.dev.fix i).need.all fun a => !(s.dev.bound a && s.dev.encMode (s.dev.portOf a) ≠ 0)) = true :=
    List.all_eq_true.mpr fun a ha => by
      obtain h | h := hdead a ha <;> simp [h]
  exact effect_of_onDev (exec_fixRecordComplete i s) hr <| if_pos (by rw [hforming, hall]; rfl)

theorem effect_fixRecordComplete_none {i : Fin 16} {s : State} (hr : Running s)
    (hforming : s.dev.fb (R.FIX_STATUS i) F.FIX_STATUS_FORMING = true) (hneed : (s.dev.fix i).need = []) :
    Effect (.fixRecordComplete i) s fun d =>
      ((d.modFix i fun x => { x with need := [] }).wrapInc (R.FIX_REC_HDR i) F.FIX_REC_HDR_SEQ |>.fsb
        (R.FIX_STATUS i) F.FIX_STATUS_FORMING false).raise (144 + i) := by
  simpa only [Dev.each_nil] using effect_fixRecordComplete hr hforming hneed fun _ ha => absurd ha List.not_mem_nil

/-! ### Firing of a compare output (R245–R248) -/

theorem effect_compareCounterFire {o : Fin 16} {s : State} (hr : Running s) (hon : s.dev.pcoOn o = true)
    (harmed : (s.dev.pco o).armed = true) (hsrc : s.dev.fb (R.PCO_CFG o) F.PCO_CFG_SRC = false)
    (hreached : s.dev.reached o (s.dev.pcoPos o) (s.dev.target o (s.dev.fg (R.PCO_STATUS o) F.PCO_STATUS_NEXT)) = true) :
    Effect (.compareCounterFire o) s fun d => d.pcoFire o :=
  effect_of_onDev (exec_compareCounterFire o s) hr <| if_pos (by simp [hon, harmed, hsrc, hreached])

theorem effect_comparePredictFire {o : Fin 16} {s : State} (hr : Running s) (hon : s.dev.pcoOn o = true)
    (harmed : (s.dev.pco o).armed = true) (hsrc : s.dev.fb (R.PCO_CFG o) F.PCO_CFG_SRC = true)
    (hpred : (s.dev.pco o).pred.isSome = true) : Effect (.comparePredictFire o) s fun d => d.pcoFire o :=
  effect_of_onDev (exec_comparePredictFire o s) hr <| if_pos (by simp [hon, harmed, hsrc, hpred])

theorem effect_pcoPulseEnd {o : Fin 16} {s : State} (hr : Running s) :
    Effect (.pcoPulseEnd o) s fun d => d.modPco o fun x => { x with active := false } :=
  effect_of_onDev (exec_pcoPulseEnd o s) hr rfl

section
variable {d : Dev} {o : Nat}

theorem Dev.pcoFire_inactive (hidle : (d.pco o).active = false) :
    d.pcoFire o = ((d.modPco o fun x => { x with active := true }).modFix o fun x => { x with pco := some d.ns }).pcoNextTarget o :=
  congrArg (Dev.pcoNextTarget · o) (if_neg (by simp [hidle]))

theorem Dev.pcoFire_active (hactive : (d.pco o).active = true) :
    d.pcoFire o = ((d.satInc (R.PCO_STATUS o) F.PCO_STATUS_OVERLAP).raise (160 + o)).pcoNextTarget o :=
  congrArg (Dev.pcoNextTarget · o) (if_pos hactive)

theorem Dev.pcoNextTarget_more (hmore : d.fg (R.PCO_STATUS o) F.PCO_STATUS_NEXT + 1 < d.targets o) :
    d.pcoNextTarget o =
      (d.fs (R.PCO_STATUS o) F.PCO_STATUS_NEXT (d.fg (R.PCO_STATUS o) F.PCO_STATUS_NEXT + 1)).pcoPredict o :=
  if_pos hmore

section
variable (hend : d.targets o ≤ d.fg (R.PCO_STATUS o) F.PCO_STATUS_NEXT + 1)
include hend

theorem Dev.pcoNextTarget_repeat (hrep : d.fb (R.PCO_CFG o) F.PCO_CFG_REPEAT = true) :
    d.pcoNextTarget o =
      (d.fs (R.PCO_STATUS o) F.PCO_STATUS_NEXT 0).modPco o fun x => { x with armed := false, back := true, pred := none } :=
  (if_neg (Nat.not_lt.mpr hend)).trans (if_pos hrep)

theorem Dev.pcoNextTarget_done (hrep : d.fb (R.PCO_CFG o) F.PCO_CFG_REPEAT = false) :
    d.pcoNextTarget o =
      ((d.modPco o fun x => { x with armed := false, pred := none }).fsb (R.PCO_STATUS o) F.PCO_STATUS_DONE true).raise (160 + o) :=
  (if_neg (Nat.not_lt.mpr hend)).trans (if_neg (by simp [hrep]))

end

end

/-- Settles O33: an edge by the 20 ns after the last event and the edge selection, a record by what it still needs, a firing by the pulse
and the targets left. -/
theorem fixAndCompareEventsTakeEffect : Obligations.FixAndCompareEventsTakeEffect := by
  unfold Obligations.FixAndCompareEventsTakeEffect
  exact ⟨fun _ _ _ _ hr hen hsrc hfirst => effect_fixEvent_pin_admitted hr hen hsrc (by simp [hfirst]),
    fun _ _ _ _ _ hr hen hsrc hlast hfar => effect_fixEvent_pin_admitted hr hen hsrc (by simpa [hlast] using hfar),
    fun _ _ _ _ => effect_fixEvent_pin_notAdmitted,
    fun _ _ _ _ _ => effect_fixEvent_pin_near_admitted,
    fun _ _ _ _ _ => effect_fixEvent_pin_near_notAdmitted,
    fun _ _ _ _ _ => effect_fixEvent_pco_event,
    fun _ _ _ _ _ _ => effect_fixEvent_pco_near,
    fun _ _ hr hforming hneed => effect_fixRecordComplete_none hr hforming hneed,
    fun _ _ _ => effect_fixRecordComplete,
    fun _ _ => effect_compareCounterFire, fun _ _ => effect_comparePredictFire,
    fun _ _ => Dev.pcoFire_inactive, fun _ _ => Dev.pcoFire_active,
    fun _ _ => Dev.pcoNextTarget_more, fun _ _ => Dev.pcoNextTarget_repeat, fun _ _ => Dev.pcoNextTarget_done,
    fun _ _ => effect_pcoPulseEnd⟩

end Sys2Proof.Machine

/-!
PROOF. The slot words of the Transit DSP (R296, R297, R300, R303–R309): a field of a word that is put together from its fields, and the
operation that the decoder reads back from an encoding.
-/

namespace Sys2Proof.Machine

/-! ### Fields of a slot word -/

theorem slotField_ofNat (n : Nat) {lo w : Nat} (h : lo + w ≤ 32) : slotField (BitVec.ofNat 32 n) lo w = n / 2 ^ lo % 2 ^ w := by
  unfold slotField
  rw [BitVec.toNat_ofNat, ← Nat.shiftRight_eq_div_pow, ← Nat.shiftRight_eq_div_pow]
  apply Nat.eq_of_testBit_eq
  intro i
  simp only [Nat.testBit_mod_two_pow, Nat.testBit_shiftRight]
  by_cases hi : i < w
  · simp [hi, show lo + i < 32 by omega]
  · simp [hi]

/-- What lies below a field does not change it. -/
theorem slotField_add_low {n t lo w : Nat} (h : lo + w ≤ 32) (ht : n % 2 ^ lo + t < 2 ^ lo) :
    slotField (BitVec.ofNat 32 (n + t)) lo w = slotField (BitVec.ofNat 32 n) lo w := by
  have hpos : 0 < 2 ^ lo := Nat.two_pow_pos lo
  have hdiv : (n + t) / 2 ^ lo = n / 2 ^ lo := by
    conv_lhs => rw [← Nat.div_add_mod n (2 ^ lo), Nat.add_assoc, Nat.mul_add_div hpos, Nat.div_eq_of_lt ht, Nat.add_zero]
  rw [slotField_ofNat _ h, slotField_ofNat _ h, hdiv]

/-- The lowest field of a sum reads back what was put into it. -/
theorem slotField_add_self {n v lo w : Nat} (h : lo + w ≤ 32) (hv : v < 2 ^ w) (hn : 2 ^ (lo + w) ∣ n) :
    slotField (BitVec.ofNat 32 (n + v * 2 ^ lo)) lo w = v := by
  obtain ⟨q, rfl⟩ := hn
  rw [slotField_ofNat _ h, Nat.add_mul_div_right _ _ (Nat.two_pow_pos _), Nat.pow_add, Nat.mul_assoc,
    Nat.mul_div_cancel_left _ (Nat.two_pow_pos _), Nat.mul_add_mod, Nat.mod_eq_of_lt hv]

theorem slotField_add_low_self {n v w : Nat} (h : w ≤ 32) (hv : v < 2 ^ w) (hn : 2 ^ w ∣ n) :
    slotField (BitVec.ofNat 32 (n + v)) 0 w = v := by
  simpa using slotField_add_self (lo := 0) (by omega) hv (by simpa using hn)

@[simp] theorem fin4_val (x : Fin 4) : fin4 x = x := Fin.ext (Nat.mod_eq_of_lt x.isLt)

@[simp] theorem fin8_val (x : Fin 8) : fin8 x = x := Fin.ext (Nat.mod_eq_of_lt x.isLt)

@[simp] theorem fin16_val (x : Fin 16) : fin16 x = x := Fin.ext (Nat.mod_eq_of_lt x.isLt)

@[simp] theorem fin32_val (x : Fin 32) : fin32 x = x := Fin.ext (Nat.mod_eq_of_lt x.isLt)

/-! ### Opcodes -/

/-- MOP, the opcode of an operation of slot M (R301). -/
def mopCode : MOp → Nat
  | .nop => 0x00
  | .mul k .. => mulCode k
  | .clr _ => 0x08
  | .acc k .. => accCode k
  | .sha .. => 0x0E
  | .lda .. => 0x0F
  | .alu k .. => aluCode k
  | .cmp .. => 0x14
  | .shift k .. => shiftCode k
  | .addi .. => 0x1B
  | .abs .. => 0x1E
  | .neg .. => 0x1F

/-- LOP, the opcode of an operation of slot L (R303–R309). -/
def lopCode : LOp → Nat
  | .nop => 0x00
  | .ld .. => 0x01
  | .st .. => 0x02
  | .ldd .. => 0x03
  | .mov .. => 0x04
  | .movi .. => 0x05
  | .movih .. => 0x06
  | .srset _ => 0x07
  | .srclr _ => 0x08
  | .br .. => 0x10
  | .call _ => 0x11
  | .ret => 0x12
  | .reti1 => 0x13
  | .reti2 => 0x14
  | .doI .. => 0x15
  | .dor .. => 0x16
  | .enddo .. => 0x17
  | .wait => 0x18
  | .tapd .. => 0x20

theorem mopCode_lt (o : MOp) : mopCode o < 32 := by
  cases o with
  | mul k | acc k | alu k | shift k => cases k <;> simp [mopCode, mulCode, accCode, aluCode, shiftCode]
  | _ => simp [mopCode]

theorem slotField_encM (o : MOp) : slotField (encM o) 26 6 = mopCode o := by
  have h := mopCode_lt o
  cases o <;> exact (slotField_ofNat _ (by decide)).trans (by simp only [mopCode] at h ⊢; omega)

theorem slotField_encL (o : LOp) : slotField (encL o) 26 6 = lopCode o := by
  cases o with
  | ld _ b | enddo b | tapd _ b =>
    have hb := b.toNat_lt
    exact (slotField_ofNat _ (by decide)).trans (by simp only [lopCode]; omega)
  | _ => exact (slotField_ofNat _ (by decide)).trans (by simp only [lopCode]; omega)

/-! ### Decoding an encoding (R297): the opcode names the operation, and its fields read back -/

theorem readM_encM (o : MOp) : readM (encM o) = some o := by
  cases o with
  | nop => simp only [readM, slotField_encM, mopCode]
  | mul k | acc k | alu k | shift k =>
    cases k <;> simp only [readM, slotField_encM, mopCode, mulCode, accCode, aluCode, shiftCode] <;>
      simp (disch := omega) only [encM, formMR, formMI, slotField_add_low_self, slotField_add_self, slotField_add_low] <;> simp
  | _ =>
    simp only [readM, slotField_encM, mopCode]
    simp (disch := omega) only [encM, formMR, formMI, slotField_add_low_self, slotField_add_self, slotField_add_low]
    simp

theorem readL_encL (o : LOp) : readL (encL o) = some o := by
  cases o with
  | nop | ret | reti1 | reti2 | wait => simp only [readL, slotField_encL, lopCode]
  | ld _ b | enddo b | tapd _ b =>
    have hb := b.toNat_lt
    simp only [readL, slotField_encL, lopCode]
    simp (disch := omega) only [encL, slotField_add_low_self, slotField_add_self, slotField_add_low]
    simp
  | _ =>
    simp only [readL, slotField_encL, lopCode]
    simp (disch := omega) only [encL, slotField_add_low_self, slotField_add_self, slotField_add_low]
    simp

@[simp] theorem decM_encM (o : MOp) : decM (encM o) = some o := by
  simp [decM, readM_encM]

@[simp] theorem decL_encL (o : LOp) : decL (encL o) = some o := by
  simp [decL, readL_encL]

end Sys2Proof.Machine

/-!
PROOF. The run of a bundle without a fault (R262, R264, R297, R300–R309), alone and through the window of the core I/O (R255–R258, R289,
R295, R342); O34, O35 and O36 from it.
-/

namespace Sys2Proof.Machine

/-! ### A bundle that issues (R262) -/

theorem Dev.tdIssue_encoded {d : Dev} {c : Nat} {mo : MOp} {lo : LOp}
    (hfree : (d.tdCommit c).tdFaultOf c (some mo) (some lo) = none) :
    d.tdIssue c (encM mo) (encL lo) = (d.tdCommit c).tdExec c mo lo := by
  simp only [Dev.tdIssue, decM_encM, decL_encL, hfree, Option.getD_some]

theorem Dev.tdRun_canIssue {d : Dev} {c : Nat} {mo : MOp} {lo : LOp} (h : CanIssue d c mo lo) :
    d.tdRun c (encM mo) (encL lo) = (d.tdCommit c).tdExec c mo lo := by
  obtain ⟨hrun, hwords, hfree⟩ := h
  rw [← Dev.tdIssue_encoded hfree]
  exact if_pos (by simp [hrun, hwords])

/-- The answer of a row that names one of the two operations and takes the other slot's word as it is. -/
theorem issues_of_tdRun {i : Instr} {c : Nat} {mo : MOp} {lo : LOp}
    (hi : ∀ s, exec i s = s.onDev fun d => d.tdRun c (encM mo) (encL lo)) : Issues i c mo lo :=
  fun s hr h => effect_of_onDev (hi s) hr (Dev.tdRun_canIssue h)

/-- Settles O34: by definition each row runs the bundle with the encoding of its operation in slot M. -/
theorem slotMBundlesIssue : Obligations.SlotMBundlesIssue := by
  unfold Obligations.SlotMBundlesIssue
  and_intros
  all_goals
    intros
    exact issues_of_tdRun fun _ => rfl

theorem exec_tdNop (c : Fin 4) (m l : Word) (s : State) : exec (.tdNop c m l) s = execTdNop c m l s := rfl

theorem issues_tdNop (c : Fin 4) : Issues (.tdNop c (encM .nop) (encL .nop)) c .nop .nop :=
  fun s hr h => effect_of_onDev (exec_tdNop c _ _ s) hr <| (if_pos (by simp [nopBundle])).trans (Dev.tdRun_canIssue h)

/-- Settles O35: by definition each row but NOP runs the bundle with the encoding of its operation in slot L. -/
theorem slotLBundlesIssue : Obligations.SlotLBundlesIssue := by
  unfold Obligations.SlotLBundlesIssue
  and_intros
  rotate_right
  · exact issues_tdNop
  all_goals
    intros
    exact issues_of_tdRun fun _ => rfl

/-! ### Loads and stores of the window (R255, R257, R289, R295, R342) -/

theorem exec_sevWrite (c : Fin 4) (m l : Word) (s : State) : exec (.sevWrite c m l) s = execSevWrite c m l s := rfl

theorem exec_evrClaimLoad (c : Fin 4) (m l : Word) (s : State) : exec (.evrClaimLoad c m l) s = execEvrClaimLoad c m l s := rfl

theorem exec_evrCompleteStore (c : Fin 4) (m l : Word) (s : State) :
    exec (.evrCompleteStore c m l) s = execEvrCompleteStore c m l s := rfl

theorem exec_hookPortStore (c : Fin 4) (m l : Word) (s : State) : exec (.hookPortStore c m l) s = execHookPortStore c m l s := rfl

theorem exec_timeLRead (c : Fin 4) (m l : Word) (s : State) : exec (.timeLRead c m l) s = execTimeLRead c m l s := rfl

theorem exec_encPosLowerLoad (c : Fin 4) (m l : Word) (s : State) :
    exec (.encPosLowerLoad c m l) s = execEncPosLowerLoad c m l s := rfl

/-- Settles O36: with the address that the row names, the row runs its bundle. -/
theorem windowBundlesIssue : Obligations.WindowBundlesIssue := by
  unfold Obligations.WindowBundlesIssue
  exact ⟨fun c _ _ s hr h ha => effect_of_onDev (exec_sevWrite c _ _ s) hr ((if_pos ha).trans (Dev.tdRun_canIssue h)),
    fun c _ _ s hr h ha => effect_of_onDev (exec_evrClaimLoad c _ _ s) hr ((if_pos ha).trans (Dev.tdRun_canIssue h)),
    fun c _ _ s hr h ha => effect_of_onDev (exec_evrCompleteStore c _ _ s) hr ((if_pos ha).trans (Dev.tdRun_canIssue h)),
    fun c _ _ s hr h ha => effect_of_onDev (exec_hookPortStore c _ _ s) hr ((if_pos ha).trans (Dev.tdRun_canIssue h)),
    fun c _ _ s hr h ha => effect_of_onDev (exec_timeLRead c _ _ s) hr ((if_pos ha).trans (Dev.tdRun_canIssue h)),
    fun c _ _ s hr h ha => effect_of_onDev (exec_encPosLowerLoad c _ _ s) hr ((if_pos ha).trans (Dev.tdRun_canIssue h))⟩

end Sys2Proof.Machine

/-!
PROOF. Triggers, level entries, the wake from WAIT and the debug commands of the Transit DSP cores (R277–R281, R285, R286, R288, R291,
R507): what each of them does case by case, and O38 from it.
-/

namespace Sys2Proof.Machine

/-! ### Answers of the cores' events -/

theorem exec_tickTrigger (c : Fin 4) (k : Fin 8) (s : State) : exec (.tickTrigger c k) s = execTickTrigger c k s := rfl

theorem exec_level1Entry (c : Fin 4) (s : State) : exec (.level1Entry c) s = execLevel1Entry c s := rfl

theorem exec_level2Entry (c : Fin 4) (s : State) : exec (.level2Entry c) s = execLevel2Entry c s := rfl

theorem exec_waitWake (c : Fin 4) (s : State) : exec (.waitWake c) s = execWaitWake c s := rfl

theorem exec_dapTdHalt (c : Fin 4) (s : State) : exec (.dapTdHalt c) s = execDapTdHalt c s := rfl

theorem exec_dapTdResume (c : Fin 4) (s : State) : exec (.dapTdResume c) s = execDapTdResume c s := rfl

theorem exec_dapTdStep (c : Fin 4) (s : State) : exec (.dapTdStep c) s = execDapTdStep c s := rfl

/-! ### Tick triggers (R285, R286) -/

/-- A due trigger comes to nothing, as `execTickTrigger` asks: it is disabled, its core neither runs nor waits, or the device dozes (R286). -/
def Dev.trigDrops (d : Dev) (c k : Nat) : Bool :=
  !d.fb (R.TD_TRIG c k) F.TD_TRIG_EN || !(d.tdState c = 2 || d.tdState c = 3) || d.fg R.PWR_STATUS F.PWR_STATUS_STATE = 2

theorem Dev.trigDrops_eq_true {d : Dev} {c k : Nat} (h : d.fb (R.TD_TRIG c k) F.TD_TRIG_EN = false ∨ d.tdState c < 2 ∨
    3 < d.tdState c ∨ d.fg R.PWR_STATUS F.PWR_STATUS_STATE = 2) : d.trigDrops c k = true := by
  have hstate : d.tdState c < 2 ∨ 3 < d.tdState c → ¬ (d.tdState c = 2 ∨ d.tdState c = 3) := by omega
  simp only [Dev.trigDrops, Bool.or_eq_true, Bool.not_eq_true', Bool.or_eq_false_iff, decide_eq_true_eq, decide_eq_false_iff_not]
  tauto

theorem Dev.trigDrops_eq_false {d : Dev} {c k : Nat} (hen : d.fb (R.TD_TRIG c k) F.TD_TRIG_EN = true)
    (hst : d.tdState c = 2 ∨ d.tdState c = 3) (hawake : d.fg R.PWR_STATUS F.PWR_STATUS_STATE ≠ 2) : d.trigDrops c k = false := by
  obtain hst | hst := hst <;> simp [Dev.trigDrops, hen, hst, hawake]

section
variable {c : Fin 4} {k : Fin 8} {s : State} (hr : Running s) (hdue : (s.dev.core c).trigDue.contains k.val = true)
include hr hdue

/-- A due trigger is due no longer, whatever becomes of it. -/
theorem effect_tickTrigger {f : Dev → Dev}
    (hf : (let d := s.dev.modCore c fun x => { x with trigDue := x.trigDue.filter (· ≠ k.val) }
      if s.dev.trigDrops c k then d
      else if s.dev.bit (R.TD_TRIG_STATUS c) k then
        (d.satInc (R.TD_TRIG_STATUS c) F.TD_TRIG_STATUS_OVR_COUNT).setFlag (R.TD_FAULT c) F.TD_FAULT_TRIG_OVR.lo (337 + 4 * c)
      else d.setBit (R.TD_TRIG_STATUS c) k true) = f s.dev) :
    Effect (.tickTrigger c k) s f :=
  effect_of_onDev (exec_tickTrigger c k s) hr <| (if_neg (by rw [hdue]; decide)).trans hf

theorem effect_tickTrigger_dropped (hdrop : s.dev.fb (R.TD_TRIG c k) F.TD_TRIG_EN = false ∨ s.dev.tdState c < 2 ∨
      3 < s.dev.tdState c ∨ s.dev.fg R.PWR_STATUS F.PWR_STATUS_STATE = 2) :
    Effect (.tickTrigger c k) s fun d => d.modCore c fun x => { x with trigDue := x.trigDue.filter (· ≠ k.val) } :=
  effect_tickTrigger hr hdue <| if_pos (Dev.trigDrops_eq_true hdrop)

section
variable (hen : s.dev.fb (R.TD_TRIG c k) F.TD_TRIG_EN = true) (hst : s.dev.tdState c = 2 ∨ s.dev.tdState c = 3)
  (hawake : s.dev.fg R.PWR_STATUS F.PWR_STATUS_STATE ≠ 2)
include hen hst hawake

theorem effect_tickTrigger_first (hfree : s.dev.bit (R.TD_TRIG_STATUS c) k = false) :
    Effect (.tickTrigger c k) s fun d =>
      (d.modCore c fun x => { x with trigDue := x.trigDue.filter (· ≠ k.val) }).setBit (R.TD_TRIG_STATUS c) k true :=
  effect_tickTrigger hr hdue <| by simp only [Dev.trigDrops_eq_false hen hst hawake, hfree, Bool.false_eq_true, if_false]

theorem effect_tickTrigger_overrun (hpend : s.dev.bit (R.TD_TRIG_STATUS c) k = true) :
    Effect (.tickTrigger c k) s fun d =>
      ((d.modCore c fun x => { x with trigDue := x.trigDue.filter (· ≠ k.val) }).satInc
          (R.TD_TRIG_STATUS c) F.TD_TRIG_STATUS_OVR_COUNT).setFlag (R.TD_FAULT c) F.TD_FAULT_TRIG_OVR.lo (337 + 4 * c) :=
  effect_tickTrigger hr hdue <| by simp only [Dev.trigDrops_eq_false hen hst hawake, hpend, Bool.false_eq_true, if_false, if_true]

end

end

/-! ### Level entries and the wake from WAIT (R277–R280, R288) -/

section
variable {c : Fin 4} {cause : Nat} {s : State} (hr : Running s)
include hr

theorem effect_level1Entry (hmay : s.dev.mayEnter c = true) (hreq : s.dev.request1 c = some cause)
    (hlvl : ((s.dev.core c).commit (s.dev.core c).cyc).lvl = 0)
    (hie : (((s.dev.core c).commit (s.dev.core c).cyc).reg (kSR ((s.dev.core c).commit (s.dev.core c).cyc).shadow)).getLsbD 28 = true) :
    Effect (.level1Entry c) s fun d => d.enter1 c cause :=
  effect_of_onDev (exec_level1Entry c s) hr <| by
    rw [hreq]
    exact if_pos (by simp [hmay, hlvl, hie])

section
variable (hmay : s.dev.mayEnter c = true) (hlvl : ((s.dev.core c).commit (s.dev.core c).cyc).lvl < 2)
include hmay hlvl

theorem effect_level2Entry_trap (haov : ((s.dev.core c).commit (s.dev.core c).cyc).aov = true) :
    Effect (.level2Entry c) s fun d => d.enter2 c 0xFE 0x20 :=
  effect_of_onDev (exec_level2Entry c s) hr <| (if_neg (by simp [hmay, hlvl])).trans (if_pos haov)

theorem effect_level2Entry_request (haov : ((s.dev.core c).commit (s.dev.core c).cyc).aov = false)
    (hreq : s.dev.request2 c = some cause)
    (hie : (((s.dev.core c).commit (s.dev.core c).cyc).reg (kSR ((s.dev.core c).commit (s.dev.core c).cyc).shadow)).getLsbD 29 = true) :
    Effect (.level2Entry c) s fun d => d.enter2 c cause 0x40 :=
  effect_of_onDev (exec_level2Entry c s) hr <|
    (if_neg (by simp [hmay, hlvl])).trans <| (if_neg (ne_true_of_eq_false haov)).trans <| by
      rw [hreq]
      exact if_pos hie

end

theorem effect_waitWake (hst : s.dev.tdState c = 3) (hawake : s.dev.dozing = false) (hreq : s.dev.anyRequest c = true) :
    Effect (.waitWake c) s fun d => (((d.tdGap c).modCore c fun k => k.refill k.f0.addr).setTdState c 2).tdSync c :=
  effect_of_onDev (exec_waitWake c s) hr <| if_pos (by simp [hst, hawake, hreq])

end

/-! ### Debug commands (R291, R507, R517) -/

theorem Dev.dapTd_awake {d : Dev} {f : Dev → Dev} (hdap : d.dapAt 2 = true) (hawake : d.dozing = false) : d.dapTd f = f d :=
  (if_neg (by simp [hdap])).trans (if_neg (ne_true_of_eq_false hawake))

section
variable {c : Fin 4} {s : State} (hr : Running s) (hdap : s.dev.dapAt 2 = true) (hawake : s.dev.dozing = false)
include hr hdap hawake

theorem effect_dapTdHalt (hst : s.dev.tdState c = 2 ∨ s.dev.tdState c = 3) : Effect (.dapTdHalt c) s fun d => d.tdHalt c :=
  effect_of_onDev (exec_dapTdHalt c s) hr <| (Dev.dapTd_awake hdap hawake).trans <| if_pos (by simp [hst])

section
variable (hst : s.dev.tdState c = 1) (hhalted : (s.dev.core c).halted = true)
include hst hhalted

theorem effect_dapTdResume : Effect (.dapTdResume c) s fun d => d.tdResume c :=
  effect_of_onDev (exec_dapTdResume c s) hr <| (Dev.dapTd_awake hdap hawake).trans <| if_pos (by simp [hst, hhalted])

theorem effect_dapTdStep : Effect (.dapTdStep c) s fun d =>
    let d := (d.tdResume c).modCore c fun k => { k with haltReq := true }
    let b := d.bundle c (d.core c).f0.addr
    d.tdIssue c b.1 b.2 :=
  effect_of_onDev (exec_dapTdStep c s) hr <| (Dev.dapTd_awake hdap hawake).trans <| if_pos (by simp [hst, hhalted])

end

end

/-- Settles O38: a trigger by its enable, its core and its pending bit, an entry by its request, and a debug command by the core's state.
A step that meets no eligible bundle at once leaves the halt pending (assumption log 29). -/
theorem coreEntriesAndWakesTakeEffect : Obligations.CoreEntriesAndWakesTakeEffect := by
  unfold Obligations.CoreEntriesAndWakesTakeEffect
  exact ⟨fun _ _ _ => effect_tickTrigger_first, fun _ _ _ => effect_tickTrigger_overrun, fun _ _ _ => effect_tickTrigger_dropped,
    fun _ _ _ => effect_level1Entry, fun _ _ _ => effect_level2Entry_request, fun _ _ => effect_level2Entry_trap,
    fun _ _ => effect_waitWake, fun _ _ => effect_dapTdHalt, fun _ _ => effect_dapTdResume, fun _ _ => effect_dapTdStep⟩

end Sys2Proof.Machine

/-!
PROOF. Operands of the Transit DSP: pointers in circular buffers (R266, R267) and stores of accumulators (R274); O53 and O54 from them.
-/

namespace Sys2Proof.Machine

/-! ### Pointer updates (R266, R267) -/

/-- The rule of R267 in one remainder modulo 2^16: a position in the buffer is never negative. -/
theorem ptrAdd_eq (p l b : Nat) (δ : Int) : ptrAdd p l b δ =
    if l = 0 then (((p : Int) + δ) % 65536).toNat else (((b : Int) + ((p : Int) - b + δ) % (l : Int)) % 65536).toNat := by
  unfold ptrAdd
  split_ifs with hl
  · rfl
  · have hpos : 0 ≤ ((p : Int) - b + δ) % (l : Int) := Int.emod_nonneg _ (by omega)
    omega

theorem Core.ptrWrites_updating (k : Core) (i n v : Nat) {am : Nat} (h0 : am ≠ 0) (h6 : am ≠ 6) :
    k.ptrWrites i am n v = [{ due := i + 2, key := tdKey k.shadow (0x20 + n), mask := 0xFFFF, val := BitVec.ofNat 72 v }] :=
  if_neg (by simp [h0, h6])

/-- Settles O53: each mode changes its pointer by `ptrAdd`, which is the rule of R267. -/
theorem circularPointersWrap : Obligations.CircularPointersWrap := by
  unfold Obligations.CircularPointersWrap
  intro k t i n v off p upd
  have hupd (δ : Int) : upd δ = ptrAdd p (k.len t n) (k.base t n) δ := (ptrAdd_eq p (k.len t n) (k.base t n) δ).symm
  simp only [hupd]
  refine ⟨?remainder, rfl, rfl, rfl, rfl, rfl, ?writes⟩
  case remainder => exact fun δ hl => ⟨Int.emod_nonneg _ (by omega), Int.emod_lt_of_pos _ (by omega)⟩
  case writes => exact fun am h1 h5 => k.ptrWrites_updating i n v (by omega) (by omega)

/-! ### Rounding and holding in a range -/

/-- A rounded quotient is the nearest one, and the even one on a tie. -/
theorem roundDiv_nearest (a : Int) {b : Nat} (hb : 0 < b) :
    2 * (a - roundDiv a b * b).natAbs ≤ b ∧ (2 * (a - roundDiv a b * b).natAbs = b → roundDiv a b % 2 = 0) := by
  have hpos : (0 : Int) < b := Int.natCast_pos.mpr hb
  have hlow : 0 ≤ a % b := Int.emod_nonneg _ hpos.ne'
  have hhigh : a % b < b := Int.emod_lt_of_pos _ hpos
  have hdown : a - Int.fdiv a b * b = a % b := by
    rw [Int.fdiv_eq_ediv_of_nonneg a hpos.le, Int.mul_comm, ← Int.emod_def]
  have hup : a - (Int.fdiv a b + 1) * b = a % b - b := by
    rw [Int.add_mul, one_mul]
    omega
  unfold roundDiv
  extract_lets q r
  have hr : r = a % b := hdown
  split_ifs
  · rw [hdown]; omega
  · rw [hup]; omega
  · rw [hdown]; omega
  · rw [hup]; omega

theorem toInt_ofInt_clampI {n : Nat} (x : Int) (hn : 0 < n) :
    (BitVec.ofInt n (clampI (-(2 ^ (n - 1))) (2 ^ (n - 1) - 1) x)).toInt = clampI (-(2 ^ (n - 1))) (2 ^ (n - 1) - 1) x := by
  have hpos : (0 : Int) < 2 ^ (n - 1) := by positivity
  obtain ⟨hlo, hhi⟩ := Set.mem_Icc.mp (clampI_mem_Icc x (by omega : -(2 ^ (n - 1) : Int) ≤ 2 ^ (n - 1) - 1))
  exact BitVec.toInt_ofInt_eq_self hn hlo (by omega)

theorem clampI_ne_iff {lo hi x : Int} : clampI lo hi x ≠ x ↔ x < lo ∨ hi < x := by
  unfold clampI
  split_ifs <;> omega

/-! ### Stores of accumulators (R274) -/

theorem Core.source_convPlain {k look : Core} {i c : Nat} (hc : isConv c = true)
    (hsmm : (k.see (i + 2) (kSR k.shadow)).getLsbD 31 = false) :
    k.source look i c = (if (convPlain (k.accI false i (c - 0x1C))).2 then
      [{ due := i + 4, key := kSR k.shadow, mask := srBit 6, val := srBit 6 }] else [], (convPlain (k.accI false i (c - 0x1C))).1) :=
  (if_pos hc).trans (if_neg (ne_true_of_eq_false hsmm))

theorem isLate_of_isConv {c : Nat} (hc : isConv c = true) : isLate c = false := by
  simp only [isConv, isLate, Bool.and_eq_true, Bool.and_eq_false_iff, decide_eq_true_eq, decide_eq_false_iff_not] at *
  omega

/-- A store whose register is read in EX1 writes its word at its address. -/
theorem Dev.tdRunL_st {d : Dev} {k look : Core} {c i a p : Nat} {reg : BitVec 7} {am pn : Fin 8} {off : BitVec 6}
    (haddr : k.addr (i + 1) am pn off = some (a, p)) (hlate : isLate reg.toNat = false) :
    d.tdRunL c i k look (.st reg am pn off) =
      (d.tdStore c i a (k.source look i reg.toNat).2, k.ptrWrites i am pn p ++ (k.source look i reg.toNat).1) := by
  simp only [Dev.tdRunL, haddr, hlate, Bool.false_eq_true, if_false]

/-- Settles O54: the word is the rounded quotient of the accumulator by 2^32, held to the range, and SAT tells whether it was held. -/
theorem accumulatorStoresRoundAndSaturate : Obligations.AccumulatorStoresRoundAndSaturate := by
  unfold Obligations.AccumulatorStoresRoundAndSaturate
  intro k look d c i a p reg am pn off hconv hsmm haddr
  obtain ⟨hnear, htie⟩ := roundDiv_nearest (k.accI false i (reg.toNat - 0x1C)) (Nat.two_pow_pos 32)
  refine ⟨⟨roundDiv (k.accI false i (reg.toNat - 0x1C)) (2 ^ 32), hnear, htie, ?word, ?sat⟩,
    Dev.tdRunL_st haddr (isLate_of_isConv hconv)⟩
  all_goals rw [Core.source_convPlain hconv hsmm]
  case word => exact toInt_ofInt_clampI (n := 32) _ (by decide)
  case sat => simp only [convPlain, decide_eq_true_eq, clampI_ne_iff]

end Sys2Proof.Machine

/-!
PROOF. Results and flags of slot M (R275, R301, R302): the flags of a word from its value, group by group, and O55 from them.
-/

namespace Sys2Proof.Machine

/-! ### Flags of a word -/

/-- N and Z as a result shows them, with the V and the C that come with it. -/
def TdFlags.ofWord (r : Word) (v : Bool) (c : Option Bool) : TdFlags :=
  { n := decide (2 ^ 31 ≤ r.toNat), z := decide (r.toNat = 0), v := v, c := c }

/-- A value lies outside the signed range of a word. -/
def outOfWord (x : Int) : Bool := decide (x < -(2 ^ 31) ∨ 2 ^ 31 - 1 < x)

theorem TdFlags.eq_ofWord (r : Word) (v : Bool) (c : Option Bool) :
    ({ n := r.msb, z := r == 0, v := v, c := c } : TdFlags) = TdFlags.ofWord r v c := by
  have hz : (r == 0) = decide (r.toNat = 0) := by
    rw [Bool.eq_iff_iff, beq_iff_eq, decide_eq_true_eq, ← BitVec.toNat_inj]
    rfl
  rw [hz, BitVec.msb_eq_decide, TdFlags.ofWord]

/-! ### Sums and differences modulo 2^32 -/

theorem overflow_add_eq (a b : Word) : (a.msb == b.msb && (a + b).msb != a.msb) = outOfWord (a.toInt + b.toInt) := by
  rw [bne, ← BitVec.saddOverflow_eq, BitVec.saddOverflow, ← Bool.decide_or, outOfWord, decide_eq_decide]
  omega

theorem overflow_sub_eq (a b : Word) : (a.msb != b.msb && (a - b).msb != a.msb) = outOfWord (a.toInt - b.toInt) := by
  have hover : (a.msb != b.msb && (a - b).msb != a.msb) = a.ssubOverflow b := by
    rw [BitVec.ssubOverflow_eq]
    cases a.msb <;> cases b.msb <;> cases (a - b).msb <;> rfl
  rw [hover, BitVec.ssubOverflow, ← Bool.decide_or, outOfWord, decide_eq_decide]
  omega

theorem flagsAdd_eq (a b : Word) :
    flagsAdd a b = TdFlags.ofWord (a + b) (outOfWord (a.toInt + b.toInt)) (some (decide (2 ^ 32 ≤ a.toNat + b.toNat))) := by
  rw [← overflow_add_eq, ← TdFlags.eq_ofWord, flagsAdd]

theorem flagsSub_eq (a b : Word) :
    flagsSub a b = TdFlags.ofWord (a - b) (outOfWord (a.toInt - b.toInt)) (some (decide (b.toNat ≤ a.toNat))) := by
  rw [← overflow_sub_eq, ← TdFlags.eq_ofWord, flagsSub]

/-! ### Results held in a range -/

theorem toInt_sat32 (x : Int) : (sat32 x).1.toInt = clampI (-(2 ^ 31)) (2 ^ 31 - 1) x := toInt_ofInt_clampI (n := 32) x (by decide)

theorem flagsSat_sat32 (x : Int) : flagsSat (sat32 x) = TdFlags.ofWord (sat32 x).1 (outOfWord x) none := by
  have hv : (sat32 x).2 = outOfWord x := decide_eq_decide.mpr clampI_ne_iff
  rw [← hv, ← TdFlags.eq_ofWord, flagsSat]

theorem toInt_accSat (x : Int) : (accSat x).1.toInt = clampI (-(2 ^ 71)) (2 ^ 71 - 1) x := toInt_ofInt_clampI (n := 72) x (by decide)

/-- A value keeps its sign when it is held in a range about 0, and only 0 is held to 0. -/
theorem clampI_sign {lo hi : Int} (x : Int) (hlo : lo < 0) (hhi : 0 < hi) :
    (clampI lo hi x < 0 ↔ x < 0) ∧ (clampI lo hi x = 0 ↔ x = 0) := by
  unfold clampI
  split_ifs <;> omega

theorem flagsAcc_accSat (x : Int) : flagsAcc (accSat x) =
    { n := decide (x < 0), z := decide (x = 0), v := decide (x < -(2 ^ 71) ∨ 2 ^ 71 - 1 < x), c := none } := by
  obtain ⟨hsign, hzero⟩ := clampI_sign (lo := -(2 ^ 71)) (hi := 2 ^ 71 - 1) x (by decide) (by decide)
  have hn : (accSat x).1.msb = decide (x < 0) := by
    rw [BitVec.msb_eq_toInt, toInt_accSat, decide_eq_decide]
    exact hsign
  have hz : ((accSat x).1 == 0) = decide (x = 0) := by
    rw [Bool.eq_iff_iff, beq_iff_eq, decide_eq_true_eq, ← BitVec.toInt_inj, toInt_accSat]
    exact hzero
  have hv : (accSat x).2 = decide (x < -(2 ^ 71) ∨ 2 ^ 71 - 1 < x) := decide_eq_decide.mpr clampI_ne_iff
  rw [flagsAcc, hn, hz, hv]

/-! ### Choices and shifts -/

theorem flagsLogic_eq (r : Word) : flagsLogic r = TdFlags.ofWord r false none := TdFlags.eq_ofWord r false none

theorem toInt_smaller (a b : Word) : (if a.toInt ≤ b.toInt then a else b).toInt = min a.toInt b.toInt := by
  rw [apply_ite BitVec.toInt, min_def]

theorem toInt_larger (a b : Word) : (if a.toInt ≤ b.toInt then b else a).toInt = max a.toInt b.toInt := by
  rw [apply_ite BitVec.toInt, max_def]

theorem shiftedOut_eq (a : Word) (n j : Nat) :
    (decide (n ≠ 0) && a.getLsbD j) = decide (n ≠ 0 ∧ a.toNat / 2 ^ j % 2 = 1) := by
  rw [Bool.decide_and, ← BitVec.testBit_toNat, Nat.testBit_eq_decide_div_mod_eq]

theorem flagsRight_eq (a r : Word) (n : Nat) :
    flagsRight a r n = TdFlags.ofWord r false (some (decide (n ≠ 0 ∧ a.toNat / 2 ^ (n - 1) % 2 = 1))) := by
  rw [← shiftedOut_eq, ← TdFlags.eq_ofWord, flagsRight]

theorem flagsLeft_eq (a r : Word) (n : Nat) :
    flagsLeft a r n = TdFlags.ofWord r false (some (decide (n ≠ 0 ∧ a.toNat / 2 ^ (32 - n) % 2 = 1))) := by
  rw [← shiftedOut_eq, ← TdFlags.eq_ofWord, flagsLeft]

/-- Settles O55: each result by its arithmetic, each set of flags by its group. -/
theorem arithmeticResultsAndFlags : Obligations.ArithmeticResultsAndFlags := by
  unfold Obligations.ArithmeticResultsAndFlags
  intro k i rd ra rb imm n a b ua ub out held has
  refine ⟨⟨BitVec.toNat_add _ _, flagsAdd_eq _ _⟩, ?addi, ⟨?sub, flagsSub_eq _ _⟩, rfl, rfl,
    ⟨toInt_sat32 _, flagsSat_sat32 _⟩, ⟨toInt_sat32 _, flagsSat_sat32 _⟩, ⟨toInt_sat32 _, flagsSat_sat32 _⟩,
    ⟨toInt_sat32 _, flagsSat_sat32 _⟩, ⟨toInt_smaller _ _, flagsLogic_eq _⟩, ⟨toInt_larger _ _, flagsLogic_eq _⟩,
    ⟨?asr, flagsRight_eq _ _ _⟩, ⟨?lsr, flagsRight_eq _ _ _⟩, ⟨?lsl, flagsLeft_eq _ _ _⟩,
    fun x => ⟨toInt_accSat x, flagsAcc_accSat x⟩⟩
  case addi =>
    have himm : (imm.signExtend 32).toInt = imm.toInt := BitVec.toInt_signExtend_of_le (by decide)
    rw [← himm]
    exact ⟨BitVec.toInt_add _ _, flagsAdd_eq _ _⟩
  case sub =>
    have hub : ub < 2 ^ 32 := (k.dreg i rb).isLt
    exact (BitVec.toNat_sub _ _).trans (congrArg (· % 2 ^ 32) (by omega))
  case asr => exact BitVec.toInt_sshiftRight.trans (Int.shiftRight_eq_div_pow _ _)
  case lsr => exact (BitVec.toNat_ushiftRight _ _).trans (Nat.shiftRight_eq_div_pow _ _)
  case lsl => exact BitVec.toNat_shiftLeft.trans (congrArg (· % 2 ^ 32) (Nat.shiftLeft_eq _ _))

end Sys2Proof.Machine

/-!
PROOF. The words that are no encoding (R297, R300, R301, R303–R309): a slot word decodes to an operation exactly when it is that
operation's encoding, so its opcode is one that an operation has; O52 from it.
-/

namespace Sys2Proof.Machine

/-! ### The words that decode (R297) -/

theorem eq_encM_of_decM {w : Word} {o : MOp} (h : decM w = some o) : w = encM o := by
  obtain ⟨-, henc⟩ := Option.filter_eq_some_iff.mp h
  exact (of_decide_eq_true henc).symm

theorem eq_encL_of_decL {w : Word} {o : LOp} (h : decL w = some o) : w = encL o := by
  obtain ⟨-, henc⟩ := Option.filter_eq_some_iff.mp h
  exact (of_decide_eq_true henc).symm

/-! ### Reserved opcodes of slot M (R301) -/

/-- MOP 7 stands between the products (1 to 6) and CLR (8), and is reserved. -/
theorem mopCode_ne_seven (o : MOp) : mopCode o ≠ 7 := by
  cases o with
  | mul k | acc k | alu k | shift k => cases k <;> simp [mopCode, mulCode, accCode, aluCode, shiftCode]
  | _ => simp [mopCode]

theorem slotField_opcode (w : Word) : slotField w 26 6 = w.toNat / 2 ^ 26 := Nat.mod_eq_of_lt (by omega)

theorem decM_reserved {w : Word} (h : 32 ≤ w.toNat / 2 ^ 26 ∨ w.toNat / 2 ^ 26 = 7) : decM w = none := by
  rw [Option.eq_none_iff_forall_ne_some]
  intro o hdec
  have hcode : w.toNat / 2 ^ 26 = mopCode o := by
    rw [← slotField_opcode, eq_encM_of_decM hdec, slotField_encM]
  rw [hcode] at h
  exact h.elim (Nat.not_le_of_lt (mopCode_lt o)) (mopCode_ne_seven o)

/-- Settles O52: an encoding's fields read back, a decoded word passed the comparison with its encoding, and no operation has a
reserved opcode. -/
theorem tdspSlotWordsRoundTrip : Obligations.TdspSlotWordsRoundTrip := by
  unfold Obligations.TdspSlotWordsRoundTrip
  exact ⟨decM_encM, decL_encL, fun _ _ => eq_encM_of_decM, fun _ _ => eq_encL_of_decL, fun _ => decM_reserved⟩

end Sys2Proof.Machine

/-!
PROOF. The form of every command's answer (R492–R494): an operation of the motion die, which does nothing while the die is held in reset, or
one of the island, a field die, a safety channel or a reset, which acts always; O1, O2, O5, O6, O7 and O51 from it.
-/

namespace Sys2Proof.Machine

/-! ### Host writes are operations of the motion die -/

/-- The state after an operation of the motion die. -/
theorem Out.after_onDev (s : State) (f : Dev → Dev) :
    Out.after (s.onDev f) s = { s with dev := if s.dev.heldInReset then s.dev else f s.dev } := rfl

/-- Whichever register a 32-bit host write addresses, it acts as an operation of the motion die. -/
theorem State.hostWord_eq_after (s : State) (o : Nat) (w : Word) : ∃ f : Dev → Dev, s.hostWord o w = Out.after (s.onDev f) s := by
  fun_cases State.hostWord s o w
  all_goals exact ⟨_, rfl⟩

/-- An operation of the motion die after another one: the first may be a reset, after which the island may hold the die. -/
theorem State.onDev_after_onDev (s : State) (f g : Dev → Dev) :
    (Out.after (s.onDev f) s).onDev g = s.onDev fun d => if (f d).heldInReset then f d else g (f d) := by
  rw [Out.after_onDev]
  by_cases h : s.dev.heldInReset = true <;> simp [State.onDev, State.onAll, h]

theorem State.next_eq_onDev (s : State) : (.next s : Out) = s.onDev id := by
  simp [State.onDev, State.onAll]

theorem State.next_hostWord_eq_onDev (s : State) (o : Nat) (w : Word) : ∃ f : Dev → Dev, (.next (s.hostWord o w) : Out) = s.onDev f := by
  obtain ⟨f, hf⟩ := s.hostWord_eq_after o w
  exact ⟨f, by rw [hf, State.onDev, State.onAll, Out.after]⟩

theorem State.hostWord_onDev_eq_onDev (s : State) (o : Nat) (w : Word) (g : Dev → Dev) :
    ∃ f : Dev → Dev, (s.hostWord o w).onDev g = s.onDev f := by
  obtain ⟨f, hf⟩ := s.hostWord_eq_after o w
  exact ⟨_, by rw [hf, State.onDev_after_onDev]⟩

theorem execHostRegisterWrite_eq_onDev (x : HostWrite) (s : State) : ∃ f : Dev → Dev, execHostRegisterWrite x s = s.onDev f := by
  cases x with
  | w32 o w | clash o w held =>
    simp only [execHostRegisterWrite]
    split
    · exact s.next_hostWord_eq_onDev o _
    · exact ⟨_, s.next_eq_onDev⟩
  | w64 o lo hi =>
    simp only [execHostRegisterWrite]
    split
    · obtain ⟨g, hg⟩ := (s.hostWord o lo).next_hostWord_eq_onDev (o + 4) hi
      rw [hg]
      exact s.hostWord_onDev_eq_onDev o lo g
    · exact ⟨_, s.next_eq_onDev⟩
  | narrow o => exact ⟨_, s.next_eq_onDev⟩
  | bulk o l | msix v k w => exact ⟨_, rfl⟩

theorem execDapWrite_eq_onDev (o : Nat) (w : Word) (s : State) : ∃ f : Dev → Dev, execDapWrite o w s = s.onDev f := by
  unfold execDapWrite
  dsimp only
  split_ifs
  · exact ⟨_, s.next_eq_onDev⟩
  · exact ⟨_, rfl⟩
  · exact s.next_hostWord_eq_onDev o w
  · exact s.hostWord_onDev_eq_onDev o w _

/-! ### Frames that a CAN bus can carry -/

theorem exec_canFrameReceive_illFormed {f : CanFrame} (c : Fin 2) (w : Word) (s : State) (h : canFrameOk f = false) :
    exec (.canFrameReceive c f w) s = .fault (.illFormed "CAN_FRAME_RECEIVE") := by
  unfold exec execCanFrameReceive
  exact if_pos (by simp [h])

theorem execCanFrameReceive_eq_onDev {f : CanFrame} (c : Fin 2) (w : Word) (s : State) (h : canFrameOk f = true) :
    ∃ g : Dev → Dev, execCanFrameReceive c f w s = s.onDev g := by
  unfold execCanFrameReceive
  exact ⟨_, if_neg (by simp [h])⟩

/-! ### The answer of a command -/

/-- The operands of a CAN frame apart, no operand makes a command end in anything but a next state. -/
theorem exec_eq_onDev_or_onAll {i : Instr} (s : State) (hframe : ∀ c f w, i = .canFrameReceive c f w → canFrameOk f = true) :
    (i.onMotionDie = true ∧ ∃ f : Dev → Dev, exec i s = s.onDev f) ∨
    (i.onMotionDie = false ∧ ∃ f : Dev → Dev, exec i s = s.onAll f) := by
  unfold exec
  cases i
  case canFrameReceive c f w => exact .inl ⟨rfl, execCanFrameReceive_eq_onDev c w s (hframe c f w rfl)⟩
  case hostRegisterWrite x => exact .inl ⟨rfl, execHostRegisterWrite_eq_onDev x s⟩
  case dapWrite o w => exact .inl ⟨rfl, execDapWrite_eq_onDev o w s⟩
  case coldReset | vddMonitorTrip | fieldDieDownstreamReceive | linkFrameMissing | fieldDieFallback | linkRecover | groupUndervoltage
      | groupUvRecover | fieldLogicSupplyLoss | groupOvercurrent | fieldInputChange | wireBreak | wireBreakClear | outputOverload
      | outputThermalOff | outputThermalRestart | outputOffDiagnosis | safetyLatch | safetyDecision | safetyCompareFault
      | safetyMessageMissing | stoenBFrameLoss | safetyInputFilter | pairDiscrepancy | resetInputPulse | testPulse | soTestPulse
      | ss1DelayExpiry | safetyStartup | safetyStartupTestComplete | journalFlush | backupEntry | backupEnd | vauxLoss | vauxReturn
      | islandStop | vbakLow | unlockLockoutEnd | fieldLogicSupplyReturn =>
    exact .inr ⟨rfl, _, rfl⟩
  all_goals exact .inl ⟨rfl, _, rfl⟩

theorem canFrameOk_of_wellFormed {i : Instr} (h : i.wellFormed = true) (c : Fin 2) (f : CanFrame) (w : Word)
    (hi : i = .canFrameReceive c f w) : canFrameOk f = true := by
  subst hi
  exact h

/-- A command that answers a next state keeps the queue, and none but an impossible CAN frame answers anything else. -/
theorem exec_next_of_canFrameOk {i : Instr} (s : State) (hframe : ∀ c f w, i = .canFrameReceive c f w → canFrameOk f = true) :
    ∃ t : State, exec i s = .next t ∧ t.pending = s.pending := by
  obtain ⟨-, f, hf⟩ | ⟨-, f, hf⟩ := exec_eq_onDev_or_onAll s hframe
  · exact ⟨_, hf, rfl⟩
  · exact ⟨_, hf, rfl⟩

/-! ### The statements -/

/-- Settles O5: the rest of a well-formed queue is well formed, and the front command keeps it. -/
theorem wellFormedQueueAlwaysSteps : Obligations.WellFormedQueueAlwaysSteps := by
  unfold Obligations.WellFormedQueueAlwaysSteps
  rintro ⟨queue, d⟩ hq
  cases queue with
  | nil => exact ⟨_, rfl, hq⟩
  | cons c rest =>
    obtain ⟨hc, hrest⟩ := List.forall_mem_cons.mp hq
    obtain ⟨t, ht, hpend⟩ := exec_next_of_canFrameOk { pending := rest, dev := d } (canFrameOk_of_wellFormed hc)
    refine ⟨t, ht, ?_⟩
    unfold QueueOk
    rw [hpend]
    exact hrest

/-- Settles O6: a command whose answer is a next state is no impossible CAN frame. -/
theorem commandsKeepTheQueue : Obligations.CommandsKeepTheQueue := by
  unfold Obligations.CommandsKeepTheQueue
  intro i s t ht
  have hframe : ∀ c f w, i = .canFrameReceive c f w → canFrameOk f = true := by
    rintro c f w rfl
    by_contra hbad
    rw [exec_canFrameReceive_illFormed c w s (eq_false_of_ne_true hbad)] at ht
    cases ht
  obtain ⟨u, hu, hpend⟩ := exec_next_of_canFrameOk s hframe
  rw [ht] at hu
  cases hu
  exact hpend

/-- Settles O51: a well-formed command of the motion die is an operation of the motion die. -/
theorem heldDieDoesNothing : Obligations.HeldDieDoesNothing := by
  unfold Obligations.HeldDieDoesNothing
  intro i s hw hm hheld
  obtain ⟨-, f, hf⟩ | ⟨hnot, -⟩ := exec_eq_onDev_or_onAll s (canFrameOk_of_wellFormed hw)
  · rw [hf, State.onDev_held s f hheld]
  · rw [hm] at hnot
    cases hnot

/-- Settles O7: the form of the frame alone decides between the fault and a next state. -/
theorem illFormedFrameFaults : Obligations.IllFormedFrameFaults := by
  unfold Obligations.IllFormedFrameFaults
  refine fun c f w s => ⟨exec_canFrameReceive_illFormed c w s, fun hok => ?_⟩
  obtain ⟨t, ht, -⟩ := exec_next_of_canFrameOk s (canFrameOk_of_wellFormed (i := .canFrameReceive c f w) hok)
  exact ⟨t, ht⟩

/-- Settles O1: the step takes the front command off the queue. -/
theorem stepRunsTheFrontCommand : Obligations.StepRunsTheFrontCommand := by
  unfold Obligations.StepRunsTheFrontCommand
  exact fun c rest d => rfl

/-- Settles O2: on an empty queue the step is a clock. -/
theorem emptyQueueStepIsOneClock : Obligations.EmptyQueueStepIsOneClock := by
  unfold Obligations.EmptyQueueStepIsOneClock
  exact fun d => rfl

end Sys2Proof.Machine

/-!
PROOF. Events of the Barograph and of the snapshot unit (R313, R315, R317, R323–R325, R328, R330–R333): what each of them does case by
case, and O39 from it.
-/

namespace Sys2Proof.Machine

/-- An effect is determined by what it makes of this device. -/
theorem effect_congr {i : Instr} {s : State} {f g : Dev → Dev} (h : Effect i s f) (hfg : f s.dev = g s.dev) : Effect i s g := by
  unfold Effect at *
  rw [h, hfg]

/-! ### Answers of the trace and snapshot events -/

theorem exec_traceArm (w : Word) (s : State) : exec (.traceArm w) s = execTraceArm w s := rfl

theorem exec_traceDisarm (w : Word) (s : State) : exec (.traceDisarm w) s = execTraceDisarm w s := rfl

theorem exec_traceForce (w : Word) (s : State) : exec (.traceForce w) s = execTraceForce w s := rfl

theorem exec_traceRelease (w : Word) (s : State) : exec (.traceRelease w) s = execTraceRelease w s := rfl

theorem exec_traceRdptrWrite (w : Word) (s : State) : exec (.traceRdptrWrite w) s = execTraceRdptrWrite w s := rfl

theorem exec_traceSampleClose (busy : Bool) (s : State) : exec (.traceSampleClose busy) s = execTraceSampleClose busy s := rfl

theorem exec_tracePostComplete (s : State) : exec .tracePostComplete s = execTracePostComplete s := rfl

theorem exec_traceAutoTimeout (s : State) : exec .traceAutoTimeout s = execTraceAutoTimeout s := rfl

theorem exec_snapinEdge (up : Bool) (s : State) : exec (.snapinEdge up) s = execSnapinEdge up s := rfl

theorem exec_snapoutPulseEnd (s : State) : exec .snapoutPulseEnd s = execSnapoutPulseEnd s := rfl

theorem exec_snapshotTransferComplete (s : State) : exec .snapshotTransferComplete s = execSnapshotTransferComplete s := rfl

theorem exec_snapBankFree (w : Word) (s : State) : exec (.snapBankFree w) s = execSnapBankFree w s := rfl

/-! ### A write of TRACE_CTRL with one control bit (R315, R323, R328) -/

section
variable {d : Dev} {w : Word}

theorem Dev.traceCtrl_arm (harm : wbit w 0 = true) (hdisarm : wbit w 1 = false) (hforce : wbit w 2 = false) (hrel : wbit w 3 = false)
    (hst : d.trcState = 1 ∨ d.trcState = 4) : d.traceCtrl w = d.traceArm := by
  simp [Dev.traceCtrl, harm, hdisarm, hforce, hrel, hst]

/-- DISARM takes precedence over ARM. -/
theorem Dev.traceCtrl_disarm (hdisarm : wbit w 1 = true) (hforce : wbit w 2 = false) (hrel : wbit w 3 = false) (hst : 2 ≤ d.trcState) :
    d.traceCtrl w = d.traceEnd 1 := by
  simp [Dev.traceCtrl, hdisarm, hforce, hrel, hst]

theorem Dev.traceCtrl_force (harm : wbit w 0 = false) (hdisarm : wbit w 1 = false) (hforce : wbit w 2 = true) (hrel : wbit w 3 = false)
    (hst : d.trcState = 2) : d.traceCtrl w = { d with trace := { d.trace with force := true } } := by
  simp [Dev.traceCtrl, harm, hdisarm, hforce, hrel, hst]

theorem Dev.traceCtrl_release (harm : wbit w 0 = false) (hdisarm : wbit w 1 = false) (hforce : wbit w 2 = false) (hrel : wbit w 3 = true)
    (hmode : d.fg R.TRACE_CFG F.TRACE_CFG_MODE ≠ 0) :
    d.traceCtrl w = if d.trcState = 4 then d.traceArm else d.fsb R.TRACE_STATUS F.TRACE_STATUS_REL true := by
  simp [Dev.traceCtrl, harm, hdisarm, hforce, hrel, hmode]

end

/-! ### Samples (R313, R317) -/

section
variable {busy : Bool} {x : SampleDue} {rest : List SampleDue} {s : State} (hr : Running s)
  (hdue : s.dev.trace.due = x :: rest) (hready : s.dev.sampleReady x = true)
include hr hdue hready

/-- A ready sample leaves the list of those due; only a state with sampling closes it. -/
theorem effect_traceSampleClose : Effect (.traceSampleClose busy) s fun d =>
    if d.trcState = 2 ∨ d.trcState = 5 ∨ (d.trcState = 3 ∧ 0 < d.trace.postLeft) then
      ({ d with trace := { d.trace with due := rest } } : Dev).closeSample x busy
    else { d with trace := { d.trace with due := rest } } :=
  effect_of_onDev (exec_traceSampleClose busy s) hr <| by
    rw [hdue]
    exact if_neg (by simp [hready])

theorem effect_traceSampleClose_sampling
    (hst : s.dev.trcState = 2 ∨ s.dev.trcState = 5 ∨ (s.dev.trcState = 3 ∧ 0 < s.dev.trace.postLeft)) :
    Effect (.traceSampleClose busy) s fun d => ({ d with trace := { d.trace with due := rest } } : Dev).closeSample x busy :=
  effect_congr (effect_traceSampleClose hr hdue hready) (if_pos hst)

theorem effect_traceSampleClose_idle (harmed : s.dev.trcState ≠ 2) (hstream : s.dev.trcState ≠ 5)
    (hpost : s.dev.trcState ≠ 3 ∨ s.dev.trace.postLeft = 0) :
    Effect (.traceSampleClose busy) s fun d => { d with trace := { d.trace with due := rest } } :=
  effect_congr (effect_traceSampleClose hr hdue hready) (if_neg (by omega))

end

/-! ### Snapshots (R330–R333) -/

theorem effect_snapinEdge {up : Bool} {s : State} (hr : Running s) (hen : s.dev.fb R.SNAP_CFG F.SNAP_CFG_PIN_EN = true)
    (hedge : s.dev.fb R.SNAP_CFG F.SNAP_CFG_PIN_EDGE = !up) : Effect (.snapinEdge up) s fun d => d.strobe 4 0 :=
  effect_of_onDev (exec_snapinEdge up s) hr <| if_pos (by simp [hen, hedge])

/-- Settles O39: a control write by its bits, a sample by whether the state takes samples, the others by their one condition. -/
theorem traceAndSnapshotEventsTakeEffect : Obligations.TraceAndSnapshotEventsTakeEffect := by
  unfold Obligations.TraceAndSnapshotEventsTakeEffect
  refine ⟨?armBit, ?disarmBit, ?forceBit, ?releaseBit, fun _ _ => Dev.traceCtrl_arm, fun _ _ => Dev.traceCtrl_disarm,
    fun _ _ => Dev.traceCtrl_force, fun _ _ => Dev.traceCtrl_release, ?rdptrTaken, ?rdptrBad,
    fun _ _ _ _ => effect_traceSampleClose_sampling, fun _ _ _ _ => effect_traceSampleClose_idle, ?postComplete, ?autoTimeout,
    fun _ _ => effect_snapinEdge, ?pulseEnd, ?transfer, ?bankFree⟩
  case armBit => exact fun w s hr hw => effect_of_onDev (exec_traceArm w s) hr (if_pos hw)
  case disarmBit => exact fun w s hr hw => effect_of_onDev (exec_traceDisarm w s) hr (if_pos hw)
  case forceBit => exact fun w s hr hw => effect_of_onDev (exec_traceForce w s) hr (if_pos hw)
  case releaseBit => exact fun w s hr hw => effect_of_onDev (exec_traceRelease w s) hr (if_pos hw)
  case rdptrTaken => exact fun w s hr hle => effect_of_onDev (exec_traceRdptrWrite w s) hr (if_neg (Nat.not_lt.mpr hle))
  case rdptrBad => exact fun w s hr hlt => effect_of_onDev (exec_traceRdptrWrite w s) hr (if_pos hlt)
  case postComplete => exact fun s hr hst hleft => effect_of_onDev (exec_tracePostComplete s) hr (if_pos ⟨hst, hleft⟩)
  case autoTimeout => exact fun s hr hst hmode => effect_of_onDev (exec_traceAutoTimeout s) hr (if_pos ⟨hst, hmode⟩)
  case pulseEnd => exact fun s hr => effect_of_onDev (exec_snapoutPulseEnd s) hr rfl
  case transfer =>
    intro b s hr hb
    refine effect_of_onDev (exec_snapshotTransferComplete s) hr ?_
    rw [hb]
  case bankFree => exact fun w s hr => effect_of_onDev (exec_snapBankFree w s) hr rfl

end Sys2Proof.Machine

/-!
PROOF. Events of the Event Router (R336–R351), the wakes and the power-state requests (R513–R516): what each of them does case by case, and
O40 from it.
-/

namespace Sys2Proof.Machine

/-! ### Answers of the router's events and of the power-state requests -/

theorem exec_evrSourceFiring (n : Fin 640) (s : State) : exec (.evrSourceFiring n) s = execEvrSourceFiring n s := rfl

theorem exec_evrHostPost (s : State) : exec .evrHostPost s = execEvrHostPost s := rfl

theorem exec_supervisorClaim (s : State) : exec .supervisorClaim s = execSupervisorClaim s := rfl

theorem exec_evrHostComplete (w : Word) (s : State) : exec (.evrHostComplete w) s = execEvrHostComplete w s := rfl

theorem exec_evrHostIdle (w : Word) (s : State) : exec (.evrHostIdle w) s = execEvrHostIdle w s := rfl

theorem exec_moderationRelease (u : Fin 68) (s : State) : exec (.moderationRelease u) s = execModerationRelease u s := rfl

theorem exec_rehomeTimeout (n : Fin 640) (s : State) : exec (.rehomeTimeout n) s = execRehomeTimeout n s := rfl

theorem exec_wakeLatchEdge (b : Fin 48) (s : State) : exec (.wakeLatchEdge b) s = execWakeLatchEdge b s := rfl

theorem exec_dozeExitComplete (s : State) : exec .dozeExitComplete s = execDozeExitComplete s := rfl

theorem exec_pwrReqRun (s : State) : exec .pwrReqRun s = execPwrReqRun s := rfl

theorem exec_pwrReqServoOff (s : State) : exec .pwrReqServoOff s = execPwrReqServoOff s := rfl

theorem exec_pwrReqDoze (s : State) : exec .pwrReqDoze s = execPwrReqDoze s := rfl

/-! ### Sources: firing, claims, redirection (R338–R343, R350) -/

theorem Dev.sourceFires_enabled {d : Dev} {n : Nat} (hen : d.srcEn n = true) :
    d.sourceFires n =
      let e := (d.fire n).startEvent 2 n d.ns
      { e with trace := { e.trace with fired := if e.trace.fired.contains n then e.trace.fired else e.trace.fired ++ [n] } } :=
  if_neg (by simp [hen])

theorem Dev.sourceFires_disabled {d : Dev} {n : Nat} (hen : d.srcEn n = false) : d.sourceFires n = d :=
  if_pos (by simp [hen])

theorem Dev.ns_raised (d : Dev) (l : List Nat) : ({ d with raised := l } : Dev).ns = d.ns := rfl

/-- A raised source has crossed to the router, which takes it outside DOZE; the supervisor has the numbers from 630 on (R338). -/
theorem effect_evrSourceFiring {n : Fin 640} {s : State} (hr : Running s) (hraised : s.dev.raised.contains n.val = true) :
    Effect (.evrSourceFiring n) s fun d =>
      if d.dozing || 630 ≤ n.val then { d with raised := d.raised.erase n.val }
      else ({ d with raised := d.raised.erase n.val } : Dev).sourceFires n :=
  effect_of_onDev (exec_evrSourceFiring n s) hr <| if_neg (by simpa using hraised)

theorem effect_evrSourceFiring_lost {n : Fin 640} {s : State} (hr : Running s) (hraised : s.dev.raised.contains n.val = true)
    (hlost : s.dev.dozing = true ∨ 630 ≤ n.val ∨ s.dev.srcEn n = false) :
    Effect (.evrSourceFiring n) s fun d => { d with raised := d.raised.erase n.val } :=
  effect_congr (effect_evrSourceFiring hr hraised) <| by
    obtain hdoze | hhigh | hoff := hlost
    · exact if_pos (by simp [hdoze])
    · exact if_pos (by simp [hhigh])
    · exact ite_eq_left_iff.mpr fun _ => Dev.sourceFires_disabled hoff

theorem effect_evrHostPost {n : Nat} {s : State} (hr : Running s) (hawake : s.dev.asleep 0 = false) (hrun : s.dev.dozing = false)
    (hnext : s.dev.nextFor 0 = some n) :
    Effect .evrHostPost s fun d => (d.claim n 0).postEvent n (d.evrDetail n) (words64 (d.src n).pendNs) (d.srcVector n) :=
  effect_of_onDev (exec_evrHostPost s) hr <| (if_neg (by simp [hawake, hrun])).trans (by rw [hnext])

theorem effect_supervisorClaim {n : Nat} {s : State} (hr : Running s) (hrun : s.dev.dozing = false) (hnext : s.dev.nextFor 5 = some n) :
    Effect .supervisorClaim s fun d => (d.claim n 5).complete n 5 :=
  effect_of_onDev (exec_supervisorClaim s) hr <| (if_neg (by simp [hrun])).trans (by rw [hnext])

theorem effect_rehomeTimeout {n : Fin 640} {s : State} (hr : Running s) (hpending : s.dev.srcState n = 1) (htarget : s.dev.srcTarget n ≤ 4)
    (hasleep : s.dev.asleep (s.dev.srcTarget n) = true) (hwake : s.dev.wakeOf (s.dev.srcTarget n) = false) (hrun : s.dev.dozing = false) :
    Effect (.rehomeTimeout n) s fun d => d.rehome n :=
  effect_of_onDev (exec_rehomeTimeout n s) hr <| if_pos (by simp [hpending, htarget, hasleep, hwake, hrun])

/-! ### Wakes (R351, R516) -/

theorem effect_wakeLatchEdge {b : Fin 48} {s : State} (hr : Running s) (hdoze : s.dev.dozing = true)
    (hen : s.dev.srcEn (wakeSource b) = true) (hwake : s.dev.fb (R.EVR_SRC_CFG (wakeSource b)) F.EVR_SRC_CFG_WAKE = true) :
    Effect (.wakeLatchEdge b) s fun d => d.setBit R.EVR_WAKE_LATCH b true :=
  effect_of_onDev (exec_wakeLatchEdge b s) hr <| if_pos (by simp [hdoze, hen, hwake])

theorem effect_wakeLatchEdge_none {b : Fin 48} {s : State} (hr : Running s) (hno : s.dev.dozing = false ∨
      s.dev.srcEn (wakeSource b) = false ∨ s.dev.fb (R.EVR_SRC_CFG (wakeSource b)) F.EVR_SRC_CFG_WAKE = false) :
    Effect (.wakeLatchEdge b) s fun d => d :=
  effect_of_onDev (exec_wakeLatchEdge b s) hr <| if_neg <| by
    obtain h | h | h := hno <;> simp [h]

theorem effect_dozeExitComplete {s : State} (hr : Running s) (hdoze : s.dev.dozing = true)
    (hcause : s.dev.rd64 R.EVR_WAKE_LATCH ≠ 0 ∨ s.dev.fb R.POWER_STATUS F.POWER_STATUS_PF_ACTIVE = true) :
    Effect .dozeExitComplete s fun d => d.exitDoze.attachLate :=
  effect_of_onDev (exec_dozeExitComplete s) hr <| if_pos (by simpa [hdoze] using hcause)

/-! ### Power-state requests (R513–R515) -/

/-- The pending request is taken off, whatever comes of it. -/
theorem Dev.takePwrReq_pending {d : Dev} {r : Nat} (f : Dev → Dev) (h : d.sec.pwrReq = some r) :
    d.takePwrReq r f = f (d.modSec fun s => { s with pwrReq := none }) :=
  if_pos h

theorem Dev.modSec_power (d : Dev) (f : SecSt → SecSt) : (d.modSec f).power = d.power := rfl

section
variable {s : State} (hr : Running s)
include hr

theorem effect_pwrReqRun (hreq : s.dev.sec.pwrReq = some 0) : Effect .pwrReqRun s fun d =>
    let e := d.modSec fun s => { s with pwrReq := none }
    if d.power = 1 then e.setPower 0 else e :=
  effect_of_onDev (exec_pwrReqRun s) hr <| (Dev.takePwrReq_pending _ hreq).trans <| by rw [Dev.modSec_power]

theorem effect_pwrReqServoOff (hreq : s.dev.sec.pwrReq = some 1) : Effect .pwrReqServoOff s fun d =>
    let e := d.modSec fun s => { s with pwrReq := none }
    if d.power = 0 then e.legsOff.setPower 1 else e :=
  effect_of_onDev (exec_pwrReqServoOff s) hr <| (Dev.takePwrReq_pending _ hreq).trans <| by rw [Dev.modSec_power]

theorem effect_pwrReqDoze (hreq : s.dev.sec.pwrReq = some 2) (hpow : s.dev.power ≤ 1) :
    Effect .pwrReqDoze s fun d => (d.modSec fun s => { s with pwrReq := none }).enterDoze :=
  effect_of_onDev (exec_pwrReqDoze s) hr <| (Dev.takePwrReq_pending _ hreq).trans (if_pos hpow)

end

/-- Settles O40: a source by DOZE and its enable, a wake by DOZE, a request by the power state it meets. -/
theorem eventRouterEventsTakeEffect : Obligations.EventRouterEventsTakeEffect := by
  unfold Obligations.EventRouterEventsTakeEffect
  refine ⟨?fires, fun _ _ => effect_evrSourceFiring_lost, fun _ _ => effect_evrHostPost, fun _ _ => effect_supervisorClaim, ?complete,
    ?idle, ?release, fun _ _ => effect_rehomeTimeout, fun _ _ => effect_wakeLatchEdge, fun _ _ => effect_wakeLatchEdge_none,
    fun _ => effect_dozeExitComplete, ?runTaken, ?runStands, ?servoOffStands, ?servoOffTaken, fun _ => effect_pwrReqDoze⟩
  case fires =>
    intro n s hr hraised hrun hlow hen
    have hstill : ({ s.dev with raised := s.dev.raised.erase n.val } : Dev).srcEn n = true := hen
    refine effect_congr (effect_evrSourceFiring hr hraised) ?_
    rw [if_neg (by simpa [hrun] using hlow), Dev.sourceFires_enabled hstill, Dev.ns_raised]
  case complete => exact fun w s hr => effect_of_onDev (exec_evrHostComplete w s) hr rfl
  case idle => exact fun w s hr => effect_of_onDev (exec_evrHostIdle w s) hr rfl
  case release =>
    exact fun u s hr htimer hrun => effect_of_onDev (exec_moderationRelease u s) hr (if_pos (by simp [htimer, hrun]))
  case runTaken => exact fun s hr hreq hpow => effect_congr (effect_pwrReqRun hr hreq) (if_pos hpow)
  case runStands => exact fun s hr hreq hpow => effect_congr (effect_pwrReqRun hr hreq) (if_neg hpow)
  case servoOffStands => exact fun s hr hreq hpow => effect_congr (effect_pwrReqServoOff hr hreq) (if_neg hpow)
  case servoOffTaken => exact fun s hr hreq hpow => effect_congr (effect_pwrReqServoOff hr hreq) (if_pos hpow)

end Sys2Proof.Machine

/-!
PROOF. Events of the Traverse bus (R355–R384, R532, R533): what a frame, a send instant, a slot, a timeout and a fault do case by case, and
O41 from it.
-/

namespace Sys2Proof.Machine

/-! ### Answers of the Traverse events -/

theorem exec_traverseFrameReceive (a b : Option TrvFrame) (s : State) :
    exec (.traverseFrameReceive a b) s = execTraverseFrameReceive a b s := rfl

theorem exec_traverseFrameSend (j : Fin 64) (x y z : Bool) (s : State) :
    exec (.traverseFrameSend j x y z) s = execTraverseFrameSend j x y z s := rfl

theorem exec_dataFrameCommit (j : Fin 64) (s : State) : exec (.dataFrameCommit j) s = execDataFrameCommit j s := rfl

theorem exec_slotDelivery (j : Fin 64) (s : State) : exec (.slotDelivery j) s = execSlotDelivery j s := rfl

theorem exec_datumMiss (s : State) : exec .datumMiss s = execDatumMiss s := rfl

theorem exec_nlossExpiry (s : State) : exec .nlossExpiry s = execNlossExpiry s := rfl

theorem exec_coldstartTimeout (x y : Bool) (s : State) : exec (.coldstartTimeout x y) s = execColdstartTimeout x y s := rfl

theorem exec_readbackMismatch (s : State) : exec .readbackMismatch s = execReadbackMismatch s := rfl

theorem exec_guardianCutoff (s : State) : exec .guardianCutoff s = execGuardianCutoff s := rfl

theorem exec_channelFail (b : Bool) (s : State) : exec (.channelFail b) s = execChannelFail b s := rfl

theorem exec_traverseJoinTimeout (s : State) : exec .traverseJoinTimeout s = execTraverseJoinTimeout s := rfl

theorem exec_traverseLeaveComplete (s : State) : exec .traverseLeaveComplete s = execTraverseLeaveComplete s := rfl

/-! ### Frames of the enabled channels, and the rule of the injector that hits (R369–R371, R532, R533) -/

section
variable {a b : Option TrvFrame} {f : TrvFrame} {x m : Nat} {s : State} (hr : Running s)
include hr

theorem effect_traverseFrameReceive_none
    (hno : (if s.dev.chA = true then a else none).or (if s.dev.chB = true then b else none) = none) :
    Effect (.traverseFrameReceive a b) s fun d => d :=
  effect_of_onDev (exec_traverseFrameReceive a b s) hr <| by
    dsimp only
    rw [hno]

section
variable (hf : (if s.dev.chA = true then a else none).or (if s.dev.chB = true then b else none) = some f)
include hf

theorem effect_traverseFrameReceive_unhit (hhit : (s.dev.squall 1 0 [hSlot f.hdr] 0).2 = none) :
    Effect (.traverseFrameReceive a b) s fun d =>
      (d.squall 1 0 [hSlot f.hdr] 0).1.trvTake (if d.chA = true then a else none) (if d.chB = true then b else none) :=
  effect_of_onDev (exec_traverseFrameReceive a b s) hr <| by
    dsimp only
    rw [hf]
    dsimp only
    rw [hhit]

/-- A rule drops the frame (0), spoils its CRC (1), or replaces or delays what was taken (R533). -/
theorem effect_traverseFrameReceive_hit (hhit : (s.dev.squall 1 0 [hSlot f.hdr] 0).2 = some (x, m)) :
    Effect (.traverseFrameReceive a b) s fun d =>
      let e := (d.squall 1 0 [hSlot f.hdr] 0).1
      if m = 0 then e
      else if m = 1 then e.trvTake ((if d.chA = true then a else none).map fun f => { f with crc := f.crc ^^^ 1 })
        ((if d.chB = true then b else none).map fun f => { f with crc := f.crc ^^^ 1 })
      else e.trvSwap (e.trvTake (if d.chA = true then a else none) (if d.chB = true then b else none)) (hSlot f.hdr) m :=
  effect_of_onDev (exec_traverseFrameReceive a b s) hr <| by
    dsimp only
    rw [hf]
    dsimp only
    rw [hhit]
    match m with
    | 0 | 1 | _ + 2 => rfl

end

end

/-! ### The send instant of a slot (R361, R362, R366, R373, R382) -/

section
variable {j : Fin 64} {x y z : Bool} {s : State} (hr : Running s) (hmute : s.dev.fb R.PAIR_STATUS F.PAIR_STATUS_TRV_MUTED = false)
  (htime : s.dev.pair.trvFrom ≤ s.dev.ns)
include hr hmute htime

theorem effect_traverseFrameSend_slot (hj : j.val ≠ 0) (hst : s.dev.trvState = 3 ∨ s.dev.trvState = 4)
    (hn : j.val < s.dev.nslot) (hown : s.dev.slotOwner j = s.dev.trvNode) (hkind : s.dev.slotKind j = 2 ∨ s.dev.slotKind j = 4) :
    Effect (.traverseFrameSend j x y z) s fun d => d.sendSlot j x y :=
  effect_of_onDev (exec_traverseFrameSend j x y z s) hr <|
    (if_neg (by simp [hmute, htime])).trans <| (if_neg hj).trans <| if_pos ⟨hst, hn, hown, hkind⟩

section
variable (hrank : s.dev.trvRank ≤ 3)
include hrank

theorem effect_traverseFrameSend_coldstart (hst : s.dev.trvState = 2) (hcount : s.dev.trv.csSent < 2) :
    Effect (.traverseFrameSend 0 x y z) s fun d => d.sendDatum 5 d.cycleNow.1 d.cycleNow.2 x y :=
  effect_of_onDev (exec_traverseFrameSend 0 x y z s) hr <|
    (if_neg (by simp [hmute, htime])).trans <| (if_pos rfl).trans <| (if_pos (by simp [hrank, hst])).trans <| if_pos hcount

theorem effect_traverseFrameSend_coldstarted (hst : s.dev.trvState = 2) (hcount : 2 ≤ s.dev.trv.csSent) :
    Effect (.traverseFrameSend 0 x y z) s fun d => (d.setTrvState 3).sendDatum 1 d.cycleNow.1 d.cycleNow.2 x y :=
  effect_of_onDev (exec_traverseFrameSend 0 x y z s) hr <|
    (if_neg (by simp [hmute, htime])).trans <| (if_pos rfl).trans <| (if_pos (by simp [hrank, hst])).trans <|
      if_neg (Nat.not_lt.mpr hcount)

/-- In SYNC with no frame start seen, the guardian decides over the datum frame. -/
theorem effect_traverseFrameSend_sync (hst : s.dev.trvState = 3) : Effect (.traverseFrameSend 0 x y false) s fun d =>
    if d.guarded2.2 = true then d.guarded2.1 else d.guarded2.1.sendDatum 1 d.cycleNow.1 d.cycleNow.2 x y :=
  effect_of_onDev (exec_traverseFrameSend 0 x y false s) hr <|
    (if_neg (by simp [hmute, htime])).trans <| (if_pos rfl).trans <| (if_neg (by simp [hst])).trans <|
      if_pos (by simp [hrank, hst])

end

theorem effect_traverseFrameSend_seen (hst : s.dev.trvState = 3) : Effect (.traverseFrameSend 0 x y true) s fun d => d :=
  effect_of_onDev (exec_traverseFrameSend 0 x y true s) hr <|
    (if_neg (by simp [hmute, htime])).trans <| (if_pos rfl).trans <| (if_neg (by simp [hst])).trans <| if_neg (by simp)

end

/-! ### Slots, cycles and timeouts (R357, R367, R374) -/

theorem effect_coldstartTimeout {x y : Bool} {s : State} (hr : Running s) (hst : s.dev.trvState = 1) (hrank : s.dev.trvRank ≤ 3)
    (hmute : s.dev.fb R.PAIR_STATUS F.PAIR_STATUS_TRV_MUTED = false) : Effect (.coldstartTimeout x y) s fun d =>
      let e := (d.setTrvState 2).modTrv fun t => { t with csSent := 0 }
      e.sendDatum 5 (e.ns - e.trvAP) 0 x y :=
  effect_of_onDev (exec_coldstartTimeout x y s) hr <| if_pos ⟨hst, hrank, by simp [hmute]⟩

theorem effect_dataFrameCommit {j : Fin 64} {s : State} (hr : Running s) (hst : s.dev.trvState ≠ 0) (hn : j.val < s.dev.nslot)
    (hkind : s.dev.slotKind j = 2) (hown : s.dev.slotOwner j = s.dev.trvNode) : Effect (.dataFrameCommit j) s fun d =>
      let b := tabGet d.trv.tx j
      d.modTrv fun t => { t with tx := tabSet t.tx j { words := d.dataWords j, age := 0, atNs := d.ns, old := (b.words, b.age) } } :=
  effect_of_onDev (exec_dataFrameCommit j s) hr <| if_pos (by simp [hst, hn, hkind, hown])

theorem effect_datumMiss {s : State} (hr : Running s) (hst : s.dev.trvState = 3 ∨ s.dev.trvState = 4) : Effect .datumMiss s fun d =>
    let d := d.modTrv fun t => { t with miss := t.miss + 1, oPrev := 0, cycStart := t.cycStart + d.trvC }
    ((d.satInc R.TRV_STATUS F.TRV_STATUS_MISS).wrapInc R.TRV_CYCLE_COUNT F.TRV_CYCLE_COUNT_CYCLE).setTrvState 4 :=
  effect_of_onDev (exec_datumMiss s) hr <| if_neg (by omega)

/-! ### Faults of a channel (R370, R371, R384) -/

theorem effect_readbackMismatch_datum {f : TrvFrameOut} {s : State} (hr : Running s) (hout : s.dev.trv.out = some f)
    (hkind : hKind f.hdr = 1 ∨ hKind f.hdr = 5) : Effect .readbackMismatch s fun d =>
      let d := ((d.trvErr F.TRV_ERR_READBACK 356).trvErr F.TRV_ERR_COLLISION 358).modTrv fun t => { t with out := none, csSent := 0 }
      if d.trvState = 5 then d else d.setTrvState 1 :=
  effect_of_onDev (exec_readbackMismatch s) hr <| by
    rw [hout]
    exact if_pos hkind

theorem effect_readbackMismatch_other {f : TrvFrameOut} {s : State} (hr : Running s) (hout : s.dev.trv.out = some f)
    (hdatum : hKind f.hdr ≠ 1) (hcold : hKind f.hdr ≠ 5) :
    Effect .readbackMismatch s fun d => d.trvErr F.TRV_ERR_READBACK 356 :=
  effect_of_onDev (exec_readbackMismatch s) hr <| by
    rw [hout]
    exact if_neg (not_or.mpr ⟨hdatum, hcold⟩)

section
variable {s : State} (hr : Running s) (ha : s.dev.chA = true) (hb : s.dev.chB = true)
include hr ha hb

theorem effect_channelFail_B (hlag : s.dev.trv.goodB + 8 ≤ s.dev.trv.goodA) : Effect (.channelFail true) s fun d =>
    (d.trvErr F.TRV_ERR_CH_B_FAIL 359).fsb R.TRV_STATUS F.TRV_STATUS_B_OK false :=
  effect_of_onDev (exec_channelFail true s) hr <| (if_neg (by simp [ha, hb])).trans <| (if_pos rfl).trans (if_pos hlag)

theorem effect_channelFail_A (hlag : s.dev.trv.goodA + 8 ≤ s.dev.trv.goodB) : Effect (.channelFail false) s fun d =>
    (d.trvErr F.TRV_ERR_CH_A_FAIL 359).fsb R.TRV_STATUS F.TRV_STATUS_A_OK false :=
  effect_of_onDev (exec_channelFail false s) hr <|
    (if_neg (by simp [ha, hb])).trans <| (if_neg Bool.false_ne_true).trans (if_pos hlag)

end

/-- Settles O41: a frame by the rule that hits it, a send instant by slot, state and guardian, the others by their state. -/
theorem traverseEventsTakeEffect : Obligations.TraverseEventsTakeEffect := by
  unfold Obligations.TraverseEventsTakeEffect
  refine ⟨fun _ _ _ _ => effect_traverseFrameReceive_unhit, fun _ _ _ _ _ _ => effect_traverseFrameReceive_hit,
    fun _ _ _ => effect_traverseFrameReceive_none, fun _ _ _ _ _ => effect_traverseFrameSend_slot,
    fun _ _ _ _ => effect_traverseFrameSend_coldstart, fun _ _ _ _ => effect_traverseFrameSend_coldstarted, ?datumSent, ?datumBlocked,
    fun _ _ _ => effect_traverseFrameSend_seen, fun _ _ => effect_dataFrameCommit, ?delivery, fun _ => effect_datumMiss, ?nloss,
    fun _ _ _ => effect_coldstartTimeout, fun _ _ => effect_readbackMismatch_datum, fun _ _ => effect_readbackMismatch_other, ?cutoff,
    fun _ => effect_channelFail_B, fun _ => effect_channelFail_A, ?joinTimeout, ?left⟩
  case datumSent =>
    intro x y s hr hmute htime hrank hst hfree
    exact effect_congr (effect_traverseFrameSend_sync hr hmute htime hrank hst) (if_neg (by simp [hfree]))
  case datumBlocked =>
    intro x y s hr hmute htime hrank hst hblocked
    exact effect_congr (effect_traverseFrameSend_sync hr hmute htime hrank hst) (if_pos hblocked)
  case delivery => exact fun j s hr hst hn hkind => effect_of_onDev (exec_slotDelivery j s) hr (if_pos ⟨hst, hn, hkind⟩)
  case nloss => exact fun s hr hst hmiss => effect_of_onDev (exec_nlossExpiry s) hr (if_pos ⟨hst, hmiss⟩)
  case cutoff => exact fun s hr => effect_of_onDev (exec_guardianCutoff s) hr rfl
  case joinTimeout =>
    exact fun s hr hst hwait => effect_of_onDev (exec_traverseJoinTimeout s) hr (if_pos (by simpa [hst] using hwait))
  case left => exact fun s hr hst => effect_of_onDev (exec_traverseLeaveComplete s) hr (if_pos hst)

end Sys2Proof.Machine

/-!
PROOF. Events of the CAN channels (R389–R402, R532, R533): arbitration, transmission, reception, doorbells and the changes of the channel's
state, case by case, and O42 from it.
-/

namespace Sys2Proof.Machine

/-! ### Answers of the CAN events -/

theorem exec_canArbitration (c : Fin 2) (w : Word) (s : State) : exec (.canArbitration c w) s = execCanArbitration c w s := rfl

theorem exec_canTxComplete (c : Fin 2) (s : State) : exec (.canTxComplete c) s = execCanTxComplete c s := rfl

theorem exec_canTxAttemptFail (c : Fin 2) (k : Option CanErrKind) (ex : Bool) (s : State) :
    exec (.canTxAttemptFail c k ex) s = execCanTxAttemptFail c k ex s := rfl

theorem exec_canReceiveError (c : Fin 2) (k : CanErrKind) (more : Bool) (s : State) :
    exec (.canReceiveError c k more) s = execCanReceiveError c k more s := rfl

theorem exec_canFrameReceive (c : Fin 2) (f : CanFrame) (w : Word) (s : State) :
    exec (.canFrameReceive c f w) s = execCanFrameReceive c f w s := rfl

theorem exec_canRxDoorbell (c : Fin 2) (w : Word) (s : State) : exec (.canRxDoorbell c w) s = execCanRxDoorbell c w s := rfl

theorem exec_canTxEntryFree (c : Fin 2) (x : Fin 64) (s : State) : exec (.canTxEntryFree c x) s = execCanTxEntryFree c x s := rfl

theorem exec_canCorrLatch (c : Fin 2) (s : State) : exec (.canCorrLatch c) s = execCanCorrLatch c s := rfl

theorem exec_canIntegration (c : Fin 2) (s : State) : exec (.canIntegration c) s = execCanIntegration c s := rfl

theorem exec_canRecoveryComplete (c : Fin 2) (s : State) : exec (.canRecoveryComplete c) s = execCanRecoveryComplete c s := rfl

theorem exec_canDisableComplete (c : Fin 2) (s : State) : exec (.canDisableComplete c) s = execCanDisableComplete c s := rfl

/-! ### Arbitration, and the rule of the injector that hits (R391, R392, R533) -/

section
variable {c : Fin 2} {stamp : Word} {x r m : Nat} {s : State} (hr : Running s) (hrun : s.dev.dozing = false)
  (hruns : s.dev.canRuns c = true) (hidle : (s.dev.canCh c).sending = none) (hstays : (s.dev.canCh c).disabling = false)
  (hchoice : s.dev.canChoice c = some x)
include hr hrun hruns hidle hstays hchoice

theorem effect_canArbitration_unhit (hhit : (s.dev.squall 2 1 [c] (wbits (s.dev.rd (canTx c x 1)) 28 0)).2 = none) :
    Effect (.canArbitration c stamp) s fun d => (d.squall 2 1 [c] (wbits (d.rd (canTx c x 1)) 28 0)).1.canSof c x stamp false :=
  effect_of_onDev (exec_canArbitration c stamp s) hr <| (if_neg (by simp [hrun, hruns, hidle, hstays])).trans <| by
    rw [hchoice]
    dsimp only
    rw [hhit]

/-- A rule withholds the frame (0), meets it with a bit error (1), has it sent twice (2) or lets the next choice go first (3). -/
theorem effect_canArbitration_hit (hhit : (s.dev.squall 2 1 [c] (wbits (s.dev.rd (canTx c x 1)) 28 0)).2 = some (r, m)) :
    Effect (.canArbitration c stamp) s fun d =>
      let e := (d.squall 2 1 [c] (wbits (d.rd (canTx c x 1)) 28 0)).1
      if m = 0 then e
      else if m = 1 then (e.canSof c x stamp false).canTxError c x .bit false
      else if m = 2 then e.canSof c x stamp true
      else if m = 3 then (e.canFirst c ((e.canCh c).order.filter (· ≠ x))).elim e fun y => e.canSof c y stamp false
      else e.canSof c x stamp false :=
  effect_of_onDev (exec_canArbitration c stamp s) hr <| (if_neg (by simp [hrun, hruns, hidle, hstays])).trans <| by
    rw [hchoice]
    dsimp only
    rw [hhit]
    match m with
    | 0 | 1 | 2 | _ + 4 => rfl
    | 3 =>
      simp only [reduceIte]
      split
      all_goals
        next h =>
          rw [h]
          rfl

end

/-! ### The error counters are registers of the channel (R393) -/

theorem Dev.fs_can (d : Dev) (o : Nat) (f : Fld) (v : Nat) : (d.fs o f v).can = d.can := by
  by_cases hlow : f.lo + f.w ≤ 32
  · rw [Dev.fs, if_pos hlow, Dev.wr_can]
  · by_cases hhigh : 32 ≤ f.lo
    · rw [Dev.fs, if_neg hlow, if_pos hhigh, Dev.wr_can]
    · rw [Dev.fs, if_neg hlow, if_neg hhigh, Dev.wr64, Dev.wr_can, Dev.wr_can]

theorem Dev.fsb_can (d : Dev) (o : Nat) (f : Fld) (b : Bool) : (d.fsb o f b).can = d.can := d.fs_can o f b.toNat

/-- Whatever writes of fields and raised sources keep, the error counters keep. -/
theorem Dev.canCounts_keeps {P : Dev → Prop} (hfs : ∀ (d : Dev) o f v, P d → P (d.fs o f v)) (hraise : ∀ (d : Dev) n, P d → P (d.raise n))
    {d : Dev} (h : P d) (c t r : Nat) : P (d.canCounts c t r) := by
  unfold Dev.canCounts
  dsimp only [Dev.fsb]
  (repeat' split) <;> apply_rules [hfs, hraise]

theorem Dev.canCounts_can (d : Dev) (c t r : Nat) : (d.canCounts c t r).can = d.can :=
  Dev.canCounts_keeps (P := fun e => e.can = d.can) (fun e o f v h => (e.fs_can o f v).trans h) (fun _ _ h => h) rfl c t r

theorem Dev.canCounts_canCh (d : Dev) (c t r k : Nat) : (d.canCounts c t r).canCh k = d.canCh k :=
  congrArg (tabGet · k) (d.canCounts_can c t r)

/-! ### The end of a transmission (R393–R396) -/

section
variable {c : Fin 2} {x : Nat} {s : State} (hr : Running s) (hsending : (s.dev.canCh c).sending = some x)
include hr hsending

theorem effect_canTxComplete : Effect (.canTxComplete c) s fun d =>
    let e := d.canCounts c (d.canTec c - 1) (d.canRec c)
    if (d.canCh c).again then e.modCan c fun s => { s with again := false } else e.canEnd c x 1 :=
  effect_of_onDev (exec_canTxComplete c s) hr <| by
    rw [hsending]
    dsimp only
    rw [Dev.canCounts_canCh]

theorem effect_canTxAttemptFail_lost {ex : Bool} : Effect (.canTxAttemptFail c none ex) s fun d =>
    (d.satInc (R.CAN_COUNTS c) F.CAN_COUNTS_ARB_LOST).canAttempt c x :=
  effect_of_onDev (exec_canTxAttemptFail c none ex s) hr <| by rw [hsending]

theorem effect_canTxAttemptFail_error {k : CanErrKind} {ex : Bool} :
    Effect (.canTxAttemptFail c (some k) ex) s fun d => d.canTxError c x k ex :=
  effect_of_onDev (exec_canTxAttemptFail c (some k) ex s) hr <| by rw [hsending]

end

/-! ### Reception, and the rule of the injector that hits (R393, R397, R533) -/

section
variable {c : Fin 2} {f : CanFrame} {stamp : Word} {k : CanErrKind} {more : Bool} {r m : Nat} {s : State} (hr : Running s)

/-- A channel takes what comes in outside DOZE, in ACTIVE or SHADOW, while it sends nothing. -/
theorem Dev.canListens {d : Dev} {c : Nat} (hrun : d.dozing = false) (hst : d.canState c = 2 ∨ d.canState c = 3)
    (hidle : (d.canCh c).sending = none) :
    ¬ (d.dozing || (decide (d.canState c ≠ 2) && decide (d.canState c ≠ 3)) || (d.canCh c).sending.isSome) = true := by
  obtain h | h := hst <;> simp [hrun, h, hidle]

theorem effect_canReceiveError (hr : Running s) (hrun : s.dev.dozing = false) (hst : s.dev.canState c = 2 ∨ s.dev.canState c = 3)
    (hidle : (s.dev.canCh c).sending = none) : Effect (.canReceiveError c k more) s fun d =>
      (d.canError c k).canCounts c (d.canTec c) (min 255 (d.canRec c + (if more then 9 else 1))) :=
  effect_of_onDev (exec_canReceiveError c k more s) hr <| if_neg (Dev.canListens hrun hst hidle)

section
variable (hok : canFrameOk f = true) (hrun : s.dev.dozing = false) (hst : s.dev.canState c = 2 ∨ s.dev.canState c = 3)
  (hidle : (s.dev.canCh c).sending = none)
include hr hok hrun hst hidle

theorem effect_canFrameReceive_unhit (hhit : (s.dev.squall 2 0 [c.val] f.id.toNat).2 = none) :
    Effect (.canFrameReceive c f stamp) s fun d =>
      let d := (d.squall 2 0 [c.val] f.id.toNat).1.canRecOk c
      if (d.canFate c f).2 = 2 then d else (d.canStore c f stamp (d.canFate c f).1 (d.canFate c f).2).canLate c :=
  effect_of_onDev ((exec_canFrameReceive c f stamp s).trans (if_neg (by simp [hok]))) hr <|
    (if_neg (Dev.canListens hrun hst hidle)).trans <| by
      dsimp only
      rw [hhit]
      exact if_neg Bool.false_ne_true

theorem effect_canFrameReceive_spoiled (hhit : (s.dev.squall 2 0 [c.val] f.id.toNat).2 = some (r, m)) (hm : m = 1) :
    Effect (.canFrameReceive c f stamp) s fun d =>
      let e := (d.squall 2 0 [c.val] f.id.toNat).1
      (e.canError c .crc).canCounts c (e.canTec c) (min 255 (e.canRec c + 1)) :=
  effect_of_onDev ((exec_canFrameReceive c f stamp s).trans (if_neg (by simp [hok]))) hr <|
    (if_neg (Dev.canListens hrun hst hidle)).trans <| by
      dsimp only
      rw [hhit]
      exact if_pos (by simp [hm])

/-- A rule discards the frame (0), has it stored twice (2) or holds it back (3). -/
theorem effect_canFrameReceive_hit (hhit : (s.dev.squall 2 0 [c.val] f.id.toNat).2 = some (r, m)) (hm : m ≠ 1) :
    Effect (.canFrameReceive c f stamp) s fun d =>
      let d := (d.squall 2 0 [c.val] f.id.toNat).1.canRecOk c
      let once (d : Dev) : Dev := d.canStore c f stamp (d.canFate c f).1 (d.canFate c f).2
      if (d.canFate c f).2 = 2 then d
      else if m = 0 then d
      else if m = 2 then ((once d).canStore c f stamp (d.canFate c f).1 (d.canFate c f).2).canLate c
      else if m = 3 ∧ (d.canCh c).late = none then d.modCan c fun x => { x with late := some (f, stamp, (d.canFate c f).1, (d.canFate c f).2) }
      else (once d).canLate c :=
  effect_of_onDev ((exec_canFrameReceive c f stamp s).trans (if_neg (by simp [hok]))) hr <|
    (if_neg (Dev.canListens hrun hst hidle)).trans <| by
      dsimp only
      rw [hhit]
      refine (if_neg (by simp [hm])).trans (if_congr Iff.rfl rfl ?_)
      match m, hm with
      | 0, _ | 2, _ | _ + 4, _ => rfl
      | 1, h => exact absurd rfl h
      | 3, _ => simp only [reduceIte, true_and, Option.isNone_iff_eq_none, Nat.reduceEqDiff, OfNat.ofNat_ne_zero]

end

end

/-! ### Doorbells and changes of the channel's state (R389, R394, R396, R399, R401) -/

section
variable {c : Fin 2} {s : State} (hr : Running s) (hrun : s.dev.dozing = false)
include hr hrun

theorem effect_canCorrLatch : Effect (.canCorrLatch c) s fun d =>
    let seq := d.fg (R.CAN_CORR_TS c 0) F.CAN_CORR_TS_SEQ
    let d := (d.wr64 (R.CAN_CORR_TIME c 1) (d.rd64 (R.CAN_CORR_TIME c 0))).wr64 (R.CAN_CORR_TS c 1) (d.rd64 (R.CAN_CORR_TS c 0))
    let d := (d.wr64 (R.CAN_CORR_TIME c 0) d.ns).wr64 (R.CAN_CORR_TS c 0) ((seq + 1) % 65536 * 2 ^ 48 + d.canTsc)
    d.raise (canSrc c 10) :=
  effect_of_onDev (exec_canCorrLatch c s) hr <| if_neg (by simp [hrun])

theorem effect_canIntegration (hst : s.dev.canState c = 1) : Effect (.canIntegration c) s fun d =>
    (if (d.canCh c).listen || d.muted then (d.setCanState c 3).modCan c fun s => { s with shadowRun := !s.listen }
      else d.setCanState c 2).resolve ⟨.can, c⟩ 0 0 [] :=
  effect_of_onDev (exec_canIntegration c s) hr <| if_neg (by simp [hrun, hst])

theorem effect_canRecoveryComplete (hst : s.dev.canState c = 4) (hrec : (s.dev.canCh c).recovering = true) :
    Effect (.canRecoveryComplete c) s fun d =>
      let e := (d.canCounts c 0 0).setCanState c (if d.muted then 3 else 2)
      ((e.modCan c fun s => { s with recovering := false, shadowRun := e.muted }).raise (canSrc c 8)).resolve ⟨.can, c⟩ 0 0 [] :=
  effect_of_onDev (exec_canRecoveryComplete c s) hr <| if_neg (by simp [hrun, hst, hrec])

theorem effect_canDisableComplete (hdis : (s.dev.canCh c).disabling = true) (hidle : (s.dev.canCh c).sending = none) :
    Effect (.canDisableComplete c) s fun d =>
      let d := d.each (d.canCh c).order fun d x => d.canEnd c x 3
      let n := (d.canCh c).abN
      let d := ((d.canCounts c 0 0).setCanState c 0).modCan c fun s =>
        { s with disabling := false, recovering := false, abN := 0, shadowRun := false }
      (d.resolve ⟨.can, c⟩ 0x0306 0 []).resolve ⟨.can, 2 + c.val⟩ 0 0 [toW n] :=
  effect_of_onDev (exec_canDisableComplete c s) hr <| if_neg (by simp [hrun, hdis, hidle])

end

/-- Settles O42: a frame by the rule that hits it and by what the channel makes of it, a change of state by DOZE and the state before. -/
theorem canEventsTakeEffect : Obligations.CanEventsTakeEffect := by
  unfold Obligations.CanEventsTakeEffect
  refine ⟨fun _ _ _ _ => effect_canArbitration_unhit, fun _ _ _ _ _ _ => effect_canArbitration_hit, ?sent, ?sentAgain,
    fun _ _ _ _ hr hsending => effect_canTxAttemptFail_lost hr hsending,
    fun _ _ _ _ _ hr hsending => effect_canTxAttemptFail_error hr hsending,
    fun _ _ _ _ => effect_canReceiveError, fun _ _ _ _ => effect_canFrameReceive_unhit,
    fun _ _ _ _ _ _ => effect_canFrameReceive_spoiled, fun _ _ _ _ _ _ => effect_canFrameReceive_hit, ?doorbell, ?badDoorbell,
    ?entryFree, fun _ _ => effect_canCorrLatch, ?active, ?shadow, fun _ _ => effect_canRecoveryComplete,
    fun _ _ => effect_canDisableComplete⟩
  case sent =>
    exact fun c x s hr hsending honce => effect_congr (effect_canTxComplete hr hsending) (if_neg (by simp [honce]))
  case sentAgain => exact fun c x s hr hsending hagain => effect_congr (effect_canTxComplete hr hsending) (if_pos hagain)
  case doorbell => exact fun c w s hr hle => effect_of_onDev (exec_canRxDoorbell c w s) hr (if_pos hle)
  case badDoorbell => exact fun c w s hr hlt => effect_of_onDev (exec_canRxDoorbell c w s) hr (if_neg (Nat.not_le.mpr hlt))
  case entryFree => exact fun c x s hr => effect_of_onDev (exec_canTxEntryFree c x s) hr rfl
  case active =>
    intro c s hr hrun hst hlisten hmuted
    exact effect_congr (effect_canIntegration hr hrun hst) <|
      congrArg (Dev.resolve · ⟨.can, c⟩ 0 0 []) (if_neg (by simp [hlisten, hmuted]))
  case shadow =>
    intro c s hr hrun hst hshadow
    exact effect_congr (effect_canIntegration hr hrun hst) <|
      congrArg (Dev.resolve · ⟨.can, c⟩ 0 0 []) (if_pos (by simpa using hshadow))

end Sys2Proof.Machine

/-!
PROOF. Events of the field dies (R405–R423, R532, R533): the frames of the links, the groups, outputs and inputs, and the logic supply, case
by case, and O43 from it.
-/

namespace Sys2Proof.Machine

/-! ### Answers of the field events -/

theorem exec_downstreamFrameSend (s : State) : exec .downstreamFrameSend s = execDownstreamFrameSend s := rfl

theorem exec_fieldDieDownstreamReceive (k : Fin 2) (x y : Bool) (s : State) :
    exec (.fieldDieDownstreamReceive k x y) s = execFieldDieDownstreamReceive k x y s := rfl

theorem exec_upstreamFrameReceive (k : Fin 2) (x y : Bool) (act : UpSample) (cur : Option (Fin 6 × BitVec 12)) (s : State) :
    exec (.upstreamFrameReceive k x y act cur) s = execUpstreamFrameReceive k x y act cur s := rfl

theorem exec_linkFrameMissing (k : Fin 2) (up : Bool) (s : State) : exec (.linkFrameMissing k up) s = execLinkFrameMissing k up s := rfl

theorem exec_linkStale (k : Fin 2) (s : State) : exec (.linkStale k) s = execLinkStale k s := rfl

theorem exec_fieldDieFallback (k : Fin 2) (s : State) : exec (.fieldDieFallback k) s = execFieldDieFallback k s := rfl

theorem exec_linkRecover (k : Fin 2) (dieSide : Bool) (s : State) : exec (.linkRecover k dieSide) s = execLinkRecover k dieSide s := rfl

theorem exec_groupUndervoltage (g : Fin 6) (s : State) : exec (.groupUndervoltage g) s = execGroupUndervoltage g s := rfl

theorem exec_groupUvRecover (g : Fin 6) (s : State) : exec (.groupUvRecover g) s = execGroupUvRecover g s := rfl

theorem exec_groupOvercurrent (g : Fin 6) (s : State) : exec (.groupOvercurrent g) s = execGroupOvercurrent g s := rfl

theorem exec_outputOverload (o : Fin 48) (s : State) : exec (.outputOverload o) s = execOutputOverload o s := rfl

theorem exec_outputThermalOff (o : Fin 48) (s : State) : exec (.outputThermalOff o) s = execOutputThermalOff o s := rfl

theorem exec_outputThermalRestart (o : Fin 48) (s : State) : exec (.outputThermalRestart o) s = execOutputThermalRestart o s := rfl

theorem exec_outputOffDiagnosis (o : Fin 48) (v : Fin 3) (s : State) :
    exec (.outputOffDiagnosis o v) s = execOutputOffDiagnosis o v s := rfl

theorem exec_fieldInputChange (i : Fin 64) (lv : Bool) (s : State) : exec (.fieldInputChange i lv) s = execFieldInputChange i lv s := rfl

theorem exec_wireBreak (i : Fin 64) (s : State) : exec (.wireBreak i) s = execWireBreak i s := rfl

theorem exec_wireBreakClear (i : Fin 64) (s : State) : exec (.wireBreakClear i) s = execWireBreakClear i s := rfl

theorem exec_fieldLogicSupplyLoss (k : Fin 2) (s : State) : exec (.fieldLogicSupplyLoss k) s = execFieldLogicSupplyLoss k s := rfl

theorem exec_fieldLogicSupplyReturn (k : Fin 2) (s : State) : exec (.fieldLogicSupplyReturn k) s = execFieldLogicSupplyReturn k s := rfl

/-! ### Downstream frames (R406, R408–R410) -/

/-- Die A takes the safety part of a frame with good CRCs while channel B is on (R410). -/
def Dev.takeSafetyPart (d : Dev) (k : Nat) (y : Bool) (f : DownFrame) : Dev :=
  if k = 0 && y && d.safety.b.on then
    let e := d.modChan true fun c => { c with cmd := f.so }
    match f.msg with
    | some m => e.chanTake true m (f.ix % 3)
    | none => e
  else d

section
variable {k : Fin 2} {f : DownFrame} {x y : Bool} {s : State} (hdown : (s.dev.die k).down = some f)
include hdown

theorem effect_downstreamReceive_off (hoff : (s.dev.die k).on = false) :
    Effect (.fieldDieDownstreamReceive k x y) s fun d => d.modDie k fun x => { x with down := none } :=
  effect_of_onAll (exec_fieldDieDownstreamReceive k x y s) <| by
    dsimp only
    rw [hdown]
    exact if_pos (by simp [hoff])

section
variable (hon : (s.dev.die k).on = true)
include hon

/-- A frame whose CRC fails, at the die or already on the link, brings nothing. -/
theorem effect_downstreamReceive_badCrc (hbad : x = false ∨ f.bad = true) :
    Effect (.fieldDieDownstreamReceive k x y) s fun d =>
      (d.modDie k fun x => { x with down := none }).modDie k fun x => { x with bad := x.bad + 1, good := 0, lastBad := true } := by
  have hcrc : (x && !f.bad) = false := by obtain h | h := hbad <;> simp [h]
  refine effect_of_onAll (exec_fieldDieDownstreamReceive k x y s) ?_
  dsimp only
  rw [hdown]
  simp only [hon, hcrc, Bool.not_true, Bool.false_and, Bool.and_false, Bool.false_eq_true, reduceIte]

/-- A frame with good CRCs is good by its SEQ, which is then the last one either way, and its safety part is taken either way. -/
theorem effect_downstreamReceive_goodCrc (hgood : f.bad = false) : Effect (.fieldDieDownstreamReceive k true y) s fun d =>
    let e := (d.modDie k fun x => { x with down := none }).modDie k fun x => { x with rxSeq := f.seq }
    (if f.seq = ((d.die k).rxSeq + 1) % 256 then
      let e := e.modDie k fun x => { x with bad := 0, good := x.good + 1, lastBad := false, lastCmd := f.cmds }
      (if (d.die k).fallback then e else e.dieCmds k f.cmds).takeCfg k f.cfg
    else e.modDie k fun x => { x with bad := x.bad + 1, good := 0, lastBad := true }).takeSafetyPart k y f := by
  refine effect_of_onAll (exec_fieldDieDownstreamReceive k true y s) ?_
  dsimp only
  rw [hdown]
  simp only [hon, hgood, Bool.not_true, Bool.not_false, Bool.and_true, Bool.true_and, decide_eq_true_eq, Bool.false_eq_true, reduceIte]
  rfl

end
end

/-! ### Upstream frames, and the rule of the injector that hits (R406, R408, R532, R533) -/

section
variable {k : Fin 2} {x y : Bool} {act : UpSample} {cur : Option (Fin 6 × BitVec 12)} {r m : Nat} {s : State} (hr : Running s)
  (hon : (s.dev.die k).on = true)
include hr hon

/-- The forerunner of a swapped frame follows it. -/
theorem effect_upstreamReceive_forerunner (hswap : (s.dev.die k).upSwap = true) :
    Effect (.upstreamFrameReceive k x y act cur) s fun d =>
      (d.modDie k fun x => { x with upSwap := false }).upstream k (((d.die k).upSeq + 255) % 256) (d.die k).upSeq x y act cur :=
  effect_of_onDev (exec_upstreamFrameReceive k x y act cur s) hr <| (if_neg (by simp [hon])).trans (if_pos hswap)

section
variable (hswap : (s.dev.die k).upSwap = false)
include hswap

theorem effect_upstreamReceive_unhit (hhit : (s.dev.squall 3 0 [k.val] 0).2 = none) :
    Effect (.upstreamFrameReceive k x y act cur) s fun d =>
      (d.squall 3 0 [k.val] 0).1.upstream k (((d.die k).upSeq + 1) % 256) ((d.die k).upSeq + 1) x y act cur :=
  effect_of_onDev (exec_upstreamFrameReceive k x y act cur s) hr <|
    (if_neg (by simp [hon])).trans <| (if_neg (by simp [hswap])).trans <| by
      dsimp only
      rw [hhit]

/-- A rule drops the frame (0), spoils it (1), repeats the last SEQ (2) or swaps it with the next one (3). -/
theorem effect_upstreamReceive_hit (hhit : (s.dev.squall 3 0 [k.val] 0).2 = some (r, m)) :
    Effect (.upstreamFrameReceive k x y act cur) s fun d =>
      let n := (d.die k).upSeq
      let e := (d.squall 3 0 [k.val] 0).1
      if m = 0 then e.upstreamMissing k
      else if m = 1 then e.upstream k ((n + 1) % 256) (n + 1) false y act cur
      else if m = 2 then e.upstream k n (n + 1) x y act cur
      else if m = 3 then (e.modDie k fun x => { x with upSwap := true }).upstream k ((n + 2) % 256) (n + 2) x y act cur
      else e.upstream k ((n + 1) % 256) (n + 1) x y act cur :=
  effect_of_onDev (exec_upstreamFrameReceive k x y act cur s) hr <|
    (if_neg (by simp [hon])).trans <| (if_neg (by simp [hswap])).trans <| by
      dsimp only
      rw [hhit]
      match m with
      | 0 | 1 | 2 | 3 | _ + 4 => rfl

end

end

/-! ### Links that fail and recover (R413, R414) -/

section
variable {k : Fin 2} {s : State}

theorem effect_linkStale (hr : Running s) (hbad : 3 ≤ (s.dev.die k).upBad)
    (hnew : s.dev.fb (R.FIELD_LINK_STATUS k) F.FIELD_LINK_STATUS_STALE = false) : Effect (.linkStale k) s fun d =>
      let d := (d.fsb (R.FIELD_LINK_STATUS k) F.FIELD_LINK_STATUS_STALE true).setFlag (R.FIELD_LINK_STATUS k)
        F.FIELD_LINK_STATUS_STALE_HIT.lo (528 + k)
      d.each ((dieOuts k).filter fun o => !d.fb (R.FIELD_OUT_CFG o) F.FIELD_OUT_CFG_FB) fun d o => d.setBit R.FIELD_OUT_CMD o false :=
  effect_of_onDev (exec_linkStale k s) hr <| if_neg (by simp [hbad, hnew])

theorem effect_fieldDieFallback (hon : (s.dev.die k).on = true) (hbad : 3 ≤ (s.dev.die k).bad) (hnew : (s.dev.die k).fallback = false) :
    Effect (.fieldDieFallback k) s fun d => (d.modDie k fun x => { x with fallback := true }).dieCmds k
      (maskOf 48 fun o => (d.die k).cmd.testBit o && d.dieFld (R.FIELD_OUT_CFG o) F.FIELD_OUT_CFG_FB = 1) :=
  effect_of_onAll (exec_fieldDieFallback k s) <| if_neg (by simp [hon, hbad, hnew])

theorem effect_linkRecover_die (hon : (s.dev.die k).on = true) (hfall : (s.dev.die k).fallback = true) (hgood : 2 ≤ (s.dev.die k).good) :
    Effect (.linkRecover k true) s fun d => (d.modDie k fun x => { x with fallback := false }).dieCmds k (d.die k).lastCmd :=
  effect_of_onAll (exec_linkRecover k true s) <| (if_pos rfl).trans <| if_pos (by simp [hon, hfall, hgood])

theorem effect_linkRecover_hub (hstale : s.dev.fb (R.FIELD_LINK_STATUS k) F.FIELD_LINK_STATUS_STALE = true)
    (hgood : 2 ≤ (s.dev.die k).upGood) : Effect (.linkRecover k false) s fun d =>
      (d.fsb (R.FIELD_LINK_STATUS k) F.FIELD_LINK_STATUS_STALE false).modDie k fun x => { x with resync := true } :=
  effect_of_onAll (exec_linkRecover k false s) <| (if_neg Bool.false_ne_true).trans <| if_pos (by simp [hstale, hgood])

end

/-! ### Outputs (R420–R422) -/

theorem effect_outputOverload {o : Fin 48} {s : State} (hon : s.dev.outOn o = true) : Effect (.outputOverload o) s fun d =>
    let d := d.setFlag (R.FIELD_OUT_DIAG o) F.FIELD_OUT_DIAG_OVERLOAD.lo (480 + o)
    (d.modDie (outDie o) fun k => { k with ovl := if k.ovl.contains o.val then k.ovl else k.ovl ++ [o.val] }).reclass [o.val] :=
  effect_of_onAll (exec_outputOverload o s) <| if_neg (by simp [hon])

theorem effect_outputThermalOff {o : Fin 48} {s : State} (hon : (s.dev.die (outDie o)).on = true) :
    Effect (.outputThermalOff o) s fun d =>
      let d := d.setFlag (R.FIELD_OUT_DIAG o) F.FIELD_OUT_DIAG_THERMAL.lo (480 + o)
      (d.modDie (outDie o) fun k => { k with hot := if k.hot.contains o.val then k.hot else k.hot ++ [o.val] }).reclass [o.val] :=
  effect_of_onAll (exec_outputThermalOff o s) <| if_neg (by simp [hon])

theorem not_and_of_false_or {a b : Bool} (h : a = false ∨ b = false) : ¬ (a && b) = true := by
  obtain h | h := h <;> simp [h]

section
variable {o : Fin 48} {m : Nat} {s : State} (hdie : (s.dev.die (outDie o)).on = true) (hoff : s.dev.outOn o = false)
include hdie hoff

/-- An output that is off, of a die that is on, is diagnosed. -/
theorem diagnosed_of_off : ¬ (!(s.dev.die (outDie o)).on || s.dev.outOn o) = true := by
  simp [hdie, hoff]

theorem effect_outputOffDiagnosis_none : Effect (.outputOffDiagnosis o 0) s fun d =>
    (d.modDie (outDie o.val) fun k => { k with cond := tabSet k.cond o.val 0 }).reclass [o.val] :=
  effect_of_onAll (exec_outputOffDiagnosis o 0 s) <| (if_neg (diagnosed_of_off hdie hoff)).trans rfl

theorem effect_outputOffDiagnosis_open (hen : s.dev.dieFld (R.FIELD_OUT_CFG o) F.FIELD_OUT_CFG_OL_EN = 1) :
    Effect (.outputOffDiagnosis o 1) s fun d => ((d.setFlag (R.FIELD_OUT_DIAG o) F.FIELD_OUT_DIAG_OPEN.lo (480 + o)).modDie
      (outDie o.val) fun k => { k with cond := tabSet k.cond o.val 2 }).reclass [o.val] :=
  effect_of_onAll (exec_outputOffDiagnosis o 1 s) <| (if_neg (diagnosed_of_off hdie hoff)).trans (if_pos hen)

theorem effect_outputOffDiagnosis_open_disabled (hen : s.dev.dieFld (R.FIELD_OUT_CFG o) F.FIELD_OUT_CFG_OL_EN ≠ 1) :
    Effect (.outputOffDiagnosis o 1) s fun d =>
      (d.modDie (outDie o.val) fun k => { k with cond := tabSet k.cond o.val 0 }).reclass [o.val] :=
  effect_of_onAll (exec_outputOffDiagnosis o 1 s) <| (if_neg (diagnosed_of_off hdie hoff)).trans (if_neg hen)

/-- In shadow the partner may drive the output that this part commands. -/
theorem effect_outputOffDiagnosis_shadow (hmuted : s.dev.muted = true) (hcmd : s.dev.bit R.FIELD_OUT_CMD o = true) :
    Effect (.outputOffDiagnosis o 2) s fun d =>
      (d.modDie (outDie o.val) fun k => { k with cond := tabSet k.cond o.val 4 }).reclass [o.val] :=
  effect_of_onAll (exec_outputOffDiagnosis o 2 s) <|
    (if_neg (diagnosed_of_off hdie hoff)).trans (if_pos (by simp [hmuted, hcmd]))

section
variable (hown : s.dev.muted = false ∨ s.dev.bit R.FIELD_OUT_CMD o = false)
include hown

theorem effect_outputOffDiagnosis_single (hmate : s.dev.outMate o = none) : Effect (.outputOffDiagnosis o 2) s fun d =>
    ((d.setFlag (R.FIELD_OUT_DIAG o) F.FIELD_OUT_DIAG_VOLT_OFF.lo (480 + o)).modDie
      (outDie o.val) fun k => { k with cond := tabSet k.cond o.val 3 }).reclass [o.val] :=
  effect_of_onAll (exec_outputOffDiagnosis o 2 s) <|
    (if_neg (diagnosed_of_off hdie hoff)).trans <| (if_neg (not_and_of_false_or hown)).trans <| by rw [hmate]

/-- The voltage may be the one that the other output of the pair gives. -/
theorem effect_outputOffDiagnosis_mate_on (hmate : s.dev.outMate o = some m) (hon : s.dev.outOn m = true) :
    Effect (.outputOffDiagnosis o 2) s fun d =>
      (d.modDie (outDie o.val) fun k => { k with cond := tabSet k.cond o.val 4 }).reclass [o.val] :=
  effect_of_onAll (exec_outputOffDiagnosis o 2 s) <|
    (if_neg (diagnosed_of_off hdie hoff)).trans <| (if_neg (not_and_of_false_or hown)).trans <| by
      rw [hmate]
      exact if_pos hon

theorem effect_outputOffDiagnosis_mate_off (hmate : s.dev.outMate o = some m) (hmoff : s.dev.outOn m = false) :
    Effect (.outputOffDiagnosis o 2) s fun d =>
      let e := (((d.setFlag (R.FIELD_OUT_DIAG o) F.FIELD_OUT_DIAG_VOLT_OFF.lo (480 + o)).setFlag
        (R.FIELD_OUT_DIAG m) F.FIELD_OUT_DIAG_VOLT_OFF.lo (480 + m)).modDie
          (outDie o.val) fun k => { k with cond := tabSet k.cond o.val 3 }).reclass [o.val]
      (e.modDie (outDie m) fun k => { k with cond := tabSet k.cond m 3 }).reclass [m] :=
  effect_of_onAll (exec_outputOffDiagnosis o 2 s) <|
    (if_neg (diagnosed_of_off hdie hoff)).trans <| (if_neg (not_and_of_false_or hown)).trans <| by
      rw [hmate]
      exact if_neg (by simp [hmoff])

end

end

/-! ### Inputs (R416, R423) -/

section
variable {i : Fin 64} {s : State} (hon : (s.dev.die (inDie i)).on = true)
include hon

theorem effect_fieldInputChange {lv : Bool} (hnew : s.dev.field.levels.testBit i ≠ lv) :
    Effect (.fieldInputChange i lv) s fun d =>
      d.modField fun f => { f with levels := f.levels ^^^ 2 ^ i.val, chg := f.chg ||| 2 ^ i.val } :=
  effect_of_onAll (exec_fieldInputChange i lv s) <| if_neg (by simpa [hon] using hnew)

theorem effect_wireBreak (hen : s.dev.dieFld (R.FIELD_IN_CFG i) F.FIELD_IN_CFG_WB_EN ≠ 0) :
    Effect (.wireBreak i) s fun d => (d.modField fun f => { f with wb := f.wb ||| 2 ^ i.val }).wbSync (inDie i) :=
  effect_of_onAll (exec_wireBreak i s) <| if_neg (by simp [hon, hen])

theorem effect_wireBreakClear :
    Effect (.wireBreakClear i) s fun d => (d.modField fun f => { f with wb := andNot f.wb (2 ^ i.val) }).wbSync (inDie i) :=
  effect_of_onAll (exec_wireBreakClear i s) <| if_neg (by simp [hon])

end

/-! ### The logic supply (R405) -/

/-- The state of a die that loses its logic supply. -/
def FieldDie.unpowered (x : FieldDie) : FieldDie :=
  { x with on := false, down := none, cmd := 0, lastCmd := 0, hot := [], ovl := [], cond := [], fallback := false }

/-- The link shows the loss where it showed the supply; die A takes channel B with it. -/
theorem effect_fieldLogicSupplyLoss {k : Fin 2} {s : State} (hon : (s.dev.die k).on = true) :
    Effect (.fieldLogicSupplyLoss k) s fun d =>
      let e := d.modDie k FieldDie.unpowered
      let e := if d.fb (R.FIELD_LINK_STATUS k) F.FIELD_LINK_STATUS_SUPPLY then
        (e.fsb (R.FIELD_LINK_STATUS k) F.FIELD_LINK_STATUS_SUPPLY false).setFlag (R.FIELD_LINK_STATUS k)
          F.FIELD_LINK_STATUS_SUPPLY_LOST.lo (530 + k) else e
      if k.val = 0 then e.chanStop true else e :=
  effect_of_onAll (exec_fieldLogicSupplyLoss k s) <| (if_neg (by simp [hon])).trans <| by
    dsimp only
    rw [Dev.modDie_fb]
    rfl

/-- Settles O43: a frame by its CRCs, its SEQ and the rule that hits it, an output by its voltage and its pair, the loss of a supply by its
die and by what the link showed. -/
theorem fieldEventsTakeEffect : Obligations.FieldEventsTakeEffect := by
  unfold Obligations.FieldEventsTakeEffect
  refine ⟨?sent, ?good, ?badSeq, fun _ _ _ _ _ hdown hon => effect_downstreamReceive_badCrc hdown hon,
    fun _ _ _ _ _ hdown => effect_downstreamReceive_off hdown, ?noFrame, fun _ _ _ _ _ _ => effect_upstreamReceive_unhit,
    fun _ _ _ _ _ _ => effect_upstreamReceive_forerunner, fun _ _ _ _ _ _ _ _ => effect_upstreamReceive_hit, ?missingUp, ?missingDown,
    ?missingDownOff, fun _ _ => effect_linkStale, fun _ _ => effect_fieldDieFallback, fun _ _ => effect_linkRecover_die,
    fun _ _ => effect_linkRecover_hub, ?undervoltage, ?uvRecover, ?overcurrent, fun _ _ => effect_outputOverload,
    fun _ _ => effect_outputThermalOff, ?restart, ?noRestart, fun _ _ => effect_outputOffDiagnosis_none,
    fun _ _ => effect_outputOffDiagnosis_open, fun _ _ => effect_outputOffDiagnosis_open_disabled,
    fun _ _ => effect_outputOffDiagnosis_shadow, fun _ _ => effect_outputOffDiagnosis_single,
    fun _ _ _ => effect_outputOffDiagnosis_mate_on, fun _ _ _ => effect_outputOffDiagnosis_mate_off,
    fun _ _ _ hon => effect_fieldInputChange hon, fun _ _ => effect_wireBreak, fun _ _ => effect_wireBreakClear, ?lossA, ?lossAHidden,
    ?lossB, ?lossBHidden, ?returnOn, ?returnA, ?returnB⟩
  case sent => exact fun s hr => effect_of_onDev (exec_downstreamFrameSend s) hr rfl
  case good =>
    intro k f y s hdown hon hgood hseq
    exact effect_congr (effect_downstreamReceive_goodCrc hdown hon hgood) (congrArg (Dev.takeSafetyPart · k y f) (if_pos hseq))
  case badSeq =>
    intro k f y s hdown hon hgood hseq
    exact effect_congr (effect_downstreamReceive_goodCrc hdown hon hgood) (congrArg (Dev.takeSafetyPart · k y f) (if_neg hseq))
  case noFrame =>
    intro k x y s hdown
    refine effect_of_onAll (exec_fieldDieDownstreamReceive k x y s) ?_
    dsimp only
    rw [hdown]
  case missingUp => exact fun k s => effect_of_onAll (exec_linkFrameMissing k true s) (if_pos rfl)
  case missingDown =>
    exact fun k s hon => effect_of_onAll (exec_linkFrameMissing k false s) ((if_neg Bool.false_ne_true).trans (if_pos hon))
  case missingDownOff =>
    intro k s hoff
    exact effect_of_onAll (exec_linkFrameMissing k false s) ((if_neg Bool.false_ne_true).trans (if_neg (by simp [hoff])))
  case undervoltage => exact fun g s => effect_of_onAll (exec_groupUndervoltage g s) rfl
  case uvRecover => exact fun g s => effect_of_onAll (exec_groupUvRecover g s) rfl
  case overcurrent => exact fun g s => effect_of_onAll (exec_groupOvercurrent g s) rfl
  case restart => exact fun o s hmode => effect_of_onAll (exec_outputThermalRestart o s) (if_neg hmode)
  case noRestart => exact fun o s hmode => effect_of_onAll (exec_outputThermalRestart o s) (if_pos hmode)
  case lossA =>
    intro s hon hshown
    exact effect_congr (effect_fieldLogicSupplyLoss hon) ((if_pos rfl).trans (congrArg (Dev.chanStop · true) (if_pos hshown)))
  case lossAHidden =>
    intro s hon hhidden
    exact effect_congr (effect_fieldLogicSupplyLoss hon) <|
      (if_pos rfl).trans (congrArg (Dev.chanStop · true) (if_neg (ne_true_of_eq_false hhidden)))
  case lossB => exact fun s hon hshown => effect_congr (effect_fieldLogicSupplyLoss hon) ((if_neg Nat.one_ne_zero).trans (if_pos hshown))
  case lossBHidden =>
    intro s hon hhidden
    exact effect_congr (effect_fieldLogicSupplyLoss hon) <|
      (if_neg Nat.one_ne_zero).trans (if_neg (ne_true_of_eq_false hhidden))
  case returnOn => exact fun k s hon => effect_of_onAll (exec_fieldLogicSupplyReturn k s) (if_pos hon)
  case returnA =>
    exact fun s hoff => effect_of_onAll (exec_fieldLogicSupplyReturn 0 s) ((if_neg (ne_true_of_eq_false hoff)).trans (if_pos rfl))
  case returnB =>
    intro s hoff
    exact effect_of_onAll (exec_fieldLogicSupplyReturn 1 s) <|
      (if_neg (ne_true_of_eq_false hoff)).trans (if_neg Nat.one_ne_zero)

end Sys2Proof.Machine

/-!
PROOF. Events of the safety channels (R428–R449): inputs, test pulses, decisions, the latch, faults and the start, case by case; O44 and O59
from it.
-/

namespace Sys2Proof.Machine

/-! ### Answers of the safety events -/

theorem exec_safetyInputFilter (b : Bool) (i : Fin 16) (lv : Bool) (s : State) :
    exec (.safetyInputFilter b i lv) s = execSafetyInputFilter b i lv s := rfl

theorem exec_pairDiscrepancy (b : Bool) (p : Fin 8) (s : State) : exec (.pairDiscrepancy b p) s = execPairDiscrepancy b p s := rfl

theorem exec_resetInputPulse (b : Bool) (i : Fin 16) (s : State) : exec (.resetInputPulse b i) s = execResetInputPulse b i s := rfl

theorem exec_testPulse (k : Fin 4) (x y z w : BitVec 16) (r : Bool) (s : State) :
    exec (.testPulse k x y z w r) s = execTestPulse k x y z w r s := rfl

theorem exec_soTestPulse (j : Fin 4) (r : Bool) (s : State) : exec (.soTestPulse j r) s = execSoTestPulse j r s := rfl

theorem exec_safetyDecision (b : Bool) (s : State) : exec (.safetyDecision b) s = execSafetyDecision b s := rfl

theorem exec_safetyLatch (r : BitVec 4) (s : State) : exec (.safetyLatch r) s = execSafetyLatch r s := rfl

theorem exec_safetyCompareFault (b : Bool) (s : State) : exec (.safetyCompareFault b) s = execSafetyCompareFault b s := rfl

theorem exec_safetyMessageMissing (b : Bool) (s : State) : exec (.safetyMessageMissing b) s = execSafetyMessageMissing b s := rfl

theorem exec_stoenBFrameLoss (s : State) : exec .stoenBFrameLoss s = execStoenBFrameLoss s := rfl

theorem exec_lockstepFault (s : State) : exec .lockstepFault s = execLockstepFault s := rfl

theorem exec_ss1DelayExpiry (f : Fin 8) (s : State) : exec (.ss1DelayExpiry f) s = execSs1DelayExpiry f s := rfl

theorem exec_safetyStartup (b : Bool) (s : State) : exec (.safetyStartup b) s = execSafetyStartup b s := rfl

theorem exec_safetyStartupTestComplete (b : Bool) (s : State) :
    exec (.safetyStartupTestComplete b) s = execSafetyStartupTestComplete b s := rfl

/-! ### Inputs (R428, R429) -/

section
variable {b : Bool} {i : Fin 16} {p : Fin 8} {lv : Bool} {w : List Word} {s : State} (hon : (s.dev.chan b).on = true)
include hon

theorem effect_safetyInputFilter : Effect (.safetyInputFilter b i lv) s fun d =>
    let d := d.modChan b fun c => { c with filt := putBit c.filt i lv }
    if b then d else d.fs R.SAFETY_IN F.SAFETY_IN_CH_A d.safety.a.filt :=
  effect_of_onAll (exec_safetyInputFilter b i lv s) <| if_neg (by simp [hon])

theorem effect_pairDiscrepancy (hset : (s.dev.chan b).set = some w) (hused : pairUsed w p = true)
    (hnew : (s.dev.chan b).disc.testBit p = false)
    (hdiff : (s.dev.chan b).inDemands (s.dev.chan b).filt (2 * p) ≠ (s.dev.chan b).inDemands (s.dev.chan b).filt (2 * p + 1)) :
    Effect (.pairDiscrepancy b p) s fun d =>
      let d := d.modChan b fun c => { c with disc := c.disc + 2 ^ p.val, both := putBit c.both p false }
      if b then d else d.setFlag R.SAFETY_PAIR (F.SAFETY_PAIR_DISC.lo + p) 546 :=
  effect_of_onAll (exec_pairDiscrepancy b p s) <| if_neg (by simpa [hon, hset, hused, hnew] using hdiff)

end

/-! ### Test pulses (R436–R438) -/

theorem effect_testPulse_otherCycle {k : Fin 4} {x y z w : BitVec 16} {r : Bool} {s : State}
    (hno : s.dev.safety.b.on = false ∨ s.dev.safety.cyc % 80 ≠ 20 * k.val) : Effect (.testPulse k x y z w r) s fun d => d :=
  effect_of_onAll (exec_testPulse k x y z w r s) <| if_pos <| by
    obtain h | h := hno <;> simp [h]

theorem Dev.modChan_tpOut (d : Dev) (b : Bool) (f : SChan → SChan) : (d.modChan b f).safety.tpOut = d.safety.tpOut := by
  cases b <;> rfl

theorem effect_testPulse {k : Fin 4} {x y z w : BitVec 16} {r : Bool} {s : State} (hon : s.dev.safety.b.on = true)
    (hcyc : s.dev.safety.cyc % 80 = 20 * k.val) : Effect (.testPulse k x y z w r) s fun d =>
      let e := if d.safety.a.on then d.modChan false fun c => c.pulse k x.toNat y.toNat else d
      let e := e.modChan true fun c => c.pulse k z.toNat w.toNat
      let n := if r then tabGet d.safety.tpOut k + 1 else 0
      let e := e.modSafety fun s => { s with tpOut := tabSet s.tpOut k (min 2 n) }
      let e := if 2 ≤ n then e.chanFault true 5 else e
      let e := if k.val = 3 then (e.modChan false SChan.periodEnd).modChan true SChan.periodEnd else e
      if e.safety.a.on then e.showTp else e :=
  effect_of_onAll (exec_testPulse k x y z w r s) <| (if_neg (by simp [hon, hcyc])).trans <| by
    dsimp only
    rw [Dev.modChan_tpOut, apply_ite (fun e : Dev => e.safety.tpOut), Dev.modChan_tpOut, ite_self]

theorem effect_soTestPulse {j : Fin 4} {r : Bool} {s : State} (hon : (s.dev.chan (j.val % 2 = 1)).on = true)
    (hso : (s.dev.chan (j.val % 2 = 1)).so.testBit (j.val / 2) = true) : Effect (.soTestPulse j r) s fun d =>
      let b := decide (j.val % 2 = 1)
      let n := if r then tabGet (d.chan b).soBad (2 + j.val / 2) + 1 else 0
      let d := d.modChan b fun c => { c with soBad := tabSet c.soBad (2 + j.val / 2) (min 2 n) }
      if 2 ≤ n then d.chanFault b 4 else d :=
  effect_of_onAll (exec_soTestPulse j r s) <| if_neg (by simp [hon, hso])

theorem effect_soTestPulse_off {j : Fin 4} {r : Bool} {s : State}
    (hoff : (s.dev.chan (j.val % 2 = 1)).on = false ∨ (s.dev.chan (j.val % 2 = 1)).so.testBit (j.val / 2) = false) :
    Effect (.soTestPulse j r) s fun d => d :=
  effect_of_onAll (exec_soTestPulse j r s) <| if_pos <| by
    obtain h | h := hoff <;> simp [h]

/-! ### Decisions (R430–R432) -/

theorem effect_safetyDecision_B {s : State} (hon : s.dev.safety.b.on = true) (hdue : s.dev.safety.b.due = true) :
    Effect (.safetyDecision true) s fun d =>
      let old := d.safety.b
      let d := d.modChan true SChan.decide
      let d := d.modChan true fun c => { c with soNext := if c.faults = 0 && !c.startup then maskOf 2 (soOn c.set c.next old.cmd) else 0 }
      d.modChan true fun c => { c with prev := c.cur, cur := some (d.ownMsg true) } := by
  refine effect_of_onAll (exec_safetyDecision true s) ((if_neg (by simp [Dev.chan, hon, hdue])).trans ?_)
  simp only [reduceIte, Dev.chan]

theorem effect_safetyDecision_A {s : State} (hon : s.dev.safety.a.on = true) (hdue : s.dev.safety.a.due = true) :
    Effect (.safetyDecision false) s fun d =>
      let old := d.safety.a
      let d := d.modChan false SChan.decide
      let cmd := d.soCmdA
      let d := d.modChan false fun c => { c with soNext := if c.faults = 0 && !c.startup then maskOf 2 (soOn c.set c.next cmd) else 0 }
      let d := d.showDecision old
      (d.sendSafety (d.ownMsg false)).modChan false fun c => { c with prev := c.cur, cur := some (d.ownMsg false) } := by
  refine effect_of_onAll (exec_safetyDecision false s) ((if_neg (by simp [Dev.chan, hon, hdue])).trans ?_)
  simp only [reduceIte, Dev.chan, Bool.false_eq_true]

/-! ### Faults (R433, R435, R444) -/

theorem effect_safetyCompareFault {b : Bool} {s : State} (hon : (s.dev.chan b).on = true)
    (hdiff : (s.dev.chan b).crcDiff = true ∨ (s.dev.chan b).diff = 8) (hnew : (s.dev.chan b).faults.testBit 0 = false) :
    Effect (.safetyCompareFault b) s fun d => d.chanFault b 0 :=
  effect_of_onAll (exec_safetyCompareFault b s) <| if_pos (by simpa [hon, hnew] using hdiff)

/-- Channel A shows that channel B, whose messages are missing, does not run. -/
def Dev.showSilent (d : Dev) (b : Bool) : Dev :=
  if !b && d.fb R.SAFETY_STATUS F.SAFETY_STATUS_CH_B_RUN then (d.fsb R.SAFETY_STATUS F.SAFETY_STATUS_CH_B_RUN false).raise 550 else d

theorem effect_safetyMessageMissing {b : Bool} {s : State} (hon : (s.dev.chan b).on = true) (hmiss : 2 ≤ (s.dev.chan b).missing) :
    Effect (.safetyMessageMissing b) s fun d =>
      let n := if b then 2 else 3
      (if (d.chan b).faults.testBit n then d else d.chanFault b n).showSilent b :=
  effect_of_onAll (exec_safetyMessageMissing b s) <| if_neg (by simpa [hon] using Nat.lt_of_succ_le hmiss)

/-! ### The end of the delay of SS1 (R441) -/

/-- In channel `b` with the set `w`, the function `f` of a running SS1 is held and STO applies. -/
def Dev.ss1End (f : Fin 8) (d : Dev) (b : Bool) (w : List Word) : Dev :=
  if (d.chan b).on && (d.chan b).ss1.testBit f then
    let m := (d.chan b).sto ||| fnBanks w f
    let e := (d.modChan b fun c => { c with ss1 := putBit c.ss1 f false, hold := putBit c.hold f true }).chanApply b m
      (maskOf 2 fun x => (d.chan b).so.testBit x && soOn (some w) m (d.chan b).so x)
    if b then e else e.ss1Start
  else d

/-- What the end of the delay of SS1 does to channel `b`. -/
def Dev.ss1Ends (f : Fin 8) (d : Dev) (b : Bool) : Dev := (d.chan b).set.elim d (d.ss1End f b)

theorem Dev.ss1Ends_eq (f : Fin 8) (d : Dev) (b : Bool) : d.ss1Ends f b =
    match (d.chan b).set with
    | none => d
    | some w =>
      if (d.chan b).on && (d.chan b).ss1.testBit f then
        let e := d.modChan b fun c => { c with ss1 := putBit c.ss1 f false, hold := putBit c.hold f true }
        let m := (d.chan b).sto ||| fnBanks w f
        let e := e.chanApply b m (maskOf 2 fun x => (d.chan b).so.testBit x && soOn (d.chan b).set m (d.chan b).so x)
        if b then e else e.ss1Start
      else d := by
  unfold Dev.ss1Ends
  cases h : (d.chan b).set with
  | none => rfl
  | some w => simp only [Option.elim_some, Dev.ss1End]

theorem effect_ss1DelayExpiry {f : Fin 8} {s : State} :
    Effect (.ss1DelayExpiry f) s fun d => (d.ss1Ends f true).ss1Ends f false :=
  effect_of_onAll (exec_ss1DelayExpiry f s) <| by
    rw [Dev.ss1Ends_eq, Dev.ss1Ends_eq]
    rfl

/-! ### The start of a channel (R448, R449) -/

theorem effect_safetyStartup_B {s : State} (hoff : s.dev.safety.b.on = false) (hdie : (tabGet s.dev.field.dies 0).on = true) :
    Effect (.safetyStartup true) s fun d => d.safetyStart true :=
  effect_of_onAll (exec_safetyStartup true s) <|
    (if_neg (by simp [Dev.chan, hoff])).trans <| (if_pos rfl).trans (if_pos hdie)

theorem effect_safetyStartup_A {s : State} (hr : Running s) (hoff : s.dev.safety.a.on = false)
    (hlock : s.dev.fb R.SYS_CLOCK_STATUS F.SYS_CLOCK_STATUS_SAFA_LOCK = true) (hnone : s.dev.safety.a.faults.testBit 6 = false) :
    Effect (.safetyStartup false) s fun d => d.safetyStart false :=
  effect_of_onAll (exec_safetyStartup false s) <|
    (if_neg (by simp [Dev.chan, hoff])).trans <| (if_neg Bool.false_ne_true).trans <|
      if_neg (by simp [show s.dev.heldInReset = false from hr, hlock, hnone])

theorem effect_safetyStartupTestComplete {b : Bool} {w : List Word} {s : State} (hon : (s.dev.chan b).on = true)
    (hstart : (s.dev.chan b).startup = true) (hset : (s.dev.chan b).set = some w) : Effect (.safetyStartupTestComplete b) s fun d =>
      let d := d.modChan b fun c => { c with startup := false }
      if b then d else d.fsb R.SAFETY_STATUS F.SAFETY_STATUS_STARTUP false :=
  effect_of_onAll (exec_safetyStartupTestComplete b s) <| if_neg (by simp [hon, hstart, hset])

/-- Settles O44: by the lemmas above, an event each; the latch and the delay of SS1 are the rows' own functions. -/
theorem safetyEventsTakeEffect : Obligations.SafetyEventsTakeEffect := by
  refine ⟨fun _ _ _ _ => effect_safetyInputFilter, fun _ _ _ _ => effect_pairDiscrepancy, fun _ i s hon => ?resetInput,
    fun _ _ _ _ _ _ _ => effect_testPulse_otherCycle, fun _ _ _ _ _ _ _ => effect_testPulse, fun _ _ _ => effect_soTestPulse,
    fun _ _ _ => effect_soTestPulse_off, fun _ => effect_safetyDecision_B, fun _ => effect_safetyDecision_A, fun r s => ?latch,
    fun _ _ => effect_safetyCompareFault, fun _ _ => effect_safetyMessageMissing, fun s hbad => ?frameLoss, fun s hr hon => ?lockstep,
    fun _ _ _ => effect_ss1DelayExpiry, fun _ => effect_safetyStartup_B, fun _ => effect_safetyStartup_A,
    fun _ _ _ => effect_safetyStartupTestComplete⟩
  case resetInput => exact effect_of_onAll (exec_resetInputPulse _ i s) (if_pos hon)
  case latch => exact effect_of_onAll (exec_safetyLatch r s) rfl
  case frameLoss => exact effect_of_onAll (exec_stoenBFrameLoss s) (if_pos hbad)
  case lockstep => exact effect_of_onDev (exec_lockstepFault s) hr (if_pos hon)

/-! ### A fault of a channel and its record -/

/-- The channel `c` holds STO on every bank and its outputs off for the fault `k`. -/
def SChan.HoldsFault (c : SChan) (k : Nat) : Prop :=
  c.faults.testBit k = true ∧ c.sto = 15 ∧ c.so = 0 ∧ c.next ||| 15 = c.next ∧ c.soNext = 0

theorem Dev.chanFault_holdsFault (d : Dev) (b : Bool) (k : Nat) : ((d.chanFault b k).chan b).HoldsFault k := by
  rw [Dev.chanFault_chan]
  exact ⟨by rw [Nat.testBit_or, Nat.testBit_two_pow_self, Bool.or_true], rfl, rfl, Nat.or_self 15, rfl⟩

theorem Dev.showSilent_chan (d : Dev) (b b' : Bool) : (d.showSilent b).chan b' = d.chan b' := by
  unfold Dev.showSilent
  split
  · simp [Dev.chan]
  · rfl

/-- Settles O59: the two commands fault the channel (`Dev.chanFault`), which holds STO and turns its outputs off. -/
theorem safetyFaultsHoldSto : Obligations.SafetyFaultsHoldSto := by
  refine fun b s hon => ⟨fun hdiff hnew => ⟨_, effect_safetyCompareFault hon hdiff hnew, Dev.chanFault_holdsFault _ b 0⟩,
    fun hmiss hnew => ⟨_, effect_safetyMessageMissing hon hmiss, ?_⟩⟩
  have hholds := Dev.chanFault_holdsFault s.dev b (if b then 2 else 3)
  simpa [hnew, Dev.showSilent_chan, SChan.HoldsFault] using hholds

end Sys2Proof.Machine

/-!
PROOF. Events of a redundant pair (R451–R472): its states, heartbeats and switchover, and the frames of the Tie, case by case; O45 and O46
from it.
-/

namespace Sys2Proof.Machine

/-! ### Answers of the events of the pair -/

theorem exec_pairEnSet (s : State) : exec .pairEnSet s = execPairEnSet s := rfl

theorem exec_pairEnClear (s : State) : exec .pairEnClear s = execPairEnClear s := rfl

theorem exec_pairBootWaitExpiry (s : State) : exec .pairBootWaitExpiry s = execPairBootWaitExpiry s := rfl

theorem exec_heartbeatSend (s : State) : exec .heartbeatSend s = execHeartbeatSend s := rfl

theorem exec_pairHboToggle (s : State) : exec .pairHboToggle s = execPairHboToggle s := rfl

theorem exec_pairHbiEdge (s : State) : exec .pairHbiEdge s = execPairHbiEdge s := rfl

theorem exec_heartbeatPathLost (pin : Bool) (s : State) : exec (.heartbeatPathLost pin) s = execHeartbeatPathLost pin s := rfl

theorem exec_partnerLost (s : State) : exec .partnerLost s = execPartnerLost s := rfl

theorem exec_pairWatchdogExpiry (s : State) : exec .pairWatchdogExpiry s = execPairWatchdogExpiry s := rfl

theorem exec_pairDivergence (a : Fin 64) (s : State) : exec (.pairDivergence a) s = execPairDivergence a s := rfl

theorem exec_safetyDiff (s : State) : exec .safetyDiff s = execSafetyDiff s := rfl

theorem exec_tieLinkUp (s : State) : exec .tieLinkUp s = execTieLinkUp s := rfl

theorem exec_tieLinkDown (silent : Bool) (s : State) : exec (.tieLinkDown silent) s = execTieLinkDown silent s := rfl

theorem exec_bulkCopyComplete (s : State) : exec .bulkCopyComplete s = execBulkCopyComplete s := rfl

theorem exec_switchoverTick (s : State) : exec .switchoverTick s = execSwitchoverTick s := rfl

/-! ### The states of the pair (R454–R456) -/

theorem effect_pairEnClear_active {s : State} (hr : Running s) (hen : s.dev.pairEn = false) (hactive : s.dev.pairState = 2) :
    Effect .pairEnClear s fun d => (d.setPairState 0).modPair fun p => { p with heard := false, switch := false } :=
  effect_of_onDev (exec_pairEnClear s) hr <| (if_pos (by simp [hen, hactive])).trans <| by simp [hactive]

theorem effect_pairEnClear_paired {s : State} (hr : Running s) (hen : s.dev.pairEn = false) (hpaired : s.dev.pairState = 3) :
    Effect .pairEnClear s fun d => ((d.sendTie 8 [5]).setPairState 0).modPair fun p => { p with heard := false, switch := false } :=
  effect_of_onDev (exec_pairEnClear s) hr <| (if_pos (by simp [hen, hpaired])).trans <| by simp [hpaired]

/-! ### Heartbeats (R457–R460) -/

section
variable {s : State} (hr : Running s) (hbeats : s.dev.beats = true)
include hr hbeats

theorem effect_heartbeatSend (hkeep : s.dev.pairActive = false ∨ s.dev.lockLost = false) : Effect .heartbeatSend s fun d =>
    let d := if d.pair.heardNow then d else d.satInc R.PAIR_COUNTS F.PAIR_COUNTS_HB_MISSED
    let pay := [toW d.pairState, Config.freeWord d.fresh] ++ words64 d.ns ++ [d.cfgCrc, d.rd R.SAFETY_SET_CRC] ++
      words64 (d.rd64 (R.SYS_TICK_COUNT 0))
    (d.nextFresh.modPair fun p => { p with heardNow := false }).tieFrame 1 pay :=
  effect_of_onDev (exec_heartbeatSend s) hr <|
    (if_neg (by simp [hbeats])).trans <| if_neg (by simpa [Classical.or_iff_not_imp_left] using hkeep)

theorem effect_heartbeatSend_lockLost (hactive : s.dev.pairActive = true) (hlost : s.dev.lockLost = true) :
    Effect .heartbeatSend s fun d => d.resign 4 :=
  effect_of_onDev (exec_heartbeatSend s) hr <| (if_neg (by simp [hbeats])).trans <| if_pos (by simp [hactive, hlost])

theorem effect_pairHboToggle (hkeep : s.dev.pairActive = false ∨ s.dev.lockLost = false) :
    Effect .pairHboToggle s fun d => d.modPair fun p => { p with hbo := !p.hbo } :=
  effect_of_onDev (exec_pairHboToggle s) hr <|
    (if_neg (by simp [hbeats])).trans <| if_neg (by simpa [Classical.or_iff_not_imp_left] using hkeep)

theorem effect_pairHboToggle_lockLost (hactive : s.dev.pairActive = true) (hlost : s.dev.lockLost = true) :
    Effect .pairHboToggle s fun d => d.resign 4 :=
  effect_of_onDev (exec_pairHboToggle s) hr <| (if_neg (by simp [hbeats])).trans <| if_pos (by simp [hactive, hlost])

theorem effect_partnerLost (hseek : s.dev.pairState ≠ 1) (hheard : s.dev.pair.heard = true) : Effect .partnerLost s fun d =>
    (((d.fsb R.PAIR_STATUS F.PAIR_STATUS_HB_TIE false).fsb R.PAIR_STATUS F.PAIR_STATUS_HB_PIN false).partnerLost 1).modPair fun p =>
      { p with heard := false } :=
  effect_of_onDev (exec_partnerLost s) hr <| if_neg (by simp [hbeats, hseek, hheard])

end

theorem effect_tieLinkDown {x : Bool} {s : State} (hr : Running s) (hup : s.dev.fb R.PAIR_STATUS F.PAIR_STATUS_LINK_UP = true)
    (hbad : x = true ∨ 4 ≤ s.dev.pair.badRun) : Effect (.tieLinkDown x) s fun d => d.tieDown :=
  effect_of_onDev (exec_tieLinkDown x s) hr <| if_neg (by simpa [hup, Classical.or_iff_not_imp_left] using hbad)

/-! ### The switchover (R470, R471) -/

theorem Dev.modPair_pairState (d : Dev) (f : PairSt → PairSt) : (d.modPair f).pairState = d.pairState := rfl

theorem effect_switchoverTick_active {s : State} (hr : Running s) (hswitch : s.dev.pair.switch = true) (hpaired : s.dev.pairState = 3)
    (hdue : s.dev.pair.switchAt + 1000000 ≤ s.dev.ns) : Effect .switchoverTick s fun d =>
      let e := d.modPair fun p => { p with switch := false }
      ((e.wr64 R.PAIR_TAKEOVER_TIME e.ns).toStandby).resolve ⟨.switchover, 0⟩ 0 0 (words64 (e.rd64 (R.SYS_TICK_COUNT 0))) :=
  effect_of_onDev (exec_switchoverTick s) hr <| (if_neg (by simpa [hswitch, hpaired] using hdue)).trans <| by
    dsimp only
    rw [if_pos ((Dev.modPair_pairState ..).trans hpaired)]

theorem effect_switchoverTick_standby {s : State} (hr : Running s) (hswitch : s.dev.pair.switch = true)
    (hready : s.dev.pairState = 5) : Effect .switchoverTick s fun d =>
      let e := d.modPair fun p => { p with switch := false }
      (e.takeover 3 none).resolve ⟨.switchover, 0⟩ 0 0 (words64 (e.rd64 (R.SYS_TICK_COUNT 0))) :=
  effect_of_onDev (exec_switchoverTick s) hr <| (if_neg (by simp [hswitch, hready])).trans <| by
    dsimp only
    rw [Dev.modPair_pairState, hready, if_neg (by decide), if_pos rfl]

/-- Settles O45: an event each, by the lemmas above or, where one condition guards the row, by that condition. -/
theorem pairStateEventsTakeEffect : Obligations.PairStateEventsTakeEffect := by
  refine ⟨fun s hr hen hsingle => ?enSet, fun _ => effect_pairEnClear_active, fun _ => effect_pairEnClear_paired,
    fun s hr hen hseek hnew => ?bootWait, fun _ => effect_heartbeatSend, fun _ => effect_heartbeatSend_lockLost,
    fun _ => effect_pairHboToggle, fun _ => effect_pairHboToggle_lockLost, fun s hr hbeats => ?hbi, fun p s hr => ?pathLost,
    fun _ => effect_partnerLost, fun s hr => ?watchdog, fun a s hr hstandby hoff => ?divergence, fun s hr hbeats hdiff => ?safety,
    fun s hr hgood hon => ?linkUp, fun _ _ => effect_tieLinkDown, fun s hr hsync hup => ?bulk, fun _ => effect_switchoverTick_active,
    fun _ => effect_switchoverTick_standby⟩
  case enSet => exact effect_of_onDev (exec_pairEnSet s) hr (if_pos (by simp [hen, hsingle]))
  case bootWait => exact effect_of_onDev (exec_pairBootWaitExpiry s) hr (if_pos (by simp [hen, hseek, hnew]))
  case hbi => exact effect_of_onDev (exec_pairHbiEdge s) hr (if_neg (by simp [hbeats]))
  case pathLost => exact effect_of_onDev (exec_heartbeatPathLost p s) hr rfl
  case watchdog => exact effect_of_onDev (exec_pairWatchdogExpiry s) hr rfl
  case divergence => exact effect_of_onDev (exec_pairDivergence a s) hr (if_pos (by simp [hstandby, hoff]))
  case safety => exact effect_of_onDev (exec_safetyDiff s) hr (if_pos (by simp [hbeats, hdiff]))
  case linkUp => exact effect_of_onDev (exec_tieLinkUp s) hr (if_pos (by simp [hgood, hon]))
  case bulk => exact effect_of_onDev (exec_bulkCopyComplete s) hr (if_pos (by simp [hsync, hup]))

/-! ### Answers of the frames of the Tie -/

theorem exec_heartbeatReceive (h : TieHead) (b : Heartbeat) (s : State) : exec (.heartbeatReceive h b) s = execHeartbeatReceive h b s := rfl

theorem exec_axisMirrorReceive (h : TieHead) (a : Fin 64) (m : AxisMirror) (s : State) :
    exec (.axisMirrorReceive h a m) s = execAxisMirrorReceive h a m s := rfl

theorem exec_laneMirrorReceive (h : TieHead) (n : Fin 4) (m : LaneMirror) (s : State) :
    exec (.laneMirrorReceive h n m) s = execLaneMirrorReceive h n m s := rfl

theorem exec_commandMirrorReceive (h : TieHead) (p : Packet) (s : State) :
    exec (.commandMirrorReceive h p) s = execCommandMirrorReceive h p s := rfl

theorem exec_postMirrorReceive (h : TieHead) (m : PostMirror) (s : State) :
    exec (.postMirrorReceive h m) s = execPostMirrorReceive h m s := rfl

theorem exec_safetyFrameReceive (h : TieHead) (sto : BitVec 4) (s : State) :
    exec (.safetyFrameReceive h sto) s = execSafetyFrameReceive h sto s := rfl

theorem exec_resignReceive (h : TieHead) (cause : Fin 8) (s : State) : exec (.resignReceive h cause) s = execResignReceive h cause s := rfl

theorem exec_strobeReceive (h : TieHead) (s : State) : exec (.strobeReceive h) s = execStrobeReceive h s := rfl

theorem exec_bulkReceive (h : TieHead) (ws : List (Nat × Word)) (s : State) : exec (.bulkReceive h ws) s = execBulkReceive h ws s := rfl

/-! ### Frames of a part in the states 1 to 5, of a standby and of a STANDBY_SYNC part -/

/-- Settles O46: a row's frame is behind one condition on the state of the pair, which holds in the first part of the clauses and
fails in the second. -/
theorem pairFramesTakeEffect : Obligations.PairFramesTakeEffect := by
  refine ⟨fun h b s hr hbeats => ?heartbeat, fun h a m s hr hstandby => ?axis, fun h n m s hr hstandby => ?lane,
    fun h p s hr hstandby => ?command, fun h m s hr hstandby => ?post, fun h x s hr hbeats => ?safety, fun h x s hr hbeats => ?resign,
    fun h s hr => ?strobe, fun h l s hr hsync => ?bulk, fun h b s hr hquiet => ?noHeartbeat, fun h x s hr hquiet => ?noSafety,
    fun h x s hr hquiet => ?noResign, fun h a m s hr hside => ?noAxis, fun h n m s hr hside => ?noLane,
    fun h p s hr hside => ?noCommand, fun h m s hr hside => ?noPost, fun h l s hr hother => ?noBulk⟩
  case heartbeat => exact effect_of_onDev (exec_heartbeatReceive h b s) hr (if_neg (by simp [hbeats]))
  case axis => exact effect_of_onDev (exec_axisMirrorReceive h a m s) hr (if_neg (by simp [hstandby]))
  case lane => exact effect_of_onDev (exec_laneMirrorReceive h n m s) hr (if_neg (by simp [hstandby]))
  case command => exact effect_of_onDev (exec_commandMirrorReceive h p s) hr (if_neg (by simp [hstandby]))
  case post => exact effect_of_onDev (exec_postMirrorReceive h m s) hr (if_neg (by simp [hstandby]))
  case safety => exact effect_of_onDev (exec_safetyFrameReceive h x s) hr (if_neg (by simp [hbeats]))
  case resign => exact effect_of_onDev (exec_resignReceive h x s) hr (if_neg (by simp [hbeats]))
  case strobe => exact effect_of_onDev (exec_strobeReceive h s) hr rfl
  case bulk => exact effect_of_onDev (exec_bulkReceive h l s) hr (if_neg (by simp [hsync]))
  case noHeartbeat => exact effect_of_onDev (exec_heartbeatReceive h b s) hr (if_pos (by simp [hquiet]))
  case noSafety => exact effect_of_onDev (exec_safetyFrameReceive h x s) hr (if_pos (by simp [hquiet]))
  case noResign => exact effect_of_onDev (exec_resignReceive h x s) hr (if_pos (by simp [hquiet]))
  case noAxis => exact effect_of_onDev (exec_axisMirrorReceive h a m s) hr (if_pos (by simp [hside]))
  case noLane => exact effect_of_onDev (exec_laneMirrorReceive h n m s) hr (if_pos (by simp [hside]))
  case noCommand => exact effect_of_onDev (exec_commandMirrorReceive h p s) hr (if_pos (by simp [hside]))
  case noPost => exact effect_of_onDev (exec_postMirrorReceive h m s) hr (if_pos (by simp [hside]))
  case noBulk => exact effect_of_onDev (exec_bulkReceive h l s) hr (if_pos hother)

end Sys2Proof.Machine

/-!
PROOF. Events of the store and of the power states (R476–R497), case by case; O47 from it.
-/

namespace Sys2Proof.Machine

/-! ### Answers of the store and power events -/

theorem exec_nandOperationComplete (e : NandEnd) (s : State) : exec (.nandOperationComplete e) s = execNandOperationComplete e s := rfl

theorem exec_nandScrub (l : List ScrubBlock) (ends unread : Bool) (s : State) :
    exec (.nandScrub l ends unread) s = execNandScrub l ends unread s := rfl

theorem exec_wearBudgetTick (s : State) : exec .wearBudgetTick s = execWearBudgetTick s := rfl

theorem exec_powerFail (s : State) : exec .powerFail s = execPowerFail s := rfl

theorem exec_journalFlush (slot : Fin 16) (dur : Nat) (ok : Bool) (s : State) :
    exec (.journalFlush slot dur ok) s = execJournalFlush slot dur ok s := rfl

theorem exec_backupEntry (vddFell : Bool) (s : State) : exec (.backupEntry vddFell) s = execBackupEntry vddFell s := rfl

theorem exec_backupEnd (straps : Straps) (s : State) : exec (.backupEnd straps) s = execBackupEnd straps s := rfl

theorem exec_vauxLoss (s : State) : exec .vauxLoss s = execVauxLoss s := rfl

theorem exec_vauxReturn (s : State) : exec .vauxReturn s = execVauxReturn s := rfl

theorem exec_islandStop (s : State) : exec .islandStop s = execIslandStop s := rfl

theorem exec_vbakLow (s : State) : exec .vbakLow s = execVbakLow s := rfl

/-! ### The end of a NAND operation (R479–R486) -/

section
variable {o : StoreOp} {l : List StoreOp} {n b x w : Nat} {z : Bool} {s : State} (hr : Running s) (hops : s.dev.store.ops = o :: l)
  (hmounted : s.dev.mounted = true)
include hr hops hmounted

theorem effect_nandProgrammed (hwrite : o.kind ≠ .read) : Effect (.nandOperationComplete (.programmed n z)) s fun d =>
    let d := d.wearDraw n
    let p := { o with phys := o.phys + n }
    let d := d.modStore fun s => { s with ops := s.ops.map fun x => if x.id = p.id then p else x }
    if z && !d.fb R.POWER_STATUS F.POWER_STATUS_PF_ACTIVE then d.finishStore p else d :=
  effect_of_onDev (exec_nandOperationComplete _ s) hr <| by
    dsimp only
    rw [hops]
    exact (if_neg (by simp [hmounted])).trans (if_neg hwrite)

theorem effect_nandErased (hwrite : o.kind ≠ .read) : Effect (.nandOperationComplete (.erased b z)) s fun d =>
    let d := (d.modStore fun s => { s with erases := tabMod s.erases b (· + 1) }).wearRegs.levelWear
    if z && o.kind = .erase && !d.fb R.POWER_STATUS F.POWER_STATUS_PF_ACTIVE then d.finishStore o else d :=
  effect_of_onDev (exec_nandOperationComplete _ s) hr <| by
    dsimp only
    rw [hops]
    exact (if_neg (by simp [hmounted])).trans (if_neg hwrite)

theorem effect_nandRead : Effect (.nandOperationComplete (.read b x w z)) s fun d =>
    let d := d.corrected b x w
    if z && o.kind = .read then d.finishStore o else d :=
  effect_of_onDev (exec_nandOperationComplete _ s) hr <| by
    dsimp only
    rw [hops]
    exact if_neg (by simp [hmounted])

theorem effect_nandFailed (hwrite : o.kind ≠ .read) : Effect (.nandOperationComplete (.failed b)) s fun d => d.retire b :=
  effect_of_onDev (exec_nandOperationComplete _ s) hr <| by
    dsimp only
    rw [hops]
    exact (if_neg (by simp [hmounted])).trans (if_neg hwrite)

theorem effect_nandUncorrectable_oneCopy (hread : o.kind = .read) (hone : twoCopies o.part = false) :
    Effect (.nandOperationComplete (.uncorrectable b)) s fun d =>
      (((d.storeCount F.STORE_COUNTS_UNCORR 1).retire b).setFlag R.STORE_ERR F.STORE_ERR_UNCORR.lo 581).endStore o 0x0703 [] :=
  effect_of_onDev (exec_nandOperationComplete _ s) hr <| by
    dsimp only
    rw [hops]
    exact (if_neg (by simp [hmounted])).trans <| (if_neg (not_not_intro hread)).trans <| if_neg (ne_true_of_eq_false hone)

theorem effect_nandUncorrectable_twoCopies (hread : o.kind = .read) (htwo : twoCopies o.part = true) :
    Effect (.nandOperationComplete (.uncorrectable b)) s fun d =>
      ((d.storeCount F.STORE_COUNTS_UNCORR 1).retire b).storeCount F.STORE_COUNTS_REFRESH 1 :=
  effect_of_onDev (exec_nandOperationComplete _ s) hr <| by
    dsimp only
    rw [hops]
    exact (if_neg (by simp [hmounted])).trans <| (if_neg (not_not_intro hread)).trans <| if_pos htwo

end

theorem effect_nandScrub {l : List ScrubBlock} {z u : Bool} {s : State} (hr : Running s) (hmounted : s.dev.mounted = true)
    (hcool : s.dev.throttled = false) (hawake : s.dev.dozing = false)
    (hpower : s.dev.fb R.POWER_STATUS F.POWER_STATUS_PF_ACTIVE = false) : Effect (.nandScrub l z u) s fun d =>
      let e := l.foldl Dev.scrubBlock d
      let f := (e.modStore fun s => { s with hits := [] }).raise 583
      if z then (if u then f.fsb R.STORE_ERR F.STORE_ERR_SCRUB_LATE true else f) else e :=
  effect_of_onDev (exec_nandScrub l z u s) hr <| (if_neg (by simp [hmounted, hcool, hawake, hpower])).trans <| by
    cases z <;> rfl

/-! ### BACKUP (R489–R494) -/

theorem effect_backupEntry_flushed {s : State} (hr : Running s) (hpower : s.dev.fb R.POWER_STATUS F.POWER_STATUS_PF_ACTIVE = true)
    (hflush : s.dev.store.flush = false) (hstops : s.dev.stopsDone = true) : Effect (.backupEntry false) s fun d => d.toBackup :=
  effect_of_onAll (exec_backupEntry false s) <|
    (if_neg (ne_true_of_eq_false hr)).trans <| if_pos (by simp [hpower, hflush, hstops])

theorem effect_backupEntry_vddFell {s : State} (hr : Running s)
    (hpower : s.dev.fb R.POWER_STATUS F.POWER_STATUS_PF_ACTIVE = true) : Effect (.backupEntry true) s fun d => d.toBackup :=
  effect_of_onAll (exec_backupEntry true s) <| (if_neg (ne_true_of_eq_false hr)).trans <| if_pos (by simp [hpower])

theorem effect_backupEntry_held {x : Bool} {s : State} (hheld : s.dev.heldInReset = true) (hflush : s.dev.store.flush = false)
    (hon : s.dev.power < 3) : Effect (.backupEntry x) s fun d => d.fs R.PWR_STATUS F.PWR_STATUS_STATE 3 :=
  effect_of_onAll (exec_backupEntry x s) <| (if_pos hheld).trans <| if_neg (by simpa [hflush] using hon)

/-- Settles O47: an event each, by the lemmas above or, where one condition guards the row, by that condition. -/
theorem storeAndPowerEventsTakeEffect : Obligations.StoreAndPowerEventsTakeEffect := by
  refine ⟨fun _ _ _ _ _ => effect_nandProgrammed, fun _ _ _ _ _ => effect_nandErased, fun _ _ _ _ _ _ _ => effect_nandRead,
    fun _ _ _ _ => effect_nandFailed, fun _ _ _ _ => effect_nandUncorrectable_oneCopy,
    fun _ _ _ _ => effect_nandUncorrectable_twoCopies, fun _ _ _ _ => effect_nandScrub, fun s hr hmounted => ?budget,
    fun s hr hpower => ?powerFail, fun k n ok s hflush => ?flush, fun _ => effect_backupEntry_vddFell,
    fun _ => effect_backupEntry_flushed, fun _ _ => effect_backupEntry_held, fun x s hheld hbackup => ?backupEnd, fun s => ?vauxLoss,
    fun s => ?vauxReturn, fun s => ?islandStop, fun s hok => ?vbakLow⟩
  case budget => exact effect_of_onDev (exec_wearBudgetTick s) hr (if_neg (by simp [hmounted]))
  case powerFail => exact effect_of_onDev (exec_powerFail s) hr (if_neg (ne_true_of_eq_false hpower))
  case flush => exact effect_of_onAll (exec_journalFlush k n ok s) (if_neg (by simp [hflush]))
  case backupEnd => exact effect_of_onAll (exec_backupEnd x s) (if_neg (by simp [hheld, hbackup]))
  case vauxLoss => exact effect_of_onAll (exec_vauxLoss s) rfl
  case vauxReturn => exact effect_of_onAll (exec_vauxReturn s) rfl
  case islandStop => exact effect_of_onAll (exec_islandStop s) rfl
  case vbakLow => exact effect_of_onAll (exec_vbakLow s) (if_pos hok)

end Sys2Proof.Machine

/-!
PROOF. The JTAG instructions and the timers of debug unlocking (R505–R517); O48 from it.
-/

namespace Sys2Proof.Machine

/-! ### Answers of the JTAG instructions and of the timers -/

theorem exec_jtagIdcode (s : State) : exec .jtagIdcode s = execJtagIdcode s := rfl

theorem exec_jtagSamplePreload (bits : List Bool) (s : State) : exec (.jtagSamplePreload bits) s = execJtagSamplePreload bits s := rfl

theorem exec_jtagBypass (s : State) : exec .jtagBypass s = execJtagBypass s := rfl

theorem exec_jtagExtest (s : State) : exec .jtagExtest s = execJtagExtest s := rfl

theorem exec_jtagClamp (s : State) : exec .jtagClamp s = execJtagClamp s := rfl

theorem exec_jtagHighz (s : State) : exec .jtagHighz s = execJtagHighz s := rfl

theorem exec_jtagDap (s : State) : exec .jtagDap s = execJtagDap s := rfl

theorem exec_nonceExpiry (s : State) : exec .nonceExpiry s = execNonceExpiry s := rfl

theorem exec_unlockLockoutEnd (s : State) : exec .unlockLockoutEnd s = execUnlockLockoutEnd s := rfl

/-! ### Instructions that a part may refuse (R512) -/

theorem Dev.jtagIf_true (d : Dev) (ir : Nat) (x : JtagDrive) : d.jtagIf true ir x = d.jtag ir x := if_pos rfl

theorem Dev.jtagIf_false (d : Dev) (ir : Nat) (x : JtagDrive) :
    d.jtagIf false ir x = (d.jtag 0xFF .none).satInc R.SEC_COUNTS F.SEC_COUNTS_JTAG_REFUSED :=
  if_neg Bool.false_ne_true

section
variable {s : State} (hr : Running s) (hlevel : 1 ≤ s.dev.debugLevel)
include hr hlevel

theorem effect_jtagDap_connects (hnew : s.dev.fb R.DEBUG_STATUS F.DEBUG_STATUS_DAP = false) : Effect .jtagDap s fun d =>
    ((d.jtag 0x20 .none).fsb R.DEBUG_STATUS F.DEBUG_STATUS_DAP true).raise 608 :=
  effect_of_onDev (exec_jtagDap s) hr <| (if_pos hlevel).trans <| if_neg (ne_true_of_eq_false hnew)

theorem effect_jtagDap_connected (hdap : s.dev.fb R.DEBUG_STATUS F.DEBUG_STATUS_DAP = true) : Effect .jtagDap s fun d =>
    (d.jtag 0x20 .none).fsb R.DEBUG_STATUS F.DEBUG_STATUS_DAP true :=
  effect_of_onDev (exec_jtagDap s) hr <| (if_pos hlevel).trans <| if_pos hdap

end

/-- Settles O48: IDCODE, SAMPLE/PRELOAD, BYPASS and the timers are unconditional; the others go by `Dev.scanOk` or the debug level. -/
theorem debugAndJtagEventsTakeEffect : Obligations.DebugAndJtagEventsTakeEffect := by
  refine ⟨fun s hr => ?idcode, fun l s hr => ?samplePreload, fun s hr => ?bypass, fun s hr hok => ?extest, fun s hr hok => ?clamp,
    fun s hr hok => ?highz, fun s hr hno => ?noExtest, fun s hr hno => ?noClamp, fun s hr hno => ?noHighz,
    fun _ => effect_jtagDap_connects, fun _ => effect_jtagDap_connected, fun s hr hnone => ?noDap, fun s hr => ?nonce, fun s => ?lockout⟩
  case idcode => exact effect_of_onDev (exec_jtagIdcode s) hr rfl
  case samplePreload => exact effect_of_onDev (exec_jtagSamplePreload l s) hr rfl
  case bypass => exact effect_of_onDev (exec_jtagBypass s) hr rfl
  case extest => exact effect_of_onDev (exec_jtagExtest s) hr (by rw [hok, Dev.jtagIf_true])
  case clamp => exact effect_of_onDev (exec_jtagClamp s) hr (by rw [hok, Dev.jtagIf_true])
  case highz => exact effect_of_onDev (exec_jtagHighz s) hr (by rw [hok, Dev.jtagIf_true])
  case noExtest => exact effect_of_onDev (exec_jtagExtest s) hr (by rw [hno, Dev.jtagIf_false])
  case noClamp => exact effect_of_onDev (exec_jtagClamp s) hr (by rw [hno, Dev.jtagIf_false])
  case noHighz => exact effect_of_onDev (exec_jtagHighz s) hr (by rw [hno, Dev.jtagIf_false])
  case noDap => exact effect_of_onDev (exec_jtagDap s) hr ((if_neg (by simp [hnone])).trans (Dev.jtagIf_false ..))
  case nonce => exact effect_of_onDev (exec_nonceExpiry s) hr rfl
  case lockout => exact effect_of_onAll (exec_unlockLockoutEnd s) rfl

end Sys2Proof.Machine

/-!
PROOF. Events of the background services (R518–R545): ECC, telemetry, wear, thermal levels, supervision and Squall, case by case; O49
from it.
-/

namespace Sys2Proof.Machine

/-! ### Answers of the background events -/

theorem exec_sramEccScrub (w : EccWord) (addr : BitVec 28) (two fg : Bool) (s : State) :
    exec (.sramEccScrub w addr two fg) s = execSramEccScrub w addr two fg s := rfl

theorem exec_eccWriteBack (s : State) : exec .eccWriteBack s = execEccWriteBack s := rfl

theorem exec_telemetrySample (t : Telemetry) (s : State) : exec (.telemetrySample t) s = execTelemetrySample t s := rfl

theorem exec_wearAccounting (s : State) : exec .wearAccounting s = execWearAccounting s := rfl

theorem exec_encoderLineHealth (e : Fin 64) (glitch spread : Nat) (s : State) :
    exec (.encoderLineHealth e glitch spread) s = execEncoderLineHealth e glitch spread s := rfl

theorem exec_logbookCompaction (part : Fin 12) (bytes : Nat) (s : State) :
    exec (.logbookCompaction part bytes) s = execLogbookCompaction part bytes s := rfl

theorem exec_backgroundTaskLate (task : Fin 6) (s : State) : exec (.backgroundTaskLate task) s = execBackgroundTaskLate task s := rfl

theorem exec_thermalWarn (s : State) : exec .thermalWarn s = execThermalWarn s := rfl

theorem exec_thermalThrottle (s : State) : exec .thermalThrottle s = execThermalThrottle s := rfl

theorem exec_thermalStop (s : State) : exec .thermalStop s = execThermalStop s := rfl

theorem exec_thermalStoenHold (s : State) : exec .thermalStoenHold s = execThermalStoenHold s := rfl

theorem exec_thermalShutdown (straps : Straps) (s : State) : exec (.thermalShutdown straps) s = execThermalShutdown straps s := rfl

theorem exec_thermalLevelExit (s : State) : exec .thermalLevelExit s = execThermalLevelExit s := rfl

theorem exec_supervisorWatchdogService (sup1 : Bool) (s : State) :
    exec (.supervisorWatchdogService sup1) s = execSupervisorWatchdogService sup1 s := rfl

theorem exec_wedge (c : WedgeCause) (s : State) : exec (.wedge c) s = execWedge c s := rfl

theorem exec_wedgeWarmReset (s : State) : exec .wedgeWarmReset s = execWedgeWarmReset s := rfl

theorem exec_squallDurationExpiry (s : State) : exec .squallDurationExpiry s = execSquallDurationExpiry s := rfl

/-! ### Thermal levels (R527–R529) -/

section
variable {d : Dev}

theorem Dev.thermalEnter_one (h : d.thermalLevel < 1) :
    d.thermalEnter 1 = (d.setThermal 1).setFlag R.THERMAL_EVENT F.THERMAL_EVENT_WARN.lo 592 := by
  simp [Dev.thermalEnter, Nat.lt_one_iff.mp h]

theorem Dev.thermalEnter_two_of_warn (h : d.thermalLevel = 1) :
    d.thermalEnter 2 = (d.setThermal 2).setFlag R.THERMAL_EVENT F.THERMAL_EVENT_THROTTLE.lo 593 := by
  simp [Dev.thermalEnter, h]

theorem Dev.thermalEnter_two_of_normal (h : d.thermalLevel = 0) : d.thermalEnter 2 =
    ((d.setThermal 2).setFlag R.THERMAL_EVENT F.THERMAL_EVENT_WARN.lo 592).setFlag R.THERMAL_EVENT F.THERMAL_EVENT_THROTTLE.lo 593 := by
  simp [Dev.thermalEnter, h]

theorem Dev.thermalEnter_three_of_throttle (h : d.thermalLevel = 2) :
    d.thermalEnter 3 = (((d.setThermal 3).setFlag R.THERMAL_EVENT F.THERMAL_EVENT_STOP.lo 594).hsgAll 1).hostLegsOff := by
  simp [Dev.thermalEnter, h]

end

/-! ### Encoder lines and wedged firmware (R521, R536) -/

section
variable {e : Fin 64} {g x : Nat} {s : State} (hr : Running s) (hcool : s.dev.throttled = false) (hawake : s.dev.dozing = false)
include hr hcool hawake

theorem effect_encoderLineHealth_glitch (hmode : s.dev.encMode e = 1) : Effect (.encoderLineHealth e g x) s fun d =>
    (d.wr (R.BG_ENC e) 0).fs (R.BG_ENC e) F.BG_ENC_GLITCH (min 65535 g) :=
  effect_of_onDev (exec_encoderLineHealth e g x s) hr <| (if_neg (by simp [hcool, hawake])).trans <| if_pos hmode

theorem effect_encoderLineHealth_spread (hmode : s.dev.encMode e = 3) : Effect (.encoderLineHealth e g x) s fun d =>
    (d.wr (R.BG_ENC e) 0).fs (R.BG_ENC e) F.BG_ENC_DSPREAD (min 255 x) :=
  effect_of_onDev (exec_encoderLineHealth e g x s) hr <|
    (if_neg (by simp [hcool, hawake])).trans <| (if_neg (by simp [hmode])).trans <| if_pos hmode

end

theorem Dev.not_wedged_and_ready {d : Dev}
    (h : d.fb R.SYS_WEDGE F.SYS_WEDGE_WEDGED = false ∨ d.fb R.SYS_BOOT_STATUS F.SYS_BOOT_STATUS_READY = false) :
    ¬(d.fb R.SYS_WEDGE F.SYS_WEDGE_WEDGED && d.fb R.SYS_BOOT_STATUS F.SYS_BOOT_STATUS_READY) = true := by
  obtain h | h := h <;> simp [h]

/-- Settles O49: an event each, by the lemmas above or, where one condition guards the row, by that condition. -/
theorem backgroundEventsTakeEffect : Obligations.BackgroundEventsTakeEffect := by
  refine ⟨fun w x f s hr => ?corrected, fun w x f s hr => ?uncorrected, fun s hr => ?writeBack, fun t s hr hawake => ?telemetry,
    fun s hr => ?wear, fun _ _ _ _ => effect_encoderLineHealth_glitch, fun _ _ _ _ => effect_encoderLineHealth_spread,
    fun p n s hr hcool hawake hmounted hpower => ?compaction, fun t s hr => ?late, fun s hr hlevel => ?warn,
    fun s hr hlevel => ?throttle, fun s hr hlevel => ?throttleFromNormal, fun s hr hlevel => ?stop, fun s hr hlevel => ?stopFromBelow,
    fun s hr hlevel hstops => ?stoen, fun x s hr => ?shutdown, fun s hr hlevel hsensor => ?levelExit, fun b s hr hawake => ?service,
    fun c s hr hnew => ?wedge, fun s hr hpending hidle => ?wedgeReset, fun s hr hdur => ?squall⟩
  case corrected => exact effect_of_onDev (exec_sramEccScrub w x false f s) hr (if_neg Bool.false_ne_true)
  case uncorrected => exact effect_of_onDev (exec_sramEccScrub w x true f s) hr (if_pos rfl)
  case writeBack => exact effect_of_onDev (exec_eccWriteBack s) hr rfl
  case telemetry => exact effect_of_onDev (exec_telemetrySample t s) hr (if_neg (ne_true_of_eq_false hawake))
  case wear => exact effect_of_onDev (exec_wearAccounting s) hr rfl
  case compaction =>
    exact effect_of_onDev (exec_logbookCompaction p n s) hr (if_neg (by simp [hcool, hawake, hmounted, hpower]))
  case late => exact effect_of_onDev (exec_backgroundTaskLate t s) hr rfl
  case warn => exact effect_of_onDev (exec_thermalWarn s) hr (Dev.thermalEnter_one hlevel)
  case throttle => exact effect_of_onDev (exec_thermalThrottle s) hr (Dev.thermalEnter_two_of_warn hlevel)
  case throttleFromNormal => exact effect_of_onDev (exec_thermalThrottle s) hr (Dev.thermalEnter_two_of_normal hlevel)
  case stop => exact effect_of_onDev (exec_thermalStop s) hr (Dev.thermalEnter_three_of_throttle hlevel)
  case stopFromBelow => exact effect_of_onDev (exec_thermalStop s) hr rfl
  case stoen => exact effect_of_onDev (exec_thermalStoenHold s) hr (if_pos (by simp [hlevel, hstops]))
  case shutdown => exact effect_of_onDev (exec_thermalShutdown x s) hr rfl
  case levelExit => exact effect_of_onDev (exec_thermalLevelExit s) hr (if_neg (by simp [hlevel, hsensor]))
  case service => exact effect_of_onDev (exec_supervisorWatchdogService b s) hr (if_neg (ne_true_of_eq_false hawake))
  case wedge => exact effect_of_onDev (exec_wedge c s) hr (if_neg (Dev.not_wedged_and_ready hnew))
  case wedgeReset => exact effect_of_onDev (exec_wedgeWarmReset s) hr (if_pos (by simp [hpending, hidle]))
  case squall => exact effect_of_onDev (exec_squallDurationExpiry s) hr (if_neg (by simp [hdur]))

end Sys2Proof.Machine

/-!
PROOF. A debug-port write of a register word (R507, R517) and the words at reset (R165, R566); O12 and O3 from them.
-/

namespace Sys2Proof.Machine

/-! ### A debug write outside the Transit DSP memories -/

section
variable {o : Nat} {w : Word} {s : State}

theorem exec_dapWrite_safety (hlo : 0xE0000 ≤ o) (hhi : o < 0xF0000) : exec (.dapWrite o w) s = .next s :=
  (exec_dapWrite o w s).trans <| if_pos (by simp [hlo, hhi])

section
variable (hr : Running s) (hfull : s.dev.dapAt 3 = true) (ho : o % 4 = 0) (hsafe : ¬ (0xE0000 ≤ o ∧ o < 0xF0000))
  (hawake : s.dev.dozing = false)
include hr hfull ho hsafe hawake

/-- No check of the debug port refuses the write. -/
theorem dapWrite_taken : ¬ (s.dev.heldInReset || !s.dev.dapAt 3 || o % 4 ≠ 0 || (0xE0000 ≤ o && o < 0xF0000) ||
    (s.dev.dozing && !runsInDoze o)) = true := by
  simpa [show s.dev.heldInReset = false from hr, hfull, ho, hawake] using hsafe

theorem exec_dapWrite_plain (htd : inTdMemory o = false) (hno : cpMask o = 0) :
    exec (.dapWrite o w) s = .next (s.hostWord o w) :=
  (exec_dapWrite o w s).trans <| (if_neg (dapWrite_taken hr hfull ho hsafe hawake)).trans <|
    (if_neg (ne_true_of_eq_false htd)).trans <| if_pos hno

theorem exec_dapWrite_parameter (hafter : Running (s.hostWord o w)) (htd : inTdMemory o = false) (hcp : cpMask o ≠ 0) :
    exec (.dapWrite o w) s =
      .next { s.hostWord o w with dev := (s.hostWord o w).dev.applyWrite { off := o, mask := cpMask o, val := w } } :=
  (exec_dapWrite o w s).trans <| (if_neg (dapWrite_taken hr hfull ho hsafe hawake)).trans <|
    (if_neg (ne_true_of_eq_false htd)).trans <| (if_neg hcp).trans <| State.onDev_running _ _ hafter

end

end

/-- Settles O12: the host write alone, the host write and `Dev.applyWrite`, or nothing, by the word that is written. -/
theorem debugWriteOfParameters : Obligations.DebugWriteOfParameters :=
  ⟨fun _ _ _ hafter hr hfull ho hsafe hawake => exec_dapWrite_parameter hr hfull ho hsafe hawake hafter,
    fun _ _ _ => exec_dapWrite_plain, fun _ _ _ => exec_dapWrite_safety⟩

/-! ### The words at reset -/

theorem State.reset_rd (o : Nat) : State.reset.dev.rd o = resetWord o := by
  rw [Dev.rd, State.reset_regs]
  rfl

theorem State.reset_fg (o : Nat) (f : Fld) (h : f.lo + f.w ≤ 32) : State.reset.dev.fg o f = fldGet (resetWord o) f := by
  rw [Dev.fg, if_pos h, State.reset_rd]

theorem resetWord_of_free {o : Nat} (hfind : findReg o = none) (hspecial : specialReset o = none) : resetWord o = 0 := by
  simp only [resetWord, hspecial, hfind]

/-- The words of the register table for each of the 64 axes (R165, R566). -/
theorem resetWord_axis : ∀ a : Fin 64, resetWord (R.CE_AX_PARAM a 24) = 0x3F800000#32 ∧ resetWord (R.CE_AX_PARAM a 26) = 0x3F800000#32 ∧
    fldGet (resetWord (R.CE_AX_CFG a)) F.CE_AX_CFG_SPH = a.val % 4 ∧ resetWord (R.AXIS_STATUS a) = 0 := by
  decide +kernel

/-- Settles O3: at reset no register is written (`State.reset_regs`), and so each reads its reset word. -/
theorem resetRegisters : Obligations.ResetRegisters := by
  refine ⟨State.reset_pending, State.reset_memoryOk, State.reset_rd, fun a => ?axis, ?boot, ?session, fun o hfind hspecial => ?free⟩
  case axis => simpa only [State.reset_rd, State.reset_fg _ F.CE_AX_CFG_SPH (by decide)] using resetWord_axis a
  case boot => rw [State.reset_rd]; decide +kernel
  case session => rw [State.reset_rd]; decide +kernel
  case free => exact (State.reset_rd o).trans (resetWord_of_free hfind hspecial)

end Sys2Proof.Machine
